-- ==== Sys2Proof/Word.lean ====
section
/-! DEFINITION. The words of the DX131: bytes, 32-bit register words (R9) and the 64-bit words of records (R8),
messages and BZX registers (R154). -/
namespace Sys2Proof

/-- A byte of a memory (R5). -/
abbrev Byte := BitVec 8

/-- A register word: every register access is by aligned 32-bit words (R9). -/
abbrev Word32 := BitVec 32

/-- A record (R8), a message (R145) or a BZX register (R121). -/
abbrev Word64 := BitVec 64

end Sys2Proof
end

