-- ==== Sys2Proof/Syntax.lean ====
section
/-! DEFINITION. The commands of the block: one constructor of Instr per row of the opcode table, with the row's
operands.  Conventions: `m` is a master (0 to 3 the control ports, 4 the service core, 5 and 6 the conductors of keels A
and B); `p` a pixel id, `n` a region or region engine, `u` an interpolator unit (0 to 1,023 a region, 1,024 the edge
unit), `i` an index inside it, `st` a stripe, `c` a BZX core (0 to 1,023 an RE, 1,024 and 1,025 the conductors), `k` a
keel, `q` a stream, `g` a lane group.  `time` is a physical instant in units of 1/163,840 tick. -/
namespace Sys2Proof

/-- R375: a message: DEST, SRC, the TAG word ([11:0] TAG, [12] RSP, [13] NP), OPCODE, STATUS, SEQ, EPOCH and payload. -/
structure Msg where
  dest    : BitVec 8
  src     : BitVec 8
  tagw    : BitVec 16
  opcode  : BitVec 8
  status  : BitVec 8
  seq     : BitVec 16
  epoch   : BitVec 16
  payload : List Byte
  deriving DecidableEq, Repr


/-- R208, R212, R214: what a tuning or calibration fitted for a slice: OFS and GAIN (as their registers hold them), SKEW,
and 64 INL values of 16 bits each, signed, in 1/16 LSB. -/
structure Fit where
  ofs  : BitVec 16
  gain : BitVec 16
  skew : BitVec 8
  inl  : BitVec 1024
  deriving DecidableEq, Repr

/-- R335: a 66-bit block as an RX lane meets it: its sync header is valid, it is a frame-start block. -/
structure RxBlk where
  valid : Bool
  start : Bool
  deriving DecidableEq, Repr

/-- R335: blocks that an RX lane meets, in order of arrival. -/
structure RxRun where
  lane   : Fin 4
  blocks : List RxBlk
  deriving DecidableEq, Repr

/-- R374: a run of K28.5 characters, with no other character, that a port hears. -/
structure WakeRun where
  port  : Fin 2
  chars : Nat
  deriving DecidableEq, Repr

/-- R421, R427: what a monitor slot met: the conversions it averages; or, on a sensor channel, an open or a shorted sensor. -/
inductive SlotInput where
  | convs (l : List (BitVec 24))
  | opened
  | shorted
  deriving DecidableEq, Repr

/-- R429: a stripe's diode temperature in 0.001 °C, before and now. -/
structure DieTemp where
  stripe : Fin 8
  before : Int
  now    : Int
  deriving DecidableEq, Repr

/-- R451: a supply sense point that stays below its nominal value, by how much in 0.1 % of it at least, and for how many ns. -/
structure SenseDip where
  point : Fin 12
  below : Nat
  ns    : Nat
  deriving DecidableEq, Repr

/-- R490: the pins that have a boundary cell: the TX and RX lane pins, and every other digital pin but those of the TAP itself (R489). -/
inductive ScanPin where
  | tx (i : Fin 36)
  | rx (j : Fin 4)
  | refIn (r : Fin 2)
  | tin (i : Fin 4)
  | gate (i : Fin 2)
  | tethIn (p : Fin 2)
  | tethOut (p : Fin 2)
  | scl
  | sda
  | txd
  | rxd
  | resetN
  | irqN
  | trigOut
  | permit (p : Fin 2)
  | mem (ch : Fin 4) (n : Fin 58)
  deriving DecidableEq, Repr

/-- R489, R490: a scan of the boundary register: the cells that are shifted a 1, and the pins that the board holds high at Capture-DR. -/
structure BoundScan where
  cells : List ScanPin
  pins  : List ScanPin
  deriving DecidableEq, Repr

/-- R501, R534: a word that an upset may reach: a word of an addressed memory; a hit-queue word or a monitor result, by bit (64 and 65 are
its parity bits); word `w` (64 bits) of an output-buffer entry, of a trunk item, of a stream's block in keel staging (0 the
open block, then those that wait), of a block in an output queue, of a brick in write staging, of a block in drain staging, and of a
TX slot's waiting payload. -/
inductive Upset where
  | word (addr : Nat)
  | hit (n : Fin 1024) (i : Fin 64) (bit : Fin 66)
  | result (i : Fin 64) (bit : Fin 66)
  | output (c : Fin 1024) (i : Fin 32) (w : Nat)
  | trunk (src : Fin 35) (i w : Nat)
  | staging (k : Fin 2) (q : Fin 64) (i w : Nat)
  | queue (k : Fin 2) (g : Fin 16) (i w : Nat)
  | brick (k : Fin 2) (i w : Nat)
  | drain (k : Fin 2) (g : Fin 16) (i w : Nat)
  | lane (i : Fin 36) (w : Nat)
  deriving DecidableEq, Repr

/-- R502: a control state machine, whose state register is held in three copies. -/
inductive Control where
  | power
  | arbiter
  | owner
  | bias (st : Fin 8)
  | loader (n : Fin 1024)
  | interpolator (u : Fin 1025) (i : Fin 8)
  | core (c : Fin 1026)
  | adoption (n : Fin 1024)
  | slices
  | digitiser
  | stream (k : Fin 2) (q : Fin 64)
  | commit (k : Fin 2)
  | keel (k : Fin 2)
  | memory
  | txLane (i : Fin 36)
  | rxLane (j : Fin 4)
  | monitor
  | i2c
  | security
  | port (p : Fin 2)
  | uart
  deriving DecidableEq, Repr

/-- R502: triple-held state: a register field, by the key of its lowest bit (8 × the byte address of its word + the bit), or the state register of a control state machine. -/
inductive Triple where
  | field (key : Nat)
  | control (m : Control)
  deriving DecidableEq, Repr

/-- The commands. -/
inductive Instr where
  /-- R10: A control-port write to a register field that has no row of its own, applied by the field's access code. -/
  | registerWrite (m : Fin 7) (epoch : BitVec 16) (addr : BitVec 32) (v : BitVec 32)
  /-- R466: A read of the low word of a 64-bit register latches the high word for the reading master. -/
  | lowWordRead (m : Fin 7) (addr : BitVec 32)
  /-- R81: A rising discriminator edge claims a free interpolator in round-robin order, or enters the hold line. -/
  | pixelEdge (p : Fin 131072) (time : Nat)
  /-- R84: A waiting edge is taken at the next hold-line tap once an interpolator is free, and its slow ring starts. -/
  | holdTake (u : Fin 1025) (input : Fin 4)
  /-- R85: An edge that reaches tap 25 without being taken is a busy loss. -/
  | holdLineExpiry (u : Fin 1025) (input : Fin 4)
  /-- R89: The rings coincide, and the raw code, start tick S and hold tap are latched. -/
  | coincidence (u : Fin 1025) (i : Fin 8) (code : Fin 288)
  /-- R93: The hit assist converts the raw code with the active fret table and offset. -/
  | fineTimeCompute (u : Fin 1025) (i : Fin 8)
  /-- R89: The rings stop and the interpolator is released 5 ns after coincidence. -/
  | interpolatorRelease (u : Fin 1025) (i : Fin 8)
  /-- R91: A conversion reaches 288 periods without coincidence; a poisoned hit is written and the interpolator is removed from the rotation. -/
  | ringFault (u : Fin 1025) (i : Fin 8)
  /-- R91: After 16 consecutive calibration conversions end in coincidence, a faulted interpolator returns to the rotation. -/
  | interpolatorReturn (u : Fin 1025) (i : Fin 8)
  /-- R30: The discriminator output falls and the ToT interval ends. -/
  | trailingEdge (p : Fin 131072) (time : Nat)
  /-- R54: An output high for 511 ToT units ends the hit with ToT 511. -/
  | totSaturation (p : Fin 131072)
  /-- R30: The hit assist writes the hit word to the hit queue on its aligned tick. -/
  | hitWordWrite (p : Fin 131072)
  /-- R61: A write to a pixel configuration word marks the word pending. -/
  | configWordWrite (n : Fin 1024) (j : Fin 64) (v : BitVec 32)
  /-- R61: The loader completes a 160 ns transfer of the lowest pending word into the pixel latches. -/
  | configTransfer (n : Fin 1024) (time : Nat) (upset : BitVec 16)
  /-- R63: The loader reads back a word in its 10 s rotation. -/
  | configReadback (p : Fin 131072) (upset : BitVec 16)
  /-- R63: A write of 1 to CFG_STAT.CLR clears REPAIRS. -/
  | cfgStatClr (st : Fin 8)
  /-- R68: A new stripe threshold moves monotonically to its value within 2 µs. -/
  | stripeThrWrite (st : Fin 8) (thr : BitVec 10)
  /-- R66: A write to ANA_GLOBAL; a POL change is rejected while any stripe is biased. -/
  | anaGlobalWrite (v : BitVec 32)
  /-- R73: A write of 1 to TP_CTRL.FIRE starts a test-pulse train. -/
  | fire (st : Fin 8)
  /-- R73: Pulse n of a train is launched on its tick and injects charge into every pixel with TPEN = 1. -/
  | testPulse (st : Fin 8)
  /-- R73: The test-pulse line returns to rest half a period after the pulse. -/
  | testPulseReturn (st : Fin 8)
  /-- R73: FIRE clears 4 × PERIOD ticks after the last pulse. -/
  | testPulseTrainEnd (st : Fin 8)
  /-- R77: A write of 1 to FSUM_CTRL.COMMIT requests an FSUM commit. -/
  | fsumCommitRequest
  /-- R77: The FSUM_SEL registers of all stripes apply together on one tick, which is latched. -/
  | fsumCommit
  /-- R69: At 20.48 µs bias is applied and BIAS becomes 2. -/
  | biasApply (st : Fin 8)
  /-- R69: At 120.48 µs hit connections are released and BIAS becomes 3. -/
  | biasSettled (st : Fin 8)
  /-- R97: A calibration-source edge is offered to a free interpolator and starts a calibration conversion. -/
  | calibrationEdge (u : Fin 1025) (i : Fin 8) (time : Nat)
  /-- R97: A calibration conversion unpreempted for 100 ticks counts towards the histogram. -/
  | calibrationAccept (u : Fin 1025) (i : Fin 8)
  /-- R98: A rebuild reaches N accepted edges and the table is built and checked. -/
  | rebuildComplete (u : Fin 1025) (i : Fin 8)
  /-- R100: At the interpolator's next free instant the active and shadow tables and offsets swap and AGE clears. -/
  | fretCommit (u : Fin 1025) (i : Fin 8)
  /-- R102: AGE advances every 2²⁰ ticks. -/
  | ageIncrement (u : Fin 1025) (i : Fin 8)
  /-- R103: A write of 1 to an FCAL_CTRL.COMMIT bit requests a manual commit in MODE 1. -/
  | manualCommit (u : Fin 1025) (i : Fin 8)
  /-- R103: A MODE change discards or starts a rebuild. -/
  | calibrationModeWrite (u : Fin 1025) (manual : Bool)
  /-- R102: A new AGE_LIM can set STALE at once. -/
  | ageLimWrite (u : Fin 1025) (lim : BitVec 16)
  /-- R107: A write of 1 to FCAL_CTRL.BCLR clears BUSY_CNT and HOLD_CNT. -/
  | bclr (n : Fin 1024)
  /-- R104: A write to a shadow fret table; it is rejected in MODE 0. -/
  | shadowTableWrite (u : Fin 1025) (i : Fin 8) (j : Fin 144) (v : BitVec 32)
  /-- R109: An input edge of the selected polarity advances the prescaler. -/
  | tinPinEdge (i : Fin 4) (falling : Bool)
  /-- R113: A prescaled edge is counted, gated and, by MODE, claims an edge interpolator. -/
  | prescaledEdge (i : Fin 4) (time : Nat)
  /-- R116: A finished edge conversion emits its kind-0 record and any closing kind-1 or kind-2 record, and broadcasts a TIN reference. -/
  | edgeStamp (i : Fin 8)
  /-- R113: A change of the sampled gate opens or closes a frequency measurement. -/
  | gateChange (gate : Fin 2) (level : Bool)
  /-- R115: An interval that would exceed 2⁴⁴ − 1 fine units is abandoned and RESTART is incremented. -/
  | intervalAbandon (i : Fin 4)
  /-- R118: A TIN_CFG change takes effect on the next prescaled edge and abandons any measurement; EN restarts the prescaler. -/
  | tinCfgWrite (i : Fin 4) (v : BitVec 32)
  /-- R117: A write of 1 to EDGE_CTRL.CLR clears every TIN_STAT. -/
  | tinStatClr
  /-- R132: A write of CORE_CTRL.GO starts a halted core at ENTRY if the conditions hold. -/
  | go (n : Fin 1024)
  /-- R132: A write of CORE_CTRL.HALT requests HALTED at the next instruction boundary. -/
  | halt (n : Fin 1024)
  /-- R152: A core that emptied its hit queue and closed its reductions enters HALTED. -/
  | coreQuiesced (n : Fin 1024)
  /-- R33: After IDLE_CYC idle cycles the core clock stops. -/
  | coreIdle (n : Fin 1024)
  /-- R133: A core timer reaches TMR_PERIOD and raises its event. -/
  | coreTimerExpiry (n : Fin 1024) (t : Fin 2)
  /-- R135: A mark event arrives at a subscribing serving core and enters its event queue. -/
  | markEvent (n : Fin 1024)
  /-- R137: The core watchdog expires and the core is reset. -/
  | coreWatchdog (n : Fin 1024)
  /-- R137: Any write to WDOG_KICK restarts the core watchdog. -/
  | wdogKick (n : Fin 1024)
  /-- R124: A write to RE code memory, accepted only while HALTED, clears VALID. -/
  | codeMemoryWrite (n : Fin 1024) (j : Fin 4096) (v : BitVec 32)
  /-- R145: A write of MBOX_IN's high word posts a message, or is rejected with MBOX_FULL. -/
  | mboxPost (n : Fin 1024) (logical : Bool) (epoch : BitVec 16) (msg : Word64)
  /-- R149: A write of BIST.START starts BIST on a halted core that serves no region. -/
  | bistStart (n : Fin 1024)
  /-- R149: BIST completes after 2.1 ms, sets DONE, PASS and FAIL, and the core is HALTED. -/
  | bistDone (n : Fin 1024) (fail : Fin 7)
  /-- R146: A write of 1 to ADOPT_CTRL.ADOPT is checked and, if accepted, sends a close request to the core. -/
  | adoptRequest (n : Fin 1024)
  /-- R146: A write of 1 to ADOPT_CTRL.RETURN is checked and, if accepted, sends a close request to the buddy. -/
  | returnRequest (n : Fin 1024)
  /-- R147: On tick T the serving core changes, EPOCH increments and the adoption event is latched. -/
  | adoptionSwitch (n : Fin 1024)
  /-- R147: TMO elapses without an acknowledgement; the core is reset and a gap is sent. -/
  | adoptTimeout (n : Fin 1024)
  /-- R175: An enabled pending event is taken at an instruction boundary and the core jumps to the vector. -/
  | interruptEntry (c : Fin 1026)
  /-- R167: rd = ra + rb. -/
  | add (c : Fin 1026) (rd : BitVec 5) (ra : BitVec 5) (rb : BitVec 5)
  /-- R167: rd = ra − rb. -/
  | sub (c : Fin 1026) (rd : BitVec 5) (ra : BitVec 5) (rb : BitVec 5)
  /-- R167: Bitwise and. -/
  | and (c : Fin 1026) (rd : BitVec 5) (ra : BitVec 5) (rb : BitVec 5)
  /-- R167: Bitwise or. -/
  | or (c : Fin 1026) (rd : BitVec 5) (ra : BitVec 5) (rb : BitVec 5)
  /-- R167: Bitwise exclusive or. -/
  | xor (c : Fin 1026) (rd : BitVec 5) (ra : BitVec 5) (rb : BitVec 5)
  /-- R167: Left shift by a register. -/
  | shl (c : Fin 1026) (rd : BitVec 5) (ra : BitVec 5) (rb : BitVec 5)
  /-- R167: Logical right shift by a register. -/
  | shr (c : Fin 1026) (rd : BitVec 5) (ra : BitVec 5) (rb : BitVec 5)
  /-- R167: Arithmetic right shift by a register. -/
  | sar (c : Fin 1026) (rd : BitVec 5) (ra : BitVec 5) (rb : BitVec 5)
  /-- R167: Low 64 bits of the product. -/
  | mul (c : Fin 1026) (rd : BitVec 5) (ra : BitVec 5) (rb : BitVec 5)
  /-- R167: High 64 bits of the unsigned product. -/
  | mulhu (c : Fin 1026) (rd : BitVec 5) (ra : BitVec 5) (rb : BitVec 5)
  /-- R167: Unsigned minimum. -/
  | minu (c : Fin 1026) (rd : BitVec 5) (ra : BitVec 5) (rb : BitVec 5)
  /-- R167: Unsigned maximum. -/
  | maxu (c : Fin 1026) (rd : BitVec 5) (ra : BitVec 5) (rb : BitVec 5)
  /-- R167: Signed set-less-than. -/
  | slt (c : Fin 1026) (rd : BitVec 5) (ra : BitVec 5) (rb : BitVec 5)
  /-- R167: Unsigned set-less-than. -/
  | sltu (c : Fin 1026) (rd : BitVec 5) (ra : BitVec 5) (rb : BitVec 5)
  /-- R167: Count leading zeros. -/
  | clz (c : Fin 1026) (rd : BitVec 5) (ra : BitVec 5) (rb : BitVec 5)
  /-- R167: Count 1 bits. -/
  | popc (c : Fin 1026) (rd : BitVec 5) (ra : BitVec 5) (rb : BitVec 5)
  /-- R167: Add a sign-extended immediate. -/
  | addi (c : Fin 1026) (rd : BitVec 5) (ra : BitVec 5) (imm : BitVec 16)
  /-- R167: And with a zero-extended immediate. -/
  | andi (c : Fin 1026) (rd : BitVec 5) (ra : BitVec 5) (imm : BitVec 16)
  /-- R167: Or with a zero-extended immediate. -/
  | ori (c : Fin 1026) (rd : BitVec 5) (ra : BitVec 5) (imm : BitVec 16)
  /-- R167: Exclusive or with a zero-extended immediate. -/
  | xori (c : Fin 1026) (rd : BitVec 5) (ra : BitVec 5) (imm : BitVec 16)
  /-- R167: Left shift by an immediate. -/
  | shli (c : Fin 1026) (rd : BitVec 5) (ra : BitVec 5) (imm : BitVec 14)
  /-- R167: Logical right shift by an immediate. -/
  | shri (c : Fin 1026) (rd : BitVec 5) (ra : BitVec 5) (imm : BitVec 14)
  /-- R167: Arithmetic right shift by an immediate. -/
  | sari (c : Fin 1026) (rd : BitVec 5) (ra : BitVec 5) (imm : BitVec 14)
  /-- R167: Load a sign-extended immediate. -/
  | ldi (c : Fin 1026) (rd : BitVec 5) (ra : BitVec 5) (imm : BitVec 16)
  /-- R167: Insert a 16-bit immediate into quarter q. -/
  | ins (c : Fin 1026) (rd : BitVec 5) (qf : BitVec 5) (imm : BitVec 16)
  /-- R167: Extract a zero-extended bit field. -/
  | ext (c : Fin 1026) (rd : BitVec 5) (ra : BitVec 5) (pos : BitVec 6) (len1 : BitVec 6) (low : BitVec 4)
  /-- R167: Extract a sign-extended bit field. -/
  | exts (c : Fin 1026) (rd : BitVec 5) (ra : BitVec 5) (pos : BitVec 6) (len1 : BitVec 6) (low : BitVec 4)
  /-- R167: Deposit a bit field. -/
  | dep (c : Fin 1026) (rd : BitVec 5) (ra : BitVec 5) (pos : BitVec 6) (len1 : BitVec 6) (low : BitVec 4)
  /-- R168: 64-bit load. -/
  | ld (c : Fin 1026) (rd : BitVec 5) (ra : BitVec 5) (imm : BitVec 16)
  /-- R168: 32-bit load. -/
  | lw (c : Fin 1026) (rd : BitVec 5) (ra : BitVec 5) (imm : BitVec 16)
  /-- R168: 16-bit load. -/
  | lh (c : Fin 1026) (rd : BitVec 5) (ra : BitVec 5) (imm : BitVec 16)
  /-- R168: 8-bit load. -/
  | lb (c : Fin 1026) (rd : BitVec 5) (ra : BitVec 5) (imm : BitVec 16)
  /-- R168: 64-bit store, including SAFE_TICK stores under R166. -/
  | st (c : Fin 1026) (rd : BitVec 5) (ra : BitVec 5) (imm : BitVec 16)
  /-- R168: 32-bit store. -/
  | sw (c : Fin 1026) (rd : BitVec 5) (ra : BitVec 5) (imm : BitVec 16)
  /-- R168: 16-bit store. -/
  | sh (c : Fin 1026) (rd : BitVec 5) (ra : BitVec 5) (imm : BitVec 16)
  /-- R168: 8-bit store. -/
  | sb (c : Fin 1026) (rd : BitVec 5) (ra : BitVec 5) (imm : BitVec 16)
  /-- R169: Saturating increment of a 16-bit counter. -/
  | hincH (c : Fin 1026) (rd : BitVec 5) (ra : BitVec 5) (rb : BitVec 5)
  /-- R169: Saturating increment of a 32-bit counter. -/
  | hincW (c : Fin 1026) (rd : BitVec 5) (ra : BitVec 5) (rb : BitVec 5)
  /-- R170: Branch if equal. -/
  | beq (c : Fin 1026) (ra : BitVec 5) (rb : BitVec 5) (off : BitVec 16)
  /-- R170: Branch if not equal. -/
  | bne (c : Fin 1026) (ra : BitVec 5) (rb : BitVec 5) (off : BitVec 16)
  /-- R170: Branch if less, signed. -/
  | blt (c : Fin 1026) (ra : BitVec 5) (rb : BitVec 5) (off : BitVec 16)
  /-- R170: Branch if greater or equal, signed. -/
  | bge (c : Fin 1026) (ra : BitVec 5) (rb : BitVec 5) (off : BitVec 16)
  /-- R170: Branch if less, unsigned. -/
  | bltu (c : Fin 1026) (ra : BitVec 5) (rb : BitVec 5) (off : BitVec 16)
  /-- R170: Branch if greater or equal, unsigned. -/
  | bgeu (c : Fin 1026) (ra : BitVec 5) (rb : BitVec 5) (off : BitVec 16)
  /-- R170: Branch on a flag. -/
  | bf (c : Fin 1026) (cond : BitVec 5) (rb : BitVec 5) (off : BitVec 16)
  /-- R170: Decrement, then branch if not zero. -/
  | dbnz (c : Fin 1026) (ra : BitVec 5) (off : BitVec 21)
  /-- R170: Jump and link. -/
  | jal (c : Fin 1026) (rd : BitVec 5) (raf : BitVec 5) (target : BitVec 16)
  /-- R170: Jump to a register and link. -/
  | jalr (c : Fin 1026) (rd : BitVec 5) (ra : BitVec 5) (rb : BitVec 5)
  /-- R171: Pop the RSEL region's hit queue into an h register. -/
  | hpopS (c : Fin 1026) (hd : BitVec 5)
  /-- R172: Pop either served region's hit queue, alternating. -/
  | hpopA (c : Fin 1026) (hd : BitVec 5)
  /-- R171: Read the hit-queue occupancy. -/
  | hcnt (c : Fin 1026) (rd : BitVec 5) (ra : BitVec 5) (imm : BitVec 16)
  /-- R172: Extend a 24-bit coarse field to a full tick. -/
  | text (c : Fin 1026) (rd : BitVec 5) (ra : BitVec 5) (rb : BitVec 5)
  /-- R172: Walk-corrected 34-bit time of a hit word. -/
  | walk (c : Fin 1026) (rd : BitVec 5) (ra : BitVec 5) (rb : BitVec 5)
  /-- R171: Read TB_COUNT. -/
  | tnow (c : Fin 1026) (rd : BitVec 5) (ra : BitVec 5) (imm : BitVec 16)
  /-- R171: 34-bit modular time difference. -/
  | tsub (c : Fin 1026) (rd : BitVec 5) (ra : BitVec 5) (rb : BitVec 5)
  /-- R172: Bin index of a time under a descriptor. -/
  | bin (c : Fin 1026) (rd : BitVec 5) (ra : BitVec 5) (rb : BitVec 5)
  /-- R173: Queue a record for a stream in the output buffer. -/
  | send (c : Fin 1026) (rs : BitVec 5) (ra : BitVec 5) (stream : BitVec 6) (high : BitVec 9)
  /-- R173: As SEND, carrying sticky poison, then clear P. -/
  | sendP (c : Fin 1026) (rs : BitVec 5) (ra : BitVec 5) (stream : BitVec 6) (high : BitVec 9)
  /-- R174: Wait for an event in a mask. -/
  | wait (c : Fin 1026) (rd : BitVec 5) (ra : BitVec 5) (imm : BitVec 16)
  /-- R174: A masked event becomes pending and the WAIT completes with rd = EPEND. -/
  | waitComplete (c : Fin 1026)
  /-- R173: Clear latched pending events. -/
  | eclr (c : Fin 1026) (rd : BitVec 5) (ra : BitVec 5) (imm : BitVec 16)
  /-- R173: Pop one mark event word. -/
  | mpop (c : Fin 1026) (rd : BitVec 5) (ra : BitVec 5) (imm : BitVec 16)
  /-- R144: Queue a message to the active conductor. -/
  | msg (c : Fin 1026) (rd : BitVec 5) (ra : BitVec 5) (imm : BitVec 16)
  /-- R173: Pop one mailbox message. -/
  | mrecv (c : Fin 1026) (rd : BitVec 5) (ra : BitVec 5) (imm : BitVec 16)
  /-- R163: Select the region that later accesses address. -/
  | rsel (c : Fin 1026) (rd : BitVec 5) (ra : BitVec 5) (imm : BitVec 16)
  /-- R177: Read an internal register. -/
  | csrr (c : Fin 1026) (rd : BitVec 5) (ra : BitVec 5) (imm : BitVec 16)
  /-- R177: Write an internal register. -/
  | csrw (c : Fin 1026) (rd : BitVec 5) (ra : BitVec 5) (imm : BitVec 16)
  /-- R177: No operation. -/
  | nop (c : Fin 1026) (rd : BitVec 5) (ra : BitVec 5)
  /-- R176: Return from the handler, merging P. -/
  | eret (c : Fin 1026)
  /-- R177: Acknowledge a pending close request. -/
  | clack (c : Fin 1026)
  /-- R177: Pulse a region trigger request line. -/
  | rreq (c : Fin 1026) (n : BitVec 8)
  /-- R177: Raise TRAP with a number. -/
  | trap (c : Fin 1026) (n : BitVec 8)
  /-- R179: The conductor issues a 32-bit device read and blocks. -/
  | busr (c : Fin 1026) (rd : BitVec 5) (ra : BitVec 5)
  /-- R179: A BUSR response arrives and sets rd, F and BSTAT. -/
  | busrComplete (k : Fin 2)
  /-- R179: The conductor posts a 32-bit device write. -/
  | busw (c : Fin 1026) (rd : BitVec 5) (ra : BitVec 5) (rb : BitVec 5)
  /-- R179: A posted BUSW write completes with its status. -/
  | buswComplete (k : Fin 2)
  /-- R179: The conductor waits for earlier BUSW writes. -/
  | bfence (c : Fin 1026) (rd : BitVec 5) (ra : BitVec 5) (rb : BitVec 5)
  /-- R179: Every earlier BUSW has completed and F and BSTAT report the first failure. -/
  | bfenceComplete (k : Fin 2)
  /-- R179: Pop one RE message from the conductor's inbound queue. -/
  | crecv (c : Fin 1026) (rd : BitVec 5)
  /-- R179: Send a heartbeat to the arbiter. -/
  | hbeat (c : Fin 1026) (rd : BitVec 5) (ra : BitVec 5) (rb : BitVec 5)
  /-- R179: Update a CRC-32C register with 8 bytes. -/
  | crc32c (c : Fin 1026) (rd : BitVec 5) (ra : BitVec 5) (rb : BitVec 5)
  /-- R179: Read the role epoch and the ACTIVE flag. -/
  | epoch (c : Fin 1026) (rd : BitVec 5) (ra : BitVec 5) (rb : BitVec 5)
  /-- R184: A RELOAD message closes the region's slots, rereads its parameter block and restarts them. -/
  | reload (n : Fin 1024)
  /-- R187: The library pops a hit word and runs every enabled slot's reduction on it. -/
  | libraryHit (n : Fin 1024)
  /-- R187: The library handles a mark event: SYNC, REF, stream open or close, or OVR. -/
  | libraryMark (n : Fin 1024)
  /-- R187: TNOW reaches a COUNTFRAME frame's end plus LAG and the frame is emitted. -/
  | frameClose (n : Fin 1024) (slot : Fin 4)
  /-- R187: A TOTSPECTRUM, TIMEHIST or OCCUPANCY period ends and is emitted. -/
  | periodClose (n : Fin 1024) (slot : Fin 4)
  /-- R187: TNOW reaches a cluster's latest hit time + TWIN + LAG and the cluster is emitted. -/
  | clusterClose (n : Fin 1024) (slot : Fin 4)
  /-- R187: A GATEDCOUNT mark group's last window plus LAG passes and its counts are emitted. -/
  | markGroupClose (n : Fin 1024) (slot : Fin 4)
  /-- R189: The library closes a region's slots, advances SAFE_TICK and executes CLACK. -/
  | libraryClose (n : Fin 1024)
  /-- R213: A write to WAVE_CTRL.EN starts the initial calibration or stops sampling. -/
  | waveEnable (en : Bool)
  /-- R213: After 2¹⁸ ticks the first sample is delivered and rotation begins. -/
  | initialCalibrationEnd (fit0 : Fit) (fit1 : Fit) (fit2 : Fit)
  /-- R206: A corrected sample is delivered and evaluated by the sample-source triggers. -/
  | sampleTick (raw0 : BitVec 12) (raw1 : BitVec 12)
  /-- R208: At 2¹⁹ ticks the T slice ends its reference phase and starts matching its target. -/
  | matchPhaseStart (fit : Fit)
  /-- R208: The new correction set is written to the T slice's shadow set. -/
  | tuningHold (enough : Bool) (ofs : BitVec 16) (gain : BitVec 16) (skew : BitVec 8)
  /-- R210: At 2²⁰ ticks the T slice takes the target's role at a sample boundary. -/
  | rotationCommit
  /-- R214: A write of 1 to WAVE_CTRL.SCAL stops sampling and starts a self-calibration. -/
  | scal
  /-- R215: Range checks complete, the sets are written and SCAL clears. -/
  | selfCalibrationEnd (fit0 : Fit) (fit1 : Fit) (fit2 : Fit)
  /-- R214: At 16,000,000 ticks sampling resumes. -/
  | samplingResume
  /-- R221: A write of 1 to WAVE_CTRL.RETRY clears every FAIL bit. -/
  | retry
  /-- R216: A write to CORRn or INLn applies at the next sample boundary, or is rejected with CALMODE = 0. -/
  | correctionSetWrite (slice : Fin 3) (word : Fin 18) (v : BitVec 32)
  /-- R227: A trigger fires: its mark goes to the selected streams and a mark event to subscribing regions. -/
  | triggerFire
  /-- R224: A region request reaches the trigger unit and is counted in its window. -/
  | regionRequest
  /-- R224: A write to TRG_CMD fires enabled triggers. -/
  | trgCmd (v : BitVec 32)
  /-- R226: A TRGn write re-initialises the trigger at the next sample and sets DRIFT. -/
  | triggerConfigWrite (n : Fin 8) (word : Fin 8) (v : BitVec 32)
  /-- R229: TRIG_OUT rises at the source latency after a masked firing. -/
  | trigOutRise
  /-- R229: TRIG_OUT falls WIDTH ticks after its latest rise. -/
  | trigOutFall
  /-- R233: Five samples of a full-rate or window unit complete a sample record, with an anchor where due. -/
  | sampleRecord (u : Fin 4)
  /-- R230: N samples complete an envelope or mean record. -/
  | waveIntervalRecord (u : Fin 4)
  /-- R231: A window unit's window reaches its end or 2²⁰ samples and closes. -/
  | windowEnd (u : Fin 4)
  /-- R247: A word reaches the active keel's merge and is metered, admitted or dropped, and routed to its stream's block. -/
  | mergeWord
  /-- R250: A cause-1 or cause-2 ballast count reaches the active keel. -/
  | ballastCountReport (n : Fin 1024)
  /-- R251: At each 2¹⁴-tick boundary ballast marks are inserted. -/
  | ballastIntervalEnd
  /-- R245: A write of 1 to BR_CTRL.COMMIT snapshots the declarations and starts the checks. -/
  | commit (k : Fin 2)
  /-- R241: The bridle checks complete; a refused commit reports its code at once. -/
  | commitChecksDone
  /-- R245: On tick T the snapshot comes into force, meters reload and STREAM_MASK is written. -/
  | commitInForce
  /-- R267: A write of ST_CTRL.OPEN is checked and sets the open tick O. -/
  | streamOpenRequest (k : Fin 2) (q : Fin 64)
  /-- R267: On tick O the stream opens with its epoch mark, held gap and open extension. -/
  | streamOpen (q : Fin 64)
  /-- R267: A write of ST_CTRL.CLOSE sets the close tick C. -/
  | streamCloseRequest (k : Fin 2) (q : Fin 64)
  /-- R267: On tick C the stream enters CLOSING and regions are marked. -/
  | streamClose (q : Fin 64)
  /-- R268: At C + 2¹⁶ − 64 the regions stop treating the stream as open. -/
  | streamSendCutoff (q : Fin 64)
  /-- R267: At C + 2¹⁶ the stream closes with pending ballast marks, the close extension and its last block. -/
  | streamClosed (q : Fin 64)
  /-- R263: On each tick with E mod 2²³ = 0 an epoch mark enters every open stream. -/
  | epochMark
  /-- R272: A write of ST_CTRL.FLUSH requests a flush. -/
  | flush (k : Fin 2) (q : Fin 64)
  /-- R272: On tick F the open block closes. -/
  | flushTick (q : Fin 64)
  /-- R271: 2^FLT ticks after a block opened, it closes. -/
  | flushTimer (q : Fin 64)
  /-- R286: A packed block is numbered and goes to its group's output queue, to the spill store, or is discarded. -/
  | blockRoute (q : Fin 64)
  /-- R286: At each 2¹⁵-tick boundary one gap mark covers the discards of the interval. -/
  | discardIntervalEnd
  /-- R288: A pin is driven high once every permit condition holds, including MINLOW. -/
  | srcPermitRise (p : Fin 2)
  /-- R328: A lane that finishes its block takes the next queued or drained block of its group whole. -/
  | laneMuxPlace (g : Fin 16)
  /-- R296: A write of 1 to MC_CFG.EN starts memory initialisation. -/
  | memoryInit
  /-- R296: At 200 µs RESET_n is deasserted. -/
  | memoryResetRelease
  /-- R296: At 2.2 ms the mode registers are written and training starts. -/
  | modeRegisterWrite
  /-- R296: Training ends with READY, or with FAULT, and the spill figures are set. -/
  | trainingComplete (up : BitVec 4)
  /-- R298: Every 10 ms the interval oscillators are read and a drifted channel is retrained. -/
  | oscillatorReadout (drifted : BitVec 4)
  /-- R298: A channel's retraining ends and bursts resume. -/
  | retrainComplete (c : Fin 4)
  /-- R304: A complete brick is issued to DRAM, paced to BR_SPILL_W. -/
  | brickWrite
  /-- R304: Both halves are accepted and the brick's valid bit is published, or a lost half is rewritten. -/
  | brickWriteComplete (q : Fin 64) (lost : BitVec 2)
  /-- R306: An operation with no completion within 20 µs is timed out. -/
  | operationTimeout (q : Fin 64) (read : Bool)
  /-- R310: The controller issues a drain read for a group when every drain condition holds. -/
  | drainRead (g : Fin 16)
  /-- R311: A brick read completes, is checked and fills drain staging. -/
  | drainReadComplete (q : Fin 64) (upset : BitVec 1024)
  /-- R405: A freed page returns to the free list after 64 µs. -/
  | pageQuarantineEnd
  /-- R325: A TX frame starts every 1,280 ticks, carrying time words in a time frame. -/
  | txFrame (i : Fin 36) (ui : BitVec 12)
  /-- R336: A received RX frame delivers payload, service blocks and reports. -/
  | rxFrame (j : Fin 4) (time : Nat) (fcnt : BitVec 32) (tf : Bool) (w2 : Word64) (w3 : Word64) (w4 : Word64) (w5 : Word64) (w6 : Word64) (w7 : Word64)
  /-- R335: An RX lane with EN = 1 and RXQ on starts training with its first candidate. -/
  | rxLaneEnable (j : Fin 4)
  /-- R335: An RX lane gains block and frame lock. -/
  | rxLock (x : RxRun)
  /-- R335: The 10 ms timer of HUNT, SETTLE or RELOCK ends without lock. -/
  | rxLockTimeout (j : Fin 4)
  /-- R335: The 1 ms FOM measurement of a candidate completes. -/
  | rxMeasureDone (j : Fin 4) (h : Fin 64) (w : Fin 64)
  /-- R335: An UP lane loses lock and enters RELOCK. -/
  | rxLockLost (x : RxRun)
  /-- R335: The RETRY period of a DOWN lane elapses and training starts again. -/
  | rxDownRetry (j : Fin 4)
  /-- R335: A write of 1 to LN_RXCTRL.RETRAIN restarts training. -/
  | rxRetrain (j : Fin 4)
  /-- R338: A host lane report updates the slot's host state. -/
  | hostLaneReport (w : Word64)
  /-- R338: No report for HRTMO returns a slot to UNKNOWN. -/
  | hostReportTimeout (i : Fin 36)
  /-- R339: TX candidate selection starts on EN, AUTO or a return to UP. -/
  | txCandidateSelection (i : Fin 36)
  /-- R339: A candidate's 2 ms dwell ends and the next candidate, or the best, is applied. -/
  | txCandidateDwell (i : Fin 36)
  /-- R340: At the spare's next frame start an eligible spare takes a DOWN slot's logical lane. -/
  | spareSubstitution (i : Fin 4)
  /-- R341: A write to LMAPl is checked and applies at the next frame start. -/
  | lmapWrite (l : Fin 32) (slot : BitVec 6)
  /-- R341: A pending LMAP change takes effect at the frame start. -/
  | lmapApply (l : Fin 32)
  /-- R327: A write to LG_CFGg is checked and reaches the lane mux at the next commit's T. -/
  | laneGroupWrite (g : Fin 16) (v : BitVec 32)
  /-- R331: A SLIP write delays the slot's next frame start. -/
  | slipWrite (i : Fin 36) (slip : BitVec 10)
  /-- R339: A write to LN_TXCTRL enables the slot, or sets AUTO and starts selection. -/
  | txCtrlWrite (i : Fin 36) (v : BitVec 32)
  /-- R349: A write of 1 to TU_CTRL.SET requests a clock set. -/
  | clockSet
  /-- R349: On tick S the accumulator is set, a STEP is reported and the servo enters COARSE. -/
  | setTick
  /-- R350: A write of 1 to TU_CTRL.SNAP requests a capture. -/
  | clockSnap
  /-- R350: TB_COUNT and the accumulator are captured on one tick. -/
  | snapTick
  /-- R355: A received time frame yields a measurement and updates the servo. -/
  | timeFrameRx (time : Nat) (fcnt : BitVec 32) (w2 : Word64) (w3 : Word64) (w4 : Word64) (w5 : Word64) (w6 : Word64) (w7 : Word64)
  /-- R356: On the next tick the local clock steps by −offset. -/
  | servoStep
  /-- R356: No valid measurement for MTO ms puts the servo in COAST. -/
  | servoTimeout
  /-- R359: Every 10 ms the monitor compares sources and may warn, switch or enter or leave holdover. -/
  | referenceCheck (present : BitVec 3) (dfA : BitVec 16) (dfB : BitVec 16) (dfR : BitVec 16)
  /-- R358: Loss of the active source's edges puts the DPLL in holdover. -/
  | referenceLoss
  /-- R360: A write of TU_CTRL.REFSEL moves the DPLL to a present source. -/
  | refselWrite (src : BitVec 2)
  /-- R362: The time-base PLL loses lock and an UNLOCK mark is inserted. -/
  | pllUnlock
  /-- R362: The time-base PLL regains lock and a RELOCK mark follows. -/
  | pllRelock
  /-- R378: A message on a tether port is forwarded, checked and rewritten in ACKB, and queued if addressed. -/
  | tetherMessage (p : Fin 2) (msg : Msg) (ackb : BitVec 8) (hop : BitVec 8) (upsets : List Nat)
  /-- R384: A control message arrives in RX lane payload and is checked. -/
  | hostControlMessage (msg : Msg) (good : Bool)
  /-- R379: READ of 1 to 64 words. -/
  | read (p : Fin 4) (msg : Msg)
  /-- R382: WRITE of 1 to 63 words, posted or non-posted. -/
  | write (p : Fin 4) (msg : Msg)
  /-- R382: A queued posted write executes and is checked. -/
  | postedWriteExecute (p : Fin 4)
  /-- R383: FENCE waits for the port's earlier posted writes. -/
  | fence (p : Fin 4) (msg : Msg)
  /-- R383: The fence answers with the failure count and first failure. -/
  | fenceComplete (p : Fin 4)
  /-- R388: CLAIM, with or without a MAC, under the ownership rules. -/
  | claim (p : Fin 4) (msg : Msg) (late : Bool)
  /-- R387: HANDOVER to a target port starts the handover window. -/
  | handover (p : Fin 4) (msg : Msg)
  /-- R387: RELEASE ends ownership. -/
  | release (p : Fin 4) (msg : Msg)
  /-- R390: RESET applies a reset of RESET_N reach after the response. -/
  | tetherReset (p : Fin 4) (msg : Msg)
  /-- R371: JOIN broadcast sets TH_CTRL.EN. -/
  | join (p : Fin 2)
  /-- R371: LEAVE takes the port out of the ring. -/
  | leave (p : Fin 4) (msg : Msg)
  /-- R372: NUMBER broadcast gives auto-numbered ports their position from HOP. -/
  | number (p : Fin 2) (hop : BitVec 8)
  /-- R376: PING returns its bytes. -/
  | ping (p : Fin 4) (msg : Msg)
  /-- R371: At the first /I/ boundary 2 µs after EN the bypass opens. -/
  | portInsert (p : Fin 2)
  /-- R371: The bypass closes at the next /I/ boundary. -/
  | portRemove (p : Fin 2)
  /-- R386: A notice or response that returns unaccepted or late is resent, or the port enters LONE. -/
  | noticeRetry (p : Fin 2)
  /-- R374: A 20 µs run of K28.5 heard in KEEP starts power-up. -/
  | wake (x : WakeRun)
  /-- R387: The owner's lease expires and ownership ends. -/
  | leaseExpiry
  /-- R387: The 100 ms handover timer ends and the owner keeps ownership. -/
  | handoverTimeout
  /-- R401: 8 µs without HBEAT records a HEARTBEAT fault. -/
  | heartbeatTimeout (k : Fin 2)
  /-- R400: A lockstep mismatch stops the conductor and signals the arbiter. -/
  | lockstepMismatch (k : Fin 2)
  /-- R406: An uncorrectable keel state error, TMR disagreement or keel latch-up signals cause 3. -/
  | selfcheck (k : Fin 2)
  /-- R407: 50 µs after a RESTART the grant rises again on the same keel. -/
  | restartGrant
  /-- R409: The standby has frozen frame M and finished the writes in flight. -/
  | mirrorFrozen
  /-- R410: At G the new grant rises and the epoch mark, cause-2 gap and fail-over extension enter every open stream. -/
  | grantRise
  /-- R407: A write of ARB_CTRL.FAILOVER requests a fail-over. -/
  | failoverCommand
  /-- R407: A write of ARB_CTRL.RST_STBY requests a STANDBY RESET. -/
  | standbyResetCommand
  /-- R403: Every 1,250 ticks the active keel sends a mirror frame and the standby applies it. -/
  | mirrorFrame (good : Bool)
  /-- R404: 4 µs without an applied frame clears READY. -/
  | mirrorStale
  /-- R415: The standby self-test starts. -/
  | keelSelfTest (k : Fin 2)
  /-- R415: The 1.3 ms self-test ends in pass or fail. -/
  | keelSelfTestDone (k : Fin 2) (fail : BitVec 16)
  /-- R415: After a pass the keel is loaded with a complete mirror and becomes READY. -/
  | mirrorLoadDone (k : Fin 2)
  /-- R415: A write of KL_TEST.START in STANDBY starts the self-test. -/
  | keelTestStart (k : Fin 2)
  /-- R418: A write of CD_CTRL.GO starts the conductor at CD_ENTRY. -/
  | conductorGo (k : Fin 2)
  /-- R401: A write of CD_CTRL.HALT, rejected for an active keel with HBEN = 1. -/
  | conductorHalt (k : Fin 2)
  /-- R398: A write to conductor code memory, accepted only while HALTED, clears VALID. -/
  | conductorCodeWrite (k : Fin 2) (j : Fin 16384) (v : BitVec 32)
  /-- R418: The conductor timer reaches CD_TMR and raises event 1. -/
  | conductorTimer (k : Fin 2)
  /-- R396: An RE message reaches the active conductor's inbound queue, or is discarded when it is full. -/
  | conductorMessage
  /-- R428: The regular monitor sequence starts at its period. -/
  | regularSequenceStart
  /-- R421: A monitor slot completes and its result is linearised, queued and routed. -/
  | slotResult (x : SlotInput) (above : Bool) (below : Bool)
  /-- R429: A stripe diode rises through OT and requests an injected sequence. -/
  | overTemperature (x : DieTemp)
  /-- R430: At the next conversion boundary the injected sequence starts and abandons a regular slot. -/
  | injectedSequenceStart
  /-- R436: A read of MON_QLO pops the head entry and latches MON_QHI and MON_QEPOCH. -/
  | monQueuePop (m : Fin 7)
  /-- R433: A write of MON_QCTRL.CLR empties the queue. -/
  | monQueueClear
  /-- R424: A write to SNS_CFGn is checked for its wiring and curve. -/
  | sensorConfigWrite (n : Fin 8) (v : BitVec 32)
  /-- R437: A write of I2C_CMD.GO starts a command. -/
  | i2cCommand (v : BitVec 32) (scl : Bool) (sda : Bool)
  /-- R437: An I2C command ends with its status. -/
  | i2cCommandDone (nack : Bool) (arblost : Bool) (pec : BitVec 8) (moved : Fin 67) (data : List Byte)
  /-- R437: SCL held low for 25 ms ends the command with TMO. -/
  | i2cTimeout
  /-- R438: A rise of I2C_CTRL.EN samples the bus and starts recovery if needed. -/
  | i2cEnable (scl : Bool) (sda : Bool)
  /-- R438: Recovery ends with a STOP and RECOV, or with STUCK. -/
  | busRecoveryDone (pulses : Fin 10)
  /-- R443: A write of PR_STATE.TARGET requests a power state, or is refused. -/
  | targetWrite (t : BitVec 3)
  /-- R444: The device enters ARMED on the first tick with PLL lock and every stripe biased. -/
  | armedEntry
  /-- R444: Once the domains are powered the time base starts and TB_COUNT continues. -/
  | timeBaseStart
  /-- R443: On the next tick ARMED becomes ACQUIRE. -/
  | acquireEntry
  /-- R443: On the next tick ACQUIRE becomes ARMED and every open stream enters CLOSING. -/
  | acquireExit
  /-- R445: At the decision tick the hit assists stop and cores and the spill store are asked to quiesce. -/
  | standbyDescent
  /-- R445: Every block has acknowledged or the timeout has passed; bias is removed and domains are cut. -/
  | quiesceDone
  /-- R445: 2 µs after the cuts the state becomes STANDBY. -/
  | standbyEntry
  /-- R443: After the life-log commit every domain but AON is cut. -/
  | keepEntry
  /-- R442: A write to PR_DOM_EN powers domains up, or quiesces and cuts them. -/
  | domainEnableWrite (en : BitVec 36)
  /-- R442: A domain starts powering up, one every 2 µs in index order. -/
  | domainPowerUp (d : Fin 36)
  /-- R442: A domain reaches power-good and takes its reset values. -/
  | domainPowerGood (d : Fin 36)
  /-- R526: A domain not at power-good within 50 µs is cut and marked failed. -/
  | domainPowerFail (d : Fin 36)
  /-- R447: A domain exceeds its current limit and is cut. -/
  | latchUp (d : Fin 36) (soon : Bool)
  /-- R447: 1 ms after a cut the domain is powered again. -/
  | latchUpRepower (d : Fin 36)
  /-- R448: A write of 1 to a PR_DOM_FAIL bit clears it and powers the domain. -/
  | domainFailClear (d : Fin 36)
  /-- R451: A sense point below nominal by THR for 2 µs raises a droop event. -/
  | droop (x : SenseDip)
  /-- R451: A core or AON supply below the brown-out level for 2 µs applies the brown-out reset. -/
  | brownOut
  /-- R452: POR resets every state including AON and retention. -/
  | powerOnReset
  /-- R452: The RESET_N pin applies a reset of RESET_N reach. -/
  | resetNPin
  /-- R443: Removal of supply puts the device in OFF. -/
  | supplyRemoved
  /-- R453: The device watchdog reaches PERIOD × 10 ms and applies a reset of RESET_N reach. -/
  | deviceWatchdog
  /-- R453: A write to PR_DWDOG_KICK restarts the device watchdog. -/
  | deviceWatchdogKick
  /-- R454: Boot step 2: the lifecycle is sensed from antifuse. -/
  | lifecycleSense
  /-- R456: Boot step 3: the option bytes are loaded from a good copy or defaults. -/
  | optionLoad
  /-- R454: Boot step 4: CLK powers up and the digital-tier PLL locks. -/
  | clockPowerUp
  /-- R484: Boot step 5: SVC powers up and the boot container is checked and run. -/
  | bootImage
  /-- R454: Boot step 6: the keels power up, self-test and one is granted. -/
  | keelPowerUp
  /-- R454: Boot step 7: DIG, WAVE, MON and EDGE power up. -/
  | digitalPowerUp
  /-- R454: Boot step 8: the lane block loads its board table. -/
  | laneTableLoad
  /-- R454: Self-tests complete and the state becomes STANDBY. -/
  | bootComplete
  /-- R457: A write of OPT_CTRL.PROG runs the hold-up check and programs both option copies. -/
  | prog
  /-- R457: Both copies are written and verified, or PERR is set. -/
  | optionProgramDone (good0 : Bool) (good1 : Bool)
  /-- R459: A write of PR_SRST.GO asks a block to quiesce before its reset. -/
  | softwareReset (block : BitVec 11)
  /-- R460: A block acknowledges its quiesce and is reset. -/
  | quiesceAcknowledge (block : Fin 1129)
  /-- R459: PR_QTMO passes without an acknowledgement; the block is reset and an entry is logged. -/
  | quiesceTimeout (block : Fin 1129)
  /-- R461: An access held for 1 ms ends with TIMEOUT. -/
  | accessTimeout (m : Fin 7) (posted : Bool)
  /-- R482: PROGRAM checks the staged container and writes it to an image slot. -/
  | program (m : Fin 7) (arg : BitVec 16)
  /-- R482: The slot write and readback finish. -/
  | programComplete (good : Bool)
  /-- R482: ERASE sets every byte of a slot to 0. -/
  | erase (m : Fin 7) (arg : BitVec 16)
  /-- R483: LOAD checks a slot and writes its code into the target cores or conductors, or the board table. -/
  | load (m : Fin 7) (arg : BitVec 16)
  /-- R483: The memories are written, entries and VALID are set and BUSY clears. -/
  | loadComplete
  /-- R473: PROVISION burns the root key hash and L1 and stores the keys. -/
  | provision (m : Fin 7) (arg : BitVec 16)
  /-- R473: SEAL burns L2 if the boot container passes SEALED rules. -/
  | sealPart (m : Fin 7) (arg : BitVec 16)
  /-- R473: RETURN with a valid token burns L3 and zeroises the claim key. -/
  | returnPart (m : Fin 7) (arg : BitVec 16)
  /-- R473: VOID burns L4 and zeroises keys and image slots. -/
  | voidPart (m : Fin 7) (arg : BitVec 16)
  /-- R475: SETKEY replaces the claim key in PROVISIONED. -/
  | setkey (m : Fin 7) (arg : BitVec 16)
  /-- R475: RAISE_SVN burns MIN_SVN cells up to ARG. -/
  | raiseSvn (m : Fin 7) (arg : BitVec 16)
  /-- R486: UNLOCK checks a token and grants debug facilities. -/
  | unlock (m : Fin 7) (arg : BitVec 16)
  /-- R486: LOCK ends every debug grant. -/
  | lock (m : Fin 7) (arg : BitVec 16)
  /-- R478: ATTEST signs the identity statement into SEC_STAGE. -/
  | attest (m : Fin 7) (arg : BitVec 16)
  /-- R491: DCHAL returns SEC_NONCE. -/
  | dchal (p : Fin 4) (msg : Msg)
  /-- R491: DUNLOCK submits a token for UNLOCK. -/
  | dunlock (p : Fin 4) (msg : Msg)
  /-- R491: DLOCK ends debug grants. -/
  | dlock (p : Fin 4) (msg : Msg)
  /-- R493: DHALT debug-halts a target at the next instruction boundary. -/
  | dhalt (p : Fin 4) (msg : Msg)
  /-- R493: DRUN resumes a debug-halted target. -/
  | drun (p : Fin 4) (msg : Msg)
  /-- R493: DSTEP executes count instructions. -/
  | dstep (p : Fin 4) (msg : Msg)
  /-- R491: DBRK sets or clears a breakpoint. -/
  | dbrk (p : Fin 4) (msg : Msg)
  /-- R491: DRD reads a register of a halted target. -/
  | drd (p : Fin 4) (msg : Msg)
  /-- R491: DWR writes a register of a halted target. -/
  | dwr (p : Fin 4) (msg : Msg)
  /-- R489: JTAG EXTEST drives the boundary register. -/
  | extest (v : BoundScan)
  /-- R489: JTAG SAMPLE/PRELOAD. -/
  | samplePreload (v : BoundScan)
  /-- R489: JTAG IDCODE. -/
  | idcode
  /-- R489: JTAG CLAMP. -/
  | clamp
  /-- R489: JTAG HIGHZ. -/
  | highz
  /-- R489: JTAG 1149.6 EXTEST_PULSE on the lanes. -/
  | extestPulse (v : BoundScan)
  /-- R489: JTAG 1149.6 EXTEST_TRAIN on the lanes. -/
  | extestTrain (v : BoundScan)
  /-- R492: An ENGDBG Update-DR carries one engine debug operation. -/
  | engdbg (op : BitVec 8) (target : BitVec 11) (arg : BitVec 13) (data : Word64)
  /-- R489: JTAG BYPASS, also taken for denied or unlisted codes. -/
  | bypass (ir : BitVec 8)
  /-- R489: Test-Logic-Reset or TRST_N selects IDCODE. -/
  | testLogicReset
  /-- R495: The receiver takes one character, or discards it on a framing error. -/
  | uartCharacter (samples : BitVec 153)
  /-- R498: A complete monitor line is parsed and answered. -/
  | monitorLine
  /-- R499: Lists the commands of the current level. -/
  | helpPrint
  /-- R499: Prints DEV_ID, lifecycle, IDCODE, MIN_SVN and RECOV. -/
  | idPrint
  /-- R499: Monitor READ of n words. -/
  | rdWords (a : BitVec 32) (n : Fin 65)
  /-- R499: Prints the state, ownership, arbiter and security registers. -/
  | statPrint
  /-- R520: Prints the error log entries in SEQ order. -/
  | logPrint
  /-- R520: Prints the life-log image. -/
  | lifePrint
  /-- R499: Monitor DCHAL. -/
  | chalPrint
  /-- R499: Monitor DUNLOCK with a hex token. -/
  | monitorUnlock (token : List Byte)
  /-- R498: Sets the monitor level if permitted. -/
  | levelSet (n : BitVec 8)
  /-- R499: CLAIM as port 3. -/
  | monitorClaim (mac : List Byte) (late : Bool)
  /-- R499: RELEASE as port 3. -/
  | monitorRelease
  /-- R499: HANDOVER as port 3. -/
  | monitorHandover (q : BitVec 8)
  /-- R499: Non-posted WRITE of one word. -/
  | wrWord (a : BitVec 32) (v : BitVec 32)
  /-- R499: FENCE as port 3. -/
  | monitorFence
  /-- R499: Writes PR_STATE.TARGET. -/
  | stateWrite (t : BitVec 3)
  /-- R499: Tether RESET semantics from port 3. -/
  | monitorReset
  /-- R499: Writes bytes into SEC_STAGE. -/
  | stageBytes (o : BitVec 16) (bytes : List Byte)
  /-- R499: Writes SEC_CMD and answers when BUSY clears. -/
  | secCommand (op : BitVec 4) (arg : BitVec 16)
  /-- R499: Runs an engine debug operation. -/
  | dbgOp (op : BitVec 8) (payload : List Byte)
  /-- R503: The scrubber reads a memory word on an idle cycle and corrects or reports it. -/
  | scrub (addr : Upset) (found : Fin 3)
  /-- R502: A disagreeing copy of triple-held state is rewritten, or the field resets if all differ. -/
  | tmrUpset (key : Triple) (allDiffer : Bool)
  /-- R510: A write of EL_CTRL.CLR empties every slot. -/
  | errorLogClear
  /-- R510: A read of an entry's word 0 latches words 1 to 3. -/
  | errorEntryRead (m : Fin 7) (i : Fin 32)
  /-- R512: A recovery period ends without a failure and the step count returns to 0. -/
  | recoveryPeriodEnd (b : Fin 1027)
  /-- R517: A life-log commit starts after its hold-up check: periodic, on KEEP, on request, after brown-out or after a notable event. -/
  | lifeLogCommit
  /-- R517: A write of LL_CTRL.COMMIT requests a life-log commit. -/
  | commitRequest
  /-- R517: The image is written and verified in the other half and the captured deltas clear. -/
  | lifeLogCommitDone
  /-- R518: Every 1 s a deferred commit retries its hold-up check. -/
  | deferredCommitRetry
  /-- R518: A VHOLD conversion is inserted and the energy check passes or fails. -/
  | holdupCheck (uv : BitVec 24) (cells : Fin 4) (zeroised : Bool)
  /-- R516: Once a second the temperature and supply histograms take a sample. -/
  | histogramSample
  /-- R24: On the trunk cycle whose number mod 32 equals its region row, an RE's slot begins and takes up to four records, with their sideband, from the head of the output buffer. -/
  | slotStart (n : Fin 1024)
  /-- R476: The random source's continuous health test fails and SEC_STAT.RNGFAIL is set. -/
  | healthTestFail
  deriving DecidableEq, Repr

end Sys2Proof
end

