-- ==== Sys2Proof/Machine/Bits.lean ====
section
/-! DEFINITION. Bit fields, sign extension, saturation, byte order and the cyclic checks that the chapters share. -/
namespace Sys2Proof.Machine

/-- The field of `w` bits from bit `lo` of a number. -/
def bits (v lo w : Nat) : Nat := v / 2 ^ lo % 2 ^ w

/-- Bit `i` of a number, as a proposition a test can decide. -/
def bit (v i : Nat) : Bool := v.testBit i

/-- A number with bit `i` set, and with bit `i` cleared. -/
def setBit (v i : Nat) : Nat := if v.testBit i then v else v + 2 ^ i
def clrBit (v i : Nat) : Nat := if v.testBit i then v - 2 ^ i else v

/-- Set or clear bit `i`. -/
def putBit (v i : Nat) (b : Bool) : Nat := if b then setBit v i else clrBit v i

/-- One or zero. -/
def b2n (b : Bool) : Nat := if b then 1 else 0

/-- A sum that saturates at the largest value of `w` bits (the counters the spec calls saturating). -/
def satAdd (w a b : Nat) : Nat := min (a + b) (2 ^ w - 1)

/-- The signed value of the low `w` bits. -/
def signed (w v : Nat) : Int :=
  let m := v % 2 ^ w
  if m < 2 ^ (w - 1) then (m : Int) else (m : Int) - (2 ^ w : Nat)

/-- A signed value in `w` bits. -/
def unsigned (w : Nat) (i : Int) : Nat := (i % (2 ^ w : Nat)).toNat

/-- Division rounded up. -/
def ceilDiv (a b : Nat) : Nat := (a + b - 1) / b

/-- A 64-bit word from fields written as (lowest bit, width, value); a value is cut to its width. -/
def mkWord : List (Nat × Nat × Nat) → Word64
  | [] => 0
  | (lo, w, v) :: r => BitVec.ofNat 64 (v % 2 ^ w * 2 ^ lo) ||| mkWord r

/-- The little-endian bytes of a number (R5). -/
def leBytes : Nat → Nat → List Byte
  | 0, _ => []
  | n + 1, v => BitVec.ofNat 8 v :: leBytes n (v / 256)

/-- The number that little-endian bytes spell (R5). -/
def ofLeBytes : List Byte → Nat
  | [] => 0
  | b :: r => b.toNat + 256 * ofLeBytes r

/-- A little-endian field of a byte string. -/
def fieldOf (bs : List Byte) (o n : Nat) : Nat := ofLeBytes ((bs.drop o).take n)

/-- One step of a reflected CRC: the register moves one bit towards its low end. -/
def crcBitR (poly r : Nat) : Nat := if r.testBit 0 then (r / 2) ^^^ poly else r / 2

/-- `n` steps of `crcBitR`. -/
def crcBitsR (poly : Nat) : Nat → Nat → Nat
  | 0, r => r
  | n + 1, r => crcBitsR poly n (crcBitR poly r)

/-- Words of 8 bytes. -/
def wordsOfBytes : Nat → List Byte → List Word64
  | 0, _ => []
  | n + 1, bs => BitVec.ofNat 64 (ofLeBytes (bs.take 8)) :: wordsOfBytes n (bs.drop 8)

/-- R276: the CRC-32C register after one more byte (polynomial 0x1EDC_6F41, reflected 0x82F6_3B78). -/
def crc32cByte (r : Nat) (b : Byte) : Nat := crcBitsR 0x82F63B78 8 (r ^^^ b.toNat)

/-- R276: the CRC-32C register after a list of bytes, without the initial value and the final inversion. -/
def crc32cReg (r : Nat) (bs : List Byte) : Nat := bs.foldl crc32cByte r

/-- R276: the CRC-32C of a list of bytes. -/
def crc32c (bs : List Byte) : Nat := crc32cReg 0xFFFFFFFF bs ^^^ 0xFFFFFFFF

/-- One step of a CRC of `w` bits that takes the highest bit first. -/
def crcBitL (w poly r : Nat) : Nat :=
  if r.testBit (w - 1) then (r * 2) % 2 ^ w ^^^ poly else (r * 2) % 2 ^ w

/-- `n` steps of `crcBitL`. -/
def crcBitsL (w poly : Nat) : Nat → Nat → Nat
  | 0, r => r
  | n + 1, r => crcBitsL w poly n (crcBitL w poly r)

/-- A CRC of `w` bits over bytes, highest bit first, from a start value. -/
def crcLeft (w poly init : Nat) (bs : List Byte) : Nat :=
  bs.foldl (fun r b => crcBitsL w poly 8 (r ^^^ (b.toNat * 2 ^ (w - 8)))) init

/-- Insert a number into a rising list without repeats. -/
def insertSorted (x : Nat) : List Nat → List Nat
  | [] => [x]
  | y :: r => if x < y then x :: y :: r else if x = y then y :: r else y :: insertSorted x r

/-- The ASCII bytes of a text. -/
def ascii (t : String) : List Byte := t.toList.map (fun c => BitVec.ofNat 8 c.toNat)

/-- A hexadecimal digit, and a number in `n` of them. -/
def hexDigit (v : Nat) : Byte := BitVec.ofNat 8 (if v < 10 then 48 + v else 55 + v)
def hexOf : Nat → Nat → List Byte
  | 0, _ => []
  | n + 1, v => hexOf n (v / 16) ++ [hexDigit (v % 16)]

/-- Bytes in hexadecimal, in their order. -/
def hexBytes (bs : List Byte) : List Byte := bs.flatMap (fun b => hexOf 2 b.toNat)

/-- The greatest and the least of a list, with a value for the empty list. -/
def maxOf (d : Nat) (l : List Nat) : Nat := l.foldl max d
def minOf (d : Nat) (l : List Nat) : Nat := l.foldl min d

/-- The sum of a list. -/
def sumOf (l : List Nat) : Nat := l.foldl (· + ·) 0

/-- R126, R435: the parity bits of a word, one for each 32-bit half. -/
def halfParity (v n : Nat) : Bool := (List.range 32).foldl (fun p i => p != v.testBit (n + i)) false
def parityOf (w : Word64) : BitVec 2 := BitVec.ofNat 2 (b2n (halfParity w.toNat 0) + 2 * b2n (halfParity w.toNat 32))

end Sys2Proof.Machine
end

