-- ==== Sys2Proof/Config.lean ====
section
/-! DEFINITION. What the spec leaves open and what it takes from published standards without giving their
arithmetic.  Every constant here is without a body, so a statement about it holds whatever it is: the free values
(notes/assumptions/1.md), the contents of memories never loaded (notes/assumptions/2.md), the cryptographic
functions (notes/assumptions/3.md) and the linearisation curves (notes/assumptions/4.md). -/
namespace Sys2Proof.Config

/-- The n-th free value of a run (undefined, unspecified or random values; State.freeCtr counts them). -/
opaque free : Nat → Nat

/-- R51: the untrimmed threshold offset Q_off of a pixel at a gain range, in electrons. -/
opaque pixOffset (pixel gain : Nat) : Int

/-- R72: the test-pulse capacitance of a pixel above 4.5 fF, in attofarad; its use is cut to the 1 fF of the limits. -/
opaque tpCap (pixel : Nat) : Nat

/-- R125, R398: the byte at a model address of a code memory not loaded since its `generation`-th power-up. -/
opaque codeByte (generation address : Nat) : Byte

/-- R477, R479: SHA-256 of FIPS 180-4. -/
opaque sha256 : List Byte → BitVec 256

/-- R477, R388: HMAC-SHA-256 of FIPS 198-1, with a 256-bit key. -/
opaque hmacSha256 : BitVec 256 → List Byte → BitVec 256

/-- R479: ECDSA P-256 verification of FIPS 186-5 (public key, message, signature). -/
opaque ecdsaVerify : BitVec 512 → List Byte → BitVec 512 → Bool

/-- R478: ECDSA P-256 signature of FIPS 186-5 (private key, message). -/
opaque ecdsaSign : BitVec 256 → List Byte → BitVec 512

/-- R474: the P-256 public key of a private key. -/
opaque ecdsaPublic : BitVec 256 → BitVec 512

/-- R425: a value of curve 4 from the quantity measured and an SNS_P for which the curve defines none (β or R25 is 0). -/
opaque linearise (curve raw p : Nat) : Int

end Sys2Proof.Config
end

