-- ==== Sys2Proof/Machine/Registers.lean ====
section
/-! DEFINITION. The registers of the address map (R43), field by field, as the register tables of the
section files give them: each field's bit address, width, access code (R10), reset value and the reset that
reaches it.  A field's key is eight times its register's byte address plus its lowest bit, so no two fields share
a key and a reserved bit (R13) has no storage at all.  Registers of a region engine are named by their
physical window (R45), those of a keel by the keel's physical window (R43). -/
namespace Sys2Proof.Machine

/-- The access codes of R10. -/
inductive Access where
  | rw | ro | wo | w1c | w1s | rwo | rwl
  deriving DecidableEq, Repr

/-- Which of the device-wide resets of R452 loads a field's reset value.  `resetN`: RESET_N reach and wider.
`por`: POR and brown-out (R469).  `porOnly`: POR alone.  `keep`: no reset, the value comes from antifuse, the
random source or the key area (R500), or is kept in AON retention (R408 for `bseq`). -/
inductive Reach where
  | resetN | por | porOnly | keep
  deriving DecidableEq, Repr

/-- One field of a register. -/
structure Field where
  key   : Nat
  width : Nat
  acc   : Access
  rst   : Nat
  reach : Reach
  deriving DecidableEq, Repr

/-- R243: BASE of the power table, in mW. -/
def brpwrBase (d : Nat) : Nat :=
  if d = 0 then 2 else if d = 1 then 60 else if d = 2 then 180 else if d ≤ 10 then 200 else if d ≤ 18 then 60
  else if d ≤ 20 then 350 else if d ≤ 30 then 400 else if d ≤ 32 then 150 else if d = 33 then 750
  else if d = 34 then 40 else 60

/-- R243: ACT of the power table, in µW per unit of A_d. -/
def brpwrAct (d : Nat) : Nat :=
  if 11 ≤ d ∧ d ≤ 18 then 4 else if d = 19 ∨ d = 20 then 500 else if d = 31 ∨ d = 32 then 900 else 0

/-- R455: word `i` of the safe-default option bytes (FORMAT 1, PCAP 40, LEASE 1,000; every other byte 0). -/
def optSafeWord (i : Nat) : Nat :=
  if i = 0 then 0x00000001 else if i = 1 then 0x00002800 else if i = 2 then 0x03E80000 else 0

namespace Reg

/-- R56: PIXCFG.TRIM, bits [15:10]. -/
def PIXCFG_TRIM (n p : Nat) : Field := ⟨8 * (0x4000C400 + n * 0x10000 + p * 2) + 10, 6, .rw, 32, .resetN⟩
/-- R56: PIXCFG.GAIN, bits [9:8]. -/
def PIXCFG_GAIN (n p : Nat) : Field := ⟨8 * (0x4000C400 + n * 0x10000 + p * 2) + 8, 2, .rw, 0, .resetN⟩
/-- R56: PIXCFG.MASK, bits [7:7]. -/
def PIXCFG_MASK (n p : Nat) : Field := ⟨8 * (0x4000C400 + n * 0x10000 + p * 2) + 7, 1, .rw, 1, .resetN⟩
/-- R56: PIXCFG.TPEN, bits [6:6]. -/
def PIXCFG_TPEN (n p : Nat) : Field := ⟨8 * (0x4000C400 + n * 0x10000 + p * 2) + 6, 1, .rw, 0, .resetN⟩
/-- R56: PIXCFG.LCEN, bits [5:5]. -/
def PIXCFG_LCEN (n p : Nat) : Field := ⟨8 * (0x4000C400 + n * 0x10000 + p * 2) + 5, 1, .rw, 1, .resetN⟩
/-- R56: PIXCFG.AOFF, bits [4:4]. -/
def PIXCFG_AOFF (n p : Nat) : Field := ⟨8 * (0x4000C400 + n * 0x10000 + p * 2) + 4, 1, .rw, 0, .resetN⟩
/-- R65: STRIPE_THR.THR, bits [9:0]. -/
def STRIPE_THR_THR (s : Nat) : Field := ⟨8 * (0x00028000 + s * 0x100) + 0, 10, .rw, 0x3FF, .resetN⟩
/-- R65: TP_AMP.AMP, bits [9:0]. -/
def TP_AMP_AMP (s : Nat) : Field := ⟨8 * (0x00028004 + s * 0x100) + 0, 10, .rw, 0, .resetN⟩
/-- R65: TP_CTRL.FIRE, bits [31:31]. -/
def TP_CTRL_FIRE (s : Nat) : Field := ⟨8 * (0x00028008 + s * 0x100) + 31, 1, .w1s, 0, .resetN⟩
/-- R65: TP_CTRL.PERIOD, bits [29:16]. -/
def TP_CTRL_PERIOD (s : Nat) : Field := ⟨8 * (0x00028008 + s * 0x100) + 16, 14, .rw, 0x0200, .resetN⟩
/-- R65: TP_CTRL.COUNT, bits [15:0]. -/
def TP_CTRL_COUNT (s : Nat) : Field := ⟨8 * (0x00028008 + s * 0x100) + 0, 16, .rw, 1, .resetN⟩
/-- R65: CFG_STAT.CLR, bits [31:31]. -/
def CFG_STAT_CLR (s : Nat) : Field := ⟨8 * (0x0002800C + s * 0x100) + 31, 1, .wo, 0, .resetN⟩
/-- R65: CFG_STAT.REPAIRS, bits [23:16]. -/
def CFG_STAT_REPAIRS (s : Nat) : Field := ⟨8 * (0x0002800C + s * 0x100) + 16, 8, .ro, 0, .resetN⟩
/-- R65: CFG_STAT.PENDING, bits [7:0]. -/
def CFG_STAT_PENDING (s : Nat) : Field := ⟨8 * (0x0002800C + s * 0x100) + 0, 8, .ro, 0, .resetN⟩
/-- R65: FSUM_SEL.SEL, bits [31:0]. -/
def FSUM_SEL_SEL (s i : Nat) : Field := ⟨8 * (0x00028010 + s * 0x100 + i * 4) + 0, 32, .rw, 0, .resetN⟩
/-- R65: STRIPE_STATE.BIAS, bits [1:0]. -/
def STRIPE_STATE_BIAS (s : Nat) : Field := ⟨8 * (0x00028020 + s * 0x100) + 0, 2, .ro, 0, .resetN⟩
/-- R65: TP_START_TICK.TICK, bits [31:0]. -/
def TP_START_TICK_TICK (s : Nat) : Field := ⟨8 * (0x00028024 + s * 0x100) + 0, 32, .ro, 0, .resetN⟩
/-- R65: ANA_GLOBAL.FSUM_ATT, bits [5:4]. -/
def ANA_GLOBAL_FSUM_ATT : Field := ⟨8 * (0x00028800) + 4, 2, .rw, 0, .resetN⟩
/-- R65: ANA_GLOBAL.POL, bits [0:0]. -/
def ANA_GLOBAL_POL : Field := ⟨8 * (0x00028800) + 0, 1, .rw, 0, .resetN⟩
/-- R65: FSUM_CTRL.COMMIT, bits [0:0]. -/
def FSUM_CTRL_COMMIT : Field := ⟨8 * (0x00028804) + 0, 1, .w1s, 0, .resetN⟩
/-- R65: FSUM_COMMIT_TICK.TICK, bits [31:0]. -/
def FSUM_COMMIT_TICK_TICK : Field := ⟨8 * (0x00028808) + 0, 32, .ro, 0, .resetN⟩
/-- R107: FCAL_CTRL.AGE_LIM, bits [31:16]. -/
def FCAL_CTRL_AGE_LIM (n : Nat) : Field := ⟨8 * (0x4000D000 + n * 0x10000) + 16, 16, .rw, 0x04A8, .resetN⟩
/-- R107: FCAL_CTRL.COMMIT, bits [15:8]. -/
def FCAL_CTRL_COMMIT (n : Nat) : Field := ⟨8 * (0x4000D000 + n * 0x10000) + 8, 8, .w1s, 0, .resetN⟩
/-- R107: FCAL_CTRL.BCLR, bits [7:7]. -/
def FCAL_CTRL_BCLR (n : Nat) : Field := ⟨8 * (0x4000D000 + n * 0x10000) + 7, 1, .wo, 0, .resetN⟩
/-- R107: FCAL_CTRL.PIN, bits [6:4]. -/
def FCAL_CTRL_PIN (n : Nat) : Field := ⟨8 * (0x4000D000 + n * 0x10000) + 4, 3, .rw, 0, .resetN⟩
/-- R107: FCAL_CTRL.PINEN, bits [3:3]. -/
def FCAL_CTRL_PINEN (n : Nat) : Field := ⟨8 * (0x4000D000 + n * 0x10000) + 3, 1, .rw, 0, .resetN⟩
/-- R107: FCAL_CTRL.QEN, bits [2:2]. -/
def FCAL_CTRL_QEN (n : Nat) : Field := ⟨8 * (0x4000D000 + n * 0x10000) + 2, 1, .rw, 1, .resetN⟩
/-- R107: FCAL_CTRL.MODE, bits [0:0]. -/
def FCAL_CTRL_MODE (n : Nat) : Field := ⟨8 * (0x4000D000 + n * 0x10000) + 0, 1, .rw, 0, .resetN⟩
/-- R107: FCAL_STAT.STALE, bits [31:24]. -/
def FCAL_STAT_STALE (n : Nat) : Field := ⟨8 * (0x4000D004 + n * 0x10000) + 24, 8, .ro, 0xFF, .resetN⟩
/-- R107: FCAL_STAT.FAULT, bits [23:16]. -/
def FCAL_STAT_FAULT (n : Nat) : Field := ⟨8 * (0x4000D004 + n * 0x10000) + 16, 8, .ro, 0, .resetN⟩
/-- R107: FCAL_STAT.QBUSY, bits [15:15]. -/
def FCAL_STAT_QBUSY (n : Nat) : Field := ⟨8 * (0x4000D004 + n * 0x10000) + 15, 1, .ro, 0, .resetN⟩
/-- R107: FCAL_STAT.REJ, bits [7:0]. -/
def FCAL_STAT_REJ (n : Nat) : Field := ⟨8 * (0x4000D004 + n * 0x10000) + 0, 8, .w1c, 0, .resetN⟩
/-- R107: HOLD_CNT.TAKEN, bits [31:0]. -/
def HOLD_CNT_TAKEN (n : Nat) : Field := ⟨8 * (0x4000D008 + n * 0x10000) + 0, 32, .ro, 0, .resetN⟩
/-- R107: FT_INFO.PROG, bits [31:24]. -/
def FT_INFO_PROG (n i : Nat) : Field := ⟨8 * (0x4000D020 + n * 0x10000 + i * 4) + 24, 8, .ro, 0, .resetN⟩
/-- R107: FT_INFO.AGE, bits [23:0]. -/
def FT_INFO_AGE (n i : Nat) : Field := ⟨8 * (0x4000D020 + n * 0x10000 + i * 4) + 0, 24, .ro, 0xFFFFFF, .resetN⟩
/-- R107: FT_OFS.ACTIVE, bits [31:16]. -/
def FT_OFS_ACTIVE (n i : Nat) : Field := ⟨8 * (0x4000D040 + n * 0x10000 + i * 4) + 16, 16, .ro, 0, .resetN⟩
/-- R107: FT_OFS.SHADOW, bits [15:0]. -/
def FT_OFS_SHADOW (n i : Nat) : Field := ⟨8 * (0x4000D040 + n * 0x10000 + i * 4) + 0, 16, .rw, 0, .resetN⟩
/-- R107: BUSY_CNT.COUNT, bits [15:0]. -/
def BUSY_CNT_COUNT (n p : Nat) : Field := ⟨8 * (0x4000D100 + n * 0x10000 + p * 2) + 0, 16, .ro, 0, .resetN⟩
/-- R117: EDGE_CTRL.AGE_LIM, bits [31:16]. -/
def EDGE_CTRL_AGE_LIM : Field := ⟨8 * (0x00040000) + 16, 16, .rw, 0x04A8, .resetN⟩
/-- R117: EDGE_CTRL.COMMIT, bits [15:8]. -/
def EDGE_CTRL_COMMIT : Field := ⟨8 * (0x00040000) + 8, 8, .w1s, 0, .resetN⟩
/-- R117: EDGE_CTRL.CLR, bits [4:4]. -/
def EDGE_CTRL_CLR : Field := ⟨8 * (0x00040000) + 4, 1, .wo, 0, .resetN⟩
/-- R117: EDGE_CTRL.QEN, bits [1:1]. -/
def EDGE_CTRL_QEN : Field := ⟨8 * (0x00040000) + 1, 1, .rw, 1, .resetN⟩
/-- R117: EDGE_CTRL.MODE, bits [0:0]. -/
def EDGE_CTRL_MODE : Field := ⟨8 * (0x00040000) + 0, 1, .rw, 0, .resetN⟩
/-- R117: EDGE_STAT.STALE, bits [31:24]. -/
def EDGE_STAT_STALE : Field := ⟨8 * (0x00040004) + 24, 8, .ro, 0xFF, .resetN⟩
/-- R117: EDGE_STAT.FAULT, bits [23:16]. -/
def EDGE_STAT_FAULT : Field := ⟨8 * (0x00040004) + 16, 8, .ro, 0, .resetN⟩
/-- R117: EDGE_STAT.QBUSY, bits [15:15]. -/
def EDGE_STAT_QBUSY : Field := ⟨8 * (0x00040004) + 15, 1, .ro, 0, .resetN⟩
/-- R117: EDGE_STAT.GATE, bits [9:8]. -/
def EDGE_STAT_GATE : Field := ⟨8 * (0x00040004) + 8, 2, .ro, 0, .resetN⟩
/-- R117: EDGE_STAT.REJ, bits [7:0]. -/
def EDGE_STAT_REJ : Field := ⟨8 * (0x00040004) + 0, 8, .w1c, 0, .resetN⟩
/-- R117: FT_INFO_E.PROG, bits [31:24]. -/
def FT_INFO_E_PROG (i : Nat) : Field := ⟨8 * (0x00040020 + i * 4) + 24, 8, .ro, 0, .resetN⟩
/-- R117: FT_INFO_E.AGE, bits [23:0]. -/
def FT_INFO_E_AGE (i : Nat) : Field := ⟨8 * (0x00040020 + i * 4) + 0, 24, .ro, 0xFFFFFF, .resetN⟩
/-- R117: FT_OFS_E.ACTIVE, bits [31:16]. -/
def FT_OFS_E_ACTIVE (i : Nat) : Field := ⟨8 * (0x00040040 + i * 4) + 16, 16, .ro, 0, .resetN⟩
/-- R117: FT_OFS_E.SHADOW, bits [15:0]. -/
def FT_OFS_E_SHADOW (i : Nat) : Field := ⟨8 * (0x00040040 + i * 4) + 0, 16, .rw, 0, .resetN⟩
/-- R117: TIN_CFG.EN, bits [31:31]. -/
def TIN_CFG_EN (i : Nat) : Field := ⟨8 * (0x00040100 + i * 0x20) + 31, 1, .rw, 0, .resetN⟩
/-- R117: TIN_CFG.PRESC, bits [30:28]. -/
def TIN_CFG_PRESC (i : Nat) : Field := ⟨8 * (0x00040100 + i * 0x20) + 28, 3, .rw, 0, .resetN⟩
/-- R117: TIN_CFG.EPOL, bits [27:27]. -/
def TIN_CFG_EPOL (i : Nat) : Field := ⟨8 * (0x00040100 + i * 0x20) + 27, 1, .rw, 0, .resetN⟩
/-- R117: TIN_CFG.MODE, bits [26:25]. -/
def TIN_CFG_MODE (i : Nat) : Field := ⟨8 * (0x00040100 + i * 0x20) + 25, 2, .rw, 0, .resetN⟩
/-- R117: TIN_CFG.STOP, bits [24:23]. -/
def TIN_CFG_STOP (i : Nat) : Field := ⟨8 * (0x00040100 + i * 0x20) + 23, 2, .rw, 0, .resetN⟩
/-- R117: TIN_CFG.GSEL, bits [22:21]. -/
def TIN_CFG_GSEL (i : Nat) : Field := ⟨8 * (0x00040100 + i * 0x20) + 21, 2, .rw, 0, .resetN⟩
/-- R117: TIN_CFG.GPOL, bits [20:20]. -/
def TIN_CFG_GPOL (i : Nat) : Field := ⟨8 * (0x00040100 + i * 0x20) + 20, 1, .rw, 0, .resetN⟩
/-- R117: TIN_CFG.SWG, bits [19:19]. -/
def TIN_CFG_SWG (i : Nat) : Field := ⟨8 * (0x00040100 + i * 0x20) + 19, 1, .rw, 0, .resetN⟩
/-- R117: TIN_CFG.SDIV, bits [11:0]. -/
def TIN_CFG_SDIV (i : Nat) : Field := ⟨8 * (0x00040100 + i * 0x20) + 0, 12, .rw, 0, .resetN⟩
/-- R117: TIN_OFS.OFS, bits [15:0]. -/
def TIN_OFS_OFS (i : Nat) : Field := ⟨8 * (0x00040104 + i * 0x20) + 0, 16, .rw, 0, .resetN⟩
/-- R117: TIN_STAT.BUSY, bits [31:16]. -/
def TIN_STAT_BUSY (i : Nat) : Field := ⟨8 * (0x00040108 + i * 0x20) + 16, 16, .ro, 0, .resetN⟩
/-- R117: TIN_STAT.RESTART, bits [15:0]. -/
def TIN_STAT_RESTART (i : Nat) : Field := ⟨8 * (0x00040108 + i * 0x20) + 0, 16, .ro, 0, .resetN⟩
/-- R117: TIN_CNT.COUNT, bits [63:0]. -/
def TIN_CNT_COUNT (i : Nat) : Field := ⟨8 * (0x00040110 + i * 0x20) + 0, 64, .ro, 0, .resetN⟩
/-- R145: CORE_CTRL.AUTO, bits [4:4]. -/
def CORE_CTRL_AUTO (n : Nat) : Field := ⟨8 * (0x4000C000 + n * 0x10000) + 4, 1, .rw, 1, .resetN⟩
/-- R145: CORE_CTRL.LEVEL, bits [3:3]. -/
def CORE_CTRL_LEVEL (n : Nat) : Field := ⟨8 * (0x4000C000 + n * 0x10000) + 3, 1, .rwl, 0, .resetN⟩
/-- R145: CORE_CTRL.VALID, bits [2:2]. -/
def CORE_CTRL_VALID (n : Nat) : Field := ⟨8 * (0x4000C000 + n * 0x10000) + 2, 1, .rwl, 0, .resetN⟩
/-- R145: CORE_CTRL.HALT, bits [1:1]. -/
def CORE_CTRL_HALT (n : Nat) : Field := ⟨8 * (0x4000C000 + n * 0x10000) + 1, 1, .w1s, 0, .resetN⟩
/-- R145: CORE_CTRL.GO, bits [0:0]. -/
def CORE_CTRL_GO (n : Nat) : Field := ⟨8 * (0x4000C000 + n * 0x10000) + 0, 1, .w1s, 0, .resetN⟩
/-- R145: CORE_STAT.EXC, bits [31:24]. -/
def CORE_STAT_EXC (n : Nat) : Field := ⟨8 * (0x4000C004 + n * 0x10000) + 24, 8, .ro, 0, .resetN⟩
/-- R145: CORE_STAT.NEST, bits [20:20]. -/
def CORE_STAT_NEST (n : Nat) : Field := ⟨8 * (0x4000C004 + n * 0x10000) + 20, 1, .w1c, 0, .resetN⟩
/-- R145: CORE_STAT.WDG, bits [19:19]. -/
def CORE_STAT_WDG (n : Nat) : Field := ⟨8 * (0x4000C004 + n * 0x10000) + 19, 1, .w1c, 0, .resetN⟩
/-- R145: CORE_STAT.MOVR, bits [18:18]. -/
def CORE_STAT_MOVR (n : Nat) : Field := ⟨8 * (0x4000C004 + n * 0x10000) + 18, 1, .w1c, 0, .resetN⟩
/-- R145: CORE_STAT.OQB, bits [17:17]. -/
def CORE_STAT_OQB (n : Nat) : Field := ⟨8 * (0x4000C004 + n * 0x10000) + 17, 1, .w1c, 0, .resetN⟩
/-- R145: CORE_STAT.HQB, bits [16:16]. -/
def CORE_STAT_HQB (n : Nat) : Field := ⟨8 * (0x4000C004 + n * 0x10000) + 16, 1, .w1c, 0, .resetN⟩
/-- R145: CORE_STAT.SERVE2, bits [3:3]. -/
def CORE_STAT_SERVE2 (n : Nat) : Field := ⟨8 * (0x4000C004 + n * 0x10000) + 3, 1, .ro, 0, .resetN⟩
/-- R145: CORE_STAT.STATE, bits [2:0]. -/
def CORE_STAT_STATE (n : Nat) : Field := ⟨8 * (0x4000C004 + n * 0x10000) + 0, 3, .ro, 1, .resetN⟩
/-- R145: ENTRY.IDX, bits [11:0]. -/
def ENTRY_IDX (n : Nat) : Field := ⟨8 * (0x4000C008 + n * 0x10000) + 0, 12, .rw, 0, .resetN⟩
/-- R145: EXC_VEC.IDX, bits [11:0]. -/
def EXC_VEC_IDX (n : Nat) : Field := ⟨8 * (0x4000C00C + n * 0x10000) + 0, 12, .rw, 0, .resetN⟩
/-- R145: IDLE_CYC.CYC, bits [15:0]. -/
def IDLE_CYC_CYC (n : Nat) : Field := ⟨8 * (0x4000C010 + n * 0x10000) + 0, 16, .rw, 1024, .resetN⟩
/-- R145: WDOG.EN, bits [31:31]. -/
def WDOG_EN (n : Nat) : Field := ⟨8 * (0x4000C014 + n * 0x10000) + 31, 1, .rw, 1, .resetN⟩
/-- R145: WDOG.PERIOD, bits [23:0]. -/
def WDOG_PERIOD (n : Nat) : Field := ⟨8 * (0x4000C014 + n * 0x10000) + 0, 24, .rw, 1221, .resetN⟩
/-- R145: WDOG_KICK.KICK, bits [31:0]. -/
def WDOG_KICK_KICK (n : Nat) : Field := ⟨8 * (0x4000C018 + n * 0x10000) + 0, 32, .wo, 0, .resetN⟩
/-- R145: TMR_CTRL.EN, bits [31:31]. -/
def TMR_CTRL_EN (n t : Nat) : Field := ⟨8 * (0x4000C020 + n * 0x10000 + t * 8) + 31, 1, .rw, 0, .resetN⟩
/-- R145: TMR_CTRL.PERIODIC, bits [30:30]. -/
def TMR_CTRL_PERIODIC (n t : Nat) : Field := ⟨8 * (0x4000C020 + n * 0x10000 + t * 8) + 30, 1, .rw, 0, .resetN⟩
/-- R145: TMR_PERIOD.PERIOD, bits [31:0]. -/
def TMR_PERIOD_PERIOD (n t : Nat) : Field := ⟨8 * (0x4000C024 + n * 0x10000 + t * 8) + 0, 32, .rw, 0, .resetN⟩
/-- R145: EVT_EN.EN, bits [7:0]. -/
def EVT_EN_EN (n : Nat) : Field := ⟨8 * (0x4000C030 + n * 0x10000) + 0, 8, .rw, 0, .resetN⟩
/-- R145: EXC_CAUSE.CODE, bits [7:0]. -/
def EXC_CAUSE_CODE (n : Nat) : Field := ⟨8 * (0x4000C040 + n * 0x10000) + 0, 8, .ro, 0, .resetN⟩
/-- R145: EXC_PC.IDX, bits [11:0]. -/
def EXC_PC_IDX (n : Nat) : Field := ⟨8 * (0x4000C044 + n * 0x10000) + 0, 12, .ro, 0, .resetN⟩
/-- R145: EXC_ADDR.OFS, bits [15:0]. -/
def EXC_ADDR_OFS (n : Nat) : Field := ⟨8 * (0x4000C048 + n * 0x10000) + 0, 16, .ro, 0, .resetN⟩
/-- R145: MBOX_IN.MSG, bits [63:0]. -/
def MBOX_IN_MSG (n : Nat) : Field := ⟨8 * (0x4000C050 + n * 0x10000) + 0, 64, .wo, 0, .resetN⟩
/-- R145: MBOX_STAT.EVQ, bits [12:8]. -/
def MBOX_STAT_EVQ (n : Nat) : Field := ⟨8 * (0x4000C058 + n * 0x10000) + 8, 5, .ro, 0, .resetN⟩
/-- R145: MBOX_STAT.IN, bits [3:0]. -/
def MBOX_STAT_IN (n : Nat) : Field := ⟨8 * (0x4000C058 + n * 0x10000) + 0, 4, .ro, 0, .resetN⟩
/-- R145: OUTQ_STAT.OCC, bits [5:0]. -/
def OUTQ_STAT_OCC (n : Nat) : Field := ⟨8 * (0x4000C060 + n * 0x10000) + 0, 6, .ro, 0, .resetN⟩
/-- R145: OUTQ_BALLAST.COUNT, bits [31:0]. -/
def OUTQ_BALLAST_COUNT (n : Nat) : Field := ⟨8 * (0x4000C064 + n * 0x10000) + 0, 32, .ro, 0, .resetN⟩
/-- R145: ECC_STAT.UNC, bits [31:31]. -/
def ECC_STAT_UNC (n : Nat) : Field := ⟨8 * (0x4000C070 + n * 0x10000) + 31, 1, .w1c, 0, .resetN⟩
/-- R145: ECC_STAT.CORR, bits [15:0]. -/
def ECC_STAT_CORR (n : Nat) : Field := ⟨8 * (0x4000C070 + n * 0x10000) + 0, 16, .ro, 0, .resetN⟩
/-- R145: BIST.START, bits [31:31]. -/
def BIST_START (n : Nat) : Field := ⟨8 * (0x4000C080 + n * 0x10000) + 31, 1, .w1s, 0, .resetN⟩
/-- R145: BIST.DONE, bits [30:30]. -/
def BIST_DONE (n : Nat) : Field := ⟨8 * (0x4000C080 + n * 0x10000) + 30, 1, .ro, 0, .resetN⟩
/-- R145: BIST.PASS, bits [29:29]. -/
def BIST_PASS (n : Nat) : Field := ⟨8 * (0x4000C080 + n * 0x10000) + 29, 1, .ro, 0, .resetN⟩
/-- R145: BIST.FAIL, bits [15:0]. -/
def BIST_FAIL (n : Nat) : Field := ⟨8 * (0x4000C080 + n * 0x10000) + 0, 16, .ro, 0, .resetN⟩
/-- R145: HQ_CTRL.LEVEL, bits [6:0]. -/
def HQ_CTRL_LEVEL (n : Nat) : Field := ⟨8 * (0x4000C600 + n * 0x10000) + 0, 7, .rw, 32, .resetN⟩
/-- R145: HQ_STAT.PERR, bits [9:9]. -/
def HQ_STAT_PERR (n : Nat) : Field := ⟨8 * (0x4000C604 + n * 0x10000) + 9, 1, .w1c, 0, .resetN⟩
/-- R145: HQ_STAT.LVL, bits [8:8]. -/
def HQ_STAT_LVL (n : Nat) : Field := ⟨8 * (0x4000C604 + n * 0x10000) + 8, 1, .w1c, 0, .resetN⟩
/-- R145: HQ_STAT.OCC, bits [6:0]. -/
def HQ_STAT_OCC (n : Nat) : Field := ⟨8 * (0x4000C604 + n * 0x10000) + 0, 7, .ro, 0, .resetN⟩
/-- R145: HQ_BALLAST.COUNT, bits [31:0]. -/
def HQ_BALLAST_COUNT (n : Nat) : Field := ⟨8 * (0x4000C608 + n * 0x10000) + 0, 32, .ro, 0, .resetN⟩
/-- R145: MARK_SUB.CH, bits [15:0]. -/
def MARK_SUB_CH (n : Nat) : Field := ⟨8 * (0x4000C60C + n * 0x10000) + 0, 16, .rw, 0, .resetN⟩
/-- R145: SAFE_TICK.TICK, bits [55:0]. -/
def SAFE_TICK_TICK (n : Nat) : Field := ⟨8 * (0x4000C610 + n * 0x10000) + 0, 56, .ro, 0, .resetN⟩
/-- R145: STREAM_MASK.MASK, bits [63:0]. -/
def STREAM_MASK_MASK (n : Nat) : Field := ⟨8 * (0x4000C618 + n * 0x10000) + 0, 64, .ro, 0, .resetN⟩
/-- R145: ADOPT_CTRL.TMO, bits [31:16]. -/
def ADOPT_CTRL_TMO (n : Nat) : Field := ⟨8 * (0x4000C620 + n * 0x10000) + 16, 16, .rw, 20, .resetN⟩
/-- R145: ADOPT_CTRL.RETURN, bits [1:1]. -/
def ADOPT_CTRL_RETURN (n : Nat) : Field := ⟨8 * (0x4000C620 + n * 0x10000) + 1, 1, .w1s, 0, .resetN⟩
/-- R145: ADOPT_CTRL.ADOPT, bits [0:0]. -/
def ADOPT_CTRL_ADOPT (n : Nat) : Field := ⟨8 * (0x4000C620 + n * 0x10000) + 0, 1, .w1s, 0, .resetN⟩
/-- R145: ADOPT_STAT.EPOCH, bits [31:16]. -/
def ADOPT_STAT_EPOCH (n : Nat) : Field := ⟨8 * (0x4000C624 + n * 0x10000) + 16, 16, .ro, 0, .resetN⟩
/-- R145: ADOPT_STAT.CAUSE, bits [8:8]. -/
def ADOPT_STAT_CAUSE (n : Nat) : Field := ⟨8 * (0x4000C624 + n * 0x10000) + 8, 1, .ro, 0, .resetN⟩
/-- R145: ADOPT_STAT.STATE, bits [1:0]. -/
def ADOPT_STAT_STATE (n : Nat) : Field := ⟨8 * (0x4000C624 + n * 0x10000) + 0, 2, .ro, 0, .resetN⟩
/-- R145: GAP_CNT.COUNT, bits [31:0]. -/
def GAP_CNT_COUNT (n : Nat) : Field := ⟨8 * (0x4000C628 + n * 0x10000) + 0, 32, .ro, 0, .resetN⟩
/-- R183: PB_STAT.SEQ, bits [31:28]. -/
def PB_STAT_SEQ (n : Nat) : Field := ⟨8 * (0x4000C500 + n * 0x10000) + 28, 4, .ro, 0, .resetN⟩
/-- R183: PB_STAT.CODE, bits [27:24]. -/
def PB_STAT_CODE (n : Nat) : Field := ⟨8 * (0x4000C500 + n * 0x10000) + 24, 4, .ro, 0, .resetN⟩
/-- R183: PB_STAT.FSLOT, bits [23:22]. -/
def PB_STAT_FSLOT (n : Nat) : Field := ⟨8 * (0x4000C500 + n * 0x10000) + 22, 2, .ro, 0, .resetN⟩
/-- R183: PB_STAT.MERGE, bits [21:20]. -/
def PB_STAT_MERGE (n : Nat) : Field := ⟨8 * (0x4000C500 + n * 0x10000) + 20, 2, .ro, 0, .resetN⟩
/-- R183: PB_STAT.RUN, bits [19:16]. -/
def PB_STAT_RUN (n : Nat) : Field := ⟨8 * (0x4000C500 + n * 0x10000) + 16, 4, .ro, 0, .resetN⟩
/-- R183: PB_STAT.FOOT, bits [15:0]. -/
def PB_STAT_FOOT (n : Nat) : Field := ⟨8 * (0x4000C500 + n * 0x10000) + 0, 16, .ro, 0, .resetN⟩
/-- R183: SLOT_CFG.EN, bits [31:31]. -/
def SLOT_CFG_EN (n i : Nat) : Field := ⟨8 * (0x4000C510 + n * 0x10000 + i * 0x10) + 31, 1, .rw, 0, .resetN⟩
/-- R183: SLOT_CFG.NUM, bits [30:28]. -/
def SLOT_CFG_NUM (n i : Nat) : Field := ⟨8 * (0x4000C510 + n * 0x10000 + i * 0x10) + 28, 3, .rw, 0, .resetN⟩
/-- R183: SLOT_CFG.STREAM, bits [27:22]. -/
def SLOT_CFG_STREAM (n i : Nat) : Field := ⟨8 * (0x4000C510 + n * 0x10000 + i * 0x10) + 22, 6, .rw, 0, .resetN⟩
/-- R183: SLOT_CFG.WALK, bits [21:21]. -/
def SLOT_CFG_WALK (n i : Nat) : Field := ⟨8 * (0x4000C510 + n * 0x10000 + i * 0x10) + 21, 1, .rw, 0, .resetN⟩
/-- R183: SLOT_CFG.W, bits [20:20]. -/
def SLOT_CFG_W (n i : Nat) : Field := ⟨8 * (0x4000C510 + n * 0x10000 + i * 0x10) + 20, 1, .rw, 0, .resetN⟩
/-- R183: SLOT_CFG.ZS, bits [19:19]. -/
def SLOT_CFG_ZS (n i : Nat) : Field := ⟨8 * (0x4000C510 + n * 0x10000 + i * 0x10) + 19, 1, .rw, 0, .resetN⟩
/-- R183: SLOT_CFG.CH, bits [15:12]. -/
def SLOT_CFG_CH (n i : Nat) : Field := ⟨8 * (0x4000C510 + n * 0x10000 + i * 0x10) + 12, 4, .rw, 0, .resetN⟩
/-- R183: SLOT_P1.P, bits [31:0]. -/
def SLOT_P1_P (n i : Nat) : Field := ⟨8 * (0x4000C514 + n * 0x10000 + i * 0x10) + 0, 32, .rw, 0, .resetN⟩
/-- R183: SLOT_P2.P, bits [31:0]. -/
def SLOT_P2_P (n i : Nat) : Field := ⟨8 * (0x4000C518 + n * 0x10000 + i * 0x10) + 0, 32, .rw, 0, .resetN⟩
/-- R183: SLOT_P3.P, bits [31:0]. -/
def SLOT_P3_P (n i : Nat) : Field := ⟨8 * (0x4000C51C + n * 0x10000 + i * 0x10) + 0, 32, .rw, 0, .resetN⟩
/-- R183: PB_WALK.E, bits [15:0]. -/
def PB_WALK_E (n i : Nat) : Field := ⟨8 * (0x4000C580 + n * 0x10000 + i * 2) + 0, 16, .rw, 0, .resetN⟩
/-- R235: WAVE_CTRL.SCAL, bits [31:31]. -/
def WAVE_CTRL_SCAL : Field := ⟨8 * (0x00050000) + 31, 1, .w1s, 0, .resetN⟩
/-- R235: WAVE_CTRL.RETRY, bits [30:30]. -/
def WAVE_CTRL_RETRY : Field := ⟨8 * (0x00050000) + 30, 1, .w1s, 0, .resetN⟩
/-- R235: WAVE_CTRL.EN, bits [4:4]. -/
def WAVE_CTRL_EN : Field := ⟨8 * (0x00050000) + 4, 1, .rw, 0, .resetN⟩
/-- R235: WAVE_CTRL.CALMODE, bits [3:3]. -/
def WAVE_CTRL_CALMODE : Field := ⟨8 * (0x00050000) + 3, 1, .rw, 0, .resetN⟩
/-- R235: WAVE_CTRL.INSEL, bits [2:2]. -/
def WAVE_CTRL_INSEL : Field := ⟨8 * (0x00050000) + 2, 1, .rw, 0, .resetN⟩
/-- R235: WAVE_CTRL.MODE, bits [1:0]. -/
def WAVE_CTRL_MODE : Field := ⟨8 * (0x00050000) + 0, 2, .rw, 0, .resetN⟩
/-- R235: WAVE_STAT.INIT, bits [31:31]. -/
def WAVE_STAT_INIT : Field := ⟨8 * (0x00050004) + 31, 1, .ro, 0, .resetN⟩
/-- R235: WAVE_STAT.DEG, bits [30:30]. -/
def WAVE_STAT_DEG : Field := ⟨8 * (0x00050004) + 30, 1, .ro, 0, .resetN⟩
/-- R235: WAVE_STAT.FAIL, bits [26:24]. -/
def WAVE_STAT_FAIL : Field := ⟨8 * (0x00050004) + 24, 3, .ro, 0, .resetN⟩
/-- R235: WAVE_STAT.ROLE_T, bits [23:22]. -/
def WAVE_STAT_ROLE_T : Field := ⟨8 * (0x00050004) + 22, 2, .ro, 2, .resetN⟩
/-- R235: WAVE_STAT.ROLE_P1, bits [21:20]. -/
def WAVE_STAT_ROLE_P1 : Field := ⟨8 * (0x00050004) + 20, 2, .ro, 1, .resetN⟩
/-- R235: WAVE_STAT.ROLE_P0, bits [19:18]. -/
def WAVE_STAT_ROLE_P0 : Field := ⟨8 * (0x00050004) + 18, 2, .ro, 0, .resetN⟩
/-- R235: WAVE_STAT.TPH, bits [17:16]. -/
def WAVE_STAT_TPH : Field := ⟨8 * (0x00050004) + 16, 2, .ro, 3, .resetN⟩
/-- R235: WAVE_STAT.CLIP, bits [3:3]. -/
def WAVE_STAT_CLIP : Field := ⟨8 * (0x00050004) + 3, 1, .w1c, 0, .resetN⟩
/-- R235: WAVE_STAT.REJ, bits [2:0]. -/
def WAVE_STAT_REJ : Field := ⟨8 * (0x00050004) + 0, 3, .w1c, 0, .resetN⟩
/-- R235: WAVE_ROT.COUNT, bits [31:0]. -/
def WAVE_ROT_COUNT : Field := ⟨8 * (0x00050008) + 0, 32, .ro, 0, .resetN⟩
/-- R235: WAVE_OVR.COUNT, bits [31:0]. -/
def WAVE_OVR_COUNT : Field := ⟨8 * (0x0005000C) + 0, 32, .ro, 0, .resetN⟩
/-- R235: CORR_G.GAIN, bits [31:16]. -/
def CORR_G_GAIN (i : Nat) : Field := ⟨8 * (0x00050040 + i * 8) + 16, 16, .rw, 0x8000, .resetN⟩
/-- R235: CORR_G.OFS, bits [15:0]. -/
def CORR_G_OFS (i : Nat) : Field := ⟨8 * (0x00050040 + i * 8) + 0, 16, .rw, 0, .resetN⟩
/-- R235: CORR_S.SKEW, bits [7:0]. -/
def CORR_S_SKEW (i : Nat) : Field := ⟨8 * (0x00050044 + i * 8) + 0, 8, .rw, 0, .resetN⟩
/-- R235: INL.E0, bits [7:0]. -/
def INL_E0 (i j : Nat) : Field := ⟨8 * (0x00050400 + i * 0x40 + j * 4) + 0, 8, .rw, 0, .resetN⟩
/-- R235: INL.E1, bits [15:8]. -/
def INL_E1 (i j : Nat) : Field := ⟨8 * (0x00050400 + i * 0x40 + j * 4) + 8, 8, .rw, 0, .resetN⟩
/-- R235: INL.E2, bits [23:16]. -/
def INL_E2 (i j : Nat) : Field := ⟨8 * (0x00050400 + i * 0x40 + j * 4) + 16, 8, .rw, 0, .resetN⟩
/-- R235: INL.E3, bits [31:24]. -/
def INL_E3 (i j : Nat) : Field := ⟨8 * (0x00050400 + i * 0x40 + j * 4) + 24, 8, .rw, 0, .resetN⟩
/-- R235: TRG_CFG.EN, bits [31:31]. -/
def TRG_CFG_EN (i : Nat) : Field := ⟨8 * (0x00050100 + i * 0x20) + 31, 1, .rw, 0, .resetN⟩
/-- R235: TRG_CFG.SRC, bits [30:28]. -/
def TRG_CFG_SRC (i : Nat) : Field := ⟨8 * (0x00050100 + i * 0x20) + 28, 3, .rw, 0, .resetN⟩
/-- R235: TRG_CFG.COND, bits [27:25]. -/
def TRG_CFG_COND (i : Nat) : Field := ⟨8 * (0x00050100 + i * 0x20) + 25, 3, .rw, 0, .resetN⟩
/-- R235: TRG_CFG.DIR, bits [24:23]. -/
def TRG_CFG_DIR (i : Nat) : Field := ⟨8 * (0x00050100 + i * 0x20) + 23, 2, .rw, 0, .resetN⟩
/-- R235: TRG_CFG.POL, bits [22:22]. -/
def TRG_CFG_POL (i : Nat) : Field := ⟨8 * (0x00050100 + i * 0x20) + 22, 1, .rw, 0, .resetN⟩
/-- R235: TRG_CFG.INP, bits [21:21]. -/
def TRG_CFG_INP (i : Nat) : Field := ⟨8 * (0x00050100 + i * 0x20) + 21, 1, .rw, 0, .resetN⟩
/-- R235: TRG_CFG.SEL, bits [20:19]. -/
def TRG_CFG_SEL (i : Nat) : Field := ⟨8 * (0x00050100 + i * 0x20) + 19, 2, .rw, 0, .resetN⟩
/-- R235: TRG_CFG.HYST, bits [15:8]. -/
def TRG_CFG_HYST (i : Nat) : Field := ⟨8 * (0x00050100 + i * 0x20) + 8, 8, .rw, 0, .resetN⟩
/-- R235: TRG_LVL.B, bits [27:16]. -/
def TRG_LVL_B (i : Nat) : Field := ⟨8 * (0x00050104 + i * 0x20) + 16, 12, .rw, 0xFFF, .resetN⟩
/-- R235: TRG_LVL.A, bits [11:0]. -/
def TRG_LVL_A (i : Nat) : Field := ⟨8 * (0x00050104 + i * 0x20) + 0, 12, .rw, 0x800, .resetN⟩
/-- R235: TRG_T1.T, bits [19:0]. -/
def TRG_T1_T (i : Nat) : Field := ⟨8 * (0x00050108 + i * 0x20) + 0, 20, .rw, 0, .resetN⟩
/-- R235: TRG_T2.T, bits [19:0]. -/
def TRG_T2_T (i : Nat) : Field := ⟨8 * (0x0005010C + i * 0x20) + 0, 20, .rw, 0, .resetN⟩
/-- R235: TRG_HOLD.HOLDOFF, bits [19:0]. -/
def TRG_HOLD_HOLDOFF (i : Nat) : Field := ⟨8 * (0x00050110 + i * 0x20) + 0, 20, .rw, 16, .resetN⟩
/-- R235: TRG_CNT.SUP, bits [31:16]. -/
def TRG_CNT_SUP (i : Nat) : Field := ⟨8 * (0x00050114 + i * 0x20) + 16, 16, .ro, 0, .resetN⟩
/-- R235: TRG_CNT.FIRED, bits [15:0]. -/
def TRG_CNT_FIRED (i : Nat) : Field := ⟨8 * (0x00050114 + i * 0x20) + 0, 16, .ro, 0, .resetN⟩
/-- R235: TRG_STREAMS.MASK, bits [63:0]. -/
def TRG_STREAMS_MASK (i : Nat) : Field := ⟨8 * (0x00050118 + i * 0x20) + 0, 64, .rw, 0, .resetN⟩
/-- R235: TRG_CMD.FIRE, bits [7:0]. -/
def TRG_CMD_FIRE : Field := ⟨8 * (0x00050200) + 0, 8, .wo, 0, .resetN⟩
/-- R235: TOUT_CFG.EN, bits [31:31]. -/
def TOUT_CFG_EN : Field := ⟨8 * (0x00050204) + 31, 1, .rw, 0, .resetN⟩
/-- R235: TOUT_CFG.WIDTH, bits [23:16]. -/
def TOUT_CFG_WIDTH : Field := ⟨8 * (0x00050204) + 16, 8, .rw, 8, .resetN⟩
/-- R235: TOUT_CFG.MASK, bits [7:0]. -/
def TOUT_CFG_MASK : Field := ⟨8 * (0x00050204) + 0, 8, .rw, 0, .resetN⟩
/-- R235: TOUT_MERGE.COUNT, bits [15:0]. -/
def TOUT_MERGE_COUNT : Field := ⟨8 * (0x00050208) + 0, 16, .ro, 0, .resetN⟩
/-- R235: WR_CFG.EN, bits [31:31]. -/
def WR_CFG_EN (i : Nat) : Field := ⟨8 * (0x00050300 + i * 0x10) + 31, 1, .rw, 0, .resetN⟩
/-- R235: WR_CFG.KIND, bits [30:29]. -/
def WR_CFG_KIND (i : Nat) : Field := ⟨8 * (0x00050300 + i * 0x10) + 29, 2, .rw, 0, .resetN⟩
/-- R235: WR_CFG.INPUT, bits [28:28]. -/
def WR_CFG_INPUT (i : Nat) : Field := ⟨8 * (0x00050300 + i * 0x10) + 28, 1, .rw, 0, .resetN⟩
/-- R235: WR_CFG.STREAM, bits [27:22]. -/
def WR_CFG_STREAM (i : Nat) : Field := ⟨8 * (0x00050300 + i * 0x10) + 22, 6, .rw, 0, .resetN⟩
/-- R235: WR_CFG.LOG2N, bits [21:17]. -/
def WR_CFG_LOG2N (i : Nat) : Field := ⟨8 * (0x00050300 + i * 0x10) + 17, 5, .rw, 4, .resetN⟩
/-- R235: WR_CFG.CH, bits [16:14]. -/
def WR_CFG_CH (i : Nat) : Field := ⟨8 * (0x00050300 + i * 0x10) + 14, 3, .rw, 0, .resetN⟩
/-- R235: WR_WIN.PRE, bits [29:16]. -/
def WR_WIN_PRE (i : Nat) : Field := ⟨8 * (0x00050304 + i * 0x10) + 16, 14, .rw, 0, .resetN⟩
/-- R235: WR_WIN.POST, bits [15:0]. -/
def WR_WIN_POST (i : Nat) : Field := ⟨8 * (0x00050304 + i * 0x10) + 0, 16, .rw, 5, .resetN⟩
/-- R256: BR_CTRL.COMMIT, bits [31:31]. -/
def BR_CTRL_COMMIT (k : Nat) : Field := ⟨8 * (0x00120000 + k * 0x80000) + 31, 1, .w1s, 0, .resetN⟩
/-- R256: BR_CTRL.VIEW, bits [0:0]. -/
def BR_CTRL_VIEW (k : Nat) : Field := ⟨8 * (0x00120000 + k * 0x80000) + 0, 1, .rw, 0, .resetN⟩
/-- R256: BR_STAT.BUSY, bits [31:31]. -/
def BR_STAT_BUSY (k : Nat) : Field := ⟨8 * (0x00120004 + k * 0x80000) + 31, 1, .ro, 0, .resetN⟩
/-- R256: BR_STAT.OVER, bits [30:30]. -/
def BR_STAT_OVER (k : Nat) : Field := ⟨8 * (0x00120004 + k * 0x80000) + 30, 1, .ro, 0, .resetN⟩
/-- R256: BR_STAT.DRIFT, bits [29:29]. -/
def BR_STAT_DRIFT (k : Nat) : Field := ⟨8 * (0x00120004 + k * 0x80000) + 29, 1, .ro, 0, .resetN⟩
/-- R256: BR_STAT.CODE, bits [19:16]. -/
def BR_STAT_CODE (k : Nat) : Field := ⟨8 * (0x00120004 + k * 0x80000) + 16, 4, .ro, 0, .resetN⟩
/-- R256: BR_STAT.SEQ, bits [15:0]. -/
def BR_STAT_SEQ (k : Nat) : Field := ⟨8 * (0x00120004 + k * 0x80000) + 0, 16, .ro, 0, .resetN⟩
/-- R256: BR_FAIL.IDX, bits [15:0]. -/
def BR_FAIL_IDX (k : Nat) : Field := ⟨8 * (0x00120008 + k * 0x80000) + 0, 16, .ro, 0, .resetN⟩
/-- R256: BR_PCAP.CAP, bits [6:0]. -/
def BR_PCAP_CAP (k : Nat) : Field := ⟨8 * (0x0012000C + k * 0x80000) + 0, 7, .rwl, 40, .resetN⟩
/-- R256: BR_PWR_WC.P, bits [31:0]. -/
def BR_PWR_WC_P (k : Nat) : Field := ⟨8 * (0x00120010 + k * 0x80000) + 0, 32, .ro, 0, .resetN⟩
/-- R256: BR_SPILL_W.RATE, bits [20:0]. -/
def BR_SPILL_W_RATE (k : Nat) : Field := ⟨8 * (0x00120014 + k * 0x80000) + 0, 21, .ro, 0, .resetN⟩
/-- R256: BR_SPILL_CAP.CAP, bits [16:0]. -/
def BR_SPILL_CAP_CAP (k : Nat) : Field := ⟨8 * (0x00120018 + k * 0x80000) + 0, 17, .ro, 0, .resetN⟩
/-- R256: BR_LANES.UP, bits [35:0]. -/
def BR_LANES_UP (k : Nat) : Field := ⟨8 * (0x00120020 + k * 0x80000) + 0, 36, .rw, 0, .resetN⟩
/-- R256: BR_COMMIT_TICK.T, bits [55:0]. -/
def BR_COMMIT_TICK_T (k : Nat) : Field := ⟨8 * (0x00120028 + k * 0x80000) + 0, 56, .ro, 0, .resetN⟩
/-- R256: BR_SUS.SUS, bits [19:0]. -/
def BR_SUS_SUS (k i : Nat) : Field := ⟨8 * (0x00120100 + k * 0x80000 + i * 0x10) + 0, 20, .rw, 0, .resetN⟩
/-- R256: BR_BUR.BUR, bits [19:0]. -/
def BR_BUR_BUR (k i : Nat) : Field := ⟨8 * (0x00120104 + k * 0x80000 + i * 0x10) + 0, 20, .rw, 0, .resetN⟩
/-- R256: BR_BDUR.BDUR, bits [23:0]. -/
def BR_BDUR_BDUR (k i : Nat) : Field := ⟨8 * (0x00120108 + k * 0x80000 + i * 0x10) + 0, 24, .rw, 0, .resetN⟩
/-- R256: BR_TOL.TOL, bits [13:0]. -/
def BR_TOL_TOL (k i : Nat) : Field := ⟨8 * (0x0012010C + k * 0x80000 + i * 0x10) + 0, 14, .rw, 0, .resetN⟩
/-- R256: BR_BAL.COUNT, bits [63:0]. -/
def BR_BAL_COUNT (k i : Nat) : Field := ⟨8 * (0x00120800 + k * 0x80000 + i * 8) + 0, 64, .ro, 0, .resetN⟩
/-- R256: BRPWR.BASE, bits [31:16]. -/
def BRPWR_BASE (k i : Nat) : Field := ⟨8 * (0x00120C00 + k * 0x80000 + i * 4) + 16, 16, .rwl, (brpwrBase i), .resetN⟩
/-- R256: BRPWR.ACT, bits [15:0]. -/
def BRPWR_ACT (k i : Nat) : Field := ⟨8 * (0x00120C00 + k * 0x80000 + i * 4) + 0, 16, .rwl, (brpwrAct i), .resetN⟩
/-- R256: BR_MASK.MASK, bits [63:0]. -/
def BR_MASK_MASK (k i : Nat) : Field := ⟨8 * (0x00124000 + k * 0x80000 + i * 0x10) + 0, 64, .rw, 0, .resetN⟩
/-- R256: BR_REGION.HRATE, bits [31:22]. -/
def BR_REGION_HRATE (k i : Nat) : Field := ⟨8 * (0x00124008 + k * 0x80000 + i * 0x10) + 22, 10, .rw, 0, .resetN⟩
/-- R256: BR_REGION.RREC, bits [21:12]. -/
def BR_REGION_RREC (k i : Nat) : Field := ⟨8 * (0x00124008 + k * 0x80000 + i * 0x10) + 12, 10, .rw, 0, .resetN⟩
/-- R256: BR_REGION.CYC, bits [11:0]. -/
def BR_REGION_CYC (k i : Nat) : Field := ⟨8 * (0x00124008 + k * 0x80000 + i * 0x10) + 0, 12, .rw, 0, .resetN⟩
/-- R293: ST_CTRL.OPEN, bits [31:31]. -/
def ST_CTRL_OPEN (k i : Nat) : Field := ⟨8 * (0x00130000 + k * 0x80000 + i * 0x20) + 31, 1, .w1s, 0, .resetN⟩
/-- R293: ST_CTRL.CLOSE, bits [30:30]. -/
def ST_CTRL_CLOSE (k i : Nat) : Field := ⟨8 * (0x00130000 + k * 0x80000 + i * 0x20) + 30, 1, .w1s, 0, .resetN⟩
/-- R293: ST_CTRL.FLUSH, bits [29:29]. -/
def ST_CTRL_FLUSH (k i : Nat) : Field := ⟨8 * (0x00130000 + k * 0x80000 + i * 0x20) + 29, 1, .w1s, 0, .resetN⟩
/-- R293: ST_CTRL.STATE, bits [1:0]. -/
def ST_CTRL_STATE (k i : Nat) : Field := ⟨8 * (0x00130000 + k * 0x80000 + i * 0x20) + 0, 2, .ro, 0, .resetN⟩
/-- R293: ST_CFG.GROUP, bits [31:28]. -/
def ST_CFG_GROUP (k i : Nat) : Field := ⟨8 * (0x00130004 + k * 0x80000 + i * 0x20) + 28, 4, .rw, 0, .resetN⟩
/-- R293: ST_CFG.FLT, bits [20:16]. -/
def ST_CFG_FLT (k i : Nat) : Field := ⟨8 * (0x00130004 + k * 0x80000 + i * 0x20) + 16, 5, .rw, 0, .resetN⟩
/-- R293: ST_CFG.LSIZE, bits [9:0]. -/
def ST_CFG_LSIZE (k i : Nat) : Field := ⟨8 * (0x00130004 + k * 0x80000 + i * 0x20) + 0, 10, .rw, 512, .resetN⟩
/-- R293: ST_BSEQ.NEXT, bits [31:0]. -/
def ST_BSEQ_NEXT (k i : Nat) : Field := ⟨8 * (0x00130008 + k * 0x80000 + i * 0x20) + 0, 32, .ro, 0, .keep⟩
/-- R293: ST_DISC.COUNT, bits [31:0]. -/
def ST_DISC_COUNT (k i : Nat) : Field := ⟨8 * (0x0013000C + k * 0x80000 + i * 0x20) + 0, 32, .ro, 0, .resetN⟩
/-- R293: ST_BLK.COUNT, bits [63:0]. -/
def ST_BLK_COUNT (k i : Nat) : Field := ⟨8 * (0x00130010 + k * 0x80000 + i * 0x20) + 0, 64, .ro, 0, .resetN⟩
/-- R293: ST_RAW.COUNT, bits [63:0]. -/
def ST_RAW_COUNT (k i : Nat) : Field := ⟨8 * (0x00130018 + k * 0x80000 + i * 0x20) + 0, 64, .ro, 0, .resetN⟩
/-- R293: OQ_WM.HWM, bits [22:16]. -/
def OQ_WM_HWM (k i : Nat) : Field := ⟨8 * (0x00130800 + k * 0x80000 + i * 0x10) + 16, 7, .rw, 48, .resetN⟩
/-- R293: OQ_WM.LWM, bits [6:0]. -/
def OQ_WM_LWM (k i : Nat) : Field := ⟨8 * (0x00130800 + k * 0x80000 + i * 0x10) + 0, 7, .rw, 16, .resetN⟩
/-- R293: OQ_STAT.HOLD, bits [31:31]. -/
def OQ_STAT_HOLD (k i : Nat) : Field := ⟨8 * (0x00130804 + k * 0x80000 + i * 0x10) + 31, 1, .ro, 0, .resetN⟩
/-- R293: OQ_STAT.LEVEL, bits [14:0]. -/
def OQ_STAT_LEVEL (k i : Nat) : Field := ⟨8 * (0x00130804 + k * 0x80000 + i * 0x10) + 0, 15, .ro, 0, .resetN⟩
/-- R293: SP_CTRL.EN, bits [31:31]. -/
def SP_CTRL_EN (k i : Nat) : Field := ⟨8 * (0x00130900 + k * 0x80000 + i * 0x10) + 31, 1, .rw, 0, .resetN⟩
/-- R293: SP_CTRL.ACQ, bits [30:30]. -/
def SP_CTRL_ACQ (k i : Nat) : Field := ⟨8 * (0x00130900 + k * 0x80000 + i * 0x10) + 30, 1, .rw, 1, .resetN⟩
/-- R293: SP_CTRL.FORCE, bits [29:29]. -/
def SP_CTRL_FORCE (k i : Nat) : Field := ⟨8 * (0x00130900 + k * 0x80000 + i * 0x10) + 29, 1, .rw, 0, .resetN⟩
/-- R293: SP_CTRL.MINLOW, bits [23:16]. -/
def SP_CTRL_MINLOW (k i : Nat) : Field := ⟨8 * (0x00130900 + k * 0x80000 + i * 0x10) + 16, 8, .rw, 1, .resetN⟩
/-- R293: SP_CTRL.GMASK, bits [15:0]. -/
def SP_CTRL_GMASK (k i : Nat) : Field := ⟨8 * (0x00130900 + k * 0x80000 + i * 0x10) + 0, 16, .rw, 0xFFFF, .resetN⟩
/-- R293: SP_STREAMS.MASK, bits [63:0]. -/
def SP_STREAMS_MASK (k i : Nat) : Field := ⟨8 * (0x00130908 + k * 0x80000 + i * 0x10) + 0, 64, .rw, 0, .resetN⟩
/-- R293: SRC_ROUTE.S0, bits [5:0]. -/
def SRC_ROUTE_S0 (k : Nat) : Field := ⟨8 * (0x00130A00 + k * 0x80000) + 0, 6, .rw, 0, .resetN⟩
/-- R293: SRC_ROUTE.EN0, bits [7:7]. -/
def SRC_ROUTE_EN0 (k : Nat) : Field := ⟨8 * (0x00130A00 + k * 0x80000) + 7, 1, .rw, 0, .resetN⟩
/-- R293: SRC_ROUTE.S1, bits [13:8]. -/
def SRC_ROUTE_S1 (k : Nat) : Field := ⟨8 * (0x00130A00 + k * 0x80000) + 8, 6, .rw, 0, .resetN⟩
/-- R293: SRC_ROUTE.EN1, bits [15:15]. -/
def SRC_ROUTE_EN1 (k : Nat) : Field := ⟨8 * (0x00130A00 + k * 0x80000) + 15, 1, .rw, 0, .resetN⟩
/-- R293: SRC_ROUTE.S2, bits [21:16]. -/
def SRC_ROUTE_S2 (k : Nat) : Field := ⟨8 * (0x00130A00 + k * 0x80000) + 16, 6, .rw, 0, .resetN⟩
/-- R293: SRC_ROUTE.EN2, bits [23:23]. -/
def SRC_ROUTE_EN2 (k : Nat) : Field := ⟨8 * (0x00130A00 + k * 0x80000) + 23, 1, .rw, 0, .resetN⟩
/-- R293: SRC_ROUTE.S3, bits [29:24]. -/
def SRC_ROUTE_S3 (k : Nat) : Field := ⟨8 * (0x00130A00 + k * 0x80000) + 24, 6, .rw, 0, .resetN⟩
/-- R293: SRC_ROUTE.EN3, bits [31:31]. -/
def SRC_ROUTE_EN3 (k : Nat) : Field := ⟨8 * (0x00130A00 + k * 0x80000) + 31, 1, .rw, 0, .resetN⟩
/-- R293: SRC_ROUTE_MON.EN, bits [31:31]. -/
def SRC_ROUTE_MON_EN (k : Nat) : Field := ⟨8 * (0x00130A04 + k * 0x80000) + 31, 1, .rw, 0, .resetN⟩
/-- R293: SRC_ROUTE_MON.STREAM, bits [5:0]. -/
def SRC_ROUTE_MON_STREAM (k : Nat) : Field := ⟨8 * (0x00130A04 + k * 0x80000) + 0, 6, .rw, 0, .resetN⟩
/-- R318: MC_CFG.EN, bits [31:31]. -/
def MC_CFG_EN : Field := ⟨8 * (0x00380000) + 31, 1, .rw, 0, .resetN⟩
/-- R318: MC_CFG.SRSTBY, bits [30:30]. -/
def MC_CFG_SRSTBY : Field := ⟨8 * (0x00380000) + 30, 1, .rw, 1, .resetN⟩
/-- R318: MC_CFG.RATE, bits [10:8]. -/
def MC_CFG_RATE : Field := ⟨8 * (0x00380000) + 8, 3, .rw, 0, .resetN⟩
/-- R318: MC_CFG.CAPC, bits [5:4]. -/
def MC_CFG_CAPC : Field := ⟨8 * (0x00380000) + 4, 2, .rw, 0, .resetN⟩
/-- R318: MC_CFG.CHMASK, bits [3:0]. -/
def MC_CFG_CHMASK : Field := ⟨8 * (0x00380000) + 0, 4, .rw, 0, .resetN⟩
/-- R318: MC_STAT.READY, bits [31:31]. -/
def MC_STAT_READY : Field := ⟨8 * (0x00380004) + 31, 1, .ro, 0, .resetN⟩
/-- R318: MC_STAT.FAULT, bits [30:30]. -/
def MC_STAT_FAULT : Field := ⟨8 * (0x00380004) + 30, 1, .ro, 0, .resetN⟩
/-- R318: MC_STAT.CHUP, bits [19:16]. -/
def MC_STAT_CHUP : Field := ⟨8 * (0x00380004) + 16, 4, .ro, 0, .resetN⟩
/-- R318: MC_STAT.RETRAIN, bits [15:0]. -/
def MC_STAT_RETRAIN : Field := ⟨8 * (0x00380004) + 0, 16, .ro, 0, .resetN⟩
/-- R318: MC_WLIM.WLIM, bits [20:0]. -/
def MC_WLIM_WLIM : Field := ⟨8 * (0x00380008) + 0, 21, .rw, 0, .resetN⟩
/-- R318: MC_LOST.COUNT, bits [31:0]. -/
def MC_LOST_COUNT : Field := ⟨8 * (0x00380010) + 0, 32, .ro, 0, .resetN⟩
/-- R318: MC_POIS.COUNT, bits [31:0]. -/
def MC_POIS_COUNT : Field := ⟨8 * (0x00380014) + 0, 32, .ro, 0, .resetN⟩
/-- R318: MC_TMO.COUNT, bits [31:0]. -/
def MC_TMO_COUNT : Field := ⟨8 * (0x00380018) + 0, 32, .ro, 0, .resetN⟩
/-- R318: MC_TAGS.CLR, bits [31:31]. -/
def MC_TAGS_CLR : Field := ⟨8 * (0x0038001C) + 31, 1, .wo, 0, .resetN⟩
/-- R318: MC_TAGS.PEAK, bits [26:16]. -/
def MC_TAGS_PEAK : Field := ⟨8 * (0x0038001C) + 16, 11, .ro, 0, .resetN⟩
/-- R318: MC_TAGS.NOW, bits [10:0]. -/
def MC_TAGS_NOW : Field := ⟨8 * (0x0038001C) + 0, 11, .ro, 0, .resetN⟩
/-- R319: SPL_STAT.EMPTY, bits [31:31]. -/
def SPL_STAT_EMPTY (k : Nat) : Field := ⟨8 * (0x00140000 + k * 0x80000) + 31, 1, .ro, 1, .resetN⟩
/-- R319: SPL_HELD.BYTES, bits [63:0]. -/
def SPL_HELD_BYTES (k : Nat) : Field := ⟨8 * (0x00140008 + k * 0x80000) + 0, 64, .ro, 0, .resetN⟩
/-- R319: SPL_DROP.COUNT, bits [31:0]. -/
def SPL_DROP_COUNT (k : Nat) : Field := ⟨8 * (0x00140010 + k * 0x80000) + 0, 32, .ro, 0, .resetN⟩
/-- R319: SPL_RWIN.US, bits [31:0]. -/
def SPL_RWIN_US (k i : Nat) : Field := ⟨8 * (0x00140100 + k * 0x80000 + i * 0x10) + 0, 32, .ro, 0, .resetN⟩
/-- R319: SPL_AGE.US, bits [31:0]. -/
def SPL_AGE_US (k i : Nat) : Field := ⟨8 * (0x00140104 + k * 0x80000 + i * 0x10) + 0, 32, .ro, 0, .resetN⟩
/-- R319: SPL_BLK.COUNT, bits [31:0]. -/
def SPL_BLK_COUNT (k i : Nat) : Field := ⟨8 * (0x00140108 + k * 0x80000 + i * 0x10) + 0, 32, .ro, 0, .resetN⟩
/-- R343: LN_GCTRL.RETRY, bits [31:24]. -/
def LN_GCTRL_RETRY : Field := ⟨8 * (0x00300000) + 24, 8, .rw, 10, .resetN⟩
/-- R343: LN_GCTRL.WH, bits [23:20]. -/
def LN_GCTRL_WH : Field := ⟨8 * (0x00300000) + 20, 4, .rw, 1, .resetN⟩
/-- R343: LN_GCTRL.WW, bits [19:16]. -/
def LN_GCTRL_WW : Field := ⟨8 * (0x00300000) + 16, 4, .rw, 4, .resetN⟩
/-- R343: LN_GCTRL.HRTMO, bits [15:8]. -/
def LN_GCTRL_HRTMO : Field := ⟨8 * (0x00300000) + 8, 8, .rw, 10, .resetN⟩
/-- R343: LN_GCTRL.SPARE_AUTO, bits [1:1]. -/
def LN_GCTRL_SPARE_AUTO : Field := ⟨8 * (0x00300000) + 1, 1, .rw, 1, .resetN⟩
/-- R343: LN_GSTAT.TBLBAD, bits [31:31]. -/
def LN_GSTAT_TBLBAD : Field := ⟨8 * (0x00300004) + 31, 1, .ro, 0, .resetN⟩
/-- R343: LN_GSTAT.TBL, bits [23:16]. -/
def LN_GSTAT_TBL : Field := ⟨8 * (0x00300004) + 16, 8, .ro, 0, .resetN⟩
/-- R343: LN_TXCTRL.EN, bits [31:31]. -/
def LN_TXCTRL_EN (i : Nat) : Field := ⟨8 * (0x00301000 + i * 0x20) + 31, 1, .rw, 0, .resetN⟩
/-- R343: LN_TXCTRL.AUTO, bits [30:30]. -/
def LN_TXCTRL_AUTO (i : Nat) : Field := ⟨8 * (0x00301000 + i * 0x20) + 30, 1, .rw, 0, .resetN⟩
/-- R343: LN_TXCTRL.CAND, bits [29:27]. -/
def LN_TXCTRL_CAND (i : Nat) : Field := ⟨8 * (0x00301000 + i * 0x20) + 27, 3, .rw, 0, .resetN⟩
/-- R343: LN_TXCTRL.SLIP, bits [9:0]. -/
def LN_TXCTRL_SLIP (i : Nat) : Field := ⟨8 * (0x00301000 + i * 0x20) + 0, 10, .rw, 0, .resetN⟩
/-- R343: LN_TXSTAT.HSTATE, bits [31:30]. -/
def LN_TXSTAT_HSTATE (i : Nat) : Field := ⟨8 * (0x00301004 + i * 0x20) + 30, 2, .ro, 0, .resetN⟩
/-- R343: LN_TXSTAT.SUB, bits [29:29]. -/
def LN_TXSTAT_SUB (i : Nat) : Field := ⟨8 * (0x00301004 + i * 0x20) + 29, 1, .ro, 0, .resetN⟩
/-- R343: LN_TXSTAT.LOGL, bits [28:23]. -/
def LN_TXSTAT_LOGL (i : Nat) : Field := ⟨8 * (0x00301004 + i * 0x20) + 23, 6, .ro, (if i < 32 then i else 63), .resetN⟩
/-- R343: LN_TXSTAT.CSEL, bits [22:20]. -/
def LN_TXSTAT_CSEL (i : Nat) : Field := ⟨8 * (0x00301004 + i * 0x20) + 20, 3, .ro, 0, .resetN⟩
/-- R343: LN_TXSTAT.DOWNS, bits [15:0]. -/
def LN_TXSTAT_DOWNS (i : Nat) : Field := ⟨8 * (0x00301004 + i * 0x20) + 0, 16, .ro, 0, .resetN⟩
/-- R343: LN_HREP.REP, bits [63:0]. -/
def LN_HREP_REP (i : Nat) : Field := ⟨8 * (0x00301008 + i * 0x20) + 0, 64, .ro, 0, .resetN⟩
/-- R343: LN_HERR.SUM, bits [31:0]. -/
def LN_HERR_SUM (i : Nat) : Field := ⟨8 * (0x00301010 + i * 0x20) + 0, 32, .ro, 0, .resetN⟩
/-- R343: LN_RXCTRL.EN, bits [31:31]. -/
def LN_RXCTRL_EN (i : Nat) : Field := ⟨8 * (0x00302000 + i * 0x20) + 31, 1, .rw, 0, .resetN⟩
/-- R343: LN_RXCTRL.RETRAIN, bits [30:30]. -/
def LN_RXCTRL_RETRAIN (i : Nat) : Field := ⟨8 * (0x00302000 + i * 0x20) + 30, 1, .w1s, 0, .resetN⟩
/-- R343: LN_RXSTAT.STATE, bits [31:28]. -/
def LN_RXSTAT_STATE (i : Nat) : Field := ⟨8 * (0x00302004 + i * 0x20) + 28, 4, .ro, 0, .resetN⟩
/-- R343: LN_RXSTAT.CSEL, bits [27:25]. -/
def LN_RXSTAT_CSEL (i : Nat) : Field := ⟨8 * (0x00302004 + i * 0x20) + 25, 3, .ro, 0, .resetN⟩
/-- R343: LN_RXSTAT.FOM, bits [15:0]. -/
def LN_RXSTAT_FOM (i : Nat) : Field := ⟨8 * (0x00302004 + i * 0x20) + 0, 16, .ro, 0, .resetN⟩
/-- R343: LN_RXLL.COUNT, bits [31:0]. -/
def LN_RXLL_COUNT (i : Nat) : Field := ⟨8 * (0x00302008 + i * 0x20) + 0, 32, .ro, 0, .resetN⟩
/-- R343: RX_CFG.RXW, bits [1:0]. -/
def RX_CFG_RXW : Field := ⟨8 * (0x00302100) + 0, 2, .rw, 0, .resetN⟩
/-- R343: LG_CFG.EN, bits [31:31]. -/
def LG_CFG_EN (i : Nat) : Field := ⟨8 * (0x00303000 + i * 4) + 31, 1, .rw, 0, .resetN⟩
/-- R343: LG_CFG.WCODE, bits [10:8]. -/
def LG_CFG_WCODE (i : Nat) : Field := ⟨8 * (0x00303000 + i * 4) + 8, 3, .rw, 0, .resetN⟩
/-- R343: LG_CFG.FIRST, bits [4:0]. -/
def LG_CFG_FIRST (i : Nat) : Field := ⟨8 * (0x00303000 + i * 4) + 0, 5, .rw, 0, .resetN⟩
/-- R343: LMAP.SLOT, bits [5:0]. -/
def LMAP_SLOT (i : Nat) : Field := ⟨8 * (0x00303100 + i * 4) + 0, 6, .rw, i, .resetN⟩
/-- R366: TU_CTRL.SNAP, bits [31:31]. -/
def TU_CTRL_SNAP : Field := ⟨8 * (0x00030000) + 31, 1, .w1s, 0, .resetN⟩
/-- R366: TU_CTRL.SET, bits [30:30]. -/
def TU_CTRL_SET : Field := ⟨8 * (0x00030000) + 30, 1, .w1s, 0, .resetN⟩
/-- R366: TU_CTRL.SERVO_EN, bits [29:29]. -/
def TU_CTRL_SERVO_EN : Field := ⟨8 * (0x00030000) + 29, 1, .rw, 1, .resetN⟩
/-- R366: TU_CTRL.STEPEN, bits [28:28]. -/
def TU_CTRL_STEPEN : Field := ⟨8 * (0x00030000) + 28, 1, .rw, 1, .resetN⟩
/-- R366: TU_CTRL.AUTOSW, bits [27:27]. -/
def TU_CTRL_AUTOSW : Field := ⟨8 * (0x00030000) + 27, 1, .rw, 1, .resetN⟩
/-- R366: TU_CTRL.HOLDON, bits [26:26]. -/
def TU_CTRL_HOLDON : Field := ⟨8 * (0x00030000) + 26, 1, .rw, 0, .resetN⟩
/-- R366: TU_CTRL.REFSEL, bits [1:0]. -/
def TU_CTRL_REFSEL : Field := ⟨8 * (0x00030000) + 0, 2, .rw, 0, .resetN⟩
/-- R366: TU_STAT.PLLLOCK, bits [31:31]. -/
def TU_STAT_PLLLOCK : Field := ⟨8 * (0x00030004) + 31, 1, .ro, 0, .resetN⟩
/-- R366: TU_STAT.HOLD, bits [30:30]. -/
def TU_STAT_HOLD : Field := ⟨8 * (0x00030004) + 30, 1, .ro, 0, .resetN⟩
/-- R366: TU_STAT.WARN, bits [29:29]. -/
def TU_STAT_WARN : Field := ⟨8 * (0x00030004) + 29, 1, .ro, 0, .resetN⟩
/-- R366: TU_STAT.FRANGE, bits [28:28]. -/
def TU_STAT_FRANGE : Field := ⟨8 * (0x00030004) + 28, 1, .ro, 0, .resetN⟩
/-- R366: TU_STAT.ACTIVE, bits [27:26]. -/
def TU_STAT_ACTIVE : Field := ⟨8 * (0x00030004) + 26, 2, .ro, 0, .resetN⟩
/-- R366: TU_STAT.SERVO, bits [25:23]. -/
def TU_STAT_SERVO : Field := ⟨8 * (0x00030004) + 23, 3, .ro, 0, .resetN⟩
/-- R366: TU_STAT.PRESENT, bits [22:20]. -/
def TU_STAT_PRESENT : Field := ⟨8 * (0x00030004) + 20, 3, .ro, 0, .resetN⟩
/-- R366: TU_STAT.BAD, bits [19:17]. -/
def TU_STAT_BAD : Field := ⟨8 * (0x00030004) + 17, 3, .ro, 0, .resetN⟩
/-- R366: TU_THR.T, bits [15:8]. -/
def TU_THR_T : Field := ⟨8 * (0x00030008) + 8, 8, .rw, 50, .resetN⟩
/-- R366: TU_THR.W, bits [7:0]. -/
def TU_THR_W : Field := ⟨8 * (0x00030008) + 0, 8, .rw, 25, .resetN⟩
/-- R366: TU_ADDEND.ADDEND, bits [31:0]. -/
def TU_ADDEND_ADDEND : Field := ⟨8 * (0x0003000C) + 0, 32, .rw, 3435973837, .resetN⟩
/-- R366: TU_SETV_SEC.SEC, bits [47:0]. -/
def TU_SETV_SEC_SEC : Field := ⟨8 * (0x00030010) + 0, 48, .rw, 0, .resetN⟩
/-- R366: TU_SETV_NS.NS, bits [29:0]. -/
def TU_SETV_NS_NS : Field := ⟨8 * (0x00030018) + 0, 30, .rw, 0, .resetN⟩
/-- R366: TU_SNAP_TICK.TICK, bits [55:0]. -/
def TU_SNAP_TICK_TICK : Field := ⟨8 * (0x00030020) + 0, 56, .ro, 0, .resetN⟩
/-- R366: TU_SNAP_SEC.SEC, bits [47:0]. -/
def TU_SNAP_SEC_SEC : Field := ⟨8 * (0x00030028) + 0, 48, .ro, 0, .resetN⟩
/-- R366: TU_SNAP_NS.NS, bits [29:0]. -/
def TU_SNAP_NS_NS : Field := ⟨8 * (0x00030030) + 0, 30, .ro, 0, .resetN⟩
/-- R366: TU_SNAP_FRAC.FRAC, bits [31:0]. -/
def TU_SNAP_FRAC_FRAC : Field := ⟨8 * (0x00030034) + 0, 32, .ro, 0, .resetN⟩
/-- R366: TT_CFG.EN, bits [31:31]. -/
def TT_CFG_EN : Field := ⟨8 * (0x00030040) + 31, 1, .rw, 0, .resetN⟩
/-- R366: TT_CFG.TTDIV, bits [27:24]. -/
def TT_CFG_TTDIV : Field := ⟨8 * (0x00030040) + 24, 4, .rw, 7, .resetN⟩
/-- R366: TT_CFG.TXSLOT, bits [23:18]. -/
def TT_CFG_TXSLOT : Field := ⟨8 * (0x00030040) + 18, 6, .rw, 0, .resetN⟩
/-- R366: TT_CFG.RXLANE, bits [17:16]. -/
def TT_CFG_RXLANE : Field := ⟨8 * (0x00030040) + 16, 2, .rw, 0, .resetN⟩
/-- R366: TT_CFG.MTO, bits [15:0]. -/
def TT_CFG_MTO : Field := ⟨8 * (0x00030040) + 0, 16, .rw, 100, .resetN⟩
/-- R366: TT_SERVO.KP, bits [31:28]. -/
def TT_SERVO_KP : Field := ⟨8 * (0x00030044) + 28, 4, .rw, 3, .resetN⟩
/-- R366: TT_SERVO.KI, bits [27:24]. -/
def TT_SERVO_KI : Field := ⟨8 * (0x00030044) + 24, 4, .rw, 7, .resetN⟩
/-- R366: TT_SERVO.LOCKTHR, bits [15:8]. -/
def TT_SERVO_LOCKTHR : Field := ⟨8 * (0x00030044) + 8, 8, .rw, 20, .resetN⟩
/-- R366: TT_SERVO.STEPLIM, bits [7:0]. -/
def TT_SERVO_STEPLIM : Field := ⟨8 * (0x00030044) + 0, 8, .rw, 1, .resetN⟩
/-- R366: TT_ASYM.ASYM, bits [31:0]. -/
def TT_ASYM_ASYM : Field := ⟨8 * (0x00030048) + 0, 32, .rw, 0, .resetN⟩
/-- R366: TT_PINOFS.RXOFS, bits [31:16]. -/
def TT_PINOFS_RXOFS : Field := ⟨8 * (0x0003004C) + 16, 16, .rwl, 2300, .resetN⟩
/-- R366: TT_PINOFS.TXOFS, bits [15:0]. -/
def TT_PINOFS_TXOFS : Field := ⟨8 * (0x0003004C) + 0, 16, .rwl, 1850, .resetN⟩
/-- R366: TT_OFFSET.V, bits [63:0]. -/
def TT_OFFSET_V : Field := ⟨8 * (0x00030050) + 0, 64, .ro, 0, .resetN⟩
/-- R366: TT_DELAY.V, bits [63:0]. -/
def TT_DELAY_V : Field := ⟨8 * (0x00030058) + 0, 64, .ro, 0, .resetN⟩
/-- R366: TT_CNT.MISS, bits [31:16]. -/
def TT_CNT_MISS : Field := ⟨8 * (0x00030060) + 16, 16, .ro, 0, .resetN⟩
/-- R366: TT_CNT.GOOD, bits [15:0]. -/
def TT_CNT_GOOD : Field := ⟨8 * (0x00030060) + 0, 16, .ro, 0, .resetN⟩
/-- R366: RM_DF.DF, bits [15:0]. -/
def RM_DF_DF (i : Nat) : Field := ⟨8 * (0x00030070 + i * 4) + 0, 16, .ro, 0x8000, .resetN⟩
/-- R366: RM_CNT.SWITCHES, bits [31:24]. -/
def RM_CNT_SWITCHES : Field := ⟨8 * (0x0003007C) + 24, 8, .ro, 0, .resetN⟩
/-- R366: RM_CNT.HOLDS, bits [23:16]. -/
def RM_CNT_HOLDS : Field := ⟨8 * (0x0003007C) + 16, 8, .ro, 0, .resetN⟩
/-- R366: RM_CNT.WARNS, bits [15:8]. -/
def RM_CNT_WARNS : Field := ⟨8 * (0x0003007C) + 8, 8, .ro, 0, .resetN⟩
/-- R366: RM_CNT.UNLOCKS, bits [7:0]. -/
def RM_CNT_UNLOCKS : Field := ⟨8 * (0x0003007C) + 0, 8, .ro, 0, .resetN⟩
/-- R366: TU_MSUP.COUNT, bits [31:0]. -/
def TU_MSUP_COUNT : Field := ⟨8 * (0x00030080) + 0, 32, .ro, 0, .resetN⟩
/-- R391: TH_CTRL.EN, bits [31:31]. -/
def TH_CTRL_EN (p : Nat) : Field := ⟨8 * (0x00080000 + p * 0x20) + 31, 1, .rw, 0, .resetN⟩
/-- R391: TH_CTRL.POS, bits [5:0]. -/
def TH_CTRL_POS (p : Nat) : Field := ⟨8 * (0x00080000 + p * 0x20) + 0, 6, .ro, 0, .resetN⟩
/-- R391: TH_STAT.LONE, bits [31:31]. -/
def TH_STAT_LONE (p : Nat) : Field := ⟨8 * (0x00080004 + p * 0x20) + 31, 1, .ro, 0, .resetN⟩
/-- R391: TH_STAT.DUP, bits [30:30]. -/
def TH_STAT_DUP (p : Nat) : Field := ⟨8 * (0x00080004 + p * 0x20) + 30, 1, .w1c, 0, .resetN⟩
/-- R391: TH_STAT.SYNC, bits [29:29]. -/
def TH_STAT_SYNC (p : Nat) : Field := ⟨8 * (0x00080004 + p * 0x20) + 29, 1, .ro, 0, .resetN⟩
/-- R391: TH_STAT.NQ, bits [20:16]. -/
def TH_STAT_NQ (p : Nat) : Field := ⟨8 * (0x00080004 + p * 0x20) + 16, 5, .ro, 0, .resetN⟩
/-- R391: TH_STAT.INQ, bits [3:0]. -/
def TH_STAT_INQ (p : Nat) : Field := ⟨8 * (0x00080004 + p * 0x20) + 0, 4, .ro, 0, .resetN⟩
/-- R391: TH_CNT.BAD, bits [63:48]. -/
def TH_CNT_BAD (p : Nat) : Field := ⟨8 * (0x00080008 + p * 0x20) + 48, 16, .ro, 0, .resetN⟩
/-- R391: TH_CNT.ORPH, bits [47:32]. -/
def TH_CNT_ORPH (p : Nat) : Field := ⟨8 * (0x00080008 + p * 0x20) + 32, 16, .ro, 0, .resetN⟩
/-- R391: TH_CNT.RLOST, bits [31:16]. -/
def TH_CNT_RLOST (p : Nat) : Field := ⟨8 * (0x00080008 + p * 0x20) + 16, 16, .ro, 0, .resetN⟩
/-- R391: TH_CNT.NDROP, bits [15:0]. -/
def TH_CNT_NDROP (p : Nat) : Field := ⟨8 * (0x00080008 + p * 0x20) + 0, 16, .ro, 0, .resetN⟩
/-- R391: AON_WAKE.SRC, bits [3:2]. -/
def AON_WAKE_SRC : Field := ⟨8 * (0x00000100) + 2, 2, .w1c, 0, .por⟩
/-- R391: AON_WAKE.WAKE_EN, bits [1:0]. -/
def AON_WAKE_WAKE_EN : Field := ⟨8 * (0x00000100) + 0, 2, .rw, 3, .por⟩
/-- R391: CC_CFG.EN, bits [31:31]. -/
def CC_CFG_EN : Field := ⟨8 * (0x00080040) + 31, 1, .rw, 1, .resetN⟩
/-- R391: CC_CFG.TXSLOT, bits [5:0]. -/
def CC_CFG_TXSLOT : Field := ⟨8 * (0x00080040) + 0, 6, .rw, 35, .resetN⟩
/-- R391: CC_STAT.BAD, bits [31:16]. -/
def CC_STAT_BAD : Field := ⟨8 * (0x00080044) + 16, 16, .ro, 0, .resetN⟩
/-- R391: CC_STAT.DROP, bits [15:0]. -/
def CC_STAT_DROP : Field := ⟨8 * (0x00080044) + 0, 16, .ro, 0, .resetN⟩
/-- R391: OWN_CFG.ELIG, bits [19:16]. -/
def OWN_CFG_ELIG : Field := ⟨8 * (0x00080080) + 16, 4, .rwl, 15, .resetN⟩
/-- R391: OWN_CFG.LEASE, bits [15:0]. -/
def OWN_CFG_LEASE : Field := ⟨8 * (0x00080080) + 0, 16, .rw, 1000, .resetN⟩
/-- R391: OWN_STAT.STATE, bits [31:30]. -/
def OWN_STAT_STATE : Field := ⟨8 * (0x00080084) + 30, 2, .ro, 0, .resetN⟩
/-- R391: OWN_STAT.OWNER, bits [29:28]. -/
def OWN_STAT_OWNER : Field := ⟨8 * (0x00080084) + 28, 2, .ro, 0, .resetN⟩
/-- R391: OWN_STAT.TARGET, bits [27:26]. -/
def OWN_STAT_TARGET : Field := ⟨8 * (0x00080084) + 26, 2, .ro, 0, .resetN⟩
/-- R391: OWN_STAT.LEFT, bits [15:0]. -/
def OWN_STAT_LEFT : Field := ⟨8 * (0x00080084) + 0, 16, .ro, 0, .resetN⟩
/-- R391: PW_LOG0.SEQ, bits [31:16]. -/
def PW_LOG0_SEQ (i : Nat) : Field := ⟨8 * (0x00080100 + i * 0x10) + 16, 16, .ro, 0, .resetN⟩
/-- R391: PW_LOG0.TAG, bits [11:0]. -/
def PW_LOG0_TAG (i : Nat) : Field := ⟨8 * (0x00080100 + i * 0x10) + 0, 12, .ro, 0, .resetN⟩
/-- R391: PW_LOG1.ADDR, bits [31:0]. -/
def PW_LOG1_ADDR (i : Nat) : Field := ⟨8 * (0x00080104 + i * 0x10) + 0, 32, .ro, 0, .resetN⟩
/-- R391: PW_LOG2.STATUS, bits [31:24]. -/
def PW_LOG2_STATUS (i : Nat) : Field := ⟨8 * (0x00080108 + i * 0x10) + 24, 8, .ro, 0, .resetN⟩
/-- R391: PW_LOG2.PORT, bits [23:22]. -/
def PW_LOG2_PORT (i : Nat) : Field := ⟨8 * (0x00080108 + i * 0x10) + 22, 2, .ro, 0, .resetN⟩
/-- R391: PW_LOG2.SRC, bits [21:16]. -/
def PW_LOG2_SRC (i : Nat) : Field := ⟨8 * (0x00080108 + i * 0x10) + 16, 6, .ro, 0, .resetN⟩
/-- R391: PW_LOG2.EPOCH, bits [15:0]. -/
def PW_LOG2_EPOCH (i : Nat) : Field := ⟨8 * (0x00080108 + i * 0x10) + 0, 16, .ro, 0, .resetN⟩
/-- R391: PW_LOG3.TICK, bits [31:0]. -/
def PW_LOG3_TICK (i : Nat) : Field := ⟨8 * (0x0008010C + i * 0x10) + 0, 32, .ro, 0, .resetN⟩
/-- R391: PW_STAT.CLR, bits [31:31]. -/
def PW_STAT_CLR : Field := ⟨8 * (0x00080200) + 31, 1, .wo, 0, .resetN⟩
/-- R391: PW_STAT.OVF, bits [23:16]. -/
def PW_STAT_OVF : Field := ⟨8 * (0x00080200) + 16, 8, .ro, 0, .resetN⟩
/-- R391: PW_STAT.NEXT, bits [15:8]. -/
def PW_STAT_NEXT : Field := ⟨8 * (0x00080200) + 8, 8, .ro, 0, .resetN⟩
/-- R391: PW_STAT.COUNT, bits [4:0]. -/
def PW_STAT_COUNT : Field := ⟨8 * (0x00080200) + 0, 5, .ro, 0, .resetN⟩
/-- R417: ARB_CTRL.FAILOVER, bits [31:31]. -/
def ARB_CTRL_FAILOVER : Field := ⟨8 * (0x00000200) + 31, 1, .w1s, 0, .por⟩
/-- R417: ARB_CTRL.RST_STBY, bits [30:30]. -/
def ARB_CTRL_RST_STBY : Field := ⟨8 * (0x00000200) + 30, 1, .w1s, 0, .por⟩
/-- R417: ARB_CTRL.PREF, bits [0:0]. -/
def ARB_CTRL_PREF : Field := ⟨8 * (0x00000200) + 0, 1, .rwl, 0, .por⟩
/-- R417: ARB_STAT.GRANT, bits [31:30]. -/
def ARB_STAT_GRANT : Field := ⟨8 * (0x00000204) + 30, 2, .ro, 0, .por⟩
/-- R417: ARB_STAT.RDY_A, bits [29:29]. -/
def ARB_STAT_RDY_A : Field := ⟨8 * (0x00000204) + 29, 1, .ro, 0, .por⟩
/-- R417: ARB_STAT.RDY_B, bits [28:28]. -/
def ARB_STAT_RDY_B : Field := ⟨8 * (0x00000204) + 28, 1, .ro, 0, .por⟩
/-- R417: ARB_STAT.PHASE, bits [27:24]. -/
def ARB_STAT_PHASE : Field := ⟨8 * (0x00000204) + 24, 4, .ro, 0, .por⟩
/-- R417: ARB_STAT.CAUSE, bits [18:16]. -/
def ARB_STAT_CAUSE : Field := ⟨8 * (0x00000204) + 16, 3, .ro, 0, .por⟩
/-- R417: ARB_STAT.EPOCH, bits [15:0]. -/
def ARB_STAT_EPOCH : Field := ⟨8 * (0x00000204) + 0, 16, .ro, 0, .por⟩
/-- R417: ARB_CNT.FAILOVERS, bits [31:24]. -/
def ARB_CNT_FAILOVERS : Field := ⟨8 * (0x00000208) + 24, 8, .ro, 0, .por⟩
/-- R417: ARB_CNT.RESTARTS, bits [23:16]. -/
def ARB_CNT_RESTARTS : Field := ⟨8 * (0x00000208) + 16, 8, .ro, 0, .por⟩
/-- R417: ARB_CNT.STBYRST, bits [15:8]. -/
def ARB_CNT_STBYRST : Field := ⟨8 * (0x00000208) + 8, 8, .ro, 0, .por⟩
/-- R417: ARB_CNT.LOCKSTEP, bits [7:0]. -/
def ARB_CNT_LOCKSTEP : Field := ⟨8 * (0x00000208) + 0, 8, .ro, 0, .por⟩
/-- R417: ARB_LAST_D.T, bits [55:0]. -/
def ARB_LAST_D_T : Field := ⟨8 * (0x00000210) + 0, 56, .ro, 0, .por⟩
/-- R417: ARB_LAST_G.T, bits [55:0]. -/
def ARB_LAST_G_T : Field := ⟨8 * (0x00000218) + 0, 56, .ro, 0, .por⟩
/-- R417: ARB_MSGLOST.COUNT, bits [31:0]. -/
def ARB_MSGLOST_COUNT : Field := ⟨8 * (0x00000220) + 0, 32, .ro, 0, .por⟩
/-- R418: KL_STAT.ROLE, bits [31:30]. -/
def KL_STAT_ROLE (k : Nat) : Field := ⟨8 * (0x00150000 + k * 0x80000) + 30, 2, .ro, 2, .resetN⟩
/-- R418: KL_STAT.READY, bits [29:29]. -/
def KL_STAT_READY (k : Nat) : Field := ⟨8 * (0x00150000 + k * 0x80000) + 29, 1, .ro, 0, .resetN⟩
/-- R418: KL_STAT.MIRBAD, bits [15:0]. -/
def KL_STAT_MIRBAD (k : Nat) : Field := ⟨8 * (0x00150000 + k * 0x80000) + 0, 16, .ro, 0, .resetN⟩
/-- R418: KL_TEST.START, bits [31:31]. -/
def KL_TEST_START (k : Nat) : Field := ⟨8 * (0x00150004 + k * 0x80000) + 31, 1, .w1s, 0, .resetN⟩
/-- R418: KL_TEST.DONE, bits [30:30]. -/
def KL_TEST_DONE (k : Nat) : Field := ⟨8 * (0x00150004 + k * 0x80000) + 30, 1, .ro, 0, .resetN⟩
/-- R418: KL_TEST.PASS, bits [29:29]. -/
def KL_TEST_PASS (k : Nat) : Field := ⟨8 * (0x00150004 + k * 0x80000) + 29, 1, .ro, 0, .resetN⟩
/-- R418: KL_TEST.FAIL, bits [15:0]. -/
def KL_TEST_FAIL (k : Nat) : Field := ⟨8 * (0x00150004 + k * 0x80000) + 0, 16, .ro, 0, .resetN⟩
/-- R418: CD_CTRL.HALT, bits [31:31]. -/
def CD_CTRL_HALT (k : Nat) : Field := ⟨8 * (0x00150010 + k * 0x80000) + 31, 1, .w1s, 0, .resetN⟩
/-- R418: CD_CTRL.GO, bits [30:30]. -/
def CD_CTRL_GO (k : Nat) : Field := ⟨8 * (0x00150010 + k * 0x80000) + 30, 1, .w1s, 0, .resetN⟩
/-- R418: CD_CTRL.VALID, bits [29:29]. -/
def CD_CTRL_VALID (k : Nat) : Field := ⟨8 * (0x00150010 + k * 0x80000) + 29, 1, .rwl, 0, .resetN⟩
/-- R418: CD_CTRL.HBEN, bits [28:28]. -/
def CD_CTRL_HBEN (k : Nat) : Field := ⟨8 * (0x00150010 + k * 0x80000) + 28, 1, .rw, 1, .resetN⟩
/-- R418: CD_CTRL.CPAGE, bits [3:2]. -/
def CD_CTRL_CPAGE (k : Nat) : Field := ⟨8 * (0x00150010 + k * 0x80000) + 2, 2, .rw, 0, .resetN⟩
/-- R418: CD_CTRL.STATE, bits [1:0]. -/
def CD_CTRL_STATE (k : Nat) : Field := ⟨8 * (0x00150010 + k * 0x80000) + 0, 2, .ro, 1, .resetN⟩
/-- R418: CD_ENTRY.IDX, bits [15:0]. -/
def CD_ENTRY_IDX (k : Nat) : Field := ⟨8 * (0x00150014 + k * 0x80000) + 0, 16, .rw, 0, .resetN⟩
/-- R418: CD_VEC.IDX, bits [15:0]. -/
def CD_VEC_IDX (k : Nat) : Field := ⟨8 * (0x00150018 + k * 0x80000) + 0, 16, .rw, 0, .resetN⟩
/-- R418: CD_EVT.EVT, bits [6:0]. -/
def CD_EVT_EVT (k : Nat) : Field := ⟨8 * (0x00150020 + k * 0x80000) + 0, 7, .w1c, 0, .resetN⟩
/-- R418: CD_EVT_EN.EN, bits [6:0]. -/
def CD_EVT_EN_EN (k : Nat) : Field := ⟨8 * (0x00150024 + k * 0x80000) + 0, 7, .rw, 0, .resetN⟩
/-- R418: CD_TMR.PERIOD, bits [31:0]. -/
def CD_TMR_PERIOD (k : Nat) : Field := ⟨8 * (0x00150028 + k * 0x80000) + 0, 32, .rw, 0, .resetN⟩
/-- R418: KL_MSGLOST.COUNT, bits [31:0]. -/
def KL_MSGLOST_COUNT (k : Nat) : Field := ⟨8 * (0x00150030 + k * 0x80000) + 0, 32, .ro, 0, .resetN⟩
/-- R436: MON_RCTRL.EN, bits [31:31]. -/
def MON_RCTRL_EN : Field := ⟨8 * (0x00060000) + 31, 1, .rw, 0, .resetN⟩
/-- R436: MON_RCTRL.LEN, bits [20:16]. -/
def MON_RCTRL_LEN : Field := ⟨8 * (0x00060000) + 16, 5, .rw, 0, .resetN⟩
/-- R436: MON_RCTRL.PER, bits [15:0]. -/
def MON_RCTRL_PER : Field := ⟨8 * (0x00060000) + 0, 16, .rw, 0, .resetN⟩
/-- R436: MON_ICTRL.EN, bits [31:31]. -/
def MON_ICTRL_EN : Field := ⟨8 * (0x00060004) + 31, 1, .rw, 0, .resetN⟩
/-- R436: MON_ICTRL.SW, bits [30:30]. -/
def MON_ICTRL_SW : Field := ⟨8 * (0x00060004) + 30, 1, .w1s, 0, .resetN⟩
/-- R436: MON_ICTRL.LEN, bits [25:24]. -/
def MON_ICTRL_LEN : Field := ⟨8 * (0x00060004) + 24, 2, .rw, 0, .resetN⟩
/-- R436: MON_ICTRL.WTEN, bits [18:18]. -/
def MON_ICTRL_WTEN : Field := ⟨8 * (0x00060004) + 18, 1, .rw, 0, .resetN⟩
/-- R436: MON_ICTRL.DREN, bits [17:17]. -/
def MON_ICTRL_DREN : Field := ⟨8 * (0x00060004) + 17, 1, .rw, 0, .resetN⟩
/-- R436: MON_ICTRL.OTEN, bits [16:16]. -/
def MON_ICTRL_OTEN : Field := ⟨8 * (0x00060004) + 16, 1, .rw, 0, .resetN⟩
/-- R436: MON_ICTRL.WTRIG, bits [10:8]. -/
def MON_ICTRL_WTRIG : Field := ⟨8 * (0x00060004) + 8, 3, .rw, 0, .resetN⟩
/-- R436: MON_ICTRL.OT, bits [7:0]. -/
def MON_ICTRL_OT : Field := ⟨8 * (0x00060004) + 0, 8, .rw, 110, .resetN⟩
/-- R436: MON_STAT.IBUSY, bits [31:31]. -/
def MON_STAT_IBUSY : Field := ⟨8 * (0x00060008) + 31, 1, .ro, 0, .resetN⟩
/-- R436: MON_STAT.IPEND, bits [30:30]. -/
def MON_STAT_IPEND : Field := ⟨8 * (0x00060008) + 30, 1, .ro, 0, .resetN⟩
/-- R436: MON_STAT.IMISS, bits [23:16]. -/
def MON_STAT_IMISS : Field := ⟨8 * (0x00060008) + 16, 8, .ro, 0, .resetN⟩
/-- R436: MON_STAT.RLATE, bits [15:8]. -/
def MON_STAT_RLATE : Field := ⟨8 * (0x00060008) + 8, 8, .ro, 0, .resetN⟩
/-- R436: MON_STAT.SLOT, bits [4:0]. -/
def MON_STAT_SLOT : Field := ⟨8 * (0x00060008) + 0, 5, .ro, 0, .resetN⟩
/-- R436: MON_RSLOT.AVG, bits [18:16]. -/
def MON_RSLOT_AVG (i : Nat) : Field := ⟨8 * (0x00060040 + i * 4) + 16, 3, .rw, 0, .resetN⟩
/-- R436: MON_RSLOT.SETTLE, bits [15:8]. -/
def MON_RSLOT_SETTLE (i : Nat) : Field := ⟨8 * (0x00060040 + i * 4) + 8, 8, .rw, 0, .resetN⟩
/-- R436: MON_RSLOT.TAG, bits [7:0]. -/
def MON_RSLOT_TAG (i : Nat) : Field := ⟨8 * (0x00060040 + i * 4) + 0, 8, .rw, 0, .resetN⟩
/-- R436: MON_ISLOT.AVG, bits [18:16]. -/
def MON_ISLOT_AVG (i : Nat) : Field := ⟨8 * (0x000600C0 + i * 4) + 16, 3, .rw, 0, .resetN⟩
/-- R436: MON_ISLOT.SETTLE, bits [15:8]. -/
def MON_ISLOT_SETTLE (i : Nat) : Field := ⟨8 * (0x000600C0 + i * 4) + 8, 8, .rw, 0, .resetN⟩
/-- R436: MON_ISLOT.TAG, bits [7:0]. -/
def MON_ISLOT_TAG (i : Nat) : Field := ⟨8 * (0x000600C0 + i * 4) + 0, 8, .rw, 0, .resetN⟩
/-- R436: MON_QCTRL.EN, bits [31:31]. -/
def MON_QCTRL_EN : Field := ⟨8 * (0x00060100) + 31, 1, .rw, 0, .resetN⟩
/-- R436: MON_QCTRL.CLR, bits [30:30]. -/
def MON_QCTRL_CLR : Field := ⟨8 * (0x00060100) + 30, 1, .wo, 0, .resetN⟩
/-- R436: MON_QSTAT.PERR, bits [31:31]. -/
def MON_QSTAT_PERR : Field := ⟨8 * (0x00060104) + 31, 1, .w1c, 0, .resetN⟩
/-- R436: MON_QSTAT.OVF, bits [23:16]. -/
def MON_QSTAT_OVF : Field := ⟨8 * (0x00060104) + 16, 8, .ro, 0, .resetN⟩
/-- R436: MON_QSTAT.LEVEL, bits [6:0]. -/
def MON_QSTAT_LEVEL : Field := ⟨8 * (0x00060104) + 0, 7, .ro, 0, .resetN⟩
/-- R436: MON_QLO.V, bits [31:0]. -/
def MON_QLO_V : Field := ⟨8 * (0x00060108) + 0, 32, .ro, 0, .resetN⟩
/-- R436: MON_QHI.V, bits [31:0]. -/
def MON_QHI_V : Field := ⟨8 * (0x0006010C) + 0, 32, .ro, 0, .resetN⟩
/-- R436: MON_QEPOCH.V, bits [32:0]. -/
def MON_QEPOCH_V : Field := ⟨8 * (0x00060110) + 0, 33, .ro, 0, .resetN⟩
/-- R436: MON_LAST.VALID, bits [31:31]. -/
def MON_LAST_VALID (i : Nat) : Field := ⟨8 * (0x00060200 + i * 4) + 31, 1, .ro, 0, .resetN⟩
/-- R436: MON_LAST.OOR, bits [30:30]. -/
def MON_LAST_OOR (i : Nat) : Field := ⟨8 * (0x00060200 + i * 4) + 30, 1, .ro, 0, .resetN⟩
/-- R436: MON_LAST.VALUE, bits [23:0]. -/
def MON_LAST_VALUE (i : Nat) : Field := ⟨8 * (0x00060200 + i * 4) + 0, 24, .ro, 0, .resetN⟩
/-- R436: SNS_CFG.CURVE, bits [31:29]. -/
def SNS_CFG_CURVE (i : Nat) : Field := ⟨8 * (0x00060400 + i * 8) + 29, 3, .rw, 0, .resetN⟩
/-- R436: SNS_CFG.WIRE, bits [28:27]. -/
def SNS_CFG_WIRE (i : Nat) : Field := ⟨8 * (0x00060400 + i * 8) + 27, 2, .rw, 0, .resetN⟩
/-- R436: SNS_CFG.ILVL, bits [26:25]. -/
def SNS_CFG_ILVL (i : Nat) : Field := ⟨8 * (0x00060400 + i * 8) + 25, 2, .rw, 0, .resetN⟩
/-- R436: SNS_CFG.GAIN, bits [24:23]. -/
def SNS_CFG_GAIN (i : Nat) : Field := ⟨8 * (0x00060400 + i * 8) + 23, 2, .rw, 1, .resetN⟩
/-- R436: SNS_CFG.FPIN, bits [22:19]. -/
def SNS_CFG_FPIN (i : Nat) : Field := ⟨8 * (0x00060400 + i * 8) + 19, 4, .rw, 0, .resetN⟩
/-- R436: SNS_CFG.CJ, bits [18:16]. -/
def SNS_CFG_CJ (i : Nat) : Field := ⟨8 * (0x00060400 + i * 8) + 16, 3, .rw, 0, .resetN⟩
/-- R436: SNS_CFG.BIAS, bits [15:15]. -/
def SNS_CFG_BIAS (i : Nat) : Field := ⟨8 * (0x00060400 + i * 8) + 15, 1, .rw, 0, .resetN⟩
/-- R436: SNS_P.HI, bits [31:16]. -/
def SNS_P_HI (i : Nat) : Field := ⟨8 * (0x00060404 + i * 8) + 16, 16, .rw, 0x0D6B, .resetN⟩
/-- R436: SNS_P.LO, bits [15:0]. -/
def SNS_P_LO (i : Nat) : Field := ⟨8 * (0x00060404 + i * 8) + 0, 16, .rw, 0x03E8, .resetN⟩
/-- R438: I2C_CTRL.EN, bits [31:31]. -/
def I2C_CTRL_EN : Field := ⟨8 * (0x00070000) + 31, 1, .rw, 0, .resetN⟩
/-- R438: I2C_CTRL.SPEED, bits [30:29]. -/
def I2C_CTRL_SPEED : Field := ⟨8 * (0x00070000) + 29, 2, .rw, 0, .resetN⟩
/-- R438: I2C_CTRL.PEC, bits [28:28]. -/
def I2C_CTRL_PEC : Field := ⟨8 * (0x00070000) + 28, 1, .rw, 0, .resetN⟩
/-- R438: I2C_CMD.GO, bits [31:31]. -/
def I2C_CMD_GO : Field := ⟨8 * (0x00070004) + 31, 1, .w1s, 0, .resetN⟩
/-- R438: I2C_CMD.RSTART, bits [30:30]. -/
def I2C_CMD_RSTART : Field := ⟨8 * (0x00070004) + 30, 1, .rw, 0, .resetN⟩
/-- R438: I2C_CMD.ADDR, bits [22:16]. -/
def I2C_CMD_ADDR : Field := ⟨8 * (0x00070004) + 16, 7, .rw, 0, .resetN⟩
/-- R438: I2C_CMD.RLEN, bits [15:8]. -/
def I2C_CMD_RLEN : Field := ⟨8 * (0x00070004) + 8, 8, .rw, 0, .resetN⟩
/-- R438: I2C_CMD.WLEN, bits [7:0]. -/
def I2C_CMD_WLEN : Field := ⟨8 * (0x00070004) + 0, 8, .rw, 0, .resetN⟩
/-- R438: I2C_STAT.BUSY, bits [31:31]. -/
def I2C_STAT_BUSY : Field := ⟨8 * (0x00070008) + 31, 1, .ro, 0, .resetN⟩
/-- R438: I2C_STAT.DONE, bits [30:30]. -/
def I2C_STAT_DONE : Field := ⟨8 * (0x00070008) + 30, 1, .w1c, 0, .resetN⟩
/-- R438: I2C_STAT.NACK, bits [29:29]. -/
def I2C_STAT_NACK : Field := ⟨8 * (0x00070008) + 29, 1, .ro, 0, .resetN⟩
/-- R438: I2C_STAT.ARBLOST, bits [28:28]. -/
def I2C_STAT_ARBLOST : Field := ⟨8 * (0x00070008) + 28, 1, .ro, 0, .resetN⟩
/-- R438: I2C_STAT.TMO, bits [27:27]. -/
def I2C_STAT_TMO : Field := ⟨8 * (0x00070008) + 27, 1, .ro, 0, .resetN⟩
/-- R438: I2C_STAT.PECERR, bits [26:26]. -/
def I2C_STAT_PECERR : Field := ⟨8 * (0x00070008) + 26, 1, .ro, 0, .resetN⟩
/-- R438: I2C_STAT.RECOV, bits [25:25]. -/
def I2C_STAT_RECOV : Field := ⟨8 * (0x00070008) + 25, 1, .w1c, 0, .resetN⟩
/-- R438: I2C_STAT.STUCK, bits [24:24]. -/
def I2C_STAT_STUCK : Field := ⟨8 * (0x00070008) + 24, 1, .ro, 0, .resetN⟩
/-- R438: I2C_STAT.PULSES, bits [23:20]. -/
def I2C_STAT_PULSES : Field := ⟨8 * (0x00070008) + 20, 4, .ro, 0, .resetN⟩
/-- R438: I2C_STAT.BYTES, bits [6:0]. -/
def I2C_STAT_BYTES : Field := ⟨8 * (0x00070008) + 0, 7, .ro, 0, .resetN⟩
/-- R438: I2C_DATA.B0, bits [7:0]. -/
def I2C_DATA_B0 (i : Nat) : Field := ⟨8 * (0x00070010 + i * 4) + 0, 8, .rw, 0, .resetN⟩
/-- R438: I2C_DATA.B1, bits [15:8]. -/
def I2C_DATA_B1 (i : Nat) : Field := ⟨8 * (0x00070010 + i * 4) + 8, 8, .rw, 0, .resetN⟩
/-- R438: I2C_DATA.B2, bits [23:16]. -/
def I2C_DATA_B2 (i : Nat) : Field := ⟨8 * (0x00070010 + i * 4) + 16, 8, .rw, 0, .resetN⟩
/-- R438: I2C_DATA.B3, bits [31:24]. -/
def I2C_DATA_B3 (i : Nat) : Field := ⟨8 * (0x00070010 + i * 4) + 24, 8, .rw, 0, .resetN⟩
/-- R470: PR_STATE.BUSY, bits [31:31]. -/
def PR_STATE_BUSY : Field := ⟨8 * (0x00020000) + 31, 1, .ro, 1, .por⟩
/-- R470: PR_STATE.REFUSE, bits [19:16]. -/
def PR_STATE_REFUSE : Field := ⟨8 * (0x00020000) + 16, 4, .ro, 0, .por⟩
/-- R470: PR_STATE.TARGET, bits [10:8]. -/
def PR_STATE_TARGET : Field := ⟨8 * (0x00020000) + 8, 3, .rw, 2, .por⟩
/-- R470: PR_STATE.STATE, bits [2:0]. -/
def PR_STATE_STATE : Field := ⟨8 * (0x00020000) + 0, 3, .ro, 5, .por⟩
/-- R470: PR_DOM_EN.FIXED, bits [2:0]. -/
def PR_DOM_EN_FIXED : Field := ⟨8 * (0x00020008) + 0, 3, .ro, 7, .por⟩
/-- R470: PR_DOM_EN.EN, bits [35:3]. -/
def PR_DOM_EN_EN : Field := ⟨8 * (0x00020008) + 3, 33, .rw, 0x1FFFFFFFF, .por⟩
/-- R470: PR_DOM_PG.PG, bits [35:0]. -/
def PR_DOM_PG_PG : Field := ⟨8 * (0x00020010) + 0, 36, .ro, 1, .por⟩
/-- R470: PR_DOM_FAIL.FAIL, bits [35:0]. -/
def PR_DOM_FAIL_FAIL : Field := ⟨8 * (0x00020018) + 0, 36, .w1c, 0, .por⟩
/-- R470: PR_LU_LAST.DOMAIN, bits [63:56]. -/
def PR_LU_LAST_DOMAIN : Field := ⟨8 * (0x00020020) + 56, 8, .ro, 0, .por⟩
/-- R470: PR_LU_LAST.TICK, bits [55:0]. -/
def PR_LU_LAST_TICK : Field := ⟨8 * (0x00020020) + 0, 56, .ro, 0, .por⟩
/-- R470: PR_RST_CAUSE.CUT, bits [5:5]. -/
def PR_RST_CAUSE_CUT : Field := ⟨8 * (0x00020028) + 5, 1, .w1c, 0, .porOnly⟩
/-- R470: PR_RST_CAUSE.DWDOG, bits [4:4]. -/
def PR_RST_CAUSE_DWDOG : Field := ⟨8 * (0x00020028) + 4, 1, .w1c, 0, .porOnly⟩
/-- R470: PR_RST_CAUSE.TETHER, bits [3:3]. -/
def PR_RST_CAUSE_TETHER : Field := ⟨8 * (0x00020028) + 3, 1, .w1c, 0, .porOnly⟩
/-- R470: PR_RST_CAUSE.RESETN, bits [2:2]. -/
def PR_RST_CAUSE_RESETN : Field := ⟨8 * (0x00020028) + 2, 1, .w1c, 0, .porOnly⟩
/-- R470: PR_RST_CAUSE.BOR, bits [1:1]. -/
def PR_RST_CAUSE_BOR : Field := ⟨8 * (0x00020028) + 1, 1, .w1c, 0, .porOnly⟩
/-- R470: PR_RST_CAUSE.POR, bits [0:0]. -/
def PR_RST_CAUSE_POR : Field := ⟨8 * (0x00020028) + 0, 1, .w1c, 1, .porOnly⟩
/-- R470: PR_SRST.GO, bits [31:31]. -/
def PR_SRST_GO : Field := ⟨8 * (0x00020030) + 31, 1, .w1s, 0, .por⟩
/-- R470: PR_SRST.BLOCK, bits [10:0]. -/
def PR_SRST_BLOCK : Field := ⟨8 * (0x00020030) + 0, 11, .rw, 0, .por⟩
/-- R470: PR_SRST_STAT.BUSY, bits [31:31]. -/
def PR_SRST_STAT_BUSY : Field := ⟨8 * (0x00020034) + 31, 1, .ro, 0, .por⟩
/-- R470: PR_SRST_STAT.DONE, bits [30:30]. -/
def PR_SRST_STAT_DONE : Field := ⟨8 * (0x00020034) + 30, 1, .w1c, 0, .por⟩
/-- R470: PR_SRST_STAT.TMO, bits [29:29]. -/
def PR_SRST_STAT_TMO : Field := ⟨8 * (0x00020034) + 29, 1, .ro, 0, .por⟩
/-- R470: PR_SRST_STAT.BLOCK, bits [10:0]. -/
def PR_SRST_STAT_BLOCK : Field := ⟨8 * (0x00020034) + 0, 11, .ro, 0, .por⟩
/-- R470: PR_QTMO.US, bits [15:0]. -/
def PR_QTMO_US : Field := ⟨8 * (0x00020038) + 0, 16, .rw, 100, .por⟩
/-- R470: PR_DWDOG.EN, bits [31:31]. -/
def PR_DWDOG_EN : Field := ⟨8 * (0x00020040) + 31, 1, .rw, 0, .por⟩
/-- R470: PR_DWDOG.PERIOD, bits [15:0]. -/
def PR_DWDOG_PERIOD : Field := ⟨8 * (0x00020040) + 0, 16, .rw, 0, .por⟩
/-- R470: PR_DWDOG_KICK.KICK, bits [31:0]. -/
def PR_DWDOG_KICK_KICK : Field := ⟨8 * (0x00020044) + 0, 32, .wo, 0, .por⟩
/-- R470: PR_DROOP.THR, bits [7:0]. -/
def PR_DROOP_THR : Field := ⟨8 * (0x00020048) + 0, 8, .rw, 50, .por⟩
/-- R470: PR_IRQ_STAT.IRQ, bits [7:0]. -/
def PR_IRQ_STAT_IRQ : Field := ⟨8 * (0x00020050) + 0, 8, .w1c, 0, .por⟩
/-- R470: PR_IRQ_EN.EN, bits [7:0]. -/
def PR_IRQ_EN_EN : Field := ⟨8 * (0x00020054) + 0, 8, .rw, 0, .por⟩
/-- R470: OPT_BUF.W, bits [31:0]. -/
def OPT_BUF_W (i : Nat) : Field := ⟨8 * (0x00010100 + i * 4) + 0, 32, .rwl, (optSafeWord i), .resetN⟩
/-- R470: OPT_CTRL.PROG, bits [31:31]. -/
def OPT_CTRL_PROG : Field := ⟨8 * (0x00010180) + 31, 1, .w1s, 0, .resetN⟩
/-- R470: OPT_STAT.C0BAD, bits [31:31]. -/
def OPT_STAT_C0BAD : Field := ⟨8 * (0x00010184) + 31, 1, .ro, 0, .resetN⟩
/-- R470: OPT_STAT.C1BAD, bits [30:30]. -/
def OPT_STAT_C1BAD : Field := ⟨8 * (0x00010184) + 30, 1, .ro, 0, .resetN⟩
/-- R470: OPT_STAT.DEFAULT, bits [29:29]. -/
def OPT_STAT_DEFAULT : Field := ⟨8 * (0x00010184) + 29, 1, .ro, 0, .resetN⟩
/-- R470: OPT_STAT.PERR, bits [28:28]. -/
def OPT_STAT_PERR : Field := ⟨8 * (0x00010184) + 28, 1, .w1c, 0, .resetN⟩
/-- R470: OPT_STAT.USED, bits [1:0]. -/
def OPT_STAT_USED : Field := ⟨8 * (0x00010184) + 0, 2, .ro, 0, .resetN⟩
/-- R500: SEC_STAT.BUSY, bits [31:31]. -/
def SEC_STAT_BUSY : Field := ⟨8 * (0x00090000) + 31, 1, .ro, 0, .resetN⟩
/-- R500: SEC_STAT.RNGFAIL, bits [30:30]. -/
def SEC_STAT_RNGFAIL : Field := ⟨8 * (0x00090000) + 30, 1, .ro, 0, .resetN⟩
/-- R500: SEC_STAT.RECOV, bits [29:29]. -/
def SEC_STAT_RECOV : Field := ⟨8 * (0x00090000) + 29, 1, .ro, 0, .resetN⟩
/-- R500: SEC_STAT.ZPEND, bits [28:28]. -/
def SEC_STAT_ZPEND : Field := ⟨8 * (0x00090000) + 28, 1, .ro, 0, .resetN⟩
/-- R500: SEC_STAT.UNSIGNED, bits [27:27]. -/
def SEC_STAT_UNSIGNED : Field := ⟨8 * (0x00090000) + 27, 1, .ro, 0, .resetN⟩
/-- R500: SEC_STAT.MLVL, bits [21:20]. -/
def SEC_STAT_MLVL : Field := ⟨8 * (0x00090000) + 20, 2, .ro, 0, .resetN⟩
/-- R500: SEC_STAT.GRANT, bits [12:6]. -/
def SEC_STAT_GRANT : Field := ⟨8 * (0x00090000) + 6, 7, .ro, 0, .resetN⟩
/-- R500: SEC_STAT.LC, bits [2:0]. -/
def SEC_STAT_LC : Field := ⟨8 * (0x00090000) + 0, 3, .ro, 0, .keep⟩
/-- R500: SEC_CMD.GO, bits [31:31]. -/
def SEC_CMD_GO : Field := ⟨8 * (0x00090004) + 31, 1, .w1s, 0, .resetN⟩
/-- R500: SEC_CMD.OP, bits [19:16]. -/
def SEC_CMD_OP : Field := ⟨8 * (0x00090004) + 16, 4, .rw, 0, .resetN⟩
/-- R500: SEC_CMD.ARG, bits [15:0]. -/
def SEC_CMD_ARG : Field := ⟨8 * (0x00090004) + 0, 16, .rw, 0, .resetN⟩
/-- R500: SEC_LEN.LEN, bits [15:0]. -/
def SEC_LEN_LEN : Field := ⟨8 * (0x00090008) + 0, 16, .rw, 0, .resetN⟩
/-- R500: SEC_RES.CODE, bits [31:24]. -/
def SEC_RES_CODE : Field := ⟨8 * (0x0009000C) + 24, 8, .ro, 0, .resetN⟩
/-- R500: SEC_RES.WARN, bits [23:23]. -/
def SEC_RES_WARN : Field := ⟨8 * (0x0009000C) + 23, 1, .ro, 0, .resetN⟩
/-- R500: SEC_RES.DETAIL, bits [15:0]. -/
def SEC_RES_DETAIL : Field := ⟨8 * (0x0009000C) + 0, 16, .ro, 0, .resetN⟩
/-- R500: SEC_DEVID.ID, bits [63:0]. -/
def SEC_DEVID_ID : Field := ⟨8 * (0x00090010) + 0, 64, .ro, 0, .keep⟩
/-- R500: SEC_MINSVN.N, bits [5:0]. -/
def SEC_MINSVN_N : Field := ⟨8 * (0x00090018) + 0, 6, .ro, 0, .keep⟩
/-- R500: SEC_NONCE.W, bits [31:0]. -/
def SEC_NONCE_W (i : Nat) : Field := ⟨8 * (0x00090020 + i * 4) + 0, 32, .ro, 0, .keep⟩
/-- R500: SEC_ROOTH.W, bits [31:0]. -/
def SEC_ROOTH_W (i : Nat) : Field := ⟨8 * (0x00090040 + i * 4) + 0, 32, .ro, 0, .keep⟩
/-- R500: SEC_IDPUB.W, bits [31:0]. -/
def SEC_IDPUB_W (i : Nat) : Field := ⟨8 * (0x00090080 + i * 4) + 0, 32, .ro, 0, .keep⟩
/-- R500: UART_CFG.RATE, bits [3:0]. -/
def UART_CFG_RATE : Field := ⟨8 * (0x00070100) + 0, 4, .rw, 0, .resetN⟩
/-- R500: UART_STAT.FE, bits [31:31]. -/
def UART_STAT_FE : Field := ⟨8 * (0x00070104) + 31, 1, .w1c, 0, .resetN⟩
/-- R500: UART_STAT.BRK, bits [30:30]. -/
def UART_STAT_BRK : Field := ⟨8 * (0x00070104) + 30, 1, .w1c, 0, .resetN⟩
/-- R500: UART_STAT.ROVR, bits [29:29]. -/
def UART_STAT_ROVR : Field := ⟨8 * (0x00070104) + 29, 1, .w1c, 0, .resetN⟩
/-- R500: UART_STAT.FECNT, bits [15:0]. -/
def UART_STAT_FECNT : Field := ⟨8 * (0x00070104) + 0, 16, .ro, 0, .resetN⟩
/-- R500: JTAG_STAT.DENY, bits [31:31]. -/
def JTAG_STAT_DENY : Field := ⟨8 * (0x00070200) + 31, 1, .w1c, 0, .resetN⟩
/-- R500: JTAG_STAT.IR, bits [7:0]. -/
def JTAG_STAT_IR : Field := ⟨8 * (0x00070200) + 0, 8, .ro, 2, .resetN⟩
/-- R519: EL_STAT.OVF, bits [31:24]. -/
def EL_STAT_OVF : Field := ⟨8 * (0x000A0000) + 24, 8, .ro, 0, .por⟩
/-- R519: EL_STAT.COUNT, bits [21:16]. -/
def EL_STAT_COUNT : Field := ⟨8 * (0x000A0000) + 16, 6, .ro, 0, .por⟩
/-- R519: EL_STAT.NEXTSEQ, bits [15:0]. -/
def EL_STAT_NEXTSEQ : Field := ⟨8 * (0x000A0000) + 0, 16, .ro, 0, .por⟩
/-- R519: EL_CTRL.CLR, bits [31:31]. -/
def EL_CTRL_CLR : Field := ⟨8 * (0x000A0004) + 31, 1, .wo, 0, .por⟩
/-- R519: EL_ESC.WIN, bits [15:0]. -/
def EL_ESC_WIN : Field := ⟨8 * (0x000A0008) + 0, 16, .rw, 100, .por⟩
/-- R519: EL_SEU.COUNT, bits [31:0]. -/
def EL_SEU_COUNT (i : Nat) : Field := ⟨8 * (0x000A0040 + i * 4) + 0, 32, .ro, 0, .por⟩
/-- R519: EL_POIS.COUNT, bits [31:0]. -/
def EL_POIS_COUNT : Field := ⟨8 * (0x000A0060) + 0, 32, .ro, 0, .por⟩
/-- R505: EL_ENTRY0.SEQ, bits [31:16]. -/
def EL_ENTRY0_SEQ (i : Nat) : Field := ⟨8 * (0x000A0100 + i * 0x10) + 16, 16, .ro, 0, .por⟩
/-- R505: EL_ENTRY0.SEV, bits [15:14]. -/
def EL_ENTRY0_SEV (i : Nat) : Field := ⟨8 * (0x000A0100 + i * 0x10) + 14, 2, .ro, 0, .por⟩
/-- R505: EL_ENTRY0.SOURCE, bits [13:8]. -/
def EL_ENTRY0_SOURCE (i : Nat) : Field := ⟨8 * (0x000A0100 + i * 0x10) + 8, 6, .ro, 0, .por⟩
/-- R505: EL_ENTRY0.CODE, bits [7:0]. -/
def EL_ENTRY0_CODE (i : Nat) : Field := ⟨8 * (0x000A0100 + i * 0x10) + 0, 8, .ro, 0, .por⟩
/-- R505: EL_ENTRY1.UNIT, bits [31:22]. -/
def EL_ENTRY1_UNIT (i : Nat) : Field := ⟨8 * (0x000A0104 + i * 0x10) + 22, 10, .ro, 0, .por⟩
/-- R505: EL_ENTRY1.INFO, bits [21:0]. -/
def EL_ENTRY1_INFO (i : Nat) : Field := ⟨8 * (0x000A0104 + i * 0x10) + 0, 22, .ro, 0, .por⟩
/-- R505: EL_ENTRY2.SECS, bits [31:0]. -/
def EL_ENTRY2_SECS (i : Nat) : Field := ⟨8 * (0x000A0108 + i * 0x10) + 0, 32, .ro, 0, .por⟩
/-- R505: EL_ENTRY3.NEST, bits [31:31]. -/
def EL_ENTRY3_NEST (i : Nat) : Field := ⟨8 * (0x000A010C + i * 0x10) + 31, 1, .ro, 0, .por⟩
/-- R505: EL_ENTRY3.ESC, bits [30:30]. -/
def EL_ENTRY3_ESC (i : Nat) : Field := ⟨8 * (0x000A010C + i * 0x10) + 30, 1, .ro, 0, .por⟩
/-- R505: EL_ENTRY3.NS, bits [29:0]. -/
def EL_ENTRY3_NS (i : Nat) : Field := ⟨8 * (0x000A010C + i * 0x10) + 0, 30, .ro, 0, .por⟩
/-- R519: LL_CTRL.COMMIT, bits [31:31]. -/
def LL_CTRL_COMMIT : Field := ⟨8 * (0x000A0400) + 31, 1, .w1s, 0, .resetN⟩
/-- R519: LL_STAT.PEND, bits [31:31]. -/
def LL_STAT_PEND : Field := ⟨8 * (0x000A0404) + 31, 1, .ro, 0, .resetN⟩
/-- R519: LL_STAT.BUSY, bits [30:30]. -/
def LL_STAT_BUSY : Field := ⟨8 * (0x000A0404) + 30, 1, .ro, 0, .resetN⟩
/-- R519: LL_STAT.BAD, bits [29:29]. -/
def LL_STAT_BAD : Field := ⟨8 * (0x000A0404) + 29, 1, .w1c, 0, .resetN⟩
/-- R519: LL_STAT.HALF, bits [28:28]. -/
def LL_STAT_HALF : Field := ⟨8 * (0x000A0404) + 28, 1, .ro, 0, .resetN⟩
/-- R519: LL_STAT.HPASS, bits [27:27]. -/
def LL_STAT_HPASS : Field := ⟨8 * (0x000A0404) + 27, 1, .ro, 0, .resetN⟩
/-- R519: LL_STAT.VHOLD, bits [15:0]. -/
def LL_STAT_VHOLD : Field := ⟨8 * (0x000A0404) + 0, 16, .ro, 0, .resetN⟩

end Reg

/-- One row of the register map: `n1` by `n2` registers of `words` 32-bit words, the first at `base`, at strides
`s1` and `s2`; the fields of one register, given its two indices. -/
structure RegRow where
  base   : Nat
  n1     : Nat
  s1     : Nat
  n2     : Nat
  s2     : Nat
  words  : Nat
  fields : Nat → Nat → List Field

/-- The register rows of 02_pixel_matrix.md. -/
def regRowsPixelMatrix : List RegRow := [
  ⟨0x4000C400, 1024, 0x10000, 64, 0x4, 1, fun a b => [Reg.PIXCFG_TRIM a (2 * b + 0), Reg.PIXCFG_GAIN a (2 * b + 0), Reg.PIXCFG_MASK a (2 * b + 0), Reg.PIXCFG_TPEN a (2 * b + 0), Reg.PIXCFG_LCEN a (2 * b + 0), Reg.PIXCFG_AOFF a (2 * b + 0), Reg.PIXCFG_TRIM a (2 * b + 1), Reg.PIXCFG_GAIN a (2 * b + 1), Reg.PIXCFG_MASK a (2 * b + 1), Reg.PIXCFG_TPEN a (2 * b + 1), Reg.PIXCFG_LCEN a (2 * b + 1), Reg.PIXCFG_AOFF a (2 * b + 1)]⟩,
  ⟨0x00028000, 8, 0x100, 1, 0x4, 1, fun a _ => [Reg.STRIPE_THR_THR a]⟩,
  ⟨0x00028004, 8, 0x100, 1, 0x4, 1, fun a _ => [Reg.TP_AMP_AMP a]⟩,
  ⟨0x00028008, 8, 0x100, 1, 0x4, 1, fun a _ => [Reg.TP_CTRL_FIRE a, Reg.TP_CTRL_PERIOD a, Reg.TP_CTRL_COUNT a]⟩,
  ⟨0x0002800C, 8, 0x100, 1, 0x4, 1, fun a _ => [Reg.CFG_STAT_CLR a, Reg.CFG_STAT_REPAIRS a, Reg.CFG_STAT_PENDING a]⟩,
  ⟨0x00028010, 8, 0x100, 4, 0x4, 1, fun a b => [Reg.FSUM_SEL_SEL a b]⟩,
  ⟨0x00028020, 8, 0x100, 1, 0x4, 1, fun a _ => [Reg.STRIPE_STATE_BIAS a]⟩,
  ⟨0x00028024, 8, 0x100, 1, 0x4, 1, fun a _ => [Reg.TP_START_TICK_TICK a]⟩,
  ⟨0x00028800, 1, 0x4, 1, 0x4, 1, fun _ _ => [Reg.ANA_GLOBAL_FSUM_ATT, Reg.ANA_GLOBAL_POL]⟩,
  ⟨0x00028804, 1, 0x4, 1, 0x4, 1, fun _ _ => [Reg.FSUM_CTRL_COMMIT]⟩,
  ⟨0x00028808, 1, 0x4, 1, 0x4, 1, fun _ _ => [Reg.FSUM_COMMIT_TICK_TICK]⟩]

/-- The register rows of 03_frets_and_edges.md. -/
def regRowsFretsAndEdges : List RegRow := [
  ⟨0x4000D000, 1024, 0x10000, 1, 0x4, 1, fun a _ => [Reg.FCAL_CTRL_AGE_LIM a, Reg.FCAL_CTRL_COMMIT a, Reg.FCAL_CTRL_BCLR a, Reg.FCAL_CTRL_PIN a, Reg.FCAL_CTRL_PINEN a, Reg.FCAL_CTRL_QEN a, Reg.FCAL_CTRL_MODE a]⟩,
  ⟨0x4000D004, 1024, 0x10000, 1, 0x4, 1, fun a _ => [Reg.FCAL_STAT_STALE a, Reg.FCAL_STAT_FAULT a, Reg.FCAL_STAT_QBUSY a, Reg.FCAL_STAT_REJ a]⟩,
  ⟨0x4000D008, 1024, 0x10000, 1, 0x4, 1, fun a _ => [Reg.HOLD_CNT_TAKEN a]⟩,
  ⟨0x4000D020, 1024, 0x10000, 8, 0x4, 1, fun a b => [Reg.FT_INFO_PROG a b, Reg.FT_INFO_AGE a b]⟩,
  ⟨0x4000D040, 1024, 0x10000, 8, 0x4, 1, fun a b => [Reg.FT_OFS_ACTIVE a b, Reg.FT_OFS_SHADOW a b]⟩,
  ⟨0x4000D100, 1024, 0x10000, 64, 0x4, 1, fun a b => [Reg.BUSY_CNT_COUNT a (2 * b + 0), Reg.BUSY_CNT_COUNT a (2 * b + 1)]⟩,
  ⟨0x00040000, 1, 0x4, 1, 0x4, 1, fun _ _ => [Reg.EDGE_CTRL_AGE_LIM, Reg.EDGE_CTRL_COMMIT, Reg.EDGE_CTRL_CLR, Reg.EDGE_CTRL_QEN, Reg.EDGE_CTRL_MODE]⟩,
  ⟨0x00040004, 1, 0x4, 1, 0x4, 1, fun _ _ => [Reg.EDGE_STAT_STALE, Reg.EDGE_STAT_FAULT, Reg.EDGE_STAT_QBUSY, Reg.EDGE_STAT_GATE, Reg.EDGE_STAT_REJ]⟩,
  ⟨0x00040020, 8, 0x4, 1, 0x4, 1, fun a _ => [Reg.FT_INFO_E_PROG a, Reg.FT_INFO_E_AGE a]⟩,
  ⟨0x00040040, 8, 0x4, 1, 0x4, 1, fun a _ => [Reg.FT_OFS_E_ACTIVE a, Reg.FT_OFS_E_SHADOW a]⟩,
  ⟨0x00040100, 4, 0x20, 1, 0x4, 1, fun a _ => [Reg.TIN_CFG_EN a, Reg.TIN_CFG_PRESC a, Reg.TIN_CFG_EPOL a, Reg.TIN_CFG_MODE a, Reg.TIN_CFG_STOP a, Reg.TIN_CFG_GSEL a, Reg.TIN_CFG_GPOL a, Reg.TIN_CFG_SWG a, Reg.TIN_CFG_SDIV a]⟩,
  ⟨0x00040104, 4, 0x20, 1, 0x4, 1, fun a _ => [Reg.TIN_OFS_OFS a]⟩,
  ⟨0x00040108, 4, 0x20, 1, 0x4, 1, fun a _ => [Reg.TIN_STAT_BUSY a, Reg.TIN_STAT_RESTART a]⟩,
  ⟨0x00040110, 4, 0x20, 1, 0x8, 2, fun a _ => [Reg.TIN_CNT_COUNT a]⟩]

/-- The register rows of 04_region_engines.md. -/
def regRowsRegionEngines : List RegRow := [
  ⟨0x4000C000, 1024, 0x10000, 1, 0x4, 1, fun a _ => [Reg.CORE_CTRL_AUTO a, Reg.CORE_CTRL_LEVEL a, Reg.CORE_CTRL_VALID a, Reg.CORE_CTRL_HALT a, Reg.CORE_CTRL_GO a]⟩,
  ⟨0x4000C004, 1024, 0x10000, 1, 0x4, 1, fun a _ => [Reg.CORE_STAT_EXC a, Reg.CORE_STAT_NEST a, Reg.CORE_STAT_WDG a, Reg.CORE_STAT_MOVR a, Reg.CORE_STAT_OQB a, Reg.CORE_STAT_HQB a, Reg.CORE_STAT_SERVE2 a, Reg.CORE_STAT_STATE a]⟩,
  ⟨0x4000C008, 1024, 0x10000, 1, 0x4, 1, fun a _ => [Reg.ENTRY_IDX a]⟩,
  ⟨0x4000C00C, 1024, 0x10000, 1, 0x4, 1, fun a _ => [Reg.EXC_VEC_IDX a]⟩,
  ⟨0x4000C010, 1024, 0x10000, 1, 0x4, 1, fun a _ => [Reg.IDLE_CYC_CYC a]⟩,
  ⟨0x4000C014, 1024, 0x10000, 1, 0x4, 1, fun a _ => [Reg.WDOG_EN a, Reg.WDOG_PERIOD a]⟩,
  ⟨0x4000C018, 1024, 0x10000, 1, 0x4, 1, fun a _ => [Reg.WDOG_KICK_KICK a]⟩,
  ⟨0x4000C020, 1024, 0x10000, 2, 0x8, 1, fun a b => [Reg.TMR_CTRL_EN a b, Reg.TMR_CTRL_PERIODIC a b]⟩,
  ⟨0x4000C024, 1024, 0x10000, 2, 0x8, 1, fun a b => [Reg.TMR_PERIOD_PERIOD a b]⟩,
  ⟨0x4000C030, 1024, 0x10000, 1, 0x4, 1, fun a _ => [Reg.EVT_EN_EN a]⟩,
  ⟨0x4000C040, 1024, 0x10000, 1, 0x4, 1, fun a _ => [Reg.EXC_CAUSE_CODE a]⟩,
  ⟨0x4000C044, 1024, 0x10000, 1, 0x4, 1, fun a _ => [Reg.EXC_PC_IDX a]⟩,
  ⟨0x4000C048, 1024, 0x10000, 1, 0x4, 1, fun a _ => [Reg.EXC_ADDR_OFS a]⟩,
  ⟨0x4000C050, 1024, 0x10000, 1, 0x8, 2, fun a _ => [Reg.MBOX_IN_MSG a]⟩,
  ⟨0x4000C058, 1024, 0x10000, 1, 0x4, 1, fun a _ => [Reg.MBOX_STAT_EVQ a, Reg.MBOX_STAT_IN a]⟩,
  ⟨0x4000C060, 1024, 0x10000, 1, 0x4, 1, fun a _ => [Reg.OUTQ_STAT_OCC a]⟩,
  ⟨0x4000C064, 1024, 0x10000, 1, 0x4, 1, fun a _ => [Reg.OUTQ_BALLAST_COUNT a]⟩,
  ⟨0x4000C070, 1024, 0x10000, 1, 0x4, 1, fun a _ => [Reg.ECC_STAT_UNC a, Reg.ECC_STAT_CORR a]⟩,
  ⟨0x4000C080, 1024, 0x10000, 1, 0x4, 1, fun a _ => [Reg.BIST_START a, Reg.BIST_DONE a, Reg.BIST_PASS a, Reg.BIST_FAIL a]⟩,
  ⟨0x4000C600, 1024, 0x10000, 1, 0x4, 1, fun a _ => [Reg.HQ_CTRL_LEVEL a]⟩,
  ⟨0x4000C604, 1024, 0x10000, 1, 0x4, 1, fun a _ => [Reg.HQ_STAT_PERR a, Reg.HQ_STAT_LVL a, Reg.HQ_STAT_OCC a]⟩,
  ⟨0x4000C608, 1024, 0x10000, 1, 0x4, 1, fun a _ => [Reg.HQ_BALLAST_COUNT a]⟩,
  ⟨0x4000C60C, 1024, 0x10000, 1, 0x4, 1, fun a _ => [Reg.MARK_SUB_CH a]⟩,
  ⟨0x4000C610, 1024, 0x10000, 1, 0x8, 2, fun a _ => [Reg.SAFE_TICK_TICK a]⟩]

/-- The register rows of 04_region_engines.md. -/
def regRowsRegionEngines2 : List RegRow := [
  ⟨0x4000C618, 1024, 0x10000, 1, 0x8, 2, fun a _ => [Reg.STREAM_MASK_MASK a]⟩,
  ⟨0x4000C620, 1024, 0x10000, 1, 0x4, 1, fun a _ => [Reg.ADOPT_CTRL_TMO a, Reg.ADOPT_CTRL_RETURN a, Reg.ADOPT_CTRL_ADOPT a]⟩,
  ⟨0x4000C624, 1024, 0x10000, 1, 0x4, 1, fun a _ => [Reg.ADOPT_STAT_EPOCH a, Reg.ADOPT_STAT_CAUSE a, Reg.ADOPT_STAT_STATE a]⟩,
  ⟨0x4000C628, 1024, 0x10000, 1, 0x4, 1, fun a _ => [Reg.GAP_CNT_COUNT a]⟩]

/-- The register rows of 06_standard_reductions.md. -/
def regRowsStandardReductions : List RegRow := [
  ⟨0x4000C500, 1024, 0x10000, 1, 0x4, 1, fun a _ => [Reg.PB_STAT_SEQ a, Reg.PB_STAT_CODE a, Reg.PB_STAT_FSLOT a, Reg.PB_STAT_MERGE a, Reg.PB_STAT_RUN a, Reg.PB_STAT_FOOT a]⟩,
  ⟨0x4000C504, 1024, 0x10000, 3, 0x4, 1, fun _ _ => []⟩,
  ⟨0x4000C550, 1024, 0x10000, 12, 0x4, 1, fun _ _ => []⟩,
  ⟨0x4000C510, 1024, 0x10000, 4, 0x10, 1, fun a b => [Reg.SLOT_CFG_EN a b, Reg.SLOT_CFG_NUM a b, Reg.SLOT_CFG_STREAM a b, Reg.SLOT_CFG_WALK a b, Reg.SLOT_CFG_W a b, Reg.SLOT_CFG_ZS a b, Reg.SLOT_CFG_CH a b]⟩,
  ⟨0x4000C514, 1024, 0x10000, 4, 0x10, 1, fun a b => [Reg.SLOT_P1_P a b]⟩,
  ⟨0x4000C518, 1024, 0x10000, 4, 0x10, 1, fun a b => [Reg.SLOT_P2_P a b]⟩,
  ⟨0x4000C51C, 1024, 0x10000, 4, 0x10, 1, fun a b => [Reg.SLOT_P3_P a b]⟩,
  ⟨0x4000C580, 1024, 0x10000, 32, 0x4, 1, fun a b => [Reg.PB_WALK_E a (2 * b + 0), Reg.PB_WALK_E a (2 * b + 1)]⟩]

/-- The register rows of 07_prompt_sum_and_triggers.md. -/
def regRowsPromptSumAndTriggers : List RegRow := [
  ⟨0x00050000, 1, 0x4, 1, 0x4, 1, fun _ _ => [Reg.WAVE_CTRL_SCAL, Reg.WAVE_CTRL_RETRY, Reg.WAVE_CTRL_EN, Reg.WAVE_CTRL_CALMODE, Reg.WAVE_CTRL_INSEL, Reg.WAVE_CTRL_MODE]⟩,
  ⟨0x00050004, 1, 0x4, 1, 0x4, 1, fun _ _ => [Reg.WAVE_STAT_INIT, Reg.WAVE_STAT_DEG, Reg.WAVE_STAT_FAIL, Reg.WAVE_STAT_ROLE_T, Reg.WAVE_STAT_ROLE_P1, Reg.WAVE_STAT_ROLE_P0, Reg.WAVE_STAT_TPH, Reg.WAVE_STAT_CLIP, Reg.WAVE_STAT_REJ]⟩,
  ⟨0x00050008, 1, 0x4, 1, 0x4, 1, fun _ _ => [Reg.WAVE_ROT_COUNT]⟩,
  ⟨0x0005000C, 1, 0x4, 1, 0x4, 1, fun _ _ => [Reg.WAVE_OVR_COUNT]⟩,
  ⟨0x00050040, 3, 0x8, 1, 0x4, 1, fun a _ => [Reg.CORR_G_GAIN a, Reg.CORR_G_OFS a]⟩,
  ⟨0x00050044, 3, 0x8, 1, 0x4, 1, fun a _ => [Reg.CORR_S_SKEW a]⟩,
  ⟨0x00050400, 3, 0x40, 16, 0x4, 1, fun a b => [Reg.INL_E0 a b, Reg.INL_E1 a b, Reg.INL_E2 a b, Reg.INL_E3 a b]⟩,
  ⟨0x00050100, 8, 0x20, 1, 0x4, 1, fun a _ => [Reg.TRG_CFG_EN a, Reg.TRG_CFG_SRC a, Reg.TRG_CFG_COND a, Reg.TRG_CFG_DIR a, Reg.TRG_CFG_POL a, Reg.TRG_CFG_INP a, Reg.TRG_CFG_SEL a, Reg.TRG_CFG_HYST a]⟩,
  ⟨0x00050104, 8, 0x20, 1, 0x4, 1, fun a _ => [Reg.TRG_LVL_B a, Reg.TRG_LVL_A a]⟩,
  ⟨0x00050108, 8, 0x20, 1, 0x4, 1, fun a _ => [Reg.TRG_T1_T a]⟩,
  ⟨0x0005010C, 8, 0x20, 1, 0x4, 1, fun a _ => [Reg.TRG_T2_T a]⟩,
  ⟨0x00050110, 8, 0x20, 1, 0x4, 1, fun a _ => [Reg.TRG_HOLD_HOLDOFF a]⟩,
  ⟨0x00050114, 8, 0x20, 1, 0x4, 1, fun a _ => [Reg.TRG_CNT_SUP a, Reg.TRG_CNT_FIRED a]⟩,
  ⟨0x00050118, 8, 0x20, 1, 0x8, 2, fun a _ => [Reg.TRG_STREAMS_MASK a]⟩,
  ⟨0x00050200, 1, 0x4, 1, 0x4, 1, fun _ _ => [Reg.TRG_CMD_FIRE]⟩,
  ⟨0x00050204, 1, 0x4, 1, 0x4, 1, fun _ _ => [Reg.TOUT_CFG_EN, Reg.TOUT_CFG_WIDTH, Reg.TOUT_CFG_MASK]⟩,
  ⟨0x00050208, 1, 0x4, 1, 0x4, 1, fun _ _ => [Reg.TOUT_MERGE_COUNT]⟩,
  ⟨0x00050300, 4, 0x10, 1, 0x4, 1, fun a _ => [Reg.WR_CFG_EN a, Reg.WR_CFG_KIND a, Reg.WR_CFG_INPUT a, Reg.WR_CFG_STREAM a, Reg.WR_CFG_LOG2N a, Reg.WR_CFG_CH a]⟩,
  ⟨0x00050304, 4, 0x10, 1, 0x4, 1, fun a _ => [Reg.WR_WIN_PRE a, Reg.WR_WIN_POST a]⟩]

/-- The register rows of 08_bridle.md. -/
def regRowsBridle : List RegRow := [
  ⟨0x00120000, 2, 0x80000, 1, 0x4, 1, fun a _ => [Reg.BR_CTRL_COMMIT a, Reg.BR_CTRL_VIEW a]⟩,
  ⟨0x00120004, 2, 0x80000, 1, 0x4, 1, fun a _ => [Reg.BR_STAT_BUSY a, Reg.BR_STAT_OVER a, Reg.BR_STAT_DRIFT a, Reg.BR_STAT_CODE a, Reg.BR_STAT_SEQ a]⟩,
  ⟨0x00120008, 2, 0x80000, 1, 0x4, 1, fun a _ => [Reg.BR_FAIL_IDX a]⟩,
  ⟨0x0012000C, 2, 0x80000, 1, 0x4, 1, fun a _ => [Reg.BR_PCAP_CAP a]⟩,
  ⟨0x00120010, 2, 0x80000, 1, 0x4, 1, fun a _ => [Reg.BR_PWR_WC_P a]⟩,
  ⟨0x00120014, 2, 0x80000, 1, 0x4, 1, fun a _ => [Reg.BR_SPILL_W_RATE a]⟩,
  ⟨0x00120018, 2, 0x80000, 1, 0x4, 1, fun a _ => [Reg.BR_SPILL_CAP_CAP a]⟩,
  ⟨0x00120020, 2, 0x80000, 1, 0x8, 2, fun a _ => [Reg.BR_LANES_UP a]⟩,
  ⟨0x00120028, 2, 0x80000, 1, 0x8, 2, fun a _ => [Reg.BR_COMMIT_TICK_T a]⟩,
  ⟨0x00120100, 2, 0x80000, 64, 0x10, 1, fun a b => [Reg.BR_SUS_SUS a b]⟩,
  ⟨0x00120104, 2, 0x80000, 64, 0x10, 1, fun a b => [Reg.BR_BUR_BUR a b]⟩,
  ⟨0x00120108, 2, 0x80000, 64, 0x10, 1, fun a b => [Reg.BR_BDUR_BDUR a b]⟩,
  ⟨0x0012010C, 2, 0x80000, 64, 0x10, 1, fun a b => [Reg.BR_TOL_TOL a b]⟩,
  ⟨0x00120800, 2, 0x80000, 64, 0x8, 2, fun a b => [Reg.BR_BAL_COUNT a b]⟩,
  ⟨0x00120C00, 2, 0x80000, 36, 0x4, 1, fun a b => [Reg.BRPWR_BASE a b, Reg.BRPWR_ACT a b]⟩,
  ⟨0x00124000, 2, 0x80000, 1024, 0x10, 2, fun a b => [Reg.BR_MASK_MASK a b]⟩,
  ⟨0x00124008, 2, 0x80000, 1024, 0x10, 1, fun a b => [Reg.BR_REGION_HRATE a b, Reg.BR_REGION_RREC a b, Reg.BR_REGION_CYC a b]⟩,
  ⟨0x0012400C, 2, 0x80000, 1024, 0x10, 1, fun _ _ => []⟩]

/-- The register rows of 09_stream_and_packing.md. -/
def regRowsStreamAndPacking : List RegRow := [
  ⟨0x00130000, 2, 0x80000, 64, 0x20, 1, fun a b => [Reg.ST_CTRL_OPEN a b, Reg.ST_CTRL_CLOSE a b, Reg.ST_CTRL_FLUSH a b, Reg.ST_CTRL_STATE a b]⟩,
  ⟨0x00130004, 2, 0x80000, 64, 0x20, 1, fun a b => [Reg.ST_CFG_GROUP a b, Reg.ST_CFG_FLT a b, Reg.ST_CFG_LSIZE a b]⟩,
  ⟨0x00130008, 2, 0x80000, 64, 0x20, 1, fun a b => [Reg.ST_BSEQ_NEXT a b]⟩,
  ⟨0x0013000C, 2, 0x80000, 64, 0x20, 1, fun a b => [Reg.ST_DISC_COUNT a b]⟩,
  ⟨0x00130010, 2, 0x80000, 64, 0x20, 2, fun a b => [Reg.ST_BLK_COUNT a b]⟩,
  ⟨0x00130018, 2, 0x80000, 64, 0x20, 2, fun a b => [Reg.ST_RAW_COUNT a b]⟩,
  ⟨0x00130800, 2, 0x80000, 16, 0x10, 1, fun a b => [Reg.OQ_WM_HWM a b, Reg.OQ_WM_LWM a b]⟩,
  ⟨0x00130804, 2, 0x80000, 16, 0x10, 1, fun a b => [Reg.OQ_STAT_HOLD a b, Reg.OQ_STAT_LEVEL a b]⟩,
  ⟨0x00130900, 2, 0x80000, 2, 0x10, 1, fun a b => [Reg.SP_CTRL_EN a b, Reg.SP_CTRL_ACQ a b, Reg.SP_CTRL_FORCE a b, Reg.SP_CTRL_MINLOW a b, Reg.SP_CTRL_GMASK a b]⟩,
  ⟨0x00130908, 2, 0x80000, 2, 0x10, 2, fun a b => [Reg.SP_STREAMS_MASK a b]⟩,
  ⟨0x00130A00, 2, 0x80000, 1, 0x4, 1, fun a _ => [Reg.SRC_ROUTE_S0 a, Reg.SRC_ROUTE_EN0 a, Reg.SRC_ROUTE_S1 a, Reg.SRC_ROUTE_EN1 a, Reg.SRC_ROUTE_S2 a, Reg.SRC_ROUTE_EN2 a, Reg.SRC_ROUTE_S3 a, Reg.SRC_ROUTE_EN3 a]⟩,
  ⟨0x00130A04, 2, 0x80000, 1, 0x4, 1, fun a _ => [Reg.SRC_ROUTE_MON_EN a, Reg.SRC_ROUTE_MON_STREAM a]⟩]

/-- The register rows of 10_spill_store.md. -/
def regRowsSpillStore : List RegRow := [
  ⟨0x00380000, 1, 0x4, 1, 0x4, 1, fun _ _ => [Reg.MC_CFG_EN, Reg.MC_CFG_SRSTBY, Reg.MC_CFG_RATE, Reg.MC_CFG_CAPC, Reg.MC_CFG_CHMASK]⟩,
  ⟨0x00380004, 1, 0x4, 1, 0x4, 1, fun _ _ => [Reg.MC_STAT_READY, Reg.MC_STAT_FAULT, Reg.MC_STAT_CHUP, Reg.MC_STAT_RETRAIN]⟩,
  ⟨0x00380008, 1, 0x4, 1, 0x4, 1, fun _ _ => [Reg.MC_WLIM_WLIM]⟩,
  ⟨0x00380010, 1, 0x4, 1, 0x4, 1, fun _ _ => [Reg.MC_LOST_COUNT]⟩,
  ⟨0x00380014, 1, 0x4, 1, 0x4, 1, fun _ _ => [Reg.MC_POIS_COUNT]⟩,
  ⟨0x00380018, 1, 0x4, 1, 0x4, 1, fun _ _ => [Reg.MC_TMO_COUNT]⟩,
  ⟨0x0038001C, 1, 0x4, 1, 0x4, 1, fun _ _ => [Reg.MC_TAGS_CLR, Reg.MC_TAGS_PEAK, Reg.MC_TAGS_NOW]⟩,
  ⟨0x00140000, 2, 0x80000, 1, 0x4, 1, fun a _ => [Reg.SPL_STAT_EMPTY a]⟩,
  ⟨0x00140008, 2, 0x80000, 1, 0x8, 2, fun a _ => [Reg.SPL_HELD_BYTES a]⟩,
  ⟨0x00140010, 2, 0x80000, 1, 0x4, 1, fun a _ => [Reg.SPL_DROP_COUNT a]⟩,
  ⟨0x00140100, 2, 0x80000, 16, 0x10, 1, fun a b => [Reg.SPL_RWIN_US a b]⟩,
  ⟨0x00140104, 2, 0x80000, 16, 0x10, 1, fun a b => [Reg.SPL_AGE_US a b]⟩,
  ⟨0x00140108, 2, 0x80000, 16, 0x10, 1, fun a b => [Reg.SPL_BLK_COUNT a b]⟩]

/-- The register rows of 11_lanes.md. -/
def regRowsLanes : List RegRow := [
  ⟨0x00300000, 1, 0x4, 1, 0x4, 1, fun _ _ => [Reg.LN_GCTRL_RETRY, Reg.LN_GCTRL_WH, Reg.LN_GCTRL_WW, Reg.LN_GCTRL_HRTMO, Reg.LN_GCTRL_SPARE_AUTO]⟩,
  ⟨0x00300004, 1, 0x4, 1, 0x4, 1, fun _ _ => [Reg.LN_GSTAT_TBLBAD, Reg.LN_GSTAT_TBL]⟩,
  ⟨0x00301000, 36, 0x20, 1, 0x4, 1, fun a _ => [Reg.LN_TXCTRL_EN a, Reg.LN_TXCTRL_AUTO a, Reg.LN_TXCTRL_CAND a, Reg.LN_TXCTRL_SLIP a]⟩,
  ⟨0x00301004, 36, 0x20, 1, 0x4, 1, fun a _ => [Reg.LN_TXSTAT_HSTATE a, Reg.LN_TXSTAT_SUB a, Reg.LN_TXSTAT_LOGL a, Reg.LN_TXSTAT_CSEL a, Reg.LN_TXSTAT_DOWNS a]⟩,
  ⟨0x00301008, 36, 0x20, 1, 0x8, 2, fun a _ => [Reg.LN_HREP_REP a]⟩,
  ⟨0x00301010, 36, 0x20, 1, 0x4, 1, fun a _ => [Reg.LN_HERR_SUM a]⟩,
  ⟨0x00302000, 4, 0x20, 1, 0x4, 1, fun a _ => [Reg.LN_RXCTRL_EN a, Reg.LN_RXCTRL_RETRAIN a]⟩,
  ⟨0x00302004, 4, 0x20, 1, 0x4, 1, fun a _ => [Reg.LN_RXSTAT_STATE a, Reg.LN_RXSTAT_CSEL a, Reg.LN_RXSTAT_FOM a]⟩,
  ⟨0x00302008, 4, 0x20, 1, 0x4, 1, fun a _ => [Reg.LN_RXLL_COUNT a]⟩,
  ⟨0x00302100, 1, 0x4, 1, 0x4, 1, fun _ _ => [Reg.RX_CFG_RXW]⟩,
  ⟨0x00303000, 16, 0x4, 1, 0x4, 1, fun a _ => [Reg.LG_CFG_EN a, Reg.LG_CFG_WCODE a, Reg.LG_CFG_FIRST a]⟩,
  ⟨0x00303100, 32, 0x4, 1, 0x4, 1, fun a _ => [Reg.LMAP_SLOT a]⟩]

/-- The register rows of 12_shared_time.md. -/
def regRowsSharedTime : List RegRow := [
  ⟨0x00030000, 1, 0x4, 1, 0x4, 1, fun _ _ => [Reg.TU_CTRL_SNAP, Reg.TU_CTRL_SET, Reg.TU_CTRL_SERVO_EN, Reg.TU_CTRL_STEPEN, Reg.TU_CTRL_AUTOSW, Reg.TU_CTRL_HOLDON, Reg.TU_CTRL_REFSEL]⟩,
  ⟨0x00030004, 1, 0x4, 1, 0x4, 1, fun _ _ => [Reg.TU_STAT_PLLLOCK, Reg.TU_STAT_HOLD, Reg.TU_STAT_WARN, Reg.TU_STAT_FRANGE, Reg.TU_STAT_ACTIVE, Reg.TU_STAT_SERVO, Reg.TU_STAT_PRESENT, Reg.TU_STAT_BAD]⟩,
  ⟨0x00030008, 1, 0x4, 1, 0x4, 1, fun _ _ => [Reg.TU_THR_T, Reg.TU_THR_W]⟩,
  ⟨0x0003000C, 1, 0x4, 1, 0x4, 1, fun _ _ => [Reg.TU_ADDEND_ADDEND]⟩,
  ⟨0x00030010, 1, 0x8, 1, 0x8, 2, fun _ _ => [Reg.TU_SETV_SEC_SEC]⟩,
  ⟨0x00030018, 1, 0x4, 1, 0x4, 1, fun _ _ => [Reg.TU_SETV_NS_NS]⟩,
  ⟨0x00030020, 1, 0x8, 1, 0x8, 2, fun _ _ => [Reg.TU_SNAP_TICK_TICK]⟩,
  ⟨0x00030028, 1, 0x8, 1, 0x8, 2, fun _ _ => [Reg.TU_SNAP_SEC_SEC]⟩,
  ⟨0x00030030, 1, 0x4, 1, 0x4, 1, fun _ _ => [Reg.TU_SNAP_NS_NS]⟩,
  ⟨0x00030034, 1, 0x4, 1, 0x4, 1, fun _ _ => [Reg.TU_SNAP_FRAC_FRAC]⟩,
  ⟨0x00030040, 1, 0x4, 1, 0x4, 1, fun _ _ => [Reg.TT_CFG_EN, Reg.TT_CFG_TTDIV, Reg.TT_CFG_TXSLOT, Reg.TT_CFG_RXLANE, Reg.TT_CFG_MTO]⟩,
  ⟨0x00030044, 1, 0x4, 1, 0x4, 1, fun _ _ => [Reg.TT_SERVO_KP, Reg.TT_SERVO_KI, Reg.TT_SERVO_LOCKTHR, Reg.TT_SERVO_STEPLIM]⟩,
  ⟨0x00030048, 1, 0x4, 1, 0x4, 1, fun _ _ => [Reg.TT_ASYM_ASYM]⟩,
  ⟨0x0003004C, 1, 0x4, 1, 0x4, 1, fun _ _ => [Reg.TT_PINOFS_RXOFS, Reg.TT_PINOFS_TXOFS]⟩,
  ⟨0x00030050, 1, 0x8, 1, 0x8, 2, fun _ _ => [Reg.TT_OFFSET_V]⟩,
  ⟨0x00030058, 1, 0x8, 1, 0x8, 2, fun _ _ => [Reg.TT_DELAY_V]⟩,
  ⟨0x00030060, 1, 0x4, 1, 0x4, 1, fun _ _ => [Reg.TT_CNT_MISS, Reg.TT_CNT_GOOD]⟩,
  ⟨0x00030070, 3, 0x4, 1, 0x4, 1, fun a _ => [Reg.RM_DF_DF a]⟩,
  ⟨0x0003007C, 1, 0x4, 1, 0x4, 1, fun _ _ => [Reg.RM_CNT_SWITCHES, Reg.RM_CNT_HOLDS, Reg.RM_CNT_WARNS, Reg.RM_CNT_UNLOCKS]⟩,
  ⟨0x00030080, 1, 0x4, 1, 0x4, 1, fun _ _ => [Reg.TU_MSUP_COUNT]⟩]

/-- The register rows of 13_tether_and_ownership.md. -/
def regRowsTetherAndOwnership : List RegRow := [
  ⟨0x00080000, 2, 0x20, 1, 0x4, 1, fun a _ => [Reg.TH_CTRL_EN a, Reg.TH_CTRL_POS a]⟩,
  ⟨0x00080004, 2, 0x20, 1, 0x4, 1, fun a _ => [Reg.TH_STAT_LONE a, Reg.TH_STAT_DUP a, Reg.TH_STAT_SYNC a, Reg.TH_STAT_NQ a, Reg.TH_STAT_INQ a]⟩,
  ⟨0x00080008, 2, 0x20, 1, 0x8, 2, fun a _ => [Reg.TH_CNT_BAD a, Reg.TH_CNT_ORPH a, Reg.TH_CNT_RLOST a, Reg.TH_CNT_NDROP a]⟩,
  ⟨0x00000100, 1, 0x4, 1, 0x4, 1, fun _ _ => [Reg.AON_WAKE_SRC, Reg.AON_WAKE_WAKE_EN]⟩,
  ⟨0x00080040, 1, 0x4, 1, 0x4, 1, fun _ _ => [Reg.CC_CFG_EN, Reg.CC_CFG_TXSLOT]⟩,
  ⟨0x00080044, 1, 0x4, 1, 0x4, 1, fun _ _ => [Reg.CC_STAT_BAD, Reg.CC_STAT_DROP]⟩,
  ⟨0x00080080, 1, 0x4, 1, 0x4, 1, fun _ _ => [Reg.OWN_CFG_ELIG, Reg.OWN_CFG_LEASE]⟩,
  ⟨0x00080084, 1, 0x4, 1, 0x4, 1, fun _ _ => [Reg.OWN_STAT_STATE, Reg.OWN_STAT_OWNER, Reg.OWN_STAT_TARGET, Reg.OWN_STAT_LEFT]⟩,
  ⟨0x00080100, 16, 0x10, 1, 0x4, 1, fun a _ => [Reg.PW_LOG0_SEQ a, Reg.PW_LOG0_TAG a]⟩,
  ⟨0x00080104, 16, 0x10, 1, 0x4, 1, fun a _ => [Reg.PW_LOG1_ADDR a]⟩,
  ⟨0x00080108, 16, 0x10, 1, 0x4, 1, fun a _ => [Reg.PW_LOG2_STATUS a, Reg.PW_LOG2_PORT a, Reg.PW_LOG2_SRC a, Reg.PW_LOG2_EPOCH a]⟩,
  ⟨0x0008010C, 16, 0x10, 1, 0x4, 1, fun a _ => [Reg.PW_LOG3_TICK a]⟩,
  ⟨0x00080200, 1, 0x4, 1, 0x4, 1, fun _ _ => [Reg.PW_STAT_CLR, Reg.PW_STAT_OVF, Reg.PW_STAT_NEXT, Reg.PW_STAT_COUNT]⟩]

/-- The register rows of 14_keels_and_failover.md. -/
def regRowsKeelsAndFailover : List RegRow := [
  ⟨0x00000200, 1, 0x4, 1, 0x4, 1, fun _ _ => [Reg.ARB_CTRL_FAILOVER, Reg.ARB_CTRL_RST_STBY, Reg.ARB_CTRL_PREF]⟩,
  ⟨0x00000204, 1, 0x4, 1, 0x4, 1, fun _ _ => [Reg.ARB_STAT_GRANT, Reg.ARB_STAT_RDY_A, Reg.ARB_STAT_RDY_B, Reg.ARB_STAT_PHASE, Reg.ARB_STAT_CAUSE, Reg.ARB_STAT_EPOCH]⟩,
  ⟨0x00000208, 1, 0x4, 1, 0x4, 1, fun _ _ => [Reg.ARB_CNT_FAILOVERS, Reg.ARB_CNT_RESTARTS, Reg.ARB_CNT_STBYRST, Reg.ARB_CNT_LOCKSTEP]⟩,
  ⟨0x00000210, 1, 0x8, 1, 0x8, 2, fun _ _ => [Reg.ARB_LAST_D_T]⟩,
  ⟨0x00000218, 1, 0x8, 1, 0x8, 2, fun _ _ => [Reg.ARB_LAST_G_T]⟩,
  ⟨0x00000220, 1, 0x4, 1, 0x4, 1, fun _ _ => [Reg.ARB_MSGLOST_COUNT]⟩,
  ⟨0x00150000, 2, 0x80000, 1, 0x4, 1, fun a _ => [Reg.KL_STAT_ROLE a, Reg.KL_STAT_READY a, Reg.KL_STAT_MIRBAD a]⟩,
  ⟨0x00150004, 2, 0x80000, 1, 0x4, 1, fun a _ => [Reg.KL_TEST_START a, Reg.KL_TEST_DONE a, Reg.KL_TEST_PASS a, Reg.KL_TEST_FAIL a]⟩,
  ⟨0x00150010, 2, 0x80000, 1, 0x4, 1, fun a _ => [Reg.CD_CTRL_HALT a, Reg.CD_CTRL_GO a, Reg.CD_CTRL_VALID a, Reg.CD_CTRL_HBEN a, Reg.CD_CTRL_CPAGE a, Reg.CD_CTRL_STATE a]⟩,
  ⟨0x00150014, 2, 0x80000, 1, 0x4, 1, fun a _ => [Reg.CD_ENTRY_IDX a]⟩,
  ⟨0x00150018, 2, 0x80000, 1, 0x4, 1, fun a _ => [Reg.CD_VEC_IDX a]⟩,
  ⟨0x00150020, 2, 0x80000, 1, 0x4, 1, fun a _ => [Reg.CD_EVT_EVT a]⟩,
  ⟨0x00150024, 2, 0x80000, 1, 0x4, 1, fun a _ => [Reg.CD_EVT_EN_EN a]⟩,
  ⟨0x00150028, 2, 0x80000, 1, 0x4, 1, fun a _ => [Reg.CD_TMR_PERIOD a]⟩,
  ⟨0x00150030, 2, 0x80000, 1, 0x4, 1, fun a _ => [Reg.KL_MSGLOST_COUNT a]⟩]

/-- The register rows of 15_module_sensors.md. -/
def regRowsModuleSensors : List RegRow := [
  ⟨0x00060000, 1, 0x4, 1, 0x4, 1, fun _ _ => [Reg.MON_RCTRL_EN, Reg.MON_RCTRL_LEN, Reg.MON_RCTRL_PER]⟩,
  ⟨0x00060004, 1, 0x4, 1, 0x4, 1, fun _ _ => [Reg.MON_ICTRL_EN, Reg.MON_ICTRL_SW, Reg.MON_ICTRL_LEN, Reg.MON_ICTRL_WTEN, Reg.MON_ICTRL_DREN, Reg.MON_ICTRL_OTEN, Reg.MON_ICTRL_WTRIG, Reg.MON_ICTRL_OT]⟩,
  ⟨0x00060008, 1, 0x4, 1, 0x4, 1, fun _ _ => [Reg.MON_STAT_IBUSY, Reg.MON_STAT_IPEND, Reg.MON_STAT_IMISS, Reg.MON_STAT_RLATE, Reg.MON_STAT_SLOT]⟩,
  ⟨0x00060040, 32, 0x4, 1, 0x4, 1, fun a _ => [Reg.MON_RSLOT_AVG a, Reg.MON_RSLOT_SETTLE a, Reg.MON_RSLOT_TAG a]⟩,
  ⟨0x000600C0, 4, 0x4, 1, 0x4, 1, fun a _ => [Reg.MON_ISLOT_AVG a, Reg.MON_ISLOT_SETTLE a, Reg.MON_ISLOT_TAG a]⟩,
  ⟨0x00060100, 1, 0x4, 1, 0x4, 1, fun _ _ => [Reg.MON_QCTRL_EN, Reg.MON_QCTRL_CLR]⟩,
  ⟨0x00060104, 1, 0x4, 1, 0x4, 1, fun _ _ => [Reg.MON_QSTAT_PERR, Reg.MON_QSTAT_OVF, Reg.MON_QSTAT_LEVEL]⟩,
  ⟨0x00060108, 1, 0x4, 1, 0x4, 1, fun _ _ => [Reg.MON_QLO_V]⟩,
  ⟨0x0006010C, 1, 0x4, 1, 0x4, 1, fun _ _ => [Reg.MON_QHI_V]⟩,
  ⟨0x00060110, 1, 0x8, 1, 0x8, 2, fun _ _ => [Reg.MON_QEPOCH_V]⟩,
  ⟨0x00060200, 48, 0x4, 1, 0x4, 1, fun a _ => [Reg.MON_LAST_VALID a, Reg.MON_LAST_OOR a, Reg.MON_LAST_VALUE a]⟩,
  ⟨0x00060400, 8, 0x8, 1, 0x4, 1, fun a _ => [Reg.SNS_CFG_CURVE a, Reg.SNS_CFG_WIRE a, Reg.SNS_CFG_ILVL a, Reg.SNS_CFG_GAIN a, Reg.SNS_CFG_FPIN a, Reg.SNS_CFG_CJ a, Reg.SNS_CFG_BIAS a]⟩,
  ⟨0x00060404, 8, 0x8, 1, 0x4, 1, fun a _ => [Reg.SNS_P_HI a, Reg.SNS_P_LO a]⟩,
  ⟨0x00070000, 1, 0x4, 1, 0x4, 1, fun _ _ => [Reg.I2C_CTRL_EN, Reg.I2C_CTRL_SPEED, Reg.I2C_CTRL_PEC]⟩,
  ⟨0x00070004, 1, 0x4, 1, 0x4, 1, fun _ _ => [Reg.I2C_CMD_GO, Reg.I2C_CMD_RSTART, Reg.I2C_CMD_ADDR, Reg.I2C_CMD_RLEN, Reg.I2C_CMD_WLEN]⟩,
  ⟨0x00070008, 1, 0x4, 1, 0x4, 1, fun _ _ => [Reg.I2C_STAT_BUSY, Reg.I2C_STAT_DONE, Reg.I2C_STAT_NACK, Reg.I2C_STAT_ARBLOST, Reg.I2C_STAT_TMO, Reg.I2C_STAT_PECERR, Reg.I2C_STAT_RECOV, Reg.I2C_STAT_STUCK, Reg.I2C_STAT_PULSES, Reg.I2C_STAT_BYTES]⟩,
  ⟨0x00070010, 8, 0x4, 1, 0x4, 1, fun a _ => [Reg.I2C_DATA_B0 a, Reg.I2C_DATA_B1 a, Reg.I2C_DATA_B2 a, Reg.I2C_DATA_B3 a]⟩]

/-- The register rows of 16_power_reset_boot.md. -/
def regRowsPowerResetBoot : List RegRow := [
  ⟨0x00020000, 1, 0x4, 1, 0x4, 1, fun _ _ => [Reg.PR_STATE_BUSY, Reg.PR_STATE_REFUSE, Reg.PR_STATE_TARGET, Reg.PR_STATE_STATE]⟩,
  ⟨0x00020008, 1, 0x8, 1, 0x8, 2, fun _ _ => [Reg.PR_DOM_EN_FIXED, Reg.PR_DOM_EN_EN]⟩,
  ⟨0x00020010, 1, 0x8, 1, 0x8, 2, fun _ _ => [Reg.PR_DOM_PG_PG]⟩,
  ⟨0x00020018, 1, 0x8, 1, 0x8, 2, fun _ _ => [Reg.PR_DOM_FAIL_FAIL]⟩,
  ⟨0x00020020, 1, 0x8, 1, 0x8, 2, fun _ _ => [Reg.PR_LU_LAST_DOMAIN, Reg.PR_LU_LAST_TICK]⟩,
  ⟨0x00020028, 1, 0x4, 1, 0x4, 1, fun _ _ => [Reg.PR_RST_CAUSE_CUT, Reg.PR_RST_CAUSE_DWDOG, Reg.PR_RST_CAUSE_TETHER, Reg.PR_RST_CAUSE_RESETN, Reg.PR_RST_CAUSE_BOR, Reg.PR_RST_CAUSE_POR]⟩,
  ⟨0x00020030, 1, 0x4, 1, 0x4, 1, fun _ _ => [Reg.PR_SRST_GO, Reg.PR_SRST_BLOCK]⟩,
  ⟨0x00020034, 1, 0x4, 1, 0x4, 1, fun _ _ => [Reg.PR_SRST_STAT_BUSY, Reg.PR_SRST_STAT_DONE, Reg.PR_SRST_STAT_TMO, Reg.PR_SRST_STAT_BLOCK]⟩,
  ⟨0x00020038, 1, 0x4, 1, 0x4, 1, fun _ _ => [Reg.PR_QTMO_US]⟩,
  ⟨0x00020040, 1, 0x4, 1, 0x4, 1, fun _ _ => [Reg.PR_DWDOG_EN, Reg.PR_DWDOG_PERIOD]⟩,
  ⟨0x00020044, 1, 0x4, 1, 0x4, 1, fun _ _ => [Reg.PR_DWDOG_KICK_KICK]⟩,
  ⟨0x00020048, 1, 0x4, 1, 0x4, 1, fun _ _ => [Reg.PR_DROOP_THR]⟩,
  ⟨0x00020050, 1, 0x4, 1, 0x4, 1, fun _ _ => [Reg.PR_IRQ_STAT_IRQ]⟩,
  ⟨0x00020054, 1, 0x4, 1, 0x4, 1, fun _ _ => [Reg.PR_IRQ_EN_EN]⟩,
  ⟨0x00010100, 16, 0x4, 1, 0x4, 1, fun a _ => [Reg.OPT_BUF_W a]⟩,
  ⟨0x00010180, 1, 0x4, 1, 0x4, 1, fun _ _ => [Reg.OPT_CTRL_PROG]⟩,
  ⟨0x00010184, 1, 0x4, 1, 0x4, 1, fun _ _ => [Reg.OPT_STAT_C0BAD, Reg.OPT_STAT_C1BAD, Reg.OPT_STAT_DEFAULT, Reg.OPT_STAT_PERR, Reg.OPT_STAT_USED]⟩]

/-- The register rows of 17_security_and_debug.md. -/
def regRowsSecurityAndDebug : List RegRow := [
  ⟨0x00090000, 1, 0x4, 1, 0x4, 1, fun _ _ => [Reg.SEC_STAT_BUSY, Reg.SEC_STAT_RNGFAIL, Reg.SEC_STAT_RECOV, Reg.SEC_STAT_ZPEND, Reg.SEC_STAT_UNSIGNED, Reg.SEC_STAT_MLVL, Reg.SEC_STAT_GRANT, Reg.SEC_STAT_LC]⟩,
  ⟨0x00090004, 1, 0x4, 1, 0x4, 1, fun _ _ => [Reg.SEC_CMD_GO, Reg.SEC_CMD_OP, Reg.SEC_CMD_ARG]⟩,
  ⟨0x00090008, 1, 0x4, 1, 0x4, 1, fun _ _ => [Reg.SEC_LEN_LEN]⟩,
  ⟨0x0009000C, 1, 0x4, 1, 0x4, 1, fun _ _ => [Reg.SEC_RES_CODE, Reg.SEC_RES_WARN, Reg.SEC_RES_DETAIL]⟩,
  ⟨0x00090010, 1, 0x8, 1, 0x8, 2, fun _ _ => [Reg.SEC_DEVID_ID]⟩,
  ⟨0x00090018, 1, 0x4, 1, 0x4, 1, fun _ _ => [Reg.SEC_MINSVN_N]⟩,
  ⟨0x00090020, 4, 0x4, 1, 0x4, 1, fun a _ => [Reg.SEC_NONCE_W a]⟩,
  ⟨0x00090040, 8, 0x4, 1, 0x4, 1, fun a _ => [Reg.SEC_ROOTH_W a]⟩,
  ⟨0x00090080, 16, 0x4, 1, 0x4, 1, fun a _ => [Reg.SEC_IDPUB_W a]⟩,
  ⟨0x00070100, 1, 0x4, 1, 0x4, 1, fun _ _ => [Reg.UART_CFG_RATE]⟩,
  ⟨0x00070104, 1, 0x4, 1, 0x4, 1, fun _ _ => [Reg.UART_STAT_FE, Reg.UART_STAT_BRK, Reg.UART_STAT_ROVR, Reg.UART_STAT_FECNT]⟩,
  ⟨0x00070200, 1, 0x4, 1, 0x4, 1, fun _ _ => [Reg.JTAG_STAT_DENY, Reg.JTAG_STAT_IR]⟩]

/-- The register rows of 18_errors_and_life_log.md. -/
def regRowsErrorsAndLifeLog : List RegRow := [
  ⟨0x000A0000, 1, 0x4, 1, 0x4, 1, fun _ _ => [Reg.EL_STAT_OVF, Reg.EL_STAT_COUNT, Reg.EL_STAT_NEXTSEQ]⟩,
  ⟨0x000A0004, 1, 0x4, 1, 0x4, 1, fun _ _ => [Reg.EL_CTRL_CLR]⟩,
  ⟨0x000A0008, 1, 0x4, 1, 0x4, 1, fun _ _ => [Reg.EL_ESC_WIN]⟩,
  ⟨0x000A0040, 8, 0x4, 1, 0x4, 1, fun a _ => [Reg.EL_SEU_COUNT a]⟩,
  ⟨0x000A0060, 1, 0x4, 1, 0x4, 1, fun _ _ => [Reg.EL_POIS_COUNT]⟩,
  ⟨0x000A0100, 32, 0x10, 1, 0x4, 1, fun a _ => [Reg.EL_ENTRY0_SEQ a, Reg.EL_ENTRY0_SEV a, Reg.EL_ENTRY0_SOURCE a, Reg.EL_ENTRY0_CODE a]⟩,
  ⟨0x000A0104, 32, 0x10, 1, 0x4, 1, fun a _ => [Reg.EL_ENTRY1_UNIT a, Reg.EL_ENTRY1_INFO a]⟩,
  ⟨0x000A0108, 32, 0x10, 1, 0x4, 1, fun a _ => [Reg.EL_ENTRY2_SECS a]⟩,
  ⟨0x000A010C, 32, 0x10, 1, 0x4, 1, fun a _ => [Reg.EL_ENTRY3_NEST a, Reg.EL_ENTRY3_ESC a, Reg.EL_ENTRY3_NS a]⟩,
  ⟨0x000A0400, 1, 0x4, 1, 0x4, 1, fun _ _ => [Reg.LL_CTRL_COMMIT]⟩,
  ⟨0x000A0404, 1, 0x4, 1, 0x4, 1, fun _ _ => [Reg.LL_STAT_PEND, Reg.LL_STAT_BUSY, Reg.LL_STAT_BAD, Reg.LL_STAT_HALF, Reg.LL_STAT_HPASS, Reg.LL_STAT_VHOLD]⟩]

/-- Every register of the address map that has a register table. -/
def regRows : List RegRow :=
  regRowsPixelMatrix ++ regRowsFretsAndEdges ++ regRowsRegionEngines ++ regRowsRegionEngines2 ++ regRowsStandardReductions ++ regRowsPromptSumAndTriggers ++ regRowsBridle ++ regRowsStreamAndPacking ++ regRowsSpillStore ++ regRowsLanes ++ regRowsSharedTime ++ regRowsTetherAndOwnership ++ regRowsKeelsAndFailover ++ regRowsModuleSensors ++ regRowsPowerResetBoot ++ regRowsSecurityAndDebug ++ regRowsErrorsAndLifeLog

end Sys2Proof.Machine
end

