-- ==== Sys2Proof/Machine/State.lean ====
section
/-! DEFINITION. The state of the block: every register, queue, buffer, counter, mode and pin the spec names, as
plain data, and the queue of waiting commands. -/
namespace Sys2Proof.Machine

/-- A sparse table: entries rise strictly in their key and none holds the table's default. -/
abbrev SMap (α : Type) := List (Nat × α)

/-- R10, R379, R491: the status of an access or a message. -/
inductive Status where
  | ok | badAddress | prot | domainOff | ecc | notOwner | roleStale | adoptStale | mboxFull | timeout | badMsg
  | authFail | owned | challenge
  | dbg (code : Nat)
  deriving DecidableEq, Repr

/-- R142: the class of a record position. -/
inductive RecClass where
  | record | gap | message
  deriving DecidableEq, Repr

/-- R142: an output-buffer entry: a record or gap record with its continuation words, or a message, with its sideband
(and, for a message, R145's region flag), and the error that its words hold (R501: 0 none, 1 single-bit, 2 uncorrectable). -/
structure OutEntry where
  words  : List Word64
  stream : Nat
  poison : Bool
  cls    : RecClass
  buddy  : Bool
  ecc : Nat
  deriving DecidableEq, Repr

/-! ### Pixels and frets (R47 to R118) -/

/-- R54, R55: a pixel's discriminator output: its level and the time of its last fall (units of tick/163,840). -/
structure PixOut where
  high   : Bool
  fellAt : Option Nat
  deriving DecidableEq, Repr

/-- R30: a hit in progress. `rise`, `step4` and the second part of `ended` are times in units of tick/163,840; `conv` is
the calibrated fine time (R93) once step 4 of R89 is reached at `step4`; `ended` starts with the ToT code; `poison` as
R91 and R513 set it. -/
structure HitSt where
  rise   : Nat
  conv   : Option Nat
  step4  : Nat
  poison : Bool
  ended  : Option (Nat × Nat)
  deriving DecidableEq, Repr

/-- R82, R89: what an interpolator is doing. -/
inductive IPhase where
  | free | converting | releasing | calibrating
  deriving DecidableEq, Repr

/-- R89, R92 to R103: one interpolator. `who` is the pixel id, or the TIN input in the edge unit; `start` the
slow-ring start, `tickS` the start tick S, `tap` the hold tap k; `fine` the fine time of step 4; `freeAt` the time of
its last release; `cal` an offered calibration edge with its code, inside R97's window; `hist` and `accepted` the
rebuild's counts; `act` and `shd` the entries of the two tables that differ from the nominal table (R95). -/
structure InterpSt where
  phase    : IPhase
  who      : Nat
  start    : Nat
  tickS    : Nat
  tap      : Nat
  code     : Option Nat
  fine     : Option Nat
  freeAt   : Nat
  cal      : Option (Nat × Option Nat)
  lastCal  : Option Nat
  running  : Bool
  quick    : Bool
  hist     : SMap Nat
  accepted : Nat
  wantCommit : Bool
  nominalPending : Bool
  goodRun  : Nat
  ageBase  : Nat
  act      : SMap Nat
  shd      : SMap Nat
  deriving DecidableEq, Repr

/-- R126: a hit-queue word with its poison tag and its stored parity bits, one for each 32-bit half. -/
structure HqWord where
  word    : Word64
  poison  : Bool
  parity  : BitVec 2
  deriving DecidableEq, Repr

/-- R47 to R131, R146 to R148: a region's state that is in no register: pixel words pending and in shift, round-robin
position, hold line (pixel, arrival), hit queue, gap records waiting for the next slot (R138), the tick an adoption
switch is due on and whether a gap goes with it (R147), the tick a close request times out on, ballast counts not yet
reported to the keel (R127, R143), how many of the issued marks have arrived (R134), and the last claim cycle with the
round-robin position it began at and its edges in ascending pixel (pixel, arrival, BUSY_CNT before it; R81). -/
structure RegionSt where
  pend     : List Nat
  shifting : Option (Nat × Nat)
  rr       : Nat
  hold     : List (Nat × Nat)
  hq       : List HqWord
  gapq     : List OutEntry
  switchDue : Option (Nat × Bool)
  closeBy  : Option Nat
  balHq    : Nat
  balOut   : Nat
  markSeen : Nat
  cyc      : Nat × Nat × List (Nat × Nat × Nat)
  deriving DecidableEq, Repr

/-- R116: what a prescaled edge carries until its stamp: its input, its count, the sampled gates, the TIN_CFG word in force
on it with the number of changes so far (R118), the number of the frequency measurement it starts, where it stops one the
interval count and that measurement's number, and whether its conversion failed a check (R91, R93). -/
structure EdgeTag where
  input  : Nat
  count  : Nat
  gates  : Nat
  cfg    : Nat
  gen    : Nat
  starts : Option Nat
  stops  : Option (Nat × Nat)
  poison : Bool
  deriving DecidableEq, Repr

/-- R109 to R118: a TIN input: the TIN_CFG word in force, the number of its changes, whether a change waits for the next
prescaled edge, prescaler count, finished prescaler counts not yet taken, SDIV count, which of its two interpolators is
next, hold channel, start stamp of an open interval, frequency measurement (interval count so far), its number and the
instant of its start edge, the start stamps of the last two measurements by number, a gate opening and a gate closing not
yet taken, interval sequence. -/
structure TinSt where
  cfg     : Nat
  gen     : Nat
  cfgPending : Bool
  presc   : Nat
  due     : Nat
  sdiv    : Nat
  second  : Bool
  hold    : Option (Nat × EdgeTag)
  opened  : Option Nat
  freq    : Option Nat
  meas    : Nat
  startAt : Nat
  starts  : SMap Nat
  armed   : Bool
  stopDue : Bool
  seq     : Nat
  deriving DecidableEq, Repr

/-- R73: a stripe's test-pulse train: next pulse number and its first tick, and whether the line is out of rest. -/
structure TrainSt where
  first : Nat
  next  : Nat
  high  : Bool
  deriving DecidableEq, Repr

/-- R72, R73: what a pixel's test-pulse capacitor injected last: the tick of the line's edge, the instant at the pixel, the
charge in units of 10⁻²¹ C (positive for the collected polarity) and whether it lies above the pixel's threshold. -/
structure InjSt where
  tick    : Nat
  time    : Nat
  charge  : Int
  crosses : Bool
  deriving DecidableEq, Repr

/-! ### Region engines and conductors (R119 to R181, R393 to R401) -/

/-- R157: the flags, one Bool each. -/
structure Flags where
  z : Bool
  n : Bool
  c : Bool
  v : Bool
  p : Bool
  e : Bool
  f : Bool
  r : Bool
  deriving DecidableEq, Repr

/-- R197, R198: one record of an emission: its fixed bits, the counters its count fields take in order, and their width. -/
structure EmitRec where
  word  : Word64
  keys  : List Nat
  width : Nat
  deriving DecidableEq, Repr

/-- R197: which hits still count in what an emission sends: none (R189), those of a frame's ticks, those of a period, those after
the mark that is still the latest. -/
inductive EmitTakes where
  | closed
  | frame (start stop : Nat)
  | period
  | group (mark : Option Nat)
  deriving DecidableEq, Repr

/-- R197, R198: an emission of a slot's records: those not yet sent with the counters they read, the engine cycles to the next
and between two, the records sent, the ticks to which the slot's output was complete before it and is after it (R191). -/
structure Emission where
  region : Nat
  slot   : Nat
  stream : Nat
  poison : Bool
  zs     : Bool
  recs   : List EmitRec
  counts : SMap Nat
  wait   : Nat
  cost   : Nat
  sent   : Nat
  takes  : EmitTakes
  before : Nat
  upto   : Nat
  deriving DecidableEq, Repr

/-- A BZX core's state that is in no window register: R121's registers and queues, R158's internal registers, R133's
and R137's tick counts, R179's conductor traffic, R493's debug state with a DSTEP under way (the port that sent it, or 4 for JTAG, and the
instructions left). `avail` holds R161's delayed
results, `closeNext` the close requests behind the pending one, `closedOwn` and `closedBuddy` whether the last request for
that region was acknowledged, `emits` the library's emissions that are still being sent (R197, R198). -/
structure CoreSt where
  g        : SMap Word64
  tags     : Nat
  pc       : Nat
  flags    : Flags
  rsel     : Nat
  closePend : Bool
  closeBuddy : Bool
  closeAck : Bool
  closeNext : List Bool
  closedOwn : Bool
  closedBuddy : Bool
  latched  : Nat
  ie       : Bool
  inHandler : Bool
  byIrq    : Bool
  eflags   : Flags
  epc      : Nat
  cycle    : Nat
  avail    : SMap Nat
  lastPop  : Bool
  waiting  : Option (Nat × Nat)
  evq      : List Word64
  ovrNext  : Bool
  mbox     : List (Word64 × Bool)
  outq     : List OutEntry
  emits    : List Emission
  wdStart  : Nat
  timers   : SMap Nat
  bstat    : Nat
  msrc     : Nat
  inq      : List (Word64 × Nat)
  busr     : Option (Nat × Nat)
  busw     : List (Nat × Nat)
  bfence   : Bool
  buswFail : Nat
  hbAt     : Nat
  dbgHalt  : Bool
  brks     : List Nat
  brkPass  : Bool
  stepping : Option (Nat × Nat)
  deriving DecidableEq, Repr

/-- R247, R265: an item on its way to the keel merge from one source: words, stream, poison, class, the region or input
it comes from, and the error that its words hold (R501). -/
structure MergeItem where
  words  : List Word64
  stream : Nat
  poison : Bool
  cls    : RecClass
  origin : Nat
  ecc : Nat
  deriving DecidableEq, Repr


/-! ### The reduction library (R182 to R202) -/

/-- R187, R199: an open cluster: member pixels, seed pixel, times of the earliest and latest hit (full fine units), sum
of ToT codes, hits, poison. -/
structure Cluster where
  pixels : List Nat
  seed   : Nat
  first  : Nat
  last   : Nat
  tot    : Nat
  hits   : Nat
  poison : Bool
  deriving DecidableEq, Repr

/-- R187: one finished but not yet emitted group of GATEDCOUNT: counts, tick its last window ends, flags. -/
structure MarkGroup where
  counts : SMap Nat
  due    : Nat
  flags  : Nat
  deriving DecidableEq, Repr

/-- R182 to R195: a running reduction slot with the parameters it read, whether its stream is open to it (R190), its base
or period start tick, the next frame to close, its counters, per-frame flags (bit 0 poison, 1 MOVR, 2 PARTIAL), LATE,
flags of the period in progress, clusters, occupancy count, whether RREQ ran in the period, latest REF mark, marks of the
group with the latest mark's tick, finished groups, and the tick its output is complete to (R191). -/
structure LibSlot where
  run    : Bool
  num    : Nat
  stream : Nat
  walk   : Bool
  wide   : Bool
  zs     : Bool
  ch     : Nat
  p1     : Nat
  p2     : Nat
  p3     : Nat
  isOpen : Bool
  base   : Nat
  nextF  : Nat
  counts : SMap Nat
  fl     : SMap Nat
  late   : Nat
  openAt  : Nat
  flags  : Nat
  clusters : List Cluster
  occ    : Nat
  rreq   : Bool
  refAt  : Option Nat
  marks  : Nat
  lastMark : Nat
  groups : List MarkGroup
  doneTo : Nat
  deriving DecidableEq, Repr


/-! ### Waveform digitiser and trigger unit (R203 to R235) -/

/-- R222: a level detector: whether it is HIGH, the index at which it entered that state (or was enabled), whether by a
crossing, whether a sample of the pulse reached B, and whether its timeout or slew has been decided. -/
structure LvlSt where
  high    : Bool
  since   : Nat
  crossed : Bool
  topped  : Bool
  fired   : Bool
  deriving DecidableEq, Repr

/-- R222 to R226: a trigger: whether its detectors have seen their first sample, the detectors of the samples and of the
falling direction (R223), an open request window (tick, count, fired), and the index of its last firing. -/
structure TrgSt where
  ready : Bool
  up    : LvlSt
  dn    : LvlSt
  win   : Option (Nat × Nat × Bool)
  last  : Option Nat
  deriving DecidableEq, Repr

/-- R227: a firing not yet decided: its index, trigger, SRC and TIN remainder. -/
structure Firing where
  index : Nat
  trig  : Nat
  src   : Nat
  rem   : Nat
  deriving DecidableEq, Repr

/-- R230 to R232: a reduction unit: samples not yet in a record (index and value), whether an anchor is due, sample records
since the last anchor, the interval in progress (start, samples, minimum, maximum, sum), intervals complete and not yet
sent, the window being sent (its next index and end), those that wait behind it (start, end, trigger), its first index, the samples it has taken and its trigger, and the index after
the last sample it sent. -/
structure WrSt where
  buf    : List (Nat × Nat)
  anchor : Bool
  run    : Nat
  acc    : Option (Nat × Nat × Nat × Nat × Nat)
  done   : List (Nat × Nat × Nat × Nat)
  win    : Option (Nat × Nat)
  wait   : List (Nat × Nat × Nat)
  winS   : Nat
  winN   : Nat
  trig   : Nat
  sent   : Nat
  deriving DecidableEq, Repr

/-- R206, R208: a correction set: OFS, GAIN, SKEW (register values) and the 64 INL bytes. -/
structure CorrSet where
  ofs  : Nat
  gain : Nat
  skew : Nat
  inl  : List Nat
  deriving DecidableEq, Repr

/-- R203 to R221, R229, R235: the digitiser: phase (0 stopped, 1 initial calibration, 2 sampling, 3 self-calibration), the
tick it began on, the next index to be delivered, the rotation tick R, the set fitted in the period and the shadow set,
the index at which each slice last entered an active role, the slices rejected in their last period, those on trial after
RETRY, the last 8,192 samples of each input (newest first), the first undelivered index of a gap in progress and its streams, the level of
TRIG_OUT with the index of its latest rise, and the rises still to come. -/
structure WaveSt where
  phase  : Nat
  start  : Nat
  next   : Nat
  rot    : Option Nat
  fit    : Option CorrSet
  shadow : Option CorrSet
  since  : SMap Nat
  bad    : Nat
  trial  : Nat
  hist0  : List (Nat × Nat)
  hist1  : List (Nat × Nat)
  gapAt  : Option Nat
  gapQ   : List Nat
  out    : Bool
  outAt  : Nat
  rises  : List Nat
  deriving DecidableEq, Repr


/-! ### Streams, bridle, spill store and keels (R236 to R319, R393 to R418) -/

/-- R271 to R286: a block: its words, POISON, FLUSH, OPEN and CLOSE, the ticks it opened and closed on, its LSIZE and
lane group, the role epoch of the keel that closed it, its BSEQ, and the tick on which its last word so far has left the
shaping buffer (R248), and the error that its words in staging or in a queue hold (R501). -/
structure Block where
  stream  : Nat
  words   : List Word64
  poison  : Bool
  flush   : Bool
  first   : Bool
  last    : Bool
  openAt  : Nat
  closeAt : Nat
  size    : Nat
  group   : Nat
  epoch   : Nat
  bseq    : Nat
  relAt   : Nat
  ecc : Nat
  deriving DecidableEq, Repr

/-- R286, R317: the discards of an interval: open tick of the first block, close tick of the last plus 1, blocks, and
whether R316 discarded any (cause 4). -/
structure Discard where
  start : Nat
  stop  : Nat
  count : Nat
  spill : Bool
  deriving DecidableEq, Repr

/-- R246 to R273: a stream in its keel: the tick O or C of an accepted request or of the opening and closing in force,
the tick it last closed on, the flush tick, the bucket levels (charge bits) with the tick they were brought to, the
ballast counts of the interval by cause, its open block, whether its next block is the first after the opening, its
closed blocks not yet routed, the discards of the interval, and what the shaping buffer holds (charge bits) with the tick
that level was brought to. -/
structure StreamSt where
  reqO     : Option Nat
  openedAt : Nat
  reqC     : Option Nat
  cutoff   : Bool
  closedAt : Option Nat
  flushAt  : Option Nat
  sus      : Rat
  peak     : Rat
  lvlAt    : Nat
  bal      : SMap Nat
  block    : Option Block
  first    : Bool
  wait     : List Block
  disc     : Option Discard
  shaped   : Rat
  shapedAt : Nat
  deriving DecidableEq, Repr

/-- R288 to R290: a SRC_PERMIT pin: its level and the tick of its last fall. -/
structure PinSt where
  high   : Bool
  fellAt : Nat
  deriving DecidableEq, Repr

/-- R301, R315, R317: a block in the spill store: its BSEQ, length in bytes, open and close ticks, the tick it was
accepted on, whether it goes out poisoned, and its lane group. -/
structure SpillBlk where
  bseq    : Nat
  len     : Nat
  openAt  : Nat
  closeAt : Nat
  heldAt  : Nat
  poison  : Bool
  group   : Nat
  deriving DecidableEq, Repr

/-- R307, R311: a block whole in drain staging that waits for a lane: its stream, its directory entry, its bytes as they
will be sent, and whether the last of them came from the stream's tail, and the error that its bytes hold (R501). -/
structure DrainBlk where
  stream : Nat
  blk    : SpillBlk
  bytes  : List Byte
  tail   : Bool
  ecc : Nat
  deriving DecidableEq, Repr

/-- R301, R307: the spill directory of a stream: blocks held (oldest first), the incomplete last brick with the BSEQ and
OFS of its first byte, the number of bricks completed, the next brick to read, published bricks with their place and
header, the chain of pages with the bricks used of the last, and the head block's bytes in drain staging with the byte
position they start at. -/
structure SpillStr where
  held     : List SpillBlk
  tail     : List Byte
  tailHdr  : Nat × Nat
  bricks   : Nat
  readNext : Nat
  slots    : SMap (Nat × Nat)
  pages    : List Nat
  used     : Nat
  got      : List Byte
  headPos  : Nat
  deriving DecidableEq, Repr

/-- R304: a complete brick in write staging, with its number, how often it was lost, where it is being written, and the error that its bytes hold (R501). -/
structure Staged where
  stream : Nat
  brick  : Nat
  header : Nat
  bytes  : List Byte
  tries  : Nat
  place  : Option Nat
  ecc : Nat
  deriving DecidableEq, Repr

/-- R306, R313: an operation that holds a tag: a read or a write, its stream, brick number and place. -/
structure SpillOp where
  read   : Bool
  stream : Nat
  brick  : Nat
  place  : Nat
  at0    : Nat
  deriving DecidableEq, Repr

/-- R301 to R313: the spill store of a keel: directories, order logs by group, valid masks by page, the first page not
yet used, free pages, pages in quarantine with the tick they were freed on, write staging, operations that hold a tag,
drained blocks waiting for a lane, by group, those that stand on a lane, and the tick from which the next brick may be
written. -/
structure SpillSt where
  strs    : SMap SpillStr
  order   : SMap (List Nat)
  valid   : SMap Nat
  fresh   : Nat
  free    : List Nat
  quar    : List (Nat × Nat)
  staged  : List Staged
  ops     : List SpillOp
  drained : SMap (List DrainBlk)
  sending : List DrainBlk
  paceAt  : Rat
  deriving DecidableEq, Repr

/-- R296, R298: the memory controller: initialisation step (0 off, 1 reset held, 2 released, 3 training, 4 done), the tick
it started on, the channels being retrained. -/
structure McSt where
  step  : Nat
  start : Nat
  busy  : Nat
  deriving DecidableEq, Repr

/-- R403: a mirror frame as the standby applied it: its tick M, the streams (without blocks), next BSEQ, BSEQ_LO and A_k
by stream, the spill directory, by group the tick on which the oldest block held was accepted (R315), the pins, the values in
force, and the registers that follow the mirror (by key inside the keel window). -/
structure Mirror where
  tick    : Nat
  streams : SMap StreamSt
  bseq    : SMap Nat
  lo      : SMap Nat
  oldest  : SMap Nat
  spill   : SpillSt
  ages    : SMap Nat
  pins    : SMap PinSt
  force   : Option (SMap Nat)
  regs    : SMap Nat
  deriving DecidableEq, Repr

/-- R236 to R319, R402 to R415: a keel: streams, output queues by group, the snapshot of a commit with the tick T of
an accepted one, whether something it checks changed and the regions that were being adopted at the snapshot, the values in force, whether the enabled waveform units were
admitted, its spill store, the last mirror frame applied and whether its last self-test passed and its initial mirror is
complete, the self-test that runs, whether it waits in reset for one and the tick that test waits for (R409). -/
structure KeelSt where
  streams : SMap StreamSt
  queues  : SMap (List Block)
  snap    : SMap Nat
  snapAt  : Nat
  commitT : Option Nat
  changed : Bool
  pairs   : List Nat
  force   : Option (SMap Nat)
  spill   : SpillSt
  mirror  : Option Mirror
  passed  : Bool
  loaded  : Bool
  testing : Option Nat
  held    : Bool
  testAt  : Nat
  frameAt : Nat
  deriving DecidableEq, Repr

/-- R408: a stream's retention record: the next BSEQ, O and D of an interruption, R317's range, and whether the next grant
advances the number. -/
structure Retain where
  bseq  : Nat
  intr  : Option (Nat × Nat)
  range : Option Discard
  bump  : Bool
  deriving DecidableEq, Repr


/-! ### Lanes (R320 to R342) -/

/-- R322 to R331, R338, R339: a TX slot: payload words waiting for a frame (with whether a block starts there), the last
frame sent (control or data, block; before the scrambler), the scrambler, the tick of the last frame, the queued blocks
placed and not yet sent whole (stream, or 64 for a drained block, BSEQ, open tick, words left), the run of reports
with the same LOCK, the tick of the last report, a candidate selection in progress (candidate, start of its dwell, the
best TFOM of each candidate), the SLIP in force, the unit intervals inserted ahead of the last frame (R331), and the
candidate word that the equaliser has (R332), and, where a payload word waiting holds a single-bit error (R501), one more than its place among them.  In `onLane` stream 65 stands for a control message (R384), 128 + q for a drained block of stream q. -/
structure TxSt where
  payload : List (Bool × Word64)
  frame   : List (Bool × Word64)
  wire    : List (Bool × Word64)
  scr     : Nat
  sentAt  : Option Nat
  onLane  : List (Nat × Nat × Nat × Nat)
  lock    : Bool
  run     : Nat
  repAt   : Nat
  sel     : Option (Nat × Nat)
  best    : SMap Nat
  slip    : Nat
  lead    : Nat
  eq      : Nat
  ecc : Nat
  deriving DecidableEq, Repr

/-- R335: the lock of an RX lane: consecutive valid headers while it hunts, block lock, the validity of its last 64 headers
(latest first), the blocks since block lock, the frame starts among the last 400 of them, frame lock, where the next frame
start is expected, how many in a row were missing, and the bit positions slipped. -/
structure RxLk where
  run    : Nat
  block  : Bool
  win    : List Bool
  count  : Nat
  starts : List Nat
  frame  : Bool
  next   : Nat
  missed : Nat
  slips  : Nat
  deriving DecidableEq, Repr

/-- R335: an RX lane: candidate in training, the FOM recorded of each, the last frame received (FCNT, service blocks), the
tick on which the state of training was entered, from which its timer runs, the candidate word that the equaliser has
(R332), the frame errors counted (R323), the lock, and the frame held for the deskew (FCNT, time of arrival, its host lane
reports, R336). -/
structure RxSt where
  cand  : Nat
  foms  : SMap Nat
  frame : Option (Nat × List Word64)
  at0   : Nat
  eq    : Nat
  ferr  : Nat
  lk    : RxLk
  held  : Option (Nat × Nat × List Word64)
  deriving DecidableEq, Repr


/-! ### Shared time (R345 to R364) -/

/-- R349 to R364: kept t2 and t3 values (units of 2^-16 ns, by FCNT, latest first), the FCNT and t3 of the last time frame
sent, f_i, f, f_E and the last values of f, the tick of the last valid measurement, runs of measurements within LOCKTHR,
beyond STEPLIM and beyond 8 × LOCKTHR, a servo step due (tick and 2^-16 ns), the ticks a SET and a SNAP are due on, MORE,
the check interval with the extensions sent in it, the pairs that agreed at the last check in holdover, the tick on which f
last changed, and FCNT and t3 of each slot's last time frame. -/
structure ServoSt where
  t2s    : List (Nat × Rat)
  t3s    : List (Nat × Rat)
  fi     : Rat
  f      : Rat
  fE     : Rat
  recent : List Rat
  lastAt : Option Nat
  inLock : Nat
  outStep : Nat
  outLock : Nat
  step   : Option (Nat × Int)
  setAt  : Option Nat
  snapAt : Option Nat
  more   : Bool
  span   : Nat
  spanN  : Nat
  agree  : List (Nat × Nat)
  fAt    : Nat
  prevT3 : SMap (Nat × Rat)
  deriving DecidableEq, Repr


/-! ### Tether, ownership and messages (R368 to R392) -/

/-- R382: a posted write waiting in a port's queue: the words left, the address of the next, and what its log entry
carries (R383). -/
structure Posted where
  tag   : Nat
  src   : Nat
  seq   : Nat
  epoch : Nat
  addr  : Nat
  words : List Nat
  deriving DecidableEq, Repr

/-- A message that left on a port, its own (responses, notices, monitor lines) or one it forwards, with its trailer
(ACKB, HOP; R377). -/
structure Sent where
  port : Nat
  msg  : Msg
  ackb : Nat
  hop  : Nat
  deriving DecidableEq, Repr

/-- R369 to R388: a control port: insertion, input queue, posted queue, notices kept, messages of its own outstanding
on the ring with their retries, fences that wait with the posted writes ahead of them, its failure count with the first failure, and its live nonce with the tick of its challenge, where the time base has run ever since. -/
structure PortSt where
  inserted : Bool
  insertDue : Bool
  removeDue : Bool
  inq      : List Msg
  posted   : List Posted
  notices  : List Msg
  flight   : List (Msg × Nat)
  fence    : List (Msg × Nat)
  fails    : Nat
  failSeq  : Nat
  failSts  : Nat
  nonce    : Option Nat
  nonceAt  : Option Nat
  deriving DecidableEq, Repr

/-- R345, R346, R263: the tick count, whether the time base runs, the local clock's accumulator in units of 2^-32 ns, and
the latest tick that is a multiple of 2²³ with the accumulator's value on it. -/
structure TimeBase where
  tick : Nat
  run  : Bool
  acc  : Nat
  epoch : Nat
  epochAcc : Nat
  deriving DecidableEq, Repr

/-- R11, R12, R538: the cycle (tick) that is recorded, the bits of W1C fields that the hardware has set in it, and the fields
that writes have set in it, both by field key: of a W1S field the bits written as 1, of an RW or RWL field anything but 0; and the entries that the error log took in it (R510). -/
structure CycSt where
  at0   : Nat
  sets  : SMap Nat
  wrote : SMap Nat
  errs  : List (List Nat)
  deriving DecidableEq, Repr

/-- R134, R135: a mark issued to the regions; for channel 15, the regions it goes to (R267). -/
structure MarkEv where
  ch     : Nat
  detail : Nat
  tick   : Nat
  fine   : Nat
  dests  : List Nat
  deriving DecidableEq, Repr



/-! ### Monitor converter and I2C (R420 to R439) -/

/-- R435: a monitor queue word with its poison tag, its stored parity bits, one for each 32-bit half, and the epoch E of its result. -/
structure MonEntry where
  word      : Word64
  poison    : Bool
  parity    : BitVec 2
  epoch     : Nat
  deriving DecidableEq, Repr

/-- R428 to R436: the converter: the regular slot in progress or abandoned, whether it runs again with REP = 1, whether
the next regular sequence starts at once, an injected start that waits for its boundary, the injected slot in progress,
what the slot in progress took from its registers (tag, SNS_CFG, SNS_P; SETTLE and AVG), the tick on which it started (later by
the periods its averaging skipped, R431), the tick on which the last regular sequence was due, whether the next queue entry carries OVR, the
queue, the latches of MON_QHI and MON_QEPOCH by master, and the conversion boundary at which the pending injected start took effect (R430). -/
structure MonSt where
  rslot   : Option Nat
  again   : Bool
  late    : Bool
  ireq    : Bool
  islot   : Option Nat
  taken   : Nat × Nat × Nat
  ovrNext : Bool
  queue   : List MonEntry
  latches : SMap (Nat × Nat)
  shape   : Nat × Nat
  at0     : Nat
  startAt : Option Nat
  pendAt  : Option Nat
  deriving DecidableEq, Repr

/-- R437, R438: what an I2C controller puts on the bus: a START (again before the reads), a byte, a STOP, a recovery pulse on SCL. -/
inductive BusSym where
  | start
  | byte (b : Byte)
  | stop
  | pulse
  deriving DecidableEq, Repr

/-- R437, R438: the I2C controller: 0 idle (both lines released), 1 a command runs, 2 recovery, 3 waiting for SCL at a sample; whether
a command waits for the bus; the levels of SCL and SDA at the last sample; and what the controller put on the bus since the last
GO or rise of EN. -/
structure I2cSt where
  phase : Nat
  wants : Bool
  scl   : Bool
  sda   : Bool
  sent  : List BusSym
  deriving DecidableEq, Repr


/-! ### Escalation and quiesce (R459, R460, R511, R512) -/

/-- R511, R512: a block's step count, whether a step is in progress, whether a failure came meanwhile, and the tick on which the last
step was complete (none where the time base stood still since). -/
structure EscSt where
  step   : Nat
  busy   : Bool
  again  : Bool
  doneAt : Option Nat
  deriving DecidableEq, Repr

/-- R459, R460: a block (its code of R458) asked to quiesce, for a software reset (0), a reset by escalation (1) or the cut
of a domain (2, with the domain), whether its core was RUNNING or IDLE when it was asked, and the tick of the request (none where
the time base stood still since). -/
structure QuiesceSt where
  block : Nat
  why   : Nat
  dom   : Nat
  alive : Bool
  asked : Option Nat
  deriving DecidableEq, Repr


/-! ### Power, security and debug (R440 to R500) -/

/-- R448: a domain that a latch-up has cut: not powered again yet; powered again on a tick; powered again, with the time base stopped
meanwhile, so that ticks do not tell how long ago. -/
inductive Rearm where
  | cut
  | since (t : Nat)
  | loose
  deriving DecidableEq, Repr

/-- R442 to R457: power and boot: the boot step that comes next (0 outside a boot); the stage of a transition (0 none,
1 domains start for ARMED, 2 the time base started, 3 asked to quiesce for STANDBY, 4 domains cut, 5 waiting for the
life-log commit before KEEP); whether the boot follows a POR or a brown-out; domains started and not yet at power-good; domains cut and waiting for 1 ms; the result of
the last option load (OPT_STAT); whether an UNLOCK waits for its RELOCK (R362); the latest SAFE_TICK that each
region has written (R450), and the stripes that were cut since they were last up; the domains that a latch-up has cut (R448); the tick from which the device watchdog counts (R453; none
where the time base stood still since); whether the boot is the first after a brown-out (R517); and whether a reset is
not released yet (R470): the first step of its boot releases it. -/
structure PwrSt where
  boot     : Nat
  stage    : Nat
  cold     : Bool
  starting : List Nat
  off      : List Nat
  optStat  : Nat
  unlocked : Bool
  safe     : SMap Nat
  dark     : List Nat
  again    : SMap Rearm
  dwAt     : Option Nat
  bor      : Bool
  inReset  : Bool
  deriving DecidableEq, Repr

/-- R472 to R486: security: the antifuse flags L1 to L4 (bits 0 to 3), the identity private key, whether a zeroisation is
incomplete, the command in progress (operation, argument, targets of a LOAD, the first of them whose domain was cut, and
the result to report), the SHA-256 and SVN of the container that was booted, and whether the service core is
debug-halted. -/
structure SecSt where
  flags  : Nat
  idKey  : Nat
  zpend  : Bool
  op     : Option (Nat × Nat × List Nat × Option Nat × Nat)
  booted : Nat
  svn    : Nat
  halted : Bool
  deriving DecidableEq, Repr

/-- R489, R492: what a scan of a data register shifts out: a number, or the boundary cells that captured a 1. -/
inductive ScanOut where
  | word (v : Nat)
  | cells (ones : List ScanPin)
  deriving DecidableEq, Repr

/-- R489, R492: JTAG: the cells whose update stage holds a 1, the status and result of the last engine debug operation, one that still
waits for an instruction boundary (opcode, target, argument, data), and what the last scans of the instruction register and of the
data register shifted out. -/
structure JtagSt where
  bound  : List ScanPin
  status : Nat
  result : Nat
  op     : Option (Nat × Nat × Nat × Nat)
  irOut  : Nat
  drOut  : ScanOut
  deriving DecidableEq, Repr

/-- R495 to R498: the UART receiver and the monitor: characters of the line being received, whether that line is already
lost (R497, R498), what the last character was (1 a CR whose line waits for the monitor, 2 a CR whose line was discarded, 0 another), complete lines waiting, the text the monitor has printed, and
whether an answer waits for SEC_STAT.BUSY to clear (R499). -/
structure UartSt where
  line    : List Byte
  spoilt  : Nat
  cr      : Nat
  lines   : List (Nat × List Byte)
  printed : List (List Byte)
  secWait : Bool
  deriving DecidableEq, Repr


/-! ### Life log (R514 to R518) -/

/-- R514 to R518: deltas by image offset, the last high-severity entries, the highest temperature sampled with its
second, whether a notable event waits for its commit, and the deltas and entries that a commit in progress captured. -/
structure LifeSt where
  delta   : SMap Nat
  high    : List (List Nat)
  maxTemp : Option (Int × Nat)
  notable : Bool
  taken   : Option (SMap Nat × List (List Nat) × Option (Int × Nat))
  deriving DecidableEq, Repr

/-- R407: what a fail-over replaced at its tick D, should a fault of the other keel at the same tick make it a restart. -/
structure FailUndo where
  retain : SMap Retain
  fails  : Nat
  lastD  : Nat
  life   : LifeSt
  deriving DecidableEq, Repr


/-! ### The machine -/

/-- The state of the block. -/
structure State where
  /-- the commands waiting, first in first out (the block's queue). -/
  pending : List Instr
  /-- R43: the registers, by field key; a field not listed holds its reset value. -/
  regs : SMap Nat
  /-- R466: high words latched for a master (master × 2^32 + address). -/
  latchHi : SMap Nat
  /-- R466: low words of 64-bit registers held until their high word is written (address). -/
  heldLo : SMap Nat
  /-- the memories' bytes in canonical form (notes/assumptions/5.md). -/
  mem : List Host.Cell
  /-- the model's own count, by core, of the events that left its code memory undefined (R125, R149, R398). -/
  memGen : SMap Nat
  /-- R501: words that hold an error: 1 single-bit, 2 uncorrectable. -/
  ecc : SMap Nat
  /-- the model's own counter of free values spent. -/
  freeCtr : Nat
  /-- R379: the status of the last access. -/
  lastStatus : Status
  /-- R379: the words the last access read. -/
  lastData : List Nat
  /-- R345, R346: tick count, whether the time base runs, local-clock accumulator. -/
  time : TimeBase
  /-- R11, R12, R538: what met in the current cycle. -/
  cyc : CycSt
  /-- R507: the error log's slots in use, oldest entry first. -/
  errOrder : List Nat
  /-- R508: recovery actions in progress that keep entries open. -/
  errOpen : List Nat
  /-- R514 to R518. -/
  life : LifeSt
  /-- R514: hit words written per stripe, not yet in the deltas. -/
  hitWords : SMap Nat
  /-- R368 to R388: the control ports. -/
  ports : SMap PortSt
  /-- what went out on the ports, oldest first. -/
  sent : List Sent
  /-- R134: marks issued, oldest first. -/
  marks : List MarkEv
  /-- R54, R55: discriminator outputs. -/
  pixs : SMap PixOut
  /-- R61: configuration words in the pixel-tier latches. -/
  latches : SMap Nat
  /-- R30: hits in progress, by pixel id. -/
  hits : SMap HitSt
  /-- R73: test-pulse trains, by stripe. -/
  trains : SMap TrainSt
  /-- R72, R73: the last injection of each pixel of a test pulse, by pixel id. -/
  injs : SMap InjSt
  /-- R68: thresholds that move: the value reached so far and the tick of the write, by stripe. -/
  thrMove : SMap (Nat × Nat)
  /-- R77: the tick an FSUM commit is due on. -/
  fsumDue : Option Nat
  /-- R77: the selection in force, by 4 × stripe + register. -/
  fsumSel : SMap Nat
  /-- R76: the peak that the last test-pulse edge gives FSUM, in digitiser codes. -/
  fsumPeak : Rat
  /-- R445: the decision tick of a descent to STANDBY in progress. -/
  descent : Option Nat
  /-- R79 to R104: interpolators, by 8 × unit + index. -/
  interps : SMap InterpSt
  /-- R110: the edges being converted, by edge interpolator. -/
  edgeTags : SMap EdgeTag
  /-- R111, R116: converted edges that wait for their stamp, with their fine time, by edge interpolator. -/
  edgeStamps : SMap (List (EdgeTag × Nat))
  /-- R109 to R118: the TIN inputs. -/
  tins : SMap TinSt
  /-- R119: regions. -/
  regions : SMap RegionSt
  /-- R119, R396: cores (0 to 1,023 REs, 1,024 and 1,025 the conductors). -/
  cores : SMap CoreSt
  /-- R182 to R195: reduction slots, by 4 × region + slot. -/
  libs : SMap LibSlot
  /-- R542: hit words popped since the last kick, modulo 256, by core. -/
  libPops : SMap Nat
  /-- R177, R224: region requests on their way to the trigger unit (region, line). -/
  rreqs : List (Nat × Nat)
  /-- R268: the streams that the regions treat as open. -/
  sendMask : Nat
  /-- R265: words on their way to the keel merge, by source. -/
  merge : SMap (List MergeItem)
  /-- R393: the keels. -/
  keels : SMap KeelSt
  /-- R408: the stream retention records (AON). -/
  retain : SMap Retain
  /-- R299, R302: bricks in the external memory, by brick number. -/
  dram : SMap (List Byte)
  /-- R288: the SRC_PERMIT pins. -/
  pins : SMap PinSt
  /-- R407: what the fail-over in progress replaced. -/
  failUndo : Option FailUndo
  /-- R407, R409: a fail-over or restart in progress: its tick D, the keel that takes the grant, whether the standby has frozen its frame. -/
  failover : Option (Nat × Nat × Bool)
  /-- R144: RE messages on their way to the conductor, with the sending core. -/
  remsgs : List (Word64 × Nat)
  /-- R263: the last tick whose epoch marks were inserted. -/
  epochDone : Nat
  /-- R251: the end tick of the last ballast interval whose marks were inserted. -/
  ballastDone : Nat
  /-- R286: the end tick of the last discard interval whose marks were inserted. -/
  discardDone : Nat
  /-- R296, R298: the memory controller's sequence. -/
  mc : McSt
  /-- R349 to R364: the time unit's servo and monitor. -/
  servo : ServoSt
  /-- R320: the TX slots. -/
  txs : SMap TxSt
  /-- R320: the RX lanes. -/
  rxs : SMap RxSt
  /-- R327: the lane groups that the lane mux took at the last commit (fields of LG_CFG by key). -/
  laneCfg : SMap Nat
  /-- R341: LMAP writes accepted and not yet applied: slot by logical lane. -/
  lmapDue : SMap Nat
  /-- R340: spare substitutions due, in ascending logical lane: the lane and the slot that is DOWN. -/
  subDue : List (Nat × Nat)
  /-- R511, R512: step counts by block (cores 0 to 1,023, conductors 1,024 and 1,025, the standby keel 1,026). -/
  esc : SMap EscSt
  /-- R442, R459, R460: blocks asked to quiesce. -/
  quiesce : List QuiesceSt
  /-- R222 to R226: the triggers. -/
  trgs : SMap TrgSt
  /-- R227: firings on their way to the marks. -/
  firings : List Firing
  /-- R203 to R235: the digitiser and TRIG_OUT. -/
  wave : WaveSt
  /-- R230: the waveform reduction units. -/
  units : SMap WrSt
  /-- R455: the option bytes in use that differ from the safe defaults. -/
  opts : SMap Nat
  /-- R475: the claim key (256 bits). -/
  claimKey : Nat
  /-- R387: the tick the owner's lease last started on. -/
  leaseAt : Nat
  /-- R387: the time base has not run all the while since the lease started. -/
  leaseLoose : Bool
  /-- R428 to R436: the monitor converter. -/
  mon : MonSt
  /-- R437, R438: the I2C controller. -/
  i2c : I2cSt
  /-- R518: hold-up checks that wait for their conversion: 0 life-log commit, 1 option programming, 2 lifecycle transition. -/
  checks : List Nat
  /-- R440 to R457: power and boot. -/
  pw : PwrSt
  /-- R472 to R486: security. -/
  sec : SecSt
  /-- R489, R492: JTAG. -/
  jtag : JtagSt
  /-- R495 to R499: the UART receiver and the monitor. -/
  uart : UartSt
  deriving DecidableEq, Repr

/-- No command faults: every command of the table has an effect in every state (notes/assumptions/7.md). -/
inductive Fault where
  /-- Never raised by the model; safe. -/
  | unreachable
  deriving DecidableEq, Repr

/-- Why a command is refused. -/
inductive Refusal where
  /-- A command whose meaning is not written yet; raised by Dispatch alone; safe (the machine stops). -/
  | notModelled (mnemonic : String)
  deriving DecidableEq, Repr

/-- The machine right after power-on reset, before its first boot step (R443, R452, R454): every register at its reset
value, every queue empty, the time base stopped. -/
def State.reset : State where
  pending := []
  regs := []
  latchHi := []
  heldLo := []
  mem := []
  memGen := []
  ecc := []
  freeCtr := 0
  lastStatus := .ok
  lastData := []
  time := ⟨0, false, 0, 0, 0⟩
  cyc := ⟨0, [], [], []⟩
  errOrder := []
  errOpen := []
  life := ⟨[], [], none, false, none⟩
  hitWords := []
  ports := []
  sent := []
  marks := []
  pixs := []
  latches := []
  hits := []
  trains := []
  injs := []
  thrMove := []
  fsumDue := none
  fsumSel := []
  fsumPeak := 0
  descent := none
  interps := []
  edgeTags := []
  edgeStamps := []
  tins := []
  regions := []
  cores := []
  libs := []
  libPops := []
  rreqs := []
  sendMask := 0
  merge := []
  keels := []
  retain := []
  dram := []
  pins := []
  failUndo := none
  failover := none
  remsgs := []
  epochDone := 0
  ballastDone := 0
  discardDone := 0
  mc := ⟨0, 0, 0⟩
  servo := ⟨[], [], 0, 0, 0, [], none, 0, 0, 0, none, none, none, false, 0, 0, [], 0, []⟩
  txs := []
  rxs := []
  laneCfg := []
  lmapDue := []
  subDue := []
  esc := []
  quiesce := []
  trgs := []
  firings := []
  wave := ⟨0, 0, 0, none, none, none, [], 0, 0, [], [], none, [], false, 0, []⟩
  units := []
  opts := []
  claimKey := 0
  leaseAt := 0
  leaseLoose := false
  mon := ⟨none, false, false, false, none, (0, 0, 0), false, [], [], (0, 0), 0, none, none⟩
  i2c := ⟨0, false, true, true, []⟩
  checks := []
  pw := ⟨2, 0, true, [], [], 0, false, [], [], [], none, false, true⟩
  sec := ⟨0, 0, false, none, 0, 0, false⟩
  jtag := ⟨[], 0, 0, none, 0, .word 0⟩
  uart := ⟨[], 0, 0, [], [], false⟩

end Sys2Proof.Machine
end

