-- ==== Sys2Proof/Machine/Ops.lean ====
section
/-! DEFINITION. The named operations over the state that every chapter uses: sparse tables, registers, memory, the time
base, the error log, interrupts, notices and marks. -/
namespace Sys2Proof.Machine

/-! ### Sparse tables -/

/-- The value at a key, or the default. -/
def SMap.get {α : Type} (m : SMap α) (k : Nat) (d : α) : α :=
  match m with
  | [] => d
  | (k', v) :: r => if k = k' then v else SMap.get r k d

/-- A table without a key. -/
def SMap.erase {α : Type} (m : SMap α) (k : Nat) : SMap α :=
  match m with
  | [] => []
  | (k', v) :: r => if k = k' then SMap.erase r k else (k', v) :: SMap.erase r k

/-- A table with a key set, in rising order of keys. -/
def SMap.ins {α : Type} (m : SMap α) (k : Nat) (v : α) : SMap α :=
  match m with
  | [] => [(k, v)]
  | (k', v') :: r => if k < k' then (k, v) :: (k', v') :: r else if k = k' then (k, v) :: r else (k', v') :: SMap.ins r k v

/-- A table with a key set; the default is not listed. -/
def SMap.set {α : Type} [DecidableEq α] (m : SMap α) (k : Nat) (v d : α) : SMap α :=
  if v = d then SMap.erase m k else SMap.ins m k v

/-- The value at a key, if one is listed. -/
def SMap.find? {α : Type} (m : SMap α) (k : Nat) : Option α :=
  match m with
  | [] => none
  | (k', v) :: r => if k = k' then some v else SMap.find? r k

/-- The entries whose keys satisfy a test. -/
def SMap.keep {α : Type} (m : SMap α) (p : Nat → Bool) : SMap α := m.filter (fun e => p e.1)

/-! ### Registers (R9, R10) -/

/-- The value of a field: what is listed under its key, else its reset value. -/
def State.get (s : State) (f : Field) : Nat := SMap.get s.regs f.key f.rst

/-- A field set, cut to its width. -/
def State.put (s : State) (f : Field) (v : Nat) : State :=
  { s with regs := SMap.set s.regs f.key (v % 2 ^ f.width) f.rst }

/-- A field set where a condition holds. -/
def State.putIf (s : State) (c : Bool) (f : Field) (v : Nat) : State := if c then s.put f v else s

/-- A saturating counter advanced. -/
def State.bump (s : State) (f : Field) (n : Nat) : State := s.put f (satAdd f.width (s.get f) n)

/-! ### What meets in one cycle (R11, R12, R538; notes/assumptions/93.md) -/

/-- What has met so far in the cycle of the current tick; with the time base stopped no two commands share a cycle. -/
def State.cycNow (s : State) : CycSt := if s.time.run && s.cyc.at0 == s.time.tick then s.cyc else ⟨s.time.tick, [], [], []⟩
/-- The bits of a W1C field that the hardware has set in this cycle. -/
def State.metSets (s : State) (f : Field) : Nat := SMap.get s.cycNow.sets f.key 0
/-- What writes have set of a field in this cycle. -/
def State.metWrote (s : State) (f : Field) : Nat := SMap.get s.cycNow.wrote f.key 0

/-- R11: the hardware sets bits of a W1C field; a write of 1 later in the cycle does not clear them. -/
def State.hwSet (s : State) (f : Field) (v : Nat) : State :=
  let c := s.cycNow
  let s1 := s.put f (s.get f ||| v)
  if s.time.run then { s1 with cyc := { c with sets := SMap.set c.sets f.key (s.metSets f ||| v) 0 } } else s1
/-- One bit of a W1C field that the hardware sets. -/
def State.hwSetBit (s : State) (f : Field) (i : Nat) : State := s.hwSet f (2 ^ i)
/-- R538: the hardware updates an RW or RWL field; the update is lost where a write has set the field in this cycle. -/
def State.hwPut (s : State) (f : Field) (v : Nat) : State := if s.metWrote f = 0 then s.put f v else s
/-- R12: the hardware clears bits of a W1S field; those stay that a write of 1 has set in this cycle. -/
def State.hwClear (s : State) (f : Field) (v : Nat) : State :=
  let d := v - (v &&& s.metWrote f)
  s.put f (s.get f - (s.get f &&& d))

/-- A write has set the fields of a register (whose low word lies at `base`) in this cycle: of a W1S field, the bits that were
set already in `before`, since the hardware clears no request in the cycle that makes it. -/
def State.noteWrite (s before : State) (base v : Nat) (fs : List Field) : State :=
  if s.time.run then
    let note (m : SMap Nat) (f : Field) : SMap Nat :=
      match f.acc with
      | .rw | .rwl => SMap.ins m f.key 1
      | .w1s => SMap.set m f.key (SMap.get m f.key 0 ||| (bits v (f.key - 8 * base) f.width &&& before.get f)) 0
      | _ => m
    { s with cyc := { s.cycNow with wrote := fs.foldl note s.cycNow.wrote } }
  else s

/-- One bit of a field, and that bit set to a value. -/
def State.fbit (s : State) (f : Field) (i : Nat) : Bool := (s.get f).testBit i
def State.putFbit (s : State) (f : Field) (i : Nat) (b : Bool) : State := s.put f (putBit (s.get f) i b)

/-- A one-bit field read as a truth value. -/
def State.on (s : State) (f : Field) : Bool := s.get f == 1

/-! ### Free values -/

/-- A free value of `w` bits; the counter moves on. -/
def State.fresh (s : State) (w : Nat) : Nat := Config.free s.freeCtr % 2 ^ w
def State.spend (s : State) : State := { s with freeCtr := s.freeCtr + 1 }

/-! ### Memory -/

/-- The model address of a conductor's code and data memories, of the image slots, the board tables and the two
life-log halves (notes/assumptions/5.md). -/
def condCode (k : Nat) : Nat := 0x200000000 + k * 0x100000
def condData (k : Nat) : Nat := 0x400000000 + k * 0x100000
def imageSlot (i : Nat) : Nat := 0x800000000 + i * 0x10000
def boardTable (i : Nat) : Nat := 0x1000000000 + i * 0x800
def lifeHalf (h : Nat) : Nat := 0x2000000000 + h * 0x8000
def optCopy (c : Nat) : Nat := 0x4000000000 + c * 0x100
def reWindow (n : Nat) : Nat := 0x40000000 + n * 0x10000

/-- R122, R398: an address of a code memory, whose contents are undefined until loaded (R125). -/
def isCode (a : Nat) : Bool :=
  (0x40000000 ≤ a && a < 0x44000000 && 0x8000 ≤ a % 0x10000 && a % 0x10000 < 0xC000)
    || (condCode 0 ≤ a && a < condCode 2)

/-- The core whose window a code address lies in (1,024 and 1,025 the conductors). -/
def codeOwner (a : Nat) : Nat := if a < 0x44000000 then (a - 0x40000000) / 0x10000 else 1024 + (a - condCode 0) / 0x100000

/-- What an unlisted address reads as: 0 (R125), or, for a code memory not loaded, a free byte. -/
def unlisted (gen : SMap Nat) (a : Nat) : Byte := if isCode a then Config.codeByte (SMap.get gen (codeOwner a) 0) a else 0

/-- R125, R149, R398: the code memories of some cores are undefined again. -/
def State.newCode (s : State) (cs : List Nat) : State :=
  { s with memGen := cs.foldl (fun m c => SMap.set m c (SMap.get m c 0 + 1) 0) s.memGen }

/-- The byte at a model address. -/
def State.readByte (s : State) (a : Nat) : Byte :=
  match SMap.find? s.mem a with
  | some b => b
  | none => unlisted s.memGen a

/-- A byte of a data memory that holds 0 is not listed; a byte of a code memory is listed once written. -/
def Memory.put (m : List Host.Cell) (a : Nat) (b : Byte) : List Host.Cell :=
  if isCode a then SMap.ins m a b else SMap.set m a b 0

/-- The canonical form of the memory: addresses strictly rising, and no data byte listed with the value 0. -/
def Memory.wf (m : List Host.Cell) : Bool :=
  match m with
  | [] => true
  | (a, b) :: r =>
    (isCode a || b != 0) && (match r with | [] => true | (a', _) :: _ => decide (a < a')) && Memory.wf r

/-- A byte written, bytes read and bytes written. -/
def State.writeByte (s : State) (a : Nat) (b : Byte) : State := { s with mem := Memory.put s.mem a b }
def State.readBytes (s : State) (a : Nat) : Nat → List Byte
  | 0 => []
  | n + 1 => s.readByte a :: s.readBytes (a + 1) n
def State.writeBytes (s : State) (a : Nat) : List Byte → State
  | [] => s
  | b :: r => (s.writeByte a b).writeBytes (a + 1) r

/-- R5: a little-endian number of `n` bytes read and written. -/
def State.readLe (s : State) (a n : Nat) : Nat := ofLeBytes (s.readBytes a n)
def State.writeLe (s : State) (a n v : Nat) : State := s.writeBytes a (leBytes n v)

/-- Every byte of a range forgotten (an unlisted byte again). -/
def State.dropMem (s : State) (lo hi : Nat) : State :=
  { s with mem := SMap.keep s.mem (fun a => !(decide (lo ≤ a) && decide (a < hi))),
           ecc := SMap.keep s.ecc (fun a => !(decide (lo ≤ a) && decide (a < hi))) }

/-- R501: the error of a protected word: 0 none, 1 single-bit, 2 uncorrectable; and a word's error set. -/
def State.eccAt (s : State) (a : Nat) : Nat := SMap.get s.ecc (a / 4 * 4) 0
def State.putEcc (s : State) (a v : Nat) : State := { s with ecc := SMap.set s.ecc (a / 4 * 4) v 0 }

/-! ### The time base (R345, R346, R541) -/

/-- TB_COUNT, 56 bits. -/
def State.now (s : State) : Nat := s.time.tick % 2 ^ 56

/-- Ticks pass up to tick `t`: the accumulator takes ADDEND at each (R346).  A tick already past changes nothing. -/
def State.adv (s : State) (t : Nat) : State :=
  let b := s.time
  let e := t / 2 ^ 23 * 2 ^ 23
  let inc := s.get Reg.TU_ADDEND_ADDEND
  if t ≤ b.tick then s
  else { s with time := { b with
    tick := t, acc := b.acc + (t - b.tick) * inc, epoch := max e b.epoch,
    epochAcc := if e > b.tick then b.acc + (e - b.tick) * inc else b.epochAcc } }

/-- The tick, while the time base runs. -/
def State.clock? (s : State) : Option Nat := if s.time.run then some s.time.tick else none
/-- Time moves on to `n` ticks after `t?`, where that is known and the time base runs. -/
def State.advFrom (s : State) (t? : Option Nat) (n : Nat) : State :=
  match t?, s.clock? with
  | some t, some _ => s.adv (t + n)
  | _, _ => s
/-- R505: entries carry the local clock, but for those before boot step 4. -/
def State.lcKnown (s : State) : Bool := !(decide (2 ≤ s.pw.boot) && decide (s.pw.boot ≤ 3))

/-- LC: seconds (48 bits) and nanoseconds (R346). -/
def accSec (acc : Nat) : Nat := acc / (1000000000 * 2 ^ 32) % 2 ^ 48
def accNs (acc : Nat) : Nat := acc / 2 ^ 32 % 1000000000
def State.lcSec (s : State) : Nat := accSec s.time.acc
def State.lcNs (s : State) : Nat := accNs s.time.acc
def State.lcFrac (s : State) : Nat := s.time.acc % 2 ^ 32

/-- The first tick at or after `t` that is a multiple of `m`. -/
def alignUp (m t : Nat) : Nat := ceilDiv t m * m

/-! ### Words under parity (R126, R435, R501) -/

/-- R129, R435: a parity bit of the word disagrees with its half. -/
def HqWord.bad (h : HqWord) : Bool := h.parity != parityOf h.word
def MonEntry.bad (e : MonEntry) : Bool := e.parity != parityOf e.word

/-! ### Power, domains and roles -/

/-- R455: an option byte in use. -/
def State.optByte (s : State) (i : Nat) : Nat := SMap.get s.opts i (optSafeWord (i / 4) / 256 ^ (i % 4) % 256)
/-- R472: the lifecycle state: 0 BLANK, 1 PROVISIONED, 2 SEALED, 3 RETURNED, 4 VOID. -/
def State.lc (s : State) : Nat := s.get Reg.SEC_STAT_LC

/-- PR_STATE.STATE (R443): 1 KEEP, 2 STANDBY, 3 ARMED, 4 ACQUIRE, 5 BOOT. -/
def State.pwr (s : State) : Nat := s.get Reg.PR_STATE_STATE
/-- The device is in ARMED or ACQUIRE. -/
def State.armed (s : State) : Bool := s.pwr == 3 || s.pwr == 4
/-- The domain is at power-good (R442). -/
def State.dom (s : State) (d : Nat) : Bool := s.fbit Reg.PR_DOM_PG_PG d
/-- R22: the stripe of a region, and its domains. -/
def stripeOf (n : Nat) : Nat := n / 128
def domAna (st : Nat) : Nat := 3 + st
def domDig (st : Nat) : Nat := 11 + st
/-- R393: the keel that holds the grant. -/
def State.active? (s : State) : Option Nat :=
  match s.get Reg.ARB_STAT_GRANT with
  | 1 => some 0
  | 2 => some 1
  | _ => none

/-! ### The life log's deltas (R515, R516) -/

/-- The counter of the image at an offset advanced in the deltas. -/
def State.lifeAdd (s : State) (off n : Nat) : State :=
  { s with life := { s.life with delta := SMap.set s.life.delta off (SMap.get s.life.delta off 0 + n) 0 } }
/-- The keel that is in charge: the one that holds the grant, or in a fail-over the one that will take it (R412). -/
def State.spillKeel? (s : State) : Option Nat :=
  match s.active?, s.failover with
  | some k, _ => some k
  | none, some (_, n, _) => if s.get Reg.ARB_STAT_PHASE == 1 then some n else none
  | none, none => none

/-- R515: event `i` counted. -/
def State.lifeEvent (s : State) (i : Nat) : State := s.lifeAdd (0x18 + 4 * i) 1
/-- R517: a notable event asks for a commit. -/
def State.notable (s : State) : State := { s with life := { s.life with notable := true } }
/-- R501, R504: the SEU count of a block class advanced. -/
def State.seu (s : State) (c : Nat) : State := (s.bump (Reg.EL_SEU_COUNT c) 1).lifeAdd (0x60 + 8 * c) 1

/-- R501: a read of a protected word finds a single-bit error: it is corrected and the SEU count of its class advances. -/
def State.eccFix (s : State) (a c : Nat) : State := if s.eccAt a = 1 then (s.putEcc a 0).seu c else s

/-- R501: a read of a data-path word meets error `e` (1 single-bit, 2 uncorrectable): a single-bit one is corrected and counted in its
class. -/
def State.eccCount (s : State) (c e : Nat) : State := if e = 1 then s.seu c else s

/-! ### Interrupts (R470) -/

/-- A bit of PR_IRQ_STAT set. -/
def State.irq (s : State) (i : Nat) : State := s.hwSetBit Reg.PR_IRQ_STAT_IRQ i
/-- R470: IRQ_N is driven low. -/
def State.irqLow (s : State) : Bool := (s.get Reg.PR_IRQ_STAT_IRQ &&& s.get Reg.PR_IRQ_EN_EN) != 0

/-! ### Messages and notices (R375, R385, R386) -/

/-- The state of a port, and that state set. -/
def PortSt.reset : PortSt := ⟨false, false, false, [], [], [], [], [], 0, 0, 0, none, none⟩
def State.port (s : State) (p : Nat) : PortSt := SMap.get s.ports p PortSt.reset
def State.setPort (s : State) (p : Nat) (v : PortSt) : State :=
  { s with ports := SMap.set s.ports p v PortSt.reset }

/-- The state of a TX slot. -/
def TxSt.reset : TxSt := ⟨[], [], [], 0, none, [], false, 0, 0, none, [], 0, 0, 0, 0⟩
def State.tx (s : State) (i : Nat) : TxSt := SMap.get s.txs i TxSt.reset
def State.setTx (s : State) (i : Nat) (v : TxSt) : State := { s with txs := SMap.set s.txs i v TxSt.reset }

/-- R326, R384: bytes as payload words; the first one starts a block or a message. -/
def blockPayload (bs : List Byte) : List (Bool × Word64) :=
  match wordsOfBytes (bs.length / 8) bs with
  | [] => []
  | w :: r => (true, w) :: r.map (fun x => (false, x))

/-- R328, R384: a block or a message placed whole on a slot. -/
def State.place (s : State) (i : Nat) (bs : List Byte) : State :=
  s.setTx i { s.tx i with payload := (s.tx i).payload ++ blockPayload bs }

/-- R375: header, payload and CRC of a message. -/
def msgBytes (m : Msg) : List Byte :=
  let h := [m.dest, m.src] ++ leBytes 2 m.tagw.toNat ++ [m.opcode, m.status] ++ leBytes 2 m.seq.toNat ++ leBytes 2 m.payload.length
    ++ leBytes 2 m.epoch.toNat ++ m.payload
  h ++ leBytes 4 (crc32c h)

/-- R384: bytes padded with zeros to a multiple of 8. -/
def padWords (bs : List Byte) : List Byte := bs ++ List.replicate ((8 - bs.length % 8) % 8) 0

/-- R343: CC_CFG.TXSLOT as it acts. -/
def State.ccSlot (s : State) : Nat := min (s.get Reg.CC_CFG_TXSLOT) 35

/-- R384: a control message placed on a slot, beside the blocks that wait there. -/
def State.placeMsg (s : State) (i : Nat) (bs : List Byte) : State :=
  let s1 := s.place i bs
  s1.setTx i { s1.tx i with onLane := (s1.tx i).onLane ++ [(65, 0, 0, bs.length / 8)] }

/-- What waits on a slot that is a control message, and the payload words of what a test picks. -/
def isLaneMsg (e : Nat × Nat × Nat × Nat) : Bool := e.1 == 65
def laneOnly {α : Type} (keep : Nat × Nat × Nat × Nat → Bool) : List (Nat × Nat × Nat × Nat) → List α → List α
  | [], _ => []
  | e :: r, pay => (if keep e then pay.take e.2.2.2 else []) ++ laneOnly keep r (pay.drop e.2.2.2)

/-- A slot with only what a test picks of what waits on it; a word's error (R501) stays with its word. -/
def TxSt.kept (v : TxSt) (keep : Nat × Nat × Nat × Nat → Bool) : TxSt :=
  { v with payload := laneOnly keep v.onLane v.payload, onLane := v.onLane.filter keep,
           ecc := match (laneOnly keep v.onLane (List.range v.payload.length)).findIdx? (· + 1 == v.ecc) with
             | some i => i + 1
             | none => 0 }

/-- R384: the control messages that wait on a slot which cannot carry them any more are discarded and counted. -/
def State.msgsLost (s : State) (i : Nat) : State :=
  let v := s.tx i
  if v.onLane.any isLaneMsg then
    (s.setTx i (v.kept (fun e => !isLaneMsg e))).bump Reg.CC_STAT_DROP (v.onLane.countP isLaneMsg)
  else s

/-- R384: slot `i` carries no logical lane and is in host state UP. -/
def State.slotCarries (s : State) (i : Nat) : Bool := s.get (Reg.LN_TXSTAT_LOGL i) == 63 && s.get (Reg.LN_TXSTAT_HSTATE i) == 1

/-- A message put on a port's carrier; on the host channel, in the payload slots of TXSLOT (R384). -/
def State.emit (s : State) (p : Nat) (m : Msg) : State :=
  let s1 := { s with sent := s.sent ++ [⟨p, m, 0, 0⟩] }
  if p = 2 then s1.placeMsg s1.ccSlot (padWords (msgBytes m)) else s1

/-- R384: the host channel can carry a message: CC_CFG.EN, the device in ARMED or ACQUIRE, TXSLOT not carrying a
logical lane and in host state UP. -/
def State.ccUp (s : State) : Bool :=
  s.on Reg.CC_CFG_EN && s.armed && s.slotCarries s.ccSlot

/-- R385: a message is a notice. -/
def isNotice (m : Msg) : Bool := m.opcode == 8

/-- R372, R385: a message of a tether port as it goes out now, from the port's position. -/
def State.fromHere (s : State) (p : Nat) (m : Msg) : Msg := { m with src := BitVec.ofNat 8 (s.get (Reg.TH_CTRL_POS p)) }
/-- A notice as the port keeps it, without the position it goes out from. -/
def keptNotice (m : Msg) : Msg := { m with src := 0 }

/-- R386: the port's oldest kept notice goes out, unless one is outstanding, the port is LONE or it is not inserted. -/
def State.pump (s : State) (p : Nat) : State :=
  let q := s.port p
  match q.notices with
  | [] => s
  | m :: _ =>
    if q.flight.any (fun e => isNotice e.1) || s.on (Reg.TH_STAT_LONE p) || !q.inserted then s
    else (s.setPort p { q with flight := q.flight ++ [(s.fromHere p m, 0)] }).emit p (s.fromHere p m)

/-- R385: the notice of a kind with its detail; a tether port puts its position in SRC when it sends it. -/
def noticeMsg (kind : Nat) (detail : List Byte) : Msg :=
  { dest := 0, src := 0, tagw := 0, opcode := 8, status := 0, seq := 0, epoch := 0, payload := BitVec.ofNat 8 kind :: 0 :: 0 :: 0 :: detail.take 60 }

/-- R493, R498: the monitor responds: SVC on, the service core not held by the debugger. -/
def State.monAlive (s : State) : Bool := s.dom 1 && !s.sec.halted
/-- R498: the monitor prints a line. -/
def State.printLine (s : State) (l : List Byte) : State := { s with uart := { s.uart with printed := s.uart.printed ++ [l] } }
/-- R498: the response lines: OK with its fields, ERR with its status. -/
def okLine (fields : List (List Byte)) : List Byte := ascii "OK" ++ fields.flatMap (fun f => 32 :: f)
def errLine (st : Nat) (fields : List (List Byte)) : List Byte :=
  ascii "ERR " ++ hexOf 2 st ++ fields.flatMap (fun f => 32 :: f)

/-- R385, R386: a notice to a port: kept in a tether port's notice queue of 16 (the oldest dropped when full), sent on
the host channel or counted as dropped there (R384), printed by the monitor. -/
def State.notice (s : State) (p kind : Nat) (detail : List Byte) : State :=
  let m := noticeMsg kind detail
  if p < 2 then
    let q := s.port p
    let s := if q.notices.length < 16 then s.setPort p { q with notices := q.notices ++ [m] }
      else (s.setPort p { q with notices := q.notices.tail ++ [m], flight := q.flight.filter (fun e => !isNotice e.1) }).bump
        (Reg.TH_CNT_NDROP p) 1
    (s.put (Reg.TH_STAT_NQ p) (s.port p).notices.length).pump p
  else if p = 2 then
    if s.ccUp then s.emit 2 m else s.bump Reg.CC_STAT_DROP 1
  else if s.monAlive then s.printLine (ascii "NOTICE " ++ hexOf 2 kind ++ 32 :: hexBytes (detail.take 60))
  else s

/-- R387: the owner's port, if the device is owned. -/
def State.owner? (s : State) : Option Nat :=
  if s.get Reg.OWN_STAT_STATE == 0 then none else some (s.get Reg.OWN_STAT_OWNER)

/-- R385: a notice of kinds 2 to 5 goes to the owner's port; with no owner it is discarded. -/
def State.noticeOwner (s : State) (kind : Nat) (detail : List Byte) : State :=
  match s.owner? with
  | some p => s.notice p kind detail
  | none => s

/-! ### The error log (R505 to R510) -/

/-- An error: severity, source, code, unit, info, whether it records an escalation step, and the recovery action that
closes it (none: closed at once, R508). -/
structure Err where
  sev  : Nat
  src  : Nat
  code : Nat
  unit : Nat
  info : Nat := 0
  esc  : Bool := false
  openKey : Option Nat := none
  deriving DecidableEq, Repr

/-- R507: the slot a new entry takes: a free one, else the oldest of the lowest severity held where that does not exceed
the new entry's. -/
def State.errSlot (s : State) (sev : Nat) : Option Nat :=
  match (List.range 32).find? (fun i => s.get (Reg.EL_ENTRY0_SEV i) == 0) with
  | some i => some i
  | none =>
    let low := minOf 3 (s.errOrder.map (fun i => s.get (Reg.EL_ENTRY0_SEV i)))
    if low ≤ sev then s.errOrder.find? (fun i => s.get (Reg.EL_ENTRY0_SEV i) == low) else none

/-- The four words of an entry (R505). -/
def State.errWords (s : State) (e : Err) (nest : Bool) : List Nat :=
  let lcOn := s.lcKnown
  [s.get Reg.EL_STAT_NEXTSEQ * 0x10000 + e.sev * 0x4000 + e.src * 0x100 + e.code,
   e.unit % 1024 * 0x400000 + e.info % 0x400000,
   if lcOn then s.lcSec % 2 ^ 32 else 0,
   b2n nest * 2 ^ 31 + b2n e.esc * 2 ^ 30 + (if lcOn then s.lcNs else 0)]

/-- The fields of a slot set to an entry's. -/
def State.errPut (s : State) (i : Nat) (e : Err) (nest : Bool) : State :=
  let lcOn := s.lcKnown
  let sec := if lcOn then s.lcSec else 0
  let ns := if lcOn then s.lcNs else 0
  let q := s.get Reg.EL_STAT_NEXTSEQ
  ((((((((((s.put (Reg.EL_ENTRY0_SEQ i) q).put (Reg.EL_ENTRY0_SEV i) e.sev).put (Reg.EL_ENTRY0_SOURCE i) e.src).put
    (Reg.EL_ENTRY0_CODE i) e.code).put (Reg.EL_ENTRY1_UNIT i) e.unit).put (Reg.EL_ENTRY1_INFO i) e.info).put
    (Reg.EL_ENTRY2_SECS i) sec).put (Reg.EL_ENTRY3_NEST i) (b2n nest)).put (Reg.EL_ENTRY3_ESC i) (b2n e.esc)).put
    (Reg.EL_ENTRY3_NS i) ns)

/-- R507 to R509: an error is logged: its slot, SEQ and overflow count; NEST where another entry is open; the life-log
counts (R514, R515); IRQ bit 0 and a notice of kind 5 for medium and high severity. -/
def State.err (s : State) (e : Err) : State :=
  let nest := !s.errOpen.isEmpty
  let ws := s.errWords e nest
  let full := (List.range 32).all (fun i => s.get (Reg.EL_ENTRY0_SEV i) != 0)
  let s1 := match s.errSlot e.sev with
    | some i => { s.errPut i e nest with errOrder := s.errOrder.filter (· != i) ++ [i] }
    | none => s
  let s2 := s1.putIf full Reg.EL_STAT_OVF (satAdd 8 (s1.get Reg.EL_STAT_OVF) 1)
  let s3 := (s2.put Reg.EL_STAT_COUNT s2.errOrder.length).put Reg.EL_STAT_NEXTSEQ (s2.get Reg.EL_STAT_NEXTSEQ + 1)
  let s4 := match e.openKey, s.errSlot e.sev with
    | some k, some _ => { s3 with errOpen := s3.errOpen ++ [k] }
    | _, _ => s3
  let s5 := (if s4.time.run then { s4 with cyc := { s4.cycNow with errs := s4.cycNow.errs ++ [ws] } } else s4).lifeEvent (9 + e.sev)
  let s6 := if e.sev == 3 then { s5.notable with life := { s5.notable.life with high := (ws :: s5.life.high).take 8 } } else s5
  if e.sev ≥ 2 then (s6.irq 0).noticeOwner 5 (ws.flatMap (leBytes 4)) else s6

/-- An error whose INFO no rule states: INFO is a free value (notes/assumptions/58.md). -/
def State.errFree (s : State) (e : Err) : State := s.spend.err { e with info := s.fresh 22 }

/-- R508: the recovery action of the entries under a key has completed. -/
def State.errClose (s : State) (k : Nat) : State := { s with errOpen := s.errOpen.filter (· != k) }

/-! ### Marks (R134) -/

/-- A mark goes out to the regions; MARK_EVENT brings it to each. -/
def State.mark (s : State) (ch detail tick fine : Nat) : State :=
  { s with marks := s.marks ++ [⟨ch, detail, tick, fine, []⟩] }

/-- R267: the mark of a stream's opening or closing (detail below or from 128) goes to the regions whose STREAM_MASK has
the stream's bit. -/
def State.markStream (s : State) (detail tick : Nat) : State :=
  let dests := (List.range 1024).filter (fun n => s.fbit (Reg.STREAM_MASK_MASK n) (detail % 64))
  { s with marks := s.marks ++ [⟨15, detail, tick, 0, dests⟩] }

end Sys2Proof.Machine
end

