-- ==== Sys2Proof/Machine/Cores.lean ====
section
/-! DEFINITION. Regions and cores as every chapter meets them: who serves a region (R120), waking (R33), the hit
queue's input (R127 to R131), gap records (R138), core start (R132, R139) and core reset (R137). -/
namespace Sys2Proof.Machine

def Flags.zero : Flags := ⟨false, false, false, false, false, false, false, false⟩

def CoreSt.reset : CoreSt :=
  { g := [], tags := 0, pc := 0, flags := Flags.zero, rsel := 0, closePend := false, closeBuddy := false,
    closeAck := false, closeNext := [], closedOwn := false, closedBuddy := false, latched := 0, ie := false, inHandler := false, byIrq := false, eflags := Flags.zero, epc := 0,
    cycle := 0, avail := [], lastPop := false, waiting := none, evq := [], ovrNext := false, mbox := [], outq := [], emits := [],
    wdStart := 0, timers := [], bstat := 0, msrc := 0, inq := [], busr := none, busw := [], bfence := false,
    buswFail := 0, hbAt := 0, dbgHalt := false, brks := [], brkPass := false, stepping := none }

def RegionSt.reset : RegionSt := ⟨[], none, 0, [], [], [], none, none, 0, 0, 0, (0, 0, [])⟩

/-- A core's and a region's state, and those states set. -/
def State.core (s : State) (c : Nat) : CoreSt := SMap.get s.cores c CoreSt.reset
def State.setCore (s : State) (c : Nat) (v : CoreSt) : State := { s with cores := SMap.set s.cores c v CoreSt.reset }
def State.region (s : State) (n : Nat) : RegionSt := SMap.get s.regions n RegionSt.reset
def State.setRegion (s : State) (n : Nat) (v : RegionSt) : State :=
  { s with regions := SMap.set s.regions n v RegionSt.reset }

/-- R23: the buddy of a region. -/
def buddy (n : Nat) : Nat := n ^^^ 1

/-- R120, R147: the core that serves region `n` (the buddy while ADOPTED or RETURNING). -/
def State.servedBy (s : State) (n : Nat) : Nat :=
  if s.get (Reg.ADOPT_STAT_STATE n) ≥ 2 then buddy n else n

/-- R128: core `c` serves its own region; core `c` serves its buddy's region. -/
def State.servesOwn (s : State) (c : Nat) : Bool := s.servedBy c == c
def State.servesBuddy (s : State) (c : Nat) : Bool := s.servedBy (buddy c) == c

/-- R132: the core states of CORE_STAT.STATE. -/
def cHALTED : Nat := 1
def cRUNNING : Nat := 2
def cIDLE : Nat := 3
def cBIST : Nat := 4
def State.coreState (s : State) (c : Nat) : Nat := s.get (Reg.CORE_STAT_STATE c)
def State.coreAlive (s : State) (c : Nat) : Bool := s.coreState c == cRUNNING || s.coreState c == cIDLE

/-- R141: the exception codes. -/
def xILLEGAL : Nat := 1
def xCODE_ECC : Nat := 2
def xDATA_ECC : Nat := 3
def xALIGN : Nat := 4
def xRANGE : Nat := 5
def xNO_STREAM : Nat := 6
def xBAD_STREAM : Nat := 7
def xCSR_PROT : Nat := 8
def xBREAK : Nat := 9
def xTRAP : Nat := 10

/-- R137, R493: the watchdog of core `c` counts, where the core runs: WDOG.EN = 1 and no debug halt.  While it does not count,
`wdStart` holds the count so far, else the tick from which it counts. -/
def State.wdRuns (s : State) (c : Nat) : Bool := s.on (Reg.WDOG_EN c) && !(s.core c).dbgHalt
/-- R137: `wdStart` of a watchdog that restarts. -/
def State.wdZero (s : State) (c : Nat) : Nat := if s.wdRuns c then s.time.tick else 0

/-- R33, R34, R137: an event starts an idle core's clock; its watchdog counts from there. -/
def State.wake (s : State) (c : Nat) : State :=
  if s.coreState c == cIDLE then
    (s.put (Reg.CORE_STAT_STATE c) cRUNNING).setCore c { s.core c with wdStart := s.wdZero c }
  else s

/-- R174: a latched event of EPEND is set; the core wakes. -/
def State.latchEv (s : State) (c bitNo : Nat) : State :=
  (s.setCore c { s.core c with latched := setBit (s.core c).latched bitNo }).wake c

/-- R131: the level of HQ_CTRL (0 acts as 1, above 64 as 64). -/
def State.hqLevel (s : State) (n : Nat) : Nat := min 64 (max 1 (s.get (Reg.HQ_CTRL_LEVEL n)))

/-- R127, R128: a hit word is discarded and counted as ballast; a hit in ARMED is no recorded data and reaches no ballast mark (R37,
notes/assumptions/86.md). -/
def State.hitDrop (s : State) (n : Nat) : State :=
  let s := (s.bump (Reg.HQ_BALLAST_COUNT n) 1).hwSet (Reg.CORE_STAT_HQB (s.servedBy n)) 1
  if s.pwr = 4 then s.setRegion n { s.region n with balHq := (s.region n).balHq + 1 } else s

/-- R126 to R131: the hit assist writes a hit word to the hit queue of region `n`, or discards it as ballast. -/
def State.pushHit (s : State) (n : Nat) (w : Word64) (poison : Bool) : State :=
  let r := s.region n
  let c := s.servedBy n
  if !s.coreAlive c || r.hq.length ≥ 64 then s.hitDrop n
  else
    let s1 := (s.setRegion n { r with hq := r.hq ++ [⟨w, poison, parityOf w⟩] }).put (Reg.HQ_STAT_OCC n) (r.hq.length + 1)
    let s2 := if r.hq.length + 1 == s1.hqLevel n then (s1.hwSet (Reg.HQ_STAT_LVL n) 1).latchEv c 1 else s1
    ({ s2 with hitWords := SMap.set s2.hitWords (stripeOf n) (SMap.get s2.hitWords (stripeOf n) 0 + 1) 0 }).wake c

/-- R264: the two words of a gap mark. -/
def gapWords (cause : Nat) (all : Bool) (region start stop count : Nat) : List Word64 :=
  [mkWord [(60, 4, 0xE), (57, 3, cause), (56, 1, b2n all), (46, 10, if all then 0 else region), (0, 40, start)],
   mkWord [(24, 40, stop), (0, 24, count)]]

/-- R138: one gap record per stream of STREAM_MASK goes ahead of the next slot's records; GAP_CNT counts. -/
def State.gap (s : State) (n stop : Nat) : State :=
  let mask := s.get (Reg.STREAM_MASK_MASK n)
  let start := s.get (Reg.SAFE_TICK_TICK n)
  let gs := ((List.range 64).filter (fun k => mask.testBit k)).map
    (fun k => (⟨gapWords 0 false n start stop 0, k, false, .gap, false, 0⟩ : OutEntry))
  (s.setRegion n { s.region n with gapq := (s.region n).gapq ++ gs }).bump (Reg.GAP_CNT_COUNT n) 1

/-- R172 (TEXT): the latest tick not later than `now` with the low 24 bits `c`. -/
def textTick (now c : Nat) : Nat := now - (now + 2 ^ 24 - c % 2 ^ 24) % 2 ^ 24

/-- R166: SAFE_TICK rises to `t`, at most to TB_COUNT, and never falls; the active keel holds it (R450). -/
def State.safeTo (s : State) (n t : Nat) : State :=
  let v := min t s.now
  if v < s.get (Reg.SAFE_TICK_TICK n) then s
  else { s.put (Reg.SAFE_TICK_TICK n) v with pw := { s.pw with safe := SMap.set s.pw.safe n v 0 } }

/-- R139: SAFE_TICK of a region at a core start. -/
def State.safeAtStart (s : State) (n : Nat) : State :=
  match (s.region n).hq with
  | [] => s.safeTo n s.now
  | w :: r =>
    let t := fun (h : HqWord) => textTick s.now (bits h.word.toNat 19 24)
    s.safeTo n (minOf (t w) (r.map t) - 1)

/-- R139: SAFE_TICK of every region the core serves. -/
def State.safeAtStartAll (s : State) (c : Nat) : State :=
  let s := if s.servesOwn c then s.safeAtStart c else s
  if s.servesBuddy c then s.safeAtStart (buddy c) else s

/-- R132: a core's code is valid for its LEVEL. -/
def State.codeValid (s : State) (c : Nat) : Bool :=
  !s.on (Reg.CORE_CTRL_LEVEL c) || s.on (Reg.CORE_CTRL_VALID c)

/-- R132: the conditions of a start: ARMED or ACQUIRE, the core serves a region, its code is valid. -/
def State.mayStart (s : State) (c : Nat) : Bool :=
  s.armed && (s.servesOwn c || s.servesBuddy c) && s.codeValid c

/-- What a core keeps through a start or a reset: its mailbox and output buffer are kept by a start only; its debug
breakpoints by both; a conductor's inbound queue and outstanding writes by a start; the lost-mark note of R136 by neither. -/
def CoreSt.started (k : CoreSt) (tick entry wd : Nat) : CoreSt :=
  { CoreSt.reset with pc := entry, mbox := k.mbox, outq := k.outq, wdStart := wd, timers := k.timers,
                      brks := k.brks, dbgHalt := k.dbgHalt, inq := k.inq, busw := k.busw, hbAt := tick }

/-- R132, R139, R158: a core starts at ENTRY: registers, flags and internal registers 0, event queue empty. -/
def State.coreStart (s : State) (c : Nat) : State :=
  let entry := if s.on (Reg.CORE_CTRL_LEVEL c) then s.get (Reg.ENTRY_IDX c) else 0
  let s1 := (s.put (Reg.CORE_STAT_STATE c) cRUNNING).setCore c ((s.core c).started s.time.tick entry (s.wdZero c))
  ((s1.put (Reg.MBOX_STAT_EVQ c) 0).put (Reg.CORE_CTRL_HALT c) 0).safeAtStartAll c

/-- R137: a core reset: registers, queues and buffer cleared, the registers that a core reset reaches at their reset
values, the core HALTED.  EXC counts as a core state field and SERVE2 does not (DEDUCED, notes/assumptions/86.md). -/
def State.coreReset (s : State) (c : Nat) : State :=
  let s1 := s.setCore c { CoreSt.reset with brks := (s.core c).brks }
  let z := fun (st : State) (f : Field) => st.put f f.rst
  List.foldl z s1
    [Reg.CORE_STAT_EXC c, Reg.CORE_STAT_NEST c, Reg.CORE_STAT_WDG c, Reg.CORE_STAT_MOVR c, Reg.CORE_STAT_OQB c,
     Reg.CORE_STAT_HQB c, Reg.CORE_STAT_STATE c, Reg.TMR_CTRL_EN c 0, Reg.TMR_CTRL_PERIODIC c 0, Reg.TMR_CTRL_EN c 1,
     Reg.TMR_CTRL_PERIODIC c 1, Reg.EVT_EN_EN c, Reg.EXC_CAUSE_CODE c, Reg.EXC_PC_IDX c, Reg.EXC_ADDR_OFS c,
     Reg.MBOX_STAT_EVQ c, Reg.MBOX_STAT_IN c, Reg.OUTQ_STAT_OCC c, Reg.CORE_CTRL_HALT c, Reg.CORE_CTRL_GO c]

/-- R138: core `c` holds records of its own or its buddy's region, in its output buffer or in an emission. -/
def State.holdsOf (s : State) (c : Nat) (forBuddy : Bool) : Bool :=
  (s.core c).outq.any (fun e => e.cls != .message && e.buddy == forBuddy)
    || (s.core c).emits.any (fun e => e.region == (if forBuddy then buddy c else c))

/-- R138: the gaps of every region the core serves, and of one whose records it still holds; each goes to that region's serving
core. -/
def State.gapAll (s : State) (c stop : Nat) : State :=
  let own := s.servesOwn c || s.holdsOf c false
  let other := s.servesBuddy c || s.holdsOf c true
  let s := if own then s.gap c stop else s
  if other then s.gap (buddy c) stop else s

/-- R138: the gap of the buddy's region, where the core that is reset still holds records of it; an adoption's own gap covers the
core's region. -/
def State.gapHeld (s : State) (c stop : Nat) : State := if s.holdsOf c true then s.gap (buddy c) stop else s

/-- SERVE2 (R121's register): the core also serves its buddy's region. -/
def State.serve2 (s : State) (c : Nat) : State := s.put (Reg.CORE_STAT_SERVE2 c) (b2n (s.servesBuddy c))

end Sys2Proof.Machine
end

