-- ==== Sys2Proof/Machine/Pixels.lean ====
section
/-! DEFINITION. The pixel matrix (R47 to R78): configuration words and their loaders, bias, discriminator outputs and the
hits they make, test-pulse trains, the prompt-sum commit. -/
namespace Sys2Proof.Machine

/-- One tick in units of time (a unit is a fifth of R92's unit, so that every period of R83 to R89 is a whole number). -/
def tickU : Nat := 163840

def PixOut.reset : PixOut := ⟨false, none⟩
def State.pix (s : State) (p : Nat) : PixOut := SMap.get s.pixs p PixOut.reset
def State.setPix (s : State) (p : Nat) (v : PixOut) : State := { s with pixs := SMap.set s.pixs p v PixOut.reset }
def State.hit? (s : State) (p : Nat) : Option HitSt := SMap.find? s.hits p
def State.setHit (s : State) (p : Nat) (h : HitSt) : State := { s with hits := SMap.ins s.hits p h }
def State.dropHit (s : State) (p : Nat) : State := { s with hits := SMap.erase s.hits p }

/-! ### The configuration words (R56 to R64) -/

/-- R56: the shadow word of local pixel `l` of region `n`. -/
def State.cfgWord (s : State) (n l : Nat) : Nat :=
  s.get (Reg.PIXCFG_TRIM n l) * 0x400 + s.get (Reg.PIXCFG_GAIN n l) * 0x100 + s.get (Reg.PIXCFG_MASK n l) * 0x80
    + s.get (Reg.PIXCFG_TPEN n l) * 0x40 + s.get (Reg.PIXCFG_LCEN n l) * 0x20 + s.get (Reg.PIXCFG_AOFF n l) * 0x10

/-- R56: the reset word. -/
def cfgReset : Nat := 0x80A0

/-- R61: the word in a pixel's latches; MASK and AOFF of it. -/
def State.latchOf (s : State) (p : Nat) : Nat := SMap.get s.latches p cfgReset
def latchMask (w : Nat) : Bool := w.testBit 7
def latchTpen (w : Nat) : Bool := w.testBit 6
def latchAoff (w : Nat) : Bool := w.testBit 4

/-- R64: a region has words not yet in force. -/
def RegionSt.loading (r : RegionSt) : Bool := !r.pend.isEmpty || r.shifting.isSome

/-- R64: CFG_STAT.PENDING follows a change of a region's loader. -/
def State.setLoader (s : State) (n : Nat) (r : RegionSt) : State :=
  let was := b2n (s.region n).loading
  let f := Reg.CFG_STAT_PENDING (stripeOf n)
  let s := s.setRegion n r
  s.put f (s.get f + b2n r.loading - was)

/-- R61: an idle loader takes the lowest pending word with the value it holds, also while ANAs is off; that transfer is then
the first to complete once ANAs is on, before the words of R69 step 2 (DESIGN CHOICE, notes/assumptions/85.md). -/
def State.loaderStart (s : State) (n : Nat) : State :=
  let r := s.region n
  match r.shifting, r.pend with
  | none, l :: rest => s.setLoader n { r with shifting := some (l, s.cfgWord n l), pend := rest }
  | _, _ => s

/-- R61, R62: words of a region are marked pending. -/
def State.markPending (s : State) (n : Nat) (ls : List Nat) : State :=
  let r := s.region n
  (s.setLoader n { r with pend := ls.foldl (fun a l => insertSorted l a) r.pend }).loaderStart n

/-- R63: a mismatch is repaired: the word is rewritten, REPAIRS counts, a low-severity error is logged. -/
def State.cfgRepair (s : State) (n l : Nat) : State :=
  ((s.markPending n [l]).bump (Reg.CFG_STAT_REPAIRS (stripeOf n)) 1).err
    { sev := 1, src := 1, code := 0x08, unit := n, info := l }

/-- R56: a port's or core's write to 32 bits of the configuration area marks both words pending. -/
def State.cfgWrite (s : State) (n j v : Nat) : State :=
  let one := fun (st : State) (l w : Nat) =>
    (((((st.put (Reg.PIXCFG_TRIM n l) (bits w 10 6)).put (Reg.PIXCFG_GAIN n l) (bits w 8 2)).put
      (Reg.PIXCFG_MASK n l) (bits w 7 1)).put (Reg.PIXCFG_TPEN n l) (bits w 6 1)).put
      (Reg.PIXCFG_LCEN n l) (bits w 5 1)).put (Reg.PIXCFG_AOFF n l) (bits w 4 1)
  (one (one s (2 * j) (v % 2 ^ 16)) (2 * j + 1) (v / 2 ^ 16)).markPending n [2 * j, 2 * j + 1]

/-- R164: a 16-bit store of a core to one word of the configuration area. -/
def State.cfgWriteHalf (s : State) (n l w : Nat) : State :=
  (((((((s.put (Reg.PIXCFG_TRIM n l) (bits w 10 6)).put (Reg.PIXCFG_GAIN n l) (bits w 8 2)).put
    (Reg.PIXCFG_MASK n l) (bits w 7 1)).put (Reg.PIXCFG_TPEN n l) (bits w 6 1)).put
    (Reg.PIXCFG_LCEN n l) (bits w 5 1)).put (Reg.PIXCFG_AOFF n l) (bits w 4 1))).markPending n [l]

/-! ### Hits (R30, R53 to R59) -/

/-- R53: the ToT code of an interval. -/
def totCode (rise fall : Nat) : Nat := min 511 ((fall - rise) / (8 * tickU))

/-- R59, R30: a hit in progress ends at a time with the ToT measured up to it. -/
def State.endHit (s : State) (p time : Nat) : State :=
  match s.hit? p with
  | some h => if h.ended.isNone then s.setHit p { h with ended := some (totCode h.rise time, time) } else s
  | none => s

/-- R61: the word in shift reaches the latches; MASK or AOFF going to 1 ends a hit in progress (R59). -/
def State.cfgLatch (s : State) (n l w time : Nat) : State :=
  let p := n * 128 + l
  let old := s.latchOf p
  let s1 := { s with latches := SMap.set s.latches p w cfgReset }
  if (latchMask w && !latchMask old) || (latchAoff w && !latchAoff old) then s1.endHit p time else s1

/-- R61, R62, R63: the transfer of region `n` completes; the read-back differs from the shadow by `upset`; the loader
goes on with the lowest pending word.  A word written again while it was shifted is not compared
(DESIGN CHOICE, notes/assumptions/85.md). -/
def State.cfgTransfer (s : State) (n time upset : Nat) : State :=
  let r := s.region n
  match r.shifting with
  | none => s
  | some (l, w) =>
    if !(s.dom (domDig (stripeOf n)) && s.dom (domAna (stripeOf n))) then s
    else
      let s1 := (s.cfgLatch n l w time).setLoader n { r with shifting := none }
      let bad := upset &&& 0xFFF0
      let s2 := if bad != 0 && !r.pend.contains l then
          ({ s1 with latches := SMap.set s1.latches (n * 128 + l) (w ^^^ bad) cfgReset }).cfgRepair n l
        else s1
      s2.loaderStart n

def execConfigTransfer (n : Fin 1024) (time : Nat) (upset : BitVec 16) (s : State) : Host.Outcome State Fault Refusal :=
  .next (s.cfgTransfer n.val time upset.toNat)

/-- R63: the rotation reads a word back; a mismatch (the latches upset by `upset`) is repaired. A word pending or in
shift is not compared, and an upset that sets MASK or AOFF ends no hit (DESIGN CHOICE, notes/assumptions/85.md). -/
def State.cfgReadback (s : State) (p upset : Nat) : State :=
  let n := p / 128
  let l := p % 128
  let r := s.region n
  let busy := r.pend.contains l || (match r.shifting with | some (l', _) => l' == l | none => false)
  if busy || !(s.dom (domDig (stripeOf n)) && s.dom (domAna (stripeOf n))) then s
  else
    let w := s.latchOf p ^^^ (upset &&& 0xFFF0)
    let s1 := { s with latches := SMap.set s.latches p w cfgReset }
    if w != s.cfgWord n l then s1.cfgRepair n l else s1

def execConfigReadback (p : Fin 131072) (upset : BitVec 16) (s : State) : Host.Outcome State Fault Refusal :=
  .next (s.cfgReadback p.val upset.toNat)

/-- R30, R54: the output rose at `rise` and the hit has no end yet. -/
def State.open? (s : State) (p : Nat) : Option HitSt :=
  match s.hit? p with
  | some h => if h.ended.isNone then some h else none
  | none => none

/-- R30, R53: the output falls; a hit in progress ends with its ToT. -/
def State.trailing (s : State) (p time : Nat) : State :=
  if (s.pix p).high then (s.setPix p ⟨false, some time⟩).endHit p time else s

def execTrailingEdge (p : Fin 131072) (time : Nat) (s : State) : Host.Outcome State Fault Refusal :=
  .next (s.trailing p.val time)

/-- R54: an output high for 511 units ends the hit with ToT 511 at that moment; the output stays high. -/
def State.totSat (s : State) (p : Nat) : State :=
  match s.open? p with
  | some h => if (s.pix p).high then s.setHit p { h with ended := some (511, h.rise + 511 * 8 * tickU) } else s
  | none => s

def execTotSaturation (p : Fin 131072) (s : State) : Host.Outcome State Fault Refusal := .next (s.totSat p.val)

/-- R126: a hit word: type 1, pixel id, coarse ticks, fine time, ToT. -/
def hitWord (p tfine tot : Nat) : Word64 :=
  mkWord [(60, 4, 1), (43, 17, p), (19, 24, tfine / 1024), (9, 10, tfine), (0, 9, tot)]

/-- R30: the tick on which the hit word is written: 4 ticks after the first tick with TB_COUNT mod 8 = 0 at or after the
end, or the tick after step 4 where the conversion has not reached step 4 by that tick (notes/assumptions/69.md). -/
def hitTick (endU step4U : Nat) : Nat :=
  let a := alignUp 8 (ceilDiv endU tickU)
  if step4U ≤ (a + 4) * tickU then a + 4 else step4U / tickU + 1

/-- R30: the hit assist writes the hit word on its tick.  It has stopped once the device leaves ARMED (R152). -/
def State.hitWrite (s : State) (p : Nat) : State :=
  match s.hit? p with
  | some h =>
    match h.conv, h.ended with
    | some t, some (tot, e) =>
      if s.time.run && s.armed && s.descent.isNone then
        ((s.adv (hitTick e h.step4)).dropHit p).pushHit (p / 128) (hitWord p t tot) h.poison
      else s
    | _, _ => s
  | none => s

def execHitWordWrite (p : Fin 131072) (s : State) : Host.Outcome State Fault Refusal := .next (s.hitWrite p.val)

/-! ### Bias (R69, R70) -/

/-- R69 step 1: hit connections blocked, BIAS = 1, every word of the stripe pending. -/
def State.biasStart (s : State) (st : Nat) : State :=
  let s := s.put (Reg.STRIPE_STATE_BIAS st) 1
  (List.range 128).foldl (fun a i => a.markPending (st * 128 + i) (List.range 128)) s

/-- R69 step 3. -/
def State.biasApply (s : State) (st : Nat) : State :=
  if s.get (Reg.STRIPE_STATE_BIAS st) == 1 then s.put (Reg.STRIPE_STATE_BIAS st) 2 else s

/-- R69 step 4. -/
def State.biasSettled (s : State) (st : Nat) : State :=
  if s.get (Reg.STRIPE_STATE_BIAS st) == 2 then s.put (Reg.STRIPE_STATE_BIAS st) 3 else s

def execBiasApply (st : Fin 8) (s : State) : Host.Outcome State Fault Refusal := .next (s.biasApply st.val)
def execBiasSettled (st : Fin 8) (s : State) : Host.Outcome State Fault Refusal := .next (s.biasSettled st.val)

/-- R70, R59: the stripe's connections are blocked and bias is removed; hits in progress end at that instant. -/
def State.biasRemove (s : State) (st : Nat) : State :=
  let mine := s.hits.filter (fun e => e.1 / 16384 == st)
  let s := mine.foldl (fun a e => a.endHit e.1 (a.time.tick * tickU)) s
  let s := { s with pixs := s.pixs.filter (fun e => e.1 / 16384 != st) }
  s.put (Reg.STRIPE_STATE_BIAS st) 0

/-! ### Thresholds (R51, R68) -/

/-- R68: the threshold a stripe's discriminators have, and the state that holds it as reached: the new value from 2 µs
(2,500 ticks) after the write, and before that a free value between the value reached so far and the new one. -/
def State.thrLook (s : State) (st : Nat) : Nat × State :=
  let v := s.get (Reg.STRIPE_THR_THR st)
  match SMap.find? s.thrMove st with
  | some (now, t) =>
    if t + 2500 ≤ s.time.tick then (v, { s with thrMove := SMap.erase s.thrMove st })
    else
      let x := max (min now v) (min (max now v) (s.fresh 10))
      (x, { s.spend with thrMove := SMap.ins s.thrMove st (x, t) })
  | none => (v, s)

/-- R68: a stripe threshold write: the move starts from the value that the discriminators have. -/
def State.thrWrite (s : State) (st thr : Nat) : State :=
  if s.get (Reg.STRIPE_THR_THR st) = thr then s
  else
    let r := s.thrLook st
    { (r.2.put (Reg.STRIPE_THR_THR st) thr) with thrMove := SMap.ins r.2.thrMove st (r.1, s.time.tick) }

/-! ### Test pulses (R72, R73) -/

/-- R73: PERIOD, where 0 to 63 act as 64. -/
def State.tpPeriod (s : State) (st : Nat) : Nat := max 64 (s.get (Reg.TP_CTRL_PERIOD st))

/-- R67, R73: a write to TP_CTRL. -/
def State.tpWrite (s : State) (st v : Nat) : State × Status :=
  let fire := v.testBit 31
  let per := bits v 16 14
  let cnt := bits v 0 16
  if s.on (Reg.TP_CTRL_FIRE st) then
    if per = s.get (Reg.TP_CTRL_PERIOD st) ∧ cnt = s.get (Reg.TP_CTRL_COUNT st) then (s, .ok) else (s, .prot)
  else
    let s := (s.put (Reg.TP_CTRL_PERIOD st) per).put (Reg.TP_CTRL_COUNT st) cnt
    if fire && cnt != 0 then
      ({ (s.put (Reg.TP_CTRL_FIRE st) 1) with
         trains := SMap.ins s.trains st ⟨alignUp 8 (s.time.tick + 16), 0, false⟩ }, .ok)
    else (s, .ok)

/-- R73: the tick of pulse `n` of a train. -/
def State.pulseTick (s : State) (st : Nat) (t : TrainSt) (n : Nat) : Nat := t.first + 8 * s.tpPeriod st * n

/-- R51: the nominal threshold of a pixel with configuration word `w` under the stripe threshold `thr`, in electrons. -/
def qThr (p w thr : Nat) : Int :=
  2 ^ bits w 8 2 * (40 * (thr : Int) + 20 * ((bits w 10 6 : Int) - 32)) + Config.pixOffset p (bits w 8 2)

/-- R72: the charge of an amplitude in a pixel: C_tp × 2.0 mV × AMP, in units of 10⁻²¹ C. -/
def qTp (p amp : Nat) : Int := ((4500 + Config.tpCap p % 1001) * 2 * amp : Nat)

/-- R76: what a charge adds to the peak of FSUM: 200 / 4^a codes per fC at GAIN 0, 2^n times less at GAIN n; nothing from
a region that is not selected or a pixel with AOFF = 1. -/
def State.fsumPart (s : State) (p : Nat) (q : Int) : Rat :=
  let w := s.latchOf p
  if (SMap.get s.fsumSel (p / 4096) 0).testBit (p / 128 % 32) && !latchAoff w then
    (q : Rat) * 200 / ((1000000 * 4 ^ s.get Reg.ANA_GLOBAL_FSUM_ATT * 2 ^ bits w 8 2 : Nat) : Rat)
  else 0

/-- R76: FSUM at an edge of the test-pulse lines: the parts of every pixel, formed per stripe and summed across the
stripes. -/
def State.fsumAt (s : State) (tick : Nat) : Rat :=
  ((List.range 8).map (fun st => ((s.injs.filter (fun e => e.1 / 16384 == st && e.2.tick == tick)).map
    (fun e => s.fsumPart e.1 e.2.charge)).foldl (· + ·) 0)).foldl (· + ·) 0

/-- R72, R73: an edge of the stripe's line on a tick injects into the pixels with TPEN = 1, 1.2 ns ± 0.1 ns later with the
pixel's own skew; a return injects the other polarity, which crosses no threshold (R48), as neither does a pixel without
bias or with AOFF = 1. -/
def State.inject (s : State) (st tick : Nat) (back : Bool) : State :=
  let r := s.thrLook st
  let amp := s.get (Reg.TP_AMP_AMP st)
  let biased := s.get (Reg.STRIPE_STATE_BIAS st) ≥ 2
  let pixels := s.latches.filter (fun e => e.1 / 16384 == st && latchTpen e.2)
  let s1 := pixels.foldl (fun (a : State) e =>
      let q := qTp e.1 amp
      let above := decide (qThr e.1 e.2 r.1 * 1602 < q * 10)
      let v : InjSt :=
        { tick := tick, time := tick * tickU + 225280 + a.fresh 64 % 40961, charge := if back then -q else q,
          crosses := !back && biased && !latchAoff e.2 && above }
      { a.spend with injs := SMap.ins a.injs e.1 v })
    { r.2 with injs := SMap.keep s.injs (fun p => p / 16384 != st) }
  { s1 with fsumPeak := s1.fsumAt tick }

/-- R73: the next pulse is launched on its tick and injects its charge; the first latches TP_START_TICK. -/
def State.pulse (s : State) (st : Nat) : State :=
  match SMap.find? s.trains st with
  | some t =>
    if s.time.run && t.next < s.get (Reg.TP_CTRL_COUNT st) && !t.high then
      let on := s.pulseTick st t t.next
      let s1 := s.adv on
      let s2 := if t.next = 0 then s1.put (Reg.TP_START_TICK_TICK st) t.first else s1
      { s2.inject st on false with trains := SMap.ins s2.trains st { t with next := t.next + 1, high := true } }
    else s
  | none => s

def execTestPulse (st : Fin 8) (s : State) : Host.Outcome State Fault Refusal := .next (s.pulse st.val)

/-- R73: the line returns to rest 4 × PERIOD ticks after the pulse. -/
def State.pulseReturn (s : State) (st : Nat) : State :=
  match SMap.find? s.trains st with
  | some t =>
    if s.time.run && t.high then
      let on := s.pulseTick st t (t.next - 1) + 4 * s.tpPeriod st
      let s1 := s.adv on
      { s1.inject st on true with trains := SMap.ins s1.trains st { t with high := false } }
    else s
  | none => s

def execTestPulseReturn (st : Fin 8) (s : State) : Host.Outcome State Fault Refusal := .next (s.pulseReturn st.val)

/-- R73: FIRE clears 4 × PERIOD ticks after the last pulse, with the line at rest again; a write of 1 to FIRE in that cycle starts
the next train (R12). -/
def State.trainEnd (s : State) (st : Nat) : State :=
  match SMap.find? s.trains st with
  | some t =>
    if s.time.run && t.next = s.get (Reg.TP_CTRL_COUNT st) then
      let on := s.pulseTick st t (t.next - 1) + 4 * s.tpPeriod st
      let s1 := s.adv on
      let s2 := if t.high then s1.inject st on true else s1
      let s3 := { (s2.put (Reg.TP_CTRL_FIRE st) 0) with trains := SMap.erase s2.trains st }
      if s1.metWrote (Reg.TP_CTRL_FIRE st) = 0 then s3
      else (s3.tpWrite st (2 ^ 31 + s.get (Reg.TP_CTRL_PERIOD st) * 2 ^ 16 + s.get (Reg.TP_CTRL_COUNT st))).1
    else s
  | none => s

def execTestPulseTrainEnd (st : Fin 8) (s : State) : Host.Outcome State Fault Refusal := .next (s.trainEnd st.val)

/-! ### Die-wide analogue registers (R66, R77) -/

/-- R66: a write to ANA_GLOBAL; a change of POL is rejected while any stripe is biased, the whole word with it
(DESIGN CHOICE, notes/assumptions/85.md). -/
def State.anaWrite (s : State) (v : Nat) : State × Status :=
  let biased := (List.range 8).any (fun st => s.get (Reg.STRIPE_STATE_BIAS st) != 0)
  if biased && bits v 0 1 != s.get Reg.ANA_GLOBAL_POL then (s, .prot)
  else ((s.put Reg.ANA_GLOBAL_POL (bits v 0 1)).put Reg.ANA_GLOBAL_FSUM_ATT (bits v 4 2), .ok)

/-- R77: an FSUM commit is requested: it is due on the first tick at least 4 ticks after the write. -/
def State.fsumRequest (s : State) (v : Nat) : State × Status :=
  if v.testBit 0 && !s.on Reg.FSUM_CTRL_COMMIT then
    ({ (s.put Reg.FSUM_CTRL_COMMIT 1) with fsumDue := some (s.time.tick + 4) }, .ok)
  else (s, .ok)

/-- R77: the FSUM_SEL registers of all stripes apply together on the due tick; a write of 1 to COMMIT in that cycle asks for the next
commit (R12). -/
def State.fsumCommit (s : State) : State :=
  match s.fsumDue with
  | some t =>
    if s.time.run then
      let s1 := s.adv t
      let sel := (List.range 32).foldl
        (fun (m : SMap Nat) i => SMap.set m i (s1.get (Reg.FSUM_SEL_SEL (i / 4) (i % 4))) 0) []
      let s2 := { ((s1.put Reg.FSUM_COMMIT_TICK_TICK t).put Reg.FSUM_CTRL_COMMIT 0) with fsumSel := sel, fsumDue := none }
      if s1.metWrote Reg.FSUM_CTRL_COMMIT = 0 then s2 else (s2.fsumRequest 1).1
    else s
  | none => s

def execFsumCommit (s : State) : Host.Outcome State Fault Refusal := .next s.fsumCommit

end Sys2Proof.Machine
end

