-- ==== Sys2Proof/Machine/Frets.lean ====
section
/-! DEFINITION. Interpolators, hold line and fret tables (R79 to R108): claims, conversions, calibrated fine time,
code-density calibration.  A unit is a region (0 to 1,023) or the edge unit (1,024). -/
namespace Sys2Proof.Machine

/-- R84: one hold tap, 400 ps; R87: a slow-ring period, 260 ps; R89: 5 ns (units of tick/163,840). -/
def tapU : Nat := 81920
def slowU : Nat := 53248
def releaseU : Nat := 1024000

def edgeUnit : Nat := 1024

/-! ### The unit's registers (R107, R117) -/
def fMode (u : Nat) : Field := if u < 1024 then Reg.FCAL_CTRL_MODE u else Reg.EDGE_CTRL_MODE
def fQen (u : Nat) : Field := if u < 1024 then Reg.FCAL_CTRL_QEN u else Reg.EDGE_CTRL_QEN
def fCommit (u : Nat) : Field := if u < 1024 then Reg.FCAL_CTRL_COMMIT u else Reg.EDGE_CTRL_COMMIT
def fAgeLim (u : Nat) : Field := if u < 1024 then Reg.FCAL_CTRL_AGE_LIM u else Reg.EDGE_CTRL_AGE_LIM
def fStale (u : Nat) : Field := if u < 1024 then Reg.FCAL_STAT_STALE u else Reg.EDGE_STAT_STALE
def fFault (u : Nat) : Field := if u < 1024 then Reg.FCAL_STAT_FAULT u else Reg.EDGE_STAT_FAULT
def fQbusy (u : Nat) : Field := if u < 1024 then Reg.FCAL_STAT_QBUSY u else Reg.EDGE_STAT_QBUSY
def fRej (u : Nat) : Field := if u < 1024 then Reg.FCAL_STAT_REJ u else Reg.EDGE_STAT_REJ
def fProg (u i : Nat) : Field := if u < 1024 then Reg.FT_INFO_PROG u i else Reg.FT_INFO_E_PROG i
def fAge (u i : Nat) : Field := if u < 1024 then Reg.FT_INFO_AGE u i else Reg.FT_INFO_E_AGE i
def fOfsA (u i : Nat) : Field := if u < 1024 then Reg.FT_OFS_ACTIVE u i else Reg.FT_OFS_E_ACTIVE i
def fOfsS (u i : Nat) : Field := if u < 1024 then Reg.FT_OFS_SHADOW u i else Reg.FT_OFS_E_SHADOW i

/-- The domain a unit lies in. -/
def unitDom (u : Nat) : Nat := if u < 1024 then domDig (stripeOf u) else 35
/-- The UNIT and INFO of an interpolator's error entries (R102). -/
def unitOf (u : Nat) : Nat := if u < 1024 then u else 0
def infoOf (u i : Nat) : Nat := if u < 1024 then i else 8 + i
/-- The byte address of word `j` of an interpolator's active and shadow table (R107, R117). -/
def actAddr (u i j : Nat) : Nat := (if u < 1024 then reWindow u + 0xD400 else 0x00041000) + i * 0x240 + 4 * j
def shdAddr (u i j : Nat) : Nat := (if u < 1024 then reWindow u + 0xE800 else 0x00042800) + i * 0x240 + 4 * j

def InterpSt.reset : InterpSt :=
  { phase := .free, who := 0, start := 0, tickS := 0, tap := 0, code := none, fine := none, freeAt := 0, cal := none,
    lastCal := none, running := false, quick := false, hist := [], accepted := 0, wantCommit := false,
    nominalPending := false, goodRun := 0, ageBase := 0, act := [], shd := [] }
def State.interp (s : State) (u i : Nat) : InterpSt := SMap.get s.interps (u * 8 + i) InterpSt.reset
def State.setInterp (s : State) (u i : Nat) (v : InterpSt) : State :=
  { s with interps := SMap.set s.interps (u * 8 + i) v InterpSt.reset }

def TinSt.reset : TinSt :=
  { cfg := 0, gen := 0, cfgPending := false, presc := 0, due := 0, sdiv := 0, second := false, hold := none, opened := none,
    freq := none, meas := 0, startAt := 0, starts := [], armed := false, stopDue := false, seq := 0 }
def State.tin (s : State) (i : Nat) : TinSt := SMap.get s.tins i TinSt.reset
def State.setTin (s : State) (i : Nat) (v : TinSt) : State := { s with tins := SMap.set s.tins i v TinSt.reset }

/-! ### Tables (R92 to R95) -/

/-- R95: the nominal table. -/
def nominal (n : Nat) : Nat := if n = 0 then 32 else if n ≤ 255 then 128 * n else 32736
/-- R92: entry `n` of a table. -/
def tabGet (t : SMap Nat) (n : Nat) : Nat := SMap.get t n (nominal n)
def tabSet (t : SMap Nat) (n v : Nat) : SMap Nat := SMap.set t n (v % 2 ^ 16) (nominal n)

/-- R93: the calibrated time of an edge in fine units. -/
def fineTime (tickS e : Nat) (ofs : Int) (k : Nat) : Nat :=
  (((tickS : Int) * 32768 - e + ofs - k * 16384 + 16) / 32).toNat

/-- R93: with the interpolator's active table and offset. -/
def State.fineOf (s : State) (u i code : Nat) : Nat :=
  let v := s.interp u i
  fineTime v.tickS (tabGet v.act code) (signed 16 (s.get (fOfsA u i))) v.tap

/-! ### Claims and the hold line (R80 to R86) -/

/-- R91: out of the rotation. -/
def State.faulted (s : State) (u i : Nat) : Bool := s.fbit (fFault u) i

/-- R81, R106: the interpolators that may serve a pixel edge of region `n`, in round-robin order. -/
def State.mayServe (s : State) (n : Nat) : List Nat :=
  let rr := (s.region n).rr
  ((List.range 8).map (fun j => (rr + j) % 8)).filter (fun i =>
    !s.faulted n i && (!s.on (Reg.FCAL_CTRL_PINEN n) || s.get (Reg.FCAL_CTRL_PIN n) == i))

/-- R87: a claim starts the slow ring at `start`; the next tick edge is S, and an edge on a tick is given to that tick
(DESIGN CHOICE, notes/assumptions/85.md); an open calibration window ends (R97). -/
def State.claim (s : State) (u i who start tap : Nat) : State :=
  s.setInterp u i { s.interp u i with phase := .converting, who := who, start := start,
                                      tickS := ceilDiv start tickU, tap := tap, code := none, fine := none, cal := none }

/-- R85: a busy loss of a pixel; BUSY_CNT counts it in ARMED too, where it is none of R15's losses (DEDUCED,
notes/assumptions/86.md). -/
def State.busyLoss (s : State) (p : Nat) : State :=
  (s.dropHit p).bump (Reg.BUSY_CNT_COUNT (p / 128) (p % 128)) 1

/-- R86: the calibration conversion that started first among those that may serve the edge is aborted; its
interpolator is free 5 ns later. -/
def State.calAbort (s : State) (u : Nat) (cand : List Nat) (time : Nat) : State :=
  let run := cand.filter (fun i => (s.interp u i).phase == .calibrating)
  let first := minOf ((run.map (fun i => (s.interp u i).start)).headD 0) (run.map (fun i => (s.interp u i).start))
  match run.find? (fun i => (s.interp u i).start == first) with
  | some i => s.setInterp u i { s.interp u i with phase := .releasing, code := none, cal := none,
                                                  freeAt := time + releaseU, goodRun := 0 }
  | none => s

/-- R48 to R55, R58, R69: the pixel's output can rise at a time: bias applied, not high, 300 ns after its last fall. -/
def State.canRise (s : State) (p time : Nat) : Bool :=
  s.get (Reg.STRIPE_STATE_BIAS (p / 16384)) ≥ 2 && !(s.pix p).high &&
    (match (s.pix p).fellAt with | some f => decide (f + 375 * tickU ≤ time) | none => true) && (s.hit? p).isNone

/-- R58, R69: the pixel's hit connection is open. -/
def State.connected (s : State) (p : Nat) : Bool :=
  s.armed && s.descent.isNone && s.get (Reg.STRIPE_STATE_BIAS (p / 16384)) == 3 && !latchMask (s.latchOf p) &&
    !latchAoff (s.latchOf p)

/-- R84: the free interpolator of `is` (in round-robin order) that became free first. -/
def State.freedFirst (s : State) (u : Nat) (is : List Nat) : Option Nat :=
  is.find? (fun i => is.all (fun j => decide ((s.interp u i).freeAt ≤ (s.interp u j).freeAt)))

/-- R84: the free interpolators that `w` waiting edges leave, each of which is given the one that became free first. -/
def State.spared (s : State) (u : Nat) (is : List Nat) : Nat → List Nat
  | 0 => is
  | w + 1 => match s.freedFirst u is with
    | some i => s.spared u (is.filter (· != i)) w
    | none => []

/-- R53, R81: the hit that an edge begins: an edge placed anew keeps its hit, or the end that its pixel's fall has set since. -/
def State.hitOf (s : State) (p time : Nat) : HitSt :=
  match s.hit? p with
  | some h => h
  | none => ⟨time, none, 0, false, if (s.pix p).high then none else (s.pix p).fellAt.map (fun f => (totCode time f, f))⟩

/-- R81 to R86: an edge claims the next interpolator not due to a waiting edge, enters the hold line, aborting a calibration
conversion at `abort`, or is a busy loss. -/
def State.placeEdge (s : State) (n p time : Nat) (abort : Option Nat) : State :=
  let r := s.region n
  let may := s.mayServe n
  let idle := may.filter (fun i => (s.interp n i).phase == .free)
  let s1 := s.setHit p (s.hitOf p time)
  match s.spared n idle r.hold.length with
  | i :: _ => (s1.claim n i p time 0).setRegion n { r with rr := (i + 1) % 8 }
  | [] =>
    if r.hold.length < 4 then
      let s2 := s1.setRegion n { r with hold := r.hold ++ [(p, time)] }
      match abort with
      | some t => s2.calAbort n may t
      | none => s2
    else s1.busyLoss p

/-- R81: the interpolator that an edge of this claim cycle holds, while nothing has come of it. -/
def State.claimedBy (s : State) (n p time : Nat) : Option Nat :=
  (List.range 8).find? (fun i => (s.interp n i).phase == .converting && (s.interp n i).who == p &&
    (s.interp n i).start == time && (s.interp n i).tap == 0)

/-- R81: an edge of the claim cycle can still be placed anew: its interpolator has not reached coincidence, it still waits,
or it was lost. -/
def State.placedAnew (s : State) (n p time : Nat) : Bool :=
  (s.claimedBy n p time).isSome || (s.region n).hold.contains (p, time) || (s.hit? p).isNone

/-- R81: the place of an edge of the claim cycle is taken back, a busy loss with its count; its hit stays as it is. -/
def State.unplace (s : State) (n : Nat) (e : Nat × Nat × Nat) : State :=
  match s.claimedBy n e.1 e.2.1 with
  | some i => s.setInterp n i { s.interp n i with phase := .free }
  | none =>
    if (s.region n).hold.contains (e.1, e.2.1) then
      s.setRegion n { s.region n with hold := (s.region n).hold.filter (· != (e.1, e.2.1)) }
    else s.put (Reg.BUSY_CNT_COUNT (e.1 / 128) (e.1 % 128)) e.2.2

/-- R81: the edges of one claim cycle in ascending pixel, with a new one among them. -/
def insertEdge (e : Nat × Nat × Nat) : List (Nat × Nat × Nat) → List (Nat × Nat × Nat)
  | [] => [e]
  | x :: r => if e.1 ≤ x.1 then e :: x :: r else x :: insertEdge e r

/-- R81: the edges of a claim cycle placed in order; each one that waits beyond the first `held` aborts a calibration
conversion (R86) at the instant of the latest edge, since those before it have done so at their own. -/
def State.placeAll (s : State) (n held now : Nat) : List (Nat × Nat × Nat) → State
  | [] => s
  | e :: r =>
    let was := (s.region n).hold.length
    let s1 := s.placeEdge n e.1 e.2.1 (if held = 0 then some now else none)
    s1.placeAll n (if was < (s1.region n).hold.length then held - 1 else held) now r

/-- R80 to R86: a rising discriminator edge of pixel `p`: the edges of its claim cycle of 400 ps are assigned in ascending
local pixel (R81). -/
def State.pixelEdge (s : State) (p time : Nat) : State :=
  if !s.canRise p time then s
  else
    let s0 := s.setPix p { s.pix p with high := true }
    if !s.connected p || !s.on Reg.TU_STAT_PLLLOCK then s0
    else
      let n := p / 128
      let r := s0.region n
      let old := if r.cyc.1 == time / tapU && r.cyc.2.2.all (fun e => s0.placedAnew n e.1 e.2.1) then r.cyc.2.2 else []
      let held := (old.filter (fun e => r.hold.contains (e.1, e.2.1))).length
      let s1 := old.foldl (fun (a : State) e => a.unplace n e) s0
      let rr := if old.isEmpty then r.rr else r.cyc.2.1
      let edges := insertEdge (p, time, s0.get (Reg.BUSY_CNT_COUNT n (p % 128))) old
      (s1.setRegion n { s1.region n with rr := rr, cyc := (time / tapU, rr, edges) }).placeAll n held time edges

def execPixelEdge (p : Fin 131072) (time : Nat) (s : State) : Host.Outcome State Fault Refusal :=
  .next (s.pixelEdge p.val time)

/-- R84: the tap at which an edge that arrived at `arr` is taken by an interpolator free from `freeAt`. -/
def holdTap (arr freeAt : Nat) : Nat := max 1 (ceilDiv (freeAt - arr) tapU)

/-- R84: the edge that has waited longest, of edges of one claim cycle the one that entered the hold line first (DEDUCED,
notes/assumptions/85.md), is taken at its next tap by the interpolator that became free first; while the time-base PLL is out of
lock its claim is refused and it is discarded (R80; notes/assumptions/70.md). -/
def State.holdTakePixel (s : State) (n : Nat) : State :=
  let r := s.region n
  match r.hold, s.freedFirst n ((s.mayServe n).filter (fun i => (s.interp n i).phase == .free)) with
  | (p, arr) :: rest, some i =>
    let k := holdTap arr (s.interp n i).freeAt
    if k > 25 then s
    else if !s.on Reg.TU_STAT_PLLLOCK then (s.dropHit p).setRegion n { r with hold := rest }
    else
      ((s.claim n i p (arr + k * tapU) k).setRegion n { r with hold := rest, rr := (i + 1) % 8 }).bump
        (Reg.HOLD_CNT_TAKEN n) 1
  | _, _ => s

/-- R85: the waiting edge that arrived first passes tap 25. -/
def State.holdExpirePixel (s : State) (n : Nat) : State :=
  let r := s.region n
  match r.hold.find? (fun e => r.hold.all (fun x => decide (e.2 ≤ x.2))) with
  | some e => (s.setRegion n { r with hold := r.hold.erase e }).busyLoss e.1
  | none => s

/-! ### Conversions (R87 to R93) -/

/-- R89 steps 3 to 5: coincidence at raw code `code`. -/
def State.coincide (s : State) (u i code : Nat) : State :=
  let v := s.interp u i
  match v.phase with
  | .converting => s.setInterp u i { v with phase := .releasing, code := some code,
                                            freeAt := v.start + code * slowU + releaseU }
  | .calibrating => s.setInterp u i { v with phase := .releasing, code := none, freeAt := v.start + code * slowU + releaseU,
                                             cal := some (v.start, some code), goodRun := v.goodRun + 1 }
  | _ => s

def execCoincidence (u : Fin 1025) (i : Fin 8) (code : Fin 288) (s : State) : Host.Outcome State Fault Refusal :=
  .next (s.coincide u.val i.val code.val)

/-- R513: a conversion that reads an uncorrectable table word gives a poisoned hit. -/
def State.tablePoison (s : State) (u i code : Nat) : Bool := s.eccAt (actAddr u i (code / 2)) == 2

/-- R501: the table word that a conversion reads, with a single-bit error corrected. -/
def State.tableRead (s : State) (u i code : Nat) : State := s.eccFix (actAddr u i (code / 2)) (if u < 1024 then 1 else 6)

/-- R110, R111: the conversion of edge interpolator `i` has given the fine time `t`: its edge waits for its stamp, and the
interpolator no longer holds it; its records carry poison where a check failed (R91, R513). -/
def State.edgeDone (s : State) (i t : Nat) (bad : Bool) : State :=
  match SMap.find? s.edgeTags i with
  | some g =>
    { s with edgeTags := SMap.erase s.edgeTags i,
             edgeStamps := SMap.set s.edgeStamps i (SMap.get s.edgeStamps i [] ++ [({ g with poison := g.poison || bad }, t)]) [] }
  | none => s

/-- R90, R93: step 4: the hit assist has the fine time, 2 ticks after coincidence. -/
def State.fineCompute (s : State) (u i : Nat) : State :=
  let v := s.interp u i
  match v.phase, v.code, v.fine with
  | .releasing, some code, none =>
    let t := s.fineOf u i code
    let s1 := (s.setInterp u i { v with fine := some t }).tableRead u i code
    if u < 1024 then
      match s1.hit? v.who with
      | some h => s1.setHit v.who { h with conv := some t, step4 := v.start + code * slowU + 2 * tickU,
                                           poison := s.tablePoison u i code }
      | none => s1
    else s1.edgeDone i t (s.tablePoison u i code)
  | _, _, _ => s

def execFineTimeCompute (u : Fin 1025) (i : Fin 8) (s : State) : Host.Outcome State Fault Refusal :=
  .next (s.fineCompute u.val i.val)

/-- R89 step 5: the rings stop and the interpolator is free, once step 4 has run for a conversion. -/
def State.release (s : State) (u i : Nat) : State :=
  let v := s.interp u i
  if v.phase == .releasing && (v.code.isNone || v.fine.isSome) then
    s.setInterp u i { v with phase := .free, code := none, fine := none }
  else s

def execInterpolatorRelease (u : Fin 1025) (i : Fin 8) (s : State) : Host.Outcome State Fault Refusal :=
  .next (s.release u.val i.val)

/-- R89: the fast ring's period, 256.875 ps (units of tick/163,840). -/
def fastU : Nat := 52608

/-- R91: a conversion without coincidence in 288 fast-ring periods: the hit takes code 287 and the poison flag, the error is
logged, the interpolator leaves the rotation, and 1 ms passes before its first calibration edge. -/
def State.ringFault (s : State) (u i : Nat) : State :=
  let v := s.interp u i
  let fault := fun (st : State) =>
    ((st.setInterp u i { st.interp u i with phase := .free, cal := none, goodRun := 0,
                                            lastCal := some (v.tickS * tickU + 288 * fastU),
                                            freeAt := v.start + 288 * slowU + releaseU }).putFbit (fFault u) i true).err
      { sev := 2, src := 2, code := 0x07, unit := unitOf u, info := infoOf u i }
  match v.phase with
  | .converting =>
    let t := s.fineOf u i 287
    let s0 := s.tableRead u i 287
    let s1 := if u < 1024 then
        match s0.hit? v.who with
        | some h => s0.setHit v.who { h with conv := some t, step4 := v.start + 288 * slowU + 2 * tickU, poison := true }
        | none => s0
      else s0.edgeDone i t true
    fault s1
  | .calibrating => fault s
  | _ => s

def execRingFault (u : Fin 1025) (i : Fin 8) (s : State) : Host.Outcome State Fault Refusal :=
  .next (s.ringFault u.val i.val)

/-- R91: after 16 consecutive good calibration conversions a faulted interpolator returns, while MODE = 0. -/
def State.interpReturn (s : State) (u i : Nat) : State :=
  if s.faulted u i && (s.interp u i).goodRun ≥ 16 && !s.on (fMode u) then
    (s.putFbit (fFault u) i false).setInterp u i { s.interp u i with goodRun := 0 }
  else s

def execInterpolatorReturn (u : Fin 1025) (i : Fin 8) (s : State) : Host.Outcome State Fault Refusal :=
  .next (s.interpReturn u.val i.val)

/-! ### Calibration (R96 to R104) -/

/-- R84: an edge waits that the interpolator is due to: R86, so it takes no calibration edge. -/
def State.edgeWaits (s : State) (u i : Nat) : Bool :=
  if u < 1024 then !(s.region u).hold.isEmpty && (s.mayServe u).contains i
  else (s.tin (i / 2)).hold.isSome && !s.faulted u i

/-- R97, R91: a calibration edge is offered to a free interpolator that no waiting edge is due to: in ARMED or ACQUIRE,
MODE = 0, at most one per 125 ticks, or per 1 ms for a faulted interpolator. -/
def State.calEdge (s : State) (u i time : Nat) : State :=
  let v := s.interp u i
  let gapT := if s.faulted u i then 1250000 else 125
  let due := match v.lastCal with | some t => decide (t + gapT * tickU ≤ time) | none => true
  if s.armed && !s.on (fMode u) && s.dom (unitDom u) && s.on Reg.TU_STAT_PLLLOCK && v.phase == .free && due &&
      (v.running || s.faulted u i) && !s.edgeWaits u i then
    s.setInterp u i { v with phase := .calibrating, start := time, tickS := ceilDiv time tickU, tap := 0, code := none,
                             cal := some (time, none), lastCal := some time }
  else s

def execCalibrationEdge (u : Fin 1025) (i : Fin 8) (time : Nat) (s : State) : Host.Outcome State Fault Refusal :=
  .next (s.calEdge u.val i.val time)

/-- R98, R101: the accepted edges a rebuild takes. -/
def rebuildN (quick : Bool) : Nat := if quick then 65536 else 1048576
/-- R107: PROG. -/
def progOf (quick : Bool) (n : Nat) : Nat := if quick then n / 256 else n / 4096

/-- R97: the window of 100 ticks ends unpreempted: the code counts. -/
def State.calAccept (s : State) (u i : Nat) : State :=
  let v := s.interp u i
  match v.cal with
  | some (t0, some code) =>
    let s0 := if s.time.run then s.adv (ceilDiv t0 tickU + 100) else s
    if v.running && v.accepted < rebuildN v.quick then
      (s0.setInterp u i { v with cal := none, hist := SMap.set v.hist code (SMap.get v.hist code 0 + 1) 0,
                                 accepted := v.accepted + 1 }).put (fProg u i) (progOf v.quick (v.accepted + 1))
    else s0.setInterp u i { v with cal := none }
  | _ => s

def execCalibrationAccept (u : Fin 1025) (i : Fin 8) (s : State) : Host.Outcome State Fault Refusal :=
  .next (s.calAccept u.val i.val)

/-- R98: the lowest and highest codes seen. -/
def histLo (h : SMap Nat) : Nat := match h with | [] => 0 | (k, _) :: _ => k
def histHi (h : SMap Nat) : Nat := match h.getLast? with | some (k, _) => k | none => 0

/-- R98: a ratio rounded to the nearest integer, ties up. -/
def roundUp (num den : Nat) : Nat := (2 * num + den) / (2 * den)

/-- R98: entry `n` from the counts below it. -/
def buildEntry (n lo hi big cum cn cHi : Nat) : Nat :=
  if n < lo then 0
  else if n > hi then roundUp (32768 * (2 * big - cHi)) (2 * big)
  else roundUp (32768 * (2 * cum + cn)) (2 * big)

/-- R98: the table of a histogram, entries `n` onwards. -/
def buildTable (h : SMap Nat) (big lo hi : Nat) : Nat → Nat → Nat → SMap Nat
  | 0, _, _ => []
  | f + 1, n, cum =>
    let cn := SMap.get h n 0
    let e := buildEntry n lo hi big cum cn (SMap.get h hi 0)
    let rest := buildTable h big lo hi f (n + 1) (cum + cn)
    if e % 2 ^ 16 = nominal n then rest else (n, e % 2 ^ 16) :: rest

/-- R99: the rebuild is rejected. -/
def rebuildBad (h : SMap Nat) (big : Nat) : Bool :=
  let lo := histLo h
  let hi := histHi h
  let w := hi - lo
  let inner := ((List.range 288).filter (fun n => lo < n && n < hi)).map (fun n => SMap.get h n 0)
  inner.any (· == 0) || w + 1 < 228 || w + 1 > 288 || inner.any (fun c => 4 * c * w < big || 2 * c * w > 5 * big)

/-- R100, R101: a rebuild starts from zero. -/
def InterpSt.startRebuild (v : InterpSt) (quick : Bool) : InterpSt :=
  { v with running := true, quick := quick, hist := [], accepted := 0 }
def InterpSt.stopRebuild (v : InterpSt) : InterpSt := { v with running := false, quick := false, hist := [], accepted := 0 }

/-- R101: QBUSY while a quick calibration of the unit runs. -/
def State.qbusy (s : State) (u : Nat) : State :=
  s.put (fQbusy u) (b2n ((List.range 8).any (fun i => (s.interp u i).running && (s.interp u i).quick)))

/-- R98 to R100: a rebuild with all its edges is built and checked; a good one waits in the shadow table for its commit;
a bad one is discarded, marked and logged, and a background rebuild starts. -/
def State.rebuild (s : State) (u i : Nat) : State :=
  let v := s.interp u i
  let big := rebuildN v.quick
  if v.running && v.accepted ≥ big then
    let s1 := s.put (fProg u i) 0
    if rebuildBad v.hist big then
      let v' := if !s.on (fMode u) && s.armed then v.startRebuild false else v.stopRebuild
      (((s1.setInterp u i v').hwSetBit (fRej u) i).qbusy u).err
        { sev := 1, src := 3, code := 0x06, unit := unitOf u, info := infoOf u i }
    else
      (s1.setInterp u i { v.stopRebuild with shd := buildTable v.hist big (histLo v.hist) (histHi v.hist) 288 0 0,
                                             wantCommit := true }).qbusy u
  else s

def execRebuildComplete (u : Fin 1025) (i : Fin 8) (s : State) : Host.Outcome State Fault Refusal :=
  .next (s.rebuild u.val i.val)

/-- R102: STALE follows AGE and AGE_LIM; its rise is logged. -/
def State.staleCheck (s : State) (u i : Nat) : State :=
  let isOver := decide (s.get (fAge u i) > s.get (fAgeLim u))
  let was := s.fbit (fStale u) i
  let s1 := s.putFbit (fStale u) i isOver
  if isOver && !was then s1.err { sev := 1, src := 3, code := 0x08, unit := unitOf u, info := infoOf u i } else s1

/-- R94, R503: the errors of an interpolator's two tables change places with the copies, or are gone. -/
def State.swapEcc (s : State) (u i : Nat) (gone : Bool) : State :=
  let a0 := actAddr u i 0
  let h0 := shdAddr u i 0
  let inA := fun (a : Nat) => decide (a0 ≤ a) && decide (a < a0 + 0x240)
  let inH := fun (a : Nat) => decide (h0 ≤ a) && decide (a < h0 + 0x240)
  let rest := { s with ecc := SMap.keep s.ecc (fun a => !(inA a || inH a)) }
  if gone then rest
  else
    let s1 := (SMap.keep s.ecc inA).foldl (fun r e => r.putEcc (e.1 - a0 + h0) e.2) rest
    (SMap.keep s.ecc inH).foldl (fun r e => r.putEcc (e.1 - h0 + a0) e.2) s1

/-- R94, R100, R103: at a free instant a due commit swaps the tables, the shadow offset becomes active, AGE clears and
the next rebuild starts, a quick one in progress going on (R101).  A commit of R503 leaves both copies nominal and AGE at its
reset value.  A COMMIT bit set when MODE went to 0 stays set until the next commit (DESIGN CHOICE,
notes/assumptions/85.md). -/
def State.fretCommit (s : State) (u i : Nat) : State :=
  let v := s.interp u i
  let manual := s.on (fMode u) && s.fbit (fCommit u) i
  if v.phase == .free && (v.wantCommit || manual || v.nominalPending) then
    let v1 := { v with act := v.shd, shd := if v.nominalPending then [] else v.act, wantCommit := false,
                       nominalPending := false, ageBase := s.time.tick }
    let again := !s.on (fMode u) && s.armed && !(v.running && v.quick)
    let v2 := if again then v1.startRebuild false else v1
    ((((((s.swapEcc u i v.nominalPending).setInterp u i v2).put (fOfsA u i) (s.get (fOfsS u i))).put (fAge u i)
      (if v.nominalPending then 0xFFFFFF else 0)).putFbit (fStale u) i v.nominalPending).hwClear (fCommit u) (2 ^ i)).putIf
      again (fProg u i) 0
  else s

def execFretCommit (u : Fin 1025) (i : Fin 8) (s : State) : Host.Outcome State Fault Refusal :=
  .next (s.fretCommit u.val i.val)

/-- R102: AGE advances, 2²⁰ ticks after its last advance or commit. -/
def State.ageUp (s : State) (u i : Nat) : State :=
  if s.time.run && s.dom (unitDom u) then
    let v := s.interp u i
    let t := v.ageBase + 2 ^ 20
    (((s.adv t).setInterp u i { v with ageBase := t }).bump (fAge u i) 1).staleCheck u i
  else s

def execAgeIncrement (u : Fin 1025) (i : Fin 8) (s : State) : Host.Outcome State Fault Refusal :=
  .next (s.ageUp u.val i.val)

/-- R101: quick calibration of every interpolator of a unit starts where QEN = 1 and MODE = 0, else, in MODE 0, the
background rebuild. -/
def State.calStart (s : State) (u : Nat) : State :=
  if s.on (fMode u) then s
  else
    let q := s.on (fQen u)
    ((List.range 8).foldl (fun a i => (a.setInterp u i ((a.interp u i).startRebuild q)).put (fProg u i) 0) s).qbusy u

/-- R101: ARMED is entered from ACQUIRE: quick calibration starts where QEN = 1; the background rebuild goes on where it does
not. -/
def State.calAgain (s : State) (u : Nat) : State := if s.on (fQen u) then s.calStart u else s

/-- R100: the background rebuild of every interpolator of a unit starts from zero. -/
def State.calBackground (s : State) (u : Nat) : State :=
  if s.on (fMode u) then s
  else ((List.range 8).foldl (fun a i => (a.setInterp u i ((a.interp u i).startRebuild false)).put (fProg u i) 0) s).qbusy u

/-- R100: the rebuilds in progress of a unit are discarded. -/
def State.calStop (s : State) (u : Nat) : State :=
  ((List.range 8).foldl (fun a i => (a.setInterp u i (a.interp u i).stopRebuild).put (fProg u i) 0) s).qbusy u

/-- R102, R103, R107: a write to FCAL_CTRL or EDGE_CTRL reaches MODE, QEN, AGE_LIM and COMMIT. -/
def State.fcalWrite (s : State) (u mode qen lim commit : Nat) : State :=
  let old := s.on (fMode u)
  let s1 := ((s.put (fMode u) mode).put (fQen u) qen).put (fAgeLim u) lim
  let s2 := if mode == 1 then s1.put (fCommit u) (s1.get (fCommit u) ||| commit) else s1
  let s3 := if mode == 1 && !old then s2.calStop u
    else if mode == 0 && old && s2.armed then
      (List.range 8).foldl (fun a i => a.setInterp u i ((a.interp u i).startRebuild false)) s2
    else s2
  (List.range 8).foldl (fun a i => a.staleCheck u i) s3

/-- R107: a write of 1 to BCLR clears every BUSY_CNT of the region and HOLD_CNT. -/
def State.busyClear (s : State) (n : Nat) : State :=
  ((List.range 128).foldl (fun a p => a.put (Reg.BUSY_CNT_COUNT n p) 0) s).put (Reg.HOLD_CNT_TAKEN n) 0

/-- R104: a write to word `j` of a shadow table. -/
def State.shadowWrite (s : State) (u i j v : Nat) : State × Status :=
  if !s.on (fMode u) then (s, .prot)
  else
    let t := s.interp u i
    (s.setInterp u i { t with shd := tabSet (tabSet t.shd (2 * j) v) (2 * j + 1) (v / 2 ^ 16) }, .ok)

/-- R107: word `j` of a table. -/
def tabWord (t : SMap Nat) (j : Nat) : Nat := tabGet t (2 * j) + tabGet t (2 * j + 1) * 2 ^ 16

end Sys2Proof.Machine
end

