-- ==== Sys2Proof/Machine/Triggers.lean ====
section
/-! DEFINITION. The trigger unit (R222 to R229): sample conditions, TIN, request and command sources, TRIG_OUT. -/
namespace Sys2Proof.Machine

def LvlSt.reset : LvlSt := ⟨false, 0, false, false, false⟩
def TrgSt.reset : TrgSt := ⟨false, LvlSt.reset, LvlSt.reset, none, none⟩
def WrSt.reset : WrSt := ⟨[], true, 0, none, [], none, [], 0, 0, 0, 0⟩
def WaveSt.reset : WaveSt := ⟨0, 0, 0, none, none, none, [], 0, 0, [], [], none, [], false, 0, []⟩
def State.trg (s : State) (n : Nat) : TrgSt := SMap.get s.trgs n TrgSt.reset
def State.setTrg (s : State) (n : Nat) (v : TrgSt) : State := { s with trgs := SMap.set s.trgs n v TrgSt.reset }

def domWave : Nat := 33

/-- The unit works: WAVE on, the device in ARMED or ACQUIRE. -/
def State.waveLive (s : State) : Bool := s.dom domWave && s.armed

/-- R221: SRC of a trigger; 4 to 7 act as 3. -/
def State.trgSrc (s : State) (n : Nat) : Nat := min 3 (s.get (Reg.TRG_CFG_SRC n))

/-- R235: a trigger is enabled, and no gap of the digitiser is in progress. -/
def State.trgOn (s : State) (n : Nat) : Bool :=
  s.waveLive && s.on (Reg.TRG_CFG_EN n) && s.wave.gapAt.isNone

/-- A firing joins those on their way to their mark. -/
def State.pushFire (s : State) (f : Firing) : State := { s with firings := s.firings ++ [f] }

/-- R421: a conversion period of 5 µs, in ticks. -/
def convTicks : Nat := 6250

/-- R430: the next conversion boundary of the slot in progress, at or after the current tick; unknown with the time base stopped. -/
def State.convBoundary (s : State) : Option Nat :=
  if s.time.run then some (s.mon.at0 + ceilDiv (s.time.tick - s.mon.at0) convTicks * convTicks) else none

/-- R430: a start takes effect on the boundary that the pending one took; with the time base stopped a free value says so. -/
def State.sameBoundary (s : State) : Bool :=
  match s.mon.pendAt, s.convBoundary with
  | some t, some u => t == u
  | _, _ => s.fresh 1 == 1

/-- R429, R430: a start of the injected monitor sequence is asked for; several on one boundary are one. -/
def State.injRequest (s : State) : State :=
  if !(s.dom 34 && s.on Reg.MON_ICTRL_EN) then s
  else if s.mon.islot.isNone then { s with mon := { s.mon with ireq := true } }
  else if s.on Reg.MON_STAT_IPEND then (if s.sameBoundary then s else s.bump Reg.MON_STAT_IMISS 1).spend
  else { s.put Reg.MON_STAT_IPEND 1 with mon := { s.mon with pendAt := s.convBoundary } }

/-! ### Sample conditions (R222, R223) -/

/-- R222: a detector's first sample. -/
def lvlInit (a b v j : Nat) : LvlSt := ⟨decide (a ≤ v), j, false, decide (a ≤ v) && decide (b ≤ v), false⟩

/-- R222: a detector meets the next sample. -/
def lvlNext (a b hyst v j : Nat) (l : LvlSt) : LvlSt :=
  if l.high then
    if v + hyst < a then ⟨false, j, true, false, false⟩ else { l with topped := l.topped || decide (b ≤ v) }
  else if a ≤ v then ⟨true, j, true, decide (b ≤ v), false⟩
  else l

/-- R223: the index at which a wait of T1 in one state ends by sample `j`: before it, or on it if the state still holds. -/
def waitDone (want : Bool) (needCross : Bool) (t1 j : Nat) (old new : LvlSt) : Option Nat :=
  let ok := fun (l : LvlSt) => l.high == want && !l.fired && (l.crossed || !needCross)
  if ok old && decide (old.since + t1 < j) then some (old.since + t1)
  else if ok new && decide (new.since + t1 = j) then some j
  else none

/-- R223: the firing of a condition when a detector goes from `old` to `new` on sample `j` of value `v`. -/
def condFire (cond t1 t2 a b v j : Nat) (old new : LvlSt) : Option Nat :=
  let ends := old.high && old.crossed && !new.high
  let w := j - old.since
  let slew := old.high && old.crossed && new.high && !old.fired && decide (b ≤ v) && decide (a < b)
  match cond with
  | 0 => waitDone true true t1 j old new
  | 1 => if ends && decide (w < t1) then some j else none
  | 2 => if ends && decide (t1 ≤ w ∧ w ≤ t2) then some j else none
  | 3 => if ends && !old.topped && decide (a < b) then some j else none
  | 4 => waitDone true false t1 j old new
  | 5 => waitDone false false t1 j old new
  | 6 => if slew && decide (w < t1) then some j else none
  | _ => if slew && decide (t1 < w) then some j else none

/-- R223: what a detector has decided by sample `j`. -/
def condMark (cond t1 b v j : Nat) (old new : LvlSt) : LvlSt :=
  let spent := match cond with
    | 0 => (waitDone true true t1 j old new).isSome
    | 4 => (waitDone true false t1 j old new).isSome
    | 5 => (waitDone false false t1 j old new).isSome
    | 6 | 7 => old.high && new.high && decide (b ≤ v)
    | _ => false
  if spent && (new.since == old.since || decide (new.since + t1 = j)) then { new with fired := true } else new

/-- R223: one detector of trigger `n` meets a sample; a firing follows from its condition. -/
def State.detect (s : State) (n a b v j : Nat) (l : LvlSt) : LvlSt × List Firing :=
  let cond := s.get (Reg.TRG_CFG_COND n)
  let t1 := s.get (Reg.TRG_T1_T n)
  let new := lvlNext a b (s.get (Reg.TRG_CFG_HYST n)) v j l
  let out := match condFire cond t1 (s.get (Reg.TRG_T2_T n)) a b v j l new with
    | some i => [⟨i, n, 0, 0⟩]
    | none => []
  (condMark cond t1 b v j l new, out)

/-- R222, R223: trigger `n` evaluates a sample of its input. -/
def State.trgSample (s : State) (n v0 j : Nat) : State :=
  let pol := s.on (Reg.TRG_CFG_POL n)
  let inv := fun (x : Nat) => if pol then 4095 - x else x
  let v := inv v0
  let a := inv (s.get (Reg.TRG_LVL_A n))
  let b := inv (s.get (Reg.TRG_LVL_B n))
  let slew := decide (6 ≤ s.get (Reg.TRG_CFG_COND n))
  let dir := s.get (Reg.TRG_CFG_DIR n)
  let t := s.trg n
  if !(s.trgOn n && s.trgSrc n == 0) then s
  else if !t.ready then
    s.setTrg n { t with ready := true, up := lvlInit a b v j, dn := lvlInit (4095 - b) (4095 - a) (4095 - v) j }
  else
    let u := s.detect n a b v j t.up
    let d := s.detect n (4095 - b) (4095 - a) (4095 - v) j t.dn
    let fs := if !slew then u.2 else if dir = 0 then u.2 else if dir = 1 then d.2 else u.2 ++ d.2
    { (s.setTrg n { t with up := u.1, dn := d.1 }) with firings := s.firings ++ fs }

/-- R226: a write to a register of an enabled trigger: it starts again at the next sample; its holdoff survives. -/
def State.trgTouched (s : State) (n : Nat) : State :=
  s.setTrg n { TrgSt.reset with last := (s.trg n).last }

/-! ### Other sources (R221, R224) -/

/-- R221, R224: a kind-0 stamp of TIN input `i` (R116). -/
def State.tinFire (s : State) (i stamp : Nat) : State :=
  (List.range 8).foldl (fun a n =>
    if a.trgOn n && a.trgSrc n == 1 && a.get (Reg.TRG_CFG_SEL n) == i then a.pushFire ⟨stamp / 512, n, 1, stamp % 512⟩
    else a) s

/-- R224: a request on a line reaches trigger `n` on a tick. -/
def State.trgRequest (s : State) (n t : Nat) : State :=
  let w := max 1 (s.get (Reg.TRG_T1_T n))
  let k := max 1 (s.get (Reg.TRG_T2_T n))
  let v := s.trg n
  let cur := match v.win with
    | some (o, c, d) => if t < o + w then (o, c + 1, d) else (t, 1, false)
    | none => (t, 1, false)
  let fires := cur.2.1 == k && !cur.2.2
  let s1 := s.setTrg n { v with win := some (cur.1, cur.2.1, cur.2.2 || fires) }
  if fires then s1.pushFire ⟨2 * t, n, 2, 0⟩ else s1

/-- R213, R219, R235: the sample detectors and the window histories begin anew: no trigger fires in a span without samples, and no
record reaches across one (notes/assumptions/28.md). -/
def State.waveFresh (s : State) : State :=
  (List.range 8).foldl (fun a n => a.setTrg n { a.trg n with ready := false })
    { s with wave := { s.wave with hist0 := [], hist1 := [] } }

/-- R224: the oldest region request reaches the trigger unit. -/
def State.requestNext (s : State) : State :=
  match s.rreqs with
  | [] => s
  | (_, line) :: rest =>
    (List.range 8).foldl (fun a n =>
      if a.trgOn n && a.trgSrc n == 2 && a.get (Reg.TRG_CFG_SEL n) == line then a.trgRequest n a.time.tick else a)
      { s with rreqs := rest }

def execRegionRequest (s : State) : Host.Outcome State Fault Refusal := .next s.requestNext

/-- R224: a write of TRG_CMD fires the enabled triggers it names, 2 ticks later. -/
def State.trgCmd (s : State) (v : Nat) : State :=
  (List.range 8).foldl (fun a n => if v.testBit n && a.trgOn n then a.pushFire ⟨2 * (a.time.tick + 2), n, 3, 0⟩ else a) s

/-! ### TRIG_OUT (R229) -/

/-- R229: the latency of a source in index units. -/
def outLatency (src : Nat) : Nat := if src = 0 then 48 else if src = 1 then 256 else 24

/-- R229, R541: the earliest rise still to come. -/
def State.outRise (s : State) : State :=
  let w := s.wave
  match w.rises with
  | [] => s
  | x :: r =>
    if !s.time.run then s else
    let i := minOf x r
    let s1 := s.adv (ceilDiv i 2)
    let s2 := { s1 with wave := { w with rises := w.rises.erase i } }
    if !(s.on Reg.TOUT_CFG_EN && s.dom domWave) then s2
    else if w.out then { s2 with wave := { s2.wave with outAt := max i w.outAt } }.bump Reg.TOUT_MERGE_COUNT 1
    else { s2 with wave := { s2.wave with out := true, outAt := i } }

def execTrigOutRise (s : State) : Host.Outcome State Fault Refusal := .next s.outRise

/-- R229: with TOUT_CFG.EN = 0 TRIG_OUT is low. -/
def State.outGate (s : State) : State :=
  if s.on Reg.TOUT_CFG_EN then s else { s with wave := { s.wave with out := false } }

/-- R229, R541: TRIG_OUT falls WIDTH ticks after its latest rise. -/
def State.outFall (s : State) : State :=
  if s.wave.out && s.time.run then
    let s1 := s.adv (ceilDiv (s.wave.outAt + 2 * max 1 (s.get Reg.TOUT_CFG_WIDTH)) 2)
    { s1 with wave := { s1.wave with out := false } }
  else s

def execTrigOutFall (s : State) : Host.Outcome State Fault Refusal := .next s.outFall

end Sys2Proof.Machine
end

