-- ==== Sys2Proof/Machine/Edges.lean ====
section
/-! DEFINITION. The edge unit (R109 to R118): prescalers, gates, stamps, interval and frequency measurements. -/
namespace Sys2Proof.Machine

/-- R265: an item joins the queue of its source towards the keel merge (0 to 31 trunks, 32 edge unit, 33 trigger unit and
waveform units, 34 monitor converter). -/
def State.toMerge (s : State) (src : Nat) (m : MergeItem) : State :=
  { s with merge := SMap.set s.merge src (SMap.get s.merge src [] ++ [m]) [] }

/-- The fields of a TIN_CFG word (R117). -/
def tinEn (w : Nat) : Bool := w.testBit 31
def tinP (w : Nat) : Nat := 2 ^ min 6 (bits w 28 3)
def tinEpol (w : Nat) : Bool := w.testBit 27
def tinMode (w : Nat) : Nat := bits w 25 2
def tinStop (w : Nat) : Nat := bits w 23 2
def tinGsel (w : Nat) : Nat := bits w 21 2
def tinGpol (w : Nat) : Bool := w.testBit 20
def tinSdiv (w : Nat) : Nat := bits w 0 12

/-- The TIN_CFG word of the register. -/
def State.tinReg (s : State) (i : Nat) : Nat :=
  s.get (Reg.TIN_CFG_EN i) * 2 ^ 31 + s.get (Reg.TIN_CFG_PRESC i) * 2 ^ 28 + s.get (Reg.TIN_CFG_EPOL i) * 2 ^ 27
    + s.get (Reg.TIN_CFG_MODE i) * 2 ^ 25 + s.get (Reg.TIN_CFG_STOP i) * 2 ^ 23 + s.get (Reg.TIN_CFG_GSEL i) * 2 ^ 21
    + s.get (Reg.TIN_CFG_GPOL i) * 2 ^ 20 + s.get (Reg.TIN_CFG_SWG i) * 2 ^ 19 + s.get (Reg.TIN_CFG_SDIV i)

/-- R118: the edge unit counts and emits: EDGE on and not in STANDBY. -/
def State.edgeLive (s : State) : Bool := s.dom 35 && s.armed

/-- R112: the sampled gate of a TIN_CFG word is open. -/
def State.gateOpen (s : State) (w : Nat) : Bool :=
  (match tinGsel w with
   | 0 => true
   | 1 => s.fbit Reg.EDGE_STAT_GATE 0
   | 2 => s.fbit Reg.EDGE_STAT_GATE 1
   | _ => w.testBit 19) != tinGpol w

/-- R118: a measurement in progress is abandoned; an interval counts in RESTART. -/
def State.tinAbandon (s : State) (i : Nat) : State :=
  let t := s.tin i
  let s1 := if t.opened.isSome then s.bump (Reg.TIN_STAT_RESTART i) 1 else s
  s1.setTin i { t with opened := none, freq := none, armed := false, stopDue := false, gen := t.gen + 1 }

/-- R118: the word of the register comes into force, and what was being measured is abandoned.  A gate that is open then counts
as opening (DESIGN CHOICE, notes/assumptions/85.md). -/
def State.tinApply (s : State) (i : Nat) : State :=
  let a := s.tinAbandon i
  let w := a.tinReg i
  a.setTin i { a.tin i with cfg := w, cfgPending := false, armed := a.gateOpen w }

/-- R109, R118: a write to TIN_CFG: EN set in the register applies at once, restarting prescaler and TIN_CNT; a change of a word
with EN = 1 waits for the next prescaled edge. -/
def State.tinCfgWrite (s : State) (i v : Nat) : State :=
  let was := s.on (Reg.TIN_CFG_EN i)
  let s1 := ((((((((s.put (Reg.TIN_CFG_EN i) (bits v 31 1)).put (Reg.TIN_CFG_PRESC i) (bits v 28 3)).put
    (Reg.TIN_CFG_EPOL i) (bits v 27 1)).put (Reg.TIN_CFG_MODE i) (bits v 25 2)).put (Reg.TIN_CFG_STOP i) (bits v 23 2)).put
    (Reg.TIN_CFG_GSEL i) (bits v 21 2)).put (Reg.TIN_CFG_GPOL i) (bits v 20 1)).put (Reg.TIN_CFG_SWG i) (bits v 19 1)).put
    (Reg.TIN_CFG_SDIV i) (bits v 0 12)
  let t := s1.tin i
  let w := s1.tinReg i
  if !was && tinEn w then
    let s2 := s1.tinApply i
    (s2.setTin i { s2.tin i with presc := 0, due := 0, sdiv := 0 }).put (Reg.TIN_CNT_COUNT i) 0
  else if tinEn t.cfg then s1.setTin i { t with cfgPending := decide (w ≠ t.cfg) }
  else s1.setTin i { t with cfg := w, cfgPending := false }

/-- R109: an edge of the selected polarity advances the prescaler, which stands still where the edge unit does not count
(DESIGN CHOICE, notes/assumptions/85.md). -/
def State.tinPin (s : State) (i : Nat) (falling : Bool) : State :=
  let t := s.tin i
  if s.edgeLive && tinEn t.cfg && falling == tinEpol t.cfg then
    if t.presc + 1 ≥ tinP t.cfg then s.setTin i { t with presc := 0, due := t.due + 1 }
    else s.setTin i { t with presc := t.presc + 1 }
  else s

def execTinPinEdge (i : Fin 4) (falling : Bool) (s : State) : Host.Outcome State Fault Refusal :=
  .next (s.tinPin i.val falling)

/-- R81, R110: the interpolators of input `i`, the next one first. -/
def State.tinPair (s : State) (i : Nat) : List Nat :=
  let a := if (s.tin i).second then [2 * i + 1, 2 * i] else [2 * i, 2 * i + 1]
  a.filter (fun j => !s.faulted edgeUnit j)

/-- R113, R114: a start or stop edge that is not converted after all: a measurement that it began has not begun, and waits for
the next prescaled edge if the gate is still open; one that it ended goes on, and the next prescaled edge ends it (DESIGN CHOICE,
notes/assumptions/85.md).  `cnt` is TIN_CNT. -/
def TinSt.unmet (t : TinSt) (tag : EdgeTag) (cnt : Nat) (gate : Bool) : TinSt :=
  if tag.gen != t.gen then t
  else
    match tag.stops with
    | some (n, m) =>
      if tag.starts.isSome || t.freq.isNone then
        { t with freq := some (n + (cnt - tag.count)), meas := m, stopDue := t.stopDue || tag.starts.isNone }
      else t
    | none => if tag.starts.isSome then { t with freq := none, armed := t.armed || gate, stopDue := false } else t

/-- R80, R110: a stamped edge claims an interpolator not due to the waiting edge, or the hold channel, or is a busy loss; while
the time-base PLL is out of lock it is discarded.  Whether the edge was taken comes with the state. -/
def State.tinClaim (s : State) (i time : Nat) (tag : EdgeTag) : State × Bool :=
  let t := s.tin i
  let pair := s.tinPair i
  let idle := pair.filter (fun j => (s.interp edgeUnit j).phase == .free)
  if !s.on Reg.TU_STAT_PLLLOCK then (s, false)
  else
  match s.spared edgeUnit idle (b2n t.hold.isSome), t.hold with
  | j :: _, _ =>
    let s1 := (s.claim edgeUnit j i time 0).setTin i { t with second := j == 2 * i }
    ({ s1 with edgeTags := SMap.ins s1.edgeTags j tag }, true)
  | [], none => ((s.setTin i { t with hold := some (time, tag) }).calAbort edgeUnit pair time, true)
  | [], some _ => (s.bump (Reg.TIN_STAT_BUSY i) 1, false)

/-- R113, R114: a prescaled edge in MODE 2: it starts a measurement after the gate opened, ends one after the gate closed or at
the limits of count and span, or counts.  A start or stop that finds no interpolator is left to the next edge. -/
def State.tinFreq (s : State) (i time : Nat) (tag : EdgeTag) (inside : Bool) : State :=
  let t := s.tin i
  let n := match t.freq with | some c => c + 1 | none => 0
  let isOver := t.freq.isSome && (n ≥ 2 ^ 20 || decide (t.startAt + 2 ^ 35 * 160 ≤ time))
  let stop := t.freq.isSome && (t.stopDue || isOver)
  let start := (t.freq.isNone || stop) && (t.armed || (isOver && inside)) && inside
  let counted := s.setTin i { t with freq := t.freq.map (· + 1) }
  if stop || start then
    let m := if start then t.meas + 1 else t.meas
    let r := s.tinClaim i time { tag with starts := if start then some m else none, stops := if stop then some (n, t.meas) else none }
    if r.2 then
      let t1 := r.1.tin i
      r.1.setTin i { t1 with freq := if start then some 0 else none, meas := m, startAt := if start then time else t.startAt,
                             armed := t.armed && !start, stopDue := false }
    else r.1.setTin i { r.1.tin i with freq := t.freq.map (· + 1) }
  else counted

/-- R112 to R114: a prescaled edge is counted, gated and, by MODE, stamped.  The SDIV count goes on over a change of TIN_CFG
(DESIGN CHOICE, notes/assumptions/85.md). -/
def State.tinEdge (s : State) (i time : Nat) : State :=
  let t0 := s.tin i
  if t0.due = 0 || !s.edgeLive then s
  else
    let s1 := s.setTin i { t0 with due := t0.due - 1 }
    let s2 := if t0.cfgPending then s1.tinApply i else s1
    let t := s2.tin i
    if !tinEn t.cfg then s2
    else
      let cnt := s2.get (Reg.TIN_CNT_COUNT i) + 1
      let s3 := s2.put (Reg.TIN_CNT_COUNT i) cnt
      let inside := s3.gateOpen t.cfg
      let tag : EdgeTag := ⟨i, cnt, s3.get Reg.EDGE_STAT_GATE, t.cfg, t.gen, none, none, false⟩
      match tinMode t.cfg with
      | 3 => s3
      | 2 => s3.tinFreq i time tag inside
      | _ =>
        if inside then
          if t.sdiv ≥ tinSdiv t.cfg then ((s3.setTin i { t with sdiv := 0 }).tinClaim i time tag).1
          else s3.setTin i { t with sdiv := t.sdiv + 1 }
        else s3

def execPrescaledEdge (i : Fin 4) (time : Nat) (s : State) : Host.Outcome State Fault Refusal :=
  .next (s.tinEdge i.val time)

/-- R113, R114: the input after a waiting edge that is not converted. -/
def State.unmetTin (s : State) (i : Nat) (tag : EdgeTag) : TinSt :=
  (s.tin i).unmet tag (s.get (Reg.TIN_CNT_COUNT i)) (s.gateOpen (s.tin i).cfg)

/-- R84, R110: the waiting edge of input `i` is taken at its next tap, or discarded while the PLL is out of lock (R80). -/
def State.holdTakeEdge (s : State) (i : Nat) : State :=
  let t := s.tin i
  match t.hold, s.freedFirst edgeUnit ((s.tinPair i).filter (fun j => (s.interp edgeUnit j).phase == .free)) with
  | some (arr, tag), some j =>
    let k := holdTap arr (s.interp edgeUnit j).freeAt
    if k > 25 then s
    else if !s.on Reg.TU_STAT_PLLLOCK then s.setTin i { s.unmetTin i tag with hold := none }
    else
      let s1 := (s.claim edgeUnit j i (arr + k * tapU) k).setTin i { t with hold := none, second := j == 2 * i }
      { s1 with edgeTags := SMap.ins s1.edgeTags j tag }
  | _, _ => s

def execHoldTake (u : Fin 1025) (input : Fin 4) (s : State) : Host.Outcome State Fault Refusal :=
  .next (if u.val < 1024 then s.holdTakePixel u.val else s.holdTakeEdge input.val)

/-- R85, R110: the waiting edge of input `i` passes tap 25. -/
def State.holdExpireEdge (s : State) (i : Nat) : State :=
  let t := s.tin i
  match t.hold with
  | some (_, tag) =>
    (s.bump (Reg.TIN_STAT_BUSY i) 1).setTin i { s.unmetTin i tag with hold := none }
  | none => s

def execHoldLineExpiry (u : Fin 1025) (input : Fin 4) (s : State) : Host.Outcome State Fault Refusal :=
  .next (if u.val < 1024 then s.holdExpirePixel u.val else s.holdExpireEdge input.val)

/-- R116: the record of kind 0. -/
def edgeRec0 (t : EdgeTag) (stamp : Nat) : Word64 :=
  mkWord [(60, 4, 9), (55, 2, t.input), (43, 12, t.count), (19, 24, stamp / 1024), (9, 10, stamp), (8, 1, t.gates),
          (7, 1, t.gates / 2)]

/-- R116: the record of kind 1. -/
def edgeRec1 (a b seq iv : Nat) : Word64 :=
  mkWord [(60, 4, 9), (57, 3, 1), (55, 2, a), (53, 2, b), (44, 9, seq), (0, 44, iv)]

/-- R116: the record of kind 2. -/
def edgeRec2 (i n span : Nat) : Word64 := mkWord [(60, 4, 9), (57, 3, 2), (55, 2, i), (35, 20, n), (0, 35, span)]

/-- An edge record towards the merge; SRC_ROUTE there picks its stream by the input (R269). -/
def State.edgeEmit (s : State) (w : Word64) (input : Nat) (poison : Bool) : State :=
  if s.edgeLive then s.toMerge 32 ⟨[w], 0, poison, .record, input, 0⟩ else s

/-- R113, R115: the intervals in MODE 1 of other inputs (and its own) that a stamp of input `i` closes: each emits its
kind-1 record, or is abandoned past 2⁴⁴ − 1 fine units.  The sequence counts the closed intervals from 0, and a stamp that lies
before the opening gives the interval 0 (DESIGN CHOICE, notes/assumptions/85.md). -/
def State.ivClose (s : State) (i stamp : Nat) (poison : Bool) (m : Nat) : State :=
  let t := s.tin m
  match t.opened with
  | some st =>
    if tinEn t.cfg && tinMode t.cfg == 1 && tinStop t.cfg == i && tinEn (s.tin i).cfg then
      if stamp - st ≥ 2 ^ 44 then (s.bump (Reg.TIN_STAT_RESTART m) 1).setTin m { t with opened := none }
      else (s.setTin m { t with opened := none, seq := (t.seq + 1) % 512 }).edgeEmit (edgeRec1 m i t.seq (stamp - st)) i poison
    else s
  | none => s

/-- R115: a stamp of input `i` closes an interval, with the records of its close. -/
def State.ivCloses (s : State) (i stamp : Nat) : Bool :=
  tinEn (s.tin i).cfg && (List.range 4).any (fun m =>
    (match (s.tin m).opened with | some st => decide (stamp - st < 2 ^ 44) | none => false)
      && tinEn (s.tin m).cfg && tinMode (s.tin m).cfg == 1 && tinStop (s.tin m).cfg == i)

/-- R113, R115, R118: a stamped edge of input `i` in MODE 1 opens an interval, restarting an open one; where TIN_CFG has changed
since the edge, the interval is abandoned. -/
def State.ivOpen (s : State) (tag : EdgeTag) (stamp : Nat) : State :=
  let i := tag.input
  let t := s.tin i
  if tinMode tag.cfg == 1 then
    if tag.gen != t.gen then s.bump (Reg.TIN_STAT_RESTART i) 1
    else
      let s1 := if t.opened.isSome then s.bump (Reg.TIN_STAT_RESTART i) 1 else s
      s1.setTin i { s1.tin i with opened := some stamp }
  else s

/-- R114, R116: the kind-2 record of a frequency measurement; a count or span outside its field is not stated, and is
a free value. -/
def State.freqEmit (s : State) (i n m stamp : Nat) (poison : Bool) : State :=
  let span := stamp - SMap.get (s.tin i).starts (m % 2) 0
  let n' := if n < 2 ^ 20 then n else s.fresh 20
  let span' := if span < 2 ^ 35 then span else s.fresh 35
  let s1 := if n < 2 ^ 20 && span < 2 ^ 35 then s else s.spend
  s1.edgeEmit (edgeRec2 i n' span') i poison

/-- R114: the start stamp of the measurement that an edge began is kept under its number. -/
def State.freqBegin (s : State) (tag : EdgeTag) (stamp : Nat) : State :=
  let t := s.tin tag.input
  match tag.starts with
  | some m => if tag.gen != t.gen then s else s.setTin tag.input { t with starts := SMap.ins t.starts (m % 2) stamp }
  | none => s

/-- R111: the stamp of an edge: its calibrated time plus TIN_OFS. -/
def State.tinStamp (s : State) (tag : EdgeTag) (t : Nat) : Nat := ((t : Int) + signed 16 (s.get (Reg.TIN_OFS_OFS tag.input))).toNat

/-- R111 to R116: a finished edge conversion gives its stamp, by the word in force on the edge: the kind-0 record and its TIN
reference event, then the interval or frequency record it closes, those of several inputs in ascending input
(DESIGN CHOICE, notes/assumptions/85.md). -/
def State.edgeStamp (s : State) (j : Nat) : State :=
  match SMap.get s.edgeStamps j [] with
  | (tag, t) :: rest =>
    let i := tag.input
    let stamp := s.tinStamp tag t
    let s0 := { s with edgeStamps := SMap.set s.edgeStamps j rest [] }
    let kind0 := tinMode tag.cfg ≤ 1 || tag.stops.isSome || s0.ivCloses i stamp
    let s1 := if kind0 && s0.edgeLive then
        ((s0.edgeEmit (edgeRec0 tag stamp) i tag.poison).mark (8 + i) i (stamp / 1024) (stamp % 1024)).tinFire i stamp else s0
    let s2 := (List.range 4).foldl (fun a m => a.ivClose i stamp tag.poison m) s1
    let s3 := s2.ivOpen tag stamp
    let s4 := match tag.stops with | some (n, m) => s3.freqEmit i n m stamp tag.poison | none => s3
    s4.freqBegin tag stamp
  | [] => s

def execEdgeStamp (i : Fin 8) (s : State) : Host.Outcome State Fault Refusal := .next (s.edgeStamp i.val)

/-- R112, R113: the sampled level of a gate changes; a frequency measurement it gates opens or closes.  A gate that closes again
before any prescaled edge has come starts none (DESIGN CHOICE, notes/assumptions/85.md). -/
def State.gateChange (s : State) (gt : Nat) (level : Bool) : State :=
  if !s.dom 35 then s
  else
    let s1 := s.putFbit Reg.EDGE_STAT_GATE gt level
    (List.range 4).foldl (fun a i =>
      let t := a.tin i
      if tinMode t.cfg == 2 && tinGsel t.cfg == gt + 1 then
        if level != tinGpol t.cfg then a.setTin i { t with armed := true }
        else a.setTin i { t with armed := false, stopDue := t.freq.isSome }
      else a) s1

def execGateChange (gate : Fin 2) (level : Bool) (s : State) : Host.Outcome State Fault Refusal :=
  .next (s.gateChange gate.val level)

/-- R115: an interval that has run 2⁴⁴ fine units is abandoned. -/
def State.ivAbandon (s : State) (i : Nat) : State :=
  let t := s.tin i
  match t.opened with
  | some st =>
    if s.time.run then
      ((s.adv (st / 1024 + 2 ^ 34)).bump (Reg.TIN_STAT_RESTART i) 1).setTin i { t with opened := none }
    else s
  | none => s

def execIntervalAbandon (i : Fin 4) (s : State) : Host.Outcome State Fault Refusal := .next (s.ivAbandon i.val)

end Sys2Proof.Machine
end

