-- ==== Sys2Proof/Machine/Library.lean ====
section
/-! DEFINITION. The reduction library of LEVEL 0 (R182 to R202, R542): the parameter block, the reductions, their
records, closing and merging. -/
namespace Sys2Proof.Machine

def LibSlot.reset : LibSlot :=
  { run := false, num := 0, stream := 0, walk := false, wide := false, zs := false, ch := 0, p1 := 0, p2 := 0, p3 := 0,
    isOpen := false, base := 0, nextF := 0, counts := [], fl := [], late := 0, openAt := 0, flags := 0, clusters := [],
    occ := 0, rreq := false, refAt := none, marks := 0, lastMark := 0, groups := [], doneTo := 0 }
def State.lib (s : State) (n i : Nat) : LibSlot := SMap.get s.libs (n * 4 + i) LibSlot.reset
def State.setLib (s : State) (n i : Nat) (v : LibSlot) : State :=
  { s with libs := SMap.set s.libs (n * 4 + i) v LibSlot.reset }

/-- The regions a core serves. -/
def State.served (s : State) (c : Nat) : List Nat :=
  (if s.servesOwn c then [c] else []) ++ (if s.servesBuddy c then [buddy c] else [])

/-- R183, R185: the slots of a region that run. -/
def State.libRun (s : State) (n : Nat) : List LibSlot := ((List.range 4).map (s.lib n)).filter (·.run)

/-! ### The output buffer (R142, R143) -/

/-- R143: an entry joins the output buffer, or is discarded as ballast where it holds 32. -/
def State.outPush (s : State) (c : Nat) (e : OutEntry) : State :=
  let k := s.core c
  if k.outq.length ≥ 32 then
    let n := if e.buddy then buddy c else c
    let s1 := (s.bump (Reg.OUTQ_BALLAST_COUNT c) 1).hwSet (Reg.CORE_STAT_OQB c) 1
    s1.setRegion n { s1.region n with balOut := (s1.region n).balOut + 1 }
  else (s.setCore c { k with outq := k.outq ++ [e] }).put (Reg.OUTQ_STAT_OCC c) (k.outq.length + 1)

/-- R190, R268: the regions treat stream `k` as open. -/
def State.sendOpen (s : State) (k : Nat) : Bool := s.sendMask.testBit k

/-- R173, R190: a SEND for region `n` finds its stream open, and in the region's STREAM_MASK. -/
def State.libSends (s : State) (n stream : Nat) : Bool := s.sendOpen stream && s.fbit (Reg.STREAM_MASK_MASK n) stream

/-- R141: an exception of the library's own code; its index in the library ROM and EXC_ADDR are free
(notes/assumptions/72.md). -/
def State.libExc (s : State) (c code : Nat) : State :=
  let s1 := (s.put (Reg.EXC_PC_IDX c) (s.fresh 12)).spend
  (((s1.put (Reg.EXC_ADDR_OFS c) (s1.fresh 16)).put (Reg.EXC_CAUSE_CODE c) code).put (Reg.CORE_STAT_EXC c) code).spend

/-- R190: a SEND that raised NO_STREAM: every slot that the core runs treats the stream as closed, and emits nothing to it. -/
def State.libShut (s : State) (c stream : Nat) : State :=
  let s1 := s.setCore c { s.core c with emits := (s.core c).emits.map (fun e =>
    if e.stream = stream then { e with recs := [] } else e) }
  (s1.served c).foldl (fun a n => (List.range 4).foldl (fun b i =>
    if (b.lib n i).stream = stream then b.setLib n i { b.lib n i with isOpen := false } else b) a) s1

/-- R190: what a SEND that raises NO_STREAM or BAD_STREAM leaves: the exception, and the stream's view. -/
def State.libRefused (s : State) (n stream : Nat) : State :=
  let c := s.servedBy n
  if s.sendOpen stream then s.libExc c xBAD_STREAM else (s.libExc c xNO_STREAM).libShut c stream

/-- R137, R493, R542: a kick of a core's watchdog; a debug-halted core keeps the count so far in its place. -/
def State.kick (s : State) (c : Nat) : State :=
  s.setCore c { s.core c with wdStart := s.wdZero c }

/-- R142, R173: the library of region `n`'s serving core sends a record, which joins the output buffer or is refused. -/
def State.libSend (s : State) (n stream : Nat) (w : Word64) (poison : Bool) : State :=
  let c := s.servedBy n
  if s.libSends n stream then s.outPush c ⟨[w], stream, poison, .record, decide (c ≠ n), 0⟩ else s.libRefused n stream

/-- R197, R198: an emission joins those of region `n`'s serving core, behind the ones that it is still sending. -/
def State.libEmit (s : State) (e : Emission) : State :=
  let c := s.servedBy e.region
  s.setCore c { s.core c with emits := (s.core c).emits ++ [e] }

/-- R182: a single record is sent at once, or behind the emissions in progress. -/
def State.libRecord (s : State) (n i stream : Nat) (w : Word64) (poison : Bool) (before upto : Nat) : State :=
  if (s.core (s.servedBy n)).emits.isEmpty then s.libSend n stream w poison
  else s.libEmit ⟨n, i, stream, poison, false, [⟨w, [], 0⟩], [], 0, 0, 0, .closed, before, upto⟩

/-- R194, R201: the count fields of a record, clipped. -/
def EmitRec.fieldsOf (counts : SMap Nat) (r : EmitRec) : List Nat :=
  r.keys.map (fun k => min (SMap.get counts k 0) (2 ^ r.width - 1))

/-- R183 (ZS): an emission omits a data chunk whose counts are all zero. -/
def Emission.omits (e : Emission) (r : EmitRec) : Bool :=
  e.zs && !r.keys.isEmpty && (r.fieldsOf e.counts).all (· == 0)

/-- The record's word, with the counts as they stand. -/
def Emission.word (e : Emission) (r : EmitRec) : Word64 :=
  r.word ||| mkWord ((r.fieldsOf e.counts).zipIdx.map (fun (x, j) => (j * r.width, r.width, x)))

/-- R191: the tick a running slot's output is complete to. -/
def slotSafe (now : Nat) (v : LibSlot) : Nat :=
  if !v.isOpen then now
  else if v.num = 3 then
    match v.clusters with
    | [] => v.doneTo
    | c :: r => minOf (c.first / 1024) (r.map (fun d => d.first / 1024)) - 1
  else v.doneTo

/-- R191: the library writes the region's SAFE_TICK; what an emission still sends is not complete. -/
def State.libSafe (s : State) (n : Nat) : State :=
  let owed := ((s.core (s.servedBy n)).emits.filter (fun e => e.region == n)).map (·.before)
  match s.libRun n with
  | [] => s
  | v :: r => s.safeTo n (minOf (slotSafe s.time.tick v) (r.map (slotSafe s.time.tick) ++ owed))

/-- R191, R198: an emission of region `n` has sent its last record: where no slot runs any more, the closed output is complete. -/
def State.emitEnd (s : State) (e : Emission) : State :=
  let n := e.region
  if (s.libRun n).isEmpty then
    if (s.core (s.servedBy n)).emits.any (fun x => x.region == n) then s else s.safeTo n e.upto
  else s.libSafe n

/-- R197, R542: in `cyc` engine cycles the emissions send the records that fall due, one at a time; `fuel` bounds their number. -/
def State.emitPace (s : State) (c : Nat) : Nat → Nat → State
  | 0, _ => s
  | fuel + 1, cyc =>
    match (s.core c).emits with
    | [] => s
    | e :: rest =>
      match e.recs.dropWhile e.omits with
      | [] => ((s.setCore c { s.core c with emits := rest }).emitEnd e).emitPace c fuel cyc
      | r :: recs =>
        if cyc < e.wait then s.setCore c { s.core c with emits := { e with recs := r :: recs, wait := e.wait - cyc } :: rest }
        else if s.libSends e.region e.stream then
          let s1 := s.setCore c { s.core c with emits := { e with recs := recs, wait := e.cost, sent := e.sent + 1 } :: rest }
          let s2 := s1.libSend e.region e.stream (e.word r) e.poison
          (if (e.sent + 1) % 64 = 0 then s2.kick c else s2).emitPace c fuel (cyc - e.wait)
        else
          (((s.setCore c { s.core c with emits := rest }).libRefused e.region e.stream).emitEnd e).emitPace c fuel (cyc - e.wait)

/-- R132: a core runs the library: RUNNING at LEVEL 0 and not held by the debugger. -/
def State.libAlive (s : State) (c : Nat) : Bool :=
  s.coreState c == cRUNNING && !s.on (Reg.CORE_CTRL_LEVEL c) && !(s.core c).dbgHalt

/-- R24, R197: the emissions of core `c` go on through the 40 engine cycles of a trunk slot (32 trunk cycles of 1.25 ns). -/
def State.libEmits (s : State) (c : Nat) : State :=
  if s.libAlive c then s.emitPace c (100 + (s.core c).emits.length) 40 else s

/-- R197: a hit popped during an emission counts in what it closes while its counter, of key `k`, is still to be sent. -/
def emitTakes (n i k cap : Nat) (poison : Bool) (ok : EmitTakes → Bool) : List Emission → Option (List Emission)
  | [] => none
  | e :: r =>
    if e.region == n && e.slot == i && ok e.takes && e.recs.any (fun x => x.keys.contains k) then
      some ({ e with counts := SMap.ins e.counts k (min cap (SMap.get e.counts k 0 + 1)), poison := e.poison || poison } :: r)
    else (emitTakes n i k cap poison ok r).map (e :: ·)
def State.emitHit (s : State) (n i k cap : Nat) (poison : Bool) (ok : EmitTakes → Bool) : Option State :=
  let c := s.servedBy n
  (emitTakes n i k cap poison ok (s.core c).emits).map (fun es => s.setCore c { s.core c with emits := es })

/-- R189: no later hit counts in what a closed slot still sends. -/
def State.emitShut (s : State) (n i : Nat) : State :=
  let c := s.servedBy n
  s.setCore c { s.core c with emits := (s.core c).emits.map (fun e =>
    if e.region == n && e.slot == i then { e with takes := .closed } else e) }

/-- R190: a slot that starts sends a pad record to its stream: its result tells whether the stream is open. -/
def State.libPad (s : State) (n i : Nat) : State :=
  let v := s.lib n i
  let s1 := if s.sendOpen v.stream then s.libRecord n i v.stream 0 false v.doneTo v.doneTo else s.libRefused n v.stream
  s1.setLib n i { v with isOpen := s.sendOpen v.stream }

/-! ### Records (R198 to R202) -/

/-- R200: the data chunks of counts, `k` chunks from pixel `p`; the counter of a pixel has the key `at` + pixel. -/
def countChunks (n off : Nat) (wide : Bool) : Nat → Nat → List EmitRec
  | 0, _ => []
  | k + 1, p =>
    let per := if wide then 2 else 5
    ⟨mkWord [(60, 4, 3), (58, 2, 1), (48, 10, n), (41, 7, p), (40, 1, b2n wide)],
     (List.range (min per (128 - p))).map (fun j => off + p + j), if wide then 20 else 8⟩
      :: countChunks n off wide k (p + per)

/-- R200: a count frame or a window: header and chunks. -/
def countRecs (n : Nat) (v : LibSlot) (i src win : Nat) (part movr : Bool) (late tick : Nat) : List EmitRec :=
  ⟨mkWord [(60, 4, 3), (48, 10, n), (47, 1, src), (45, 2, i), (43, 2, win), (42, 1, b2n part), (41, 1, b2n v.zs),
           (40, 1, b2n movr), (32, 8, min late 255), (0, 32, tick)], [], 0⟩
    :: countChunks n (win * 128) v.wide (if v.wide then 64 else 26) 0

/-- R201: the chunks of one pixel's bins, `k` chunks from bin `b`; the counter of a bin has the key pixel × 64 + bin. -/
def binChunks (ty n i p : Nat) (wide : Bool) : Nat → Nat → List EmitRec
  | 0, _ => []
  | k + 1, b =>
    let per := if wide then 2 else 4
    ⟨mkWord [(60, 4, ty), (58, 2, 1), (48, 10, n), (41, 7, p), (35, 6, b), (34, 1, b2n wide), (32, 2, i)],
     (List.range per).map (fun j => p * 64 + b + j), if wide then 16 else 8⟩ :: binChunks ty n i p wide k (b + per)

/-- R201: a spectrum or time histogram: header and the chunks of every pixel. -/
def histRecs (n : Nat) (v : LibSlot) (i merge nb tick : Nat) (part : Bool) : List EmitRec :=
  let ty := if v.num = 2 then 4 else 5
  ⟨mkWord [(60, 4, ty), (48, 10, n), (46, 2, merge), (44, 2, i), (43, 1, b2n part), (42, 1, b2n v.zs),
           (38, 4, if ty = 5 then v.ch else 0), (37, 1, if ty = 5 then v.flags / 2 else 0), (0, 32, tick)], [], 0⟩
    :: (List.range 128).flatMap (fun p => binChunks ty n i p v.wide (ceilDiv nb (if v.wide then 2 else 4)) 0)

/-- R202: an occupancy record. -/
def occRec (n : Nat) (part : Bool) (cnt tick : Nat) : Word64 :=
  mkWord [(60, 4, 6), (50, 10, n), (49, 1, b2n part), (32, 17, min cnt 131071), (0, 32, tick)]

/-- The local rows and columns of a cluster's members. -/
def rowsOf (c : Cluster) : List Nat := c.pixels.map (· / 16)
def colsOf (c : Cluster) : List Nat := c.pixels.map (· % 16)

/-- R199: the head of a cluster. -/
def clusterHead (n : Nat) (c : Cluster) : Word64 :=
  mkWord [(60, 4, 2), (49, 10, n), (42, 7, c.seed), (8, 34, c.first), (7, 1, b2n ((rowsOf c).contains 7)),
          (6, 1, b2n ((colsOf c).contains 15)), (5, 1, b2n ((rowsOf c).contains 0)), (4, 1, b2n ((colsOf c).contains 0)),
          (0, 4, min c.hits 15)]

/-- R199: the extension of a cluster. -/
def clusterExt (n : Nat) (c : Cluster) (split : Bool) : Word64 :=
  mkWord [(60, 4, 2), (59, 1, 1), (49, 10, n), (32, 17, c.tot), (31, 1, b2n split),
          (28, 3, maxOf 0 (rowsOf c) - minOf 7 (rowsOf c)), (24, 4, maxOf 0 (colsOf c) - minOf 15 (colsOf c)),
          (0, 24, min (c.last - c.first) (2 ^ 24 - 1))]

/-- R199: a cluster's records; the extension only with EXT = 1. -/
def clusterRun (n : Nat) (v : LibSlot) (c : Cluster) (split : Bool) : List Word64 :=
  if v.p2.testBit 16 then [clusterHead n c, clusterExt n c split] else [clusterHead n c]

/-! ### Parameters (R183 to R186, R193, R195) -/

/-- R186: the bits of a parameter word outside a mask are 0. -/
def only (v mask : Nat) : Bool := v &&& mask == v

/-- R186: the parameters of a slot lie in their ranges. -/
def paramOk (num p1 p2 p3 : Nat) : Bool :=
  match num with
  | 0 => p1 == 0 && p2 == 0 && p3 == 0
  | 1 => 1250 ≤ p1 && only p2 0xFFFF && p2 ≤ 7 * p1 && p3 == 0
  | 2 => 125000 ≤ p1 && only p2 0x301FF && p3 == 0
  | 3 => only p1 0xFFFF && p1 != 0 && only p2 0x3FFFF && p3 == 0
  | 4 => 125 ≤ p1 && only p2 0x31FFFF && p3 == 0
  | 5 => only p1 0x3F03 && bits p1 8 6 ≤ 30 && 125000 ≤ p3
  | _ => only p1 0xFFFFFFF3 && 1 ≤ bits p1 4 12 && 1 ≤ bits p1 16 16

/-- R193: counts and histogram bytes of a slot. -/
def footCounts (num p1 : Nat) : Nat :=
  match num with
  | 1 => 4096
  | 3 => 512
  | 6 => 512 * (bits p1 0 2 + 1)
  | _ => 0
def footHist (num p1 : Nat) : Nat :=
  match num with
  | 2 => 16384
  | 5 => 256 * (8 * 2 ^ bits p1 0 2)
  | _ => 0

/-- The slots of region `n` that are enabled in its block. -/
def State.pbEnabled (s : State) (n : Nat) : List Nat := (List.range 4).filter (fun i => s.on (Reg.SLOT_CFG_EN n i))
def State.pbNum (s : State) (n i : Nat) : Nat := s.get (Reg.SLOT_CFG_NUM n i)
def State.pbP1 (s : State) (n i : Nat) : Nat := s.get (Reg.SLOT_P1_P n i)

/-- R193: counts, histograms and footprint of a region. -/
def State.pbCounts (s : State) (n : Nat) : Nat := sumOf ((s.pbEnabled n).map (fun i => footCounts (s.pbNum n i) (s.pbP1 n i)))
def State.pbHist (s : State) (n : Nat) : Nat := sumOf ((s.pbEnabled n).map (fun i => footHist (s.pbNum n i) (s.pbP1 n i)))
def State.pbFoot (s : State) (n : Nat) : Nat := s.pbCounts n + s.pbHist n

/-- R503: a word of the parameter block or walk table holds an uncorrectable error: the slot it belongs to, else the first enabled one
(DEDUCED, notes/assumptions/99.md). -/
def State.pbEcc (s : State) (n : Nat) : Option Nat :=
  ((List.range 64).find? (fun j => s.eccAt (reWindow n + 0xC500 + 4 * j) == 2)).map
    (fun j => if 4 ≤ j ∧ j < 20 then j / 4 - 1 else (s.pbEnabled n).headD 0)

/-- R501: the block's words are read; single-bit errors are corrected and counted. -/
def State.pbFix (s : State) (n : Nat) : State :=
  (List.range 64).foldl (fun (a : State) j => a.eccFix (reWindow n + 0xC500 + 4 * j) 1) s

/-- R185: CODE and the first failing slot of a read of the block. -/
def State.pbCheck (s : State) (n : Nat) : Nat × Nat :=
  let en := s.pbEnabled n
  let first := fun (bad : Nat → Bool) => (en.find? bad)
  match s.pbEcc n with
  | some i => (3, i)
  | none =>
  if en.isEmpty then (1, 0)
  else match first (fun i => s.pbNum n i == 7) with
    | some i => (2, i)
    | none =>
      match first (fun i => !paramOk (s.pbNum n i) (s.pbP1 n i) (s.get (Reg.SLOT_P2_P n i)) (s.get (Reg.SLOT_P3_P n i))) with
      | some i => (3, i)
      | none =>
        match first (fun i => !(s.get (Reg.STREAM_MASK_MASK n)).testBit (s.get (Reg.SLOT_CFG_STREAM n i))) with
          | some i => (4, i)
          | none => if s.pbFoot n > 24576 then (5, 0) else (0, 0)

/-- R195: bytes of counts and of histograms that the slots of region `n` hold in the region area: those of its running slots, or
of the slots that a read of its block would start. -/
def State.areaUse (s : State) (n : Nat) : Nat × Nat :=
  let vs := s.libRun n
  if !vs.isEmpty then
    (sumOf (vs.map (fun v => footCounts v.num v.p1)), sumOf (vs.map (fun v => footHist v.num v.p1)))
  else if (s.pbCheck n).1 = 0 then (s.pbCounts n, s.pbHist n)
  else (0, 0)

/-- R195: log2 of the merge factor of a core that serves both regions of a pair. -/
def State.mergeLog (s : State) (c : Nat) : Nat :=
  if s.servesOwn c && s.servesBuddy c then
    let a := s.areaUse c
    let b := s.areaUse (buddy c)
    let cs := a.1 + b.1
    let hs := a.2 + b.2
    if cs + hs ≤ 31744 then 0 else if cs + hs / 2 ≤ 31744 then 1 else 2
  else 0

/-- R195: the bins of a histogram slot under the merge factor. -/
def libBins (v : LibSlot) (merge : Nat) : Nat := (if v.num = 2 then 64 else 8 * 2 ^ bits v.p1 0 2) / 2 ^ merge
def State.libMerge (s : State) (n : Nat) : Nat := s.get (Reg.PB_STAT_MERGE n)

/-! ### Slot start and close (R184, R189, R190) -/

/-- R190: a slot starts with the parameters of `v`: its base at the current tick, and a pad record. -/
def State.slotBegin (s : State) (n i : Nat) (v : LibSlot) : State :=
  let v1 : LibSlot := { LibSlot.reset with
    run := true, num := v.num, stream := v.stream, walk := v.walk, wide := v.wide, zs := v.zs, ch := v.ch, p1 := v.p1,
    p2 := v.p2, p3 := v.p3, base := s.time.tick, doneTo := s.time.tick }
  let s1 := (s.setLib n i v1).libPad n i
  let uses := v.num = 1 || v.num = 5 || v.num = 6
  s1.hwPut (Reg.MARK_SUB_CH n) (setBit (if uses then setBit (s1.get (Reg.MARK_SUB_CH n)) v.ch
    else s1.get (Reg.MARK_SUB_CH n)) 15)

/-- R183: the parameters of a slot in the block. -/
def State.pbSlot (s : State) (n i : Nat) : LibSlot :=
  { LibSlot.reset with
    num := s.pbNum n i, stream := s.get (Reg.SLOT_CFG_STREAM n i), walk := s.on (Reg.SLOT_CFG_WALK n i),
    wide := s.on (Reg.SLOT_CFG_W n i), zs := s.on (Reg.SLOT_CFG_ZS n i), ch := s.get (Reg.SLOT_CFG_CH n i),
    p1 := s.pbP1 n i, p2 := s.get (Reg.SLOT_P2_P n i), p3 := s.get (Reg.SLOT_P3_P n i) }

/-- R184, R190: a slot starts with the block's parameters. -/
def State.slotStart (s : State) (n i : Nat) : State := s.slotBegin n i (s.pbSlot n i)

/-- The counts of frame `f` of a COUNTFRAME slot, by pixel. -/
def frameCnt (v : LibSlot) (f : Nat) : SMap Nat := (v.counts.filter (fun e => e.1 / 128 == f)).map (fun e => (e.1 % 128, e.2))

/-- R197: an emission of a slot of region `n`, while the slot treats its stream as open. -/
def State.slotEmit (s : State) (n i : Nat) (recs : List EmitRec) (counts : SMap Nat) (poison : Bool) (wait cost : Nat)
    (takes : EmitTakes) (upto : Nat) : State :=
  let v := s.lib n i
  if v.isOpen then s.libEmit ⟨n, i, v.stream, poison, v.zs, recs, counts, wait, cost, 0, takes, v.doneTo, upto⟩ else s

/-- R187, R197, R200: frame `f` is emitted and forgotten; hits of its ticks count while their counters are to be sent. -/
def State.frameOut (s : State) (n i f tick : Nat) (part : Bool) : State :=
  let v := s.lib n i
  let fl := SMap.get v.fl f 0
  let lo := v.base + f * v.p1
  (s.slotEmit n i (countRecs n v i 0 0 (part || fl.testBit 2) (fl.testBit 1) v.late tick) (frameCnt v f) (fl.testBit 0) 28 8
    (.frame lo (lo + v.p1)) tick).setLib n i
    { v with nextF := f + 1, counts := SMap.keep v.counts (fun k => decide (k / 128 ≠ f)), fl := SMap.erase v.fl f,
             late := if v.isOpen then 0 else v.late, doneTo := tick }

/-- R187: LAG of a COUNTFRAME slot. -/
def frameLag (v : LibSlot) : Nat := bits v.p2 0 16

/-- R187: a frame that ended before a SYNC mark and waits for its LAG: its counts by pixel, the tick it closes on, its flags. -/
def oldFrame (v : LibSlot) (f : Nat) : MarkGroup :=
  ⟨frameCnt v f, v.base + (f + 1) * v.p1 + frameLag v, SMap.get v.fl f 0⟩

/-- R187, R200: the oldest of those frames is emitted with the close tick `tick`. -/
def State.oldFrameOut (s : State) (n i tick : Nat) (part : Bool) : State :=
  let v := s.lib n i
  match v.groups with
  | [] => s
  | g :: r =>
    let stop := g.due - frameLag v
    (s.slotEmit n i (countRecs n v i 0 0 (part || g.flags.testBit 2) (g.flags.testBit 1) v.late tick) g.counts (g.flags.testBit 0)
      28 8 (.frame (stop - v.p1) stop) tick).setLib n i
      { v with groups := r, late := if v.isOpen then 0 else v.late, doneTo := tick }

/-- R187: a hit at `tick` counts in the waiting frame that contains it. -/
def oldFrameHit (v : LibSlot) (tick l : Nat) (poison : Bool) : List MarkGroup → Option (List MarkGroup)
  | [] => none
  | g :: r =>
    let stop := g.due - frameLag v
    if stop - v.p1 ≤ tick ∧ tick < stop then
      some ({ g with counts := SMap.ins g.counts l (min (2 ^ 32 - 1) (SMap.get g.counts l 0 + 1)),
                     flags := g.flags ||| b2n poison } :: r)
    else (oldFrameHit v tick l poison r).map (g :: ·)

/-- R187, R197, R201: a spectrum or histogram period is emitted and the next begins; hits count in it while their counters are to
be sent. -/
def State.histOut (s : State) (n i tick : Nat) (part : Bool) : State :=
  let v := s.lib n i
  let m := s.libMerge n
  (s.slotEmit n i (histRecs n v i m (libBins v m) tick (part || v.flags.testBit 2)) v.counts (v.flags.testBit 0) 26 6 .period
    tick).setLib n i { v with base := tick, counts := [], flags := 0, doneTo := tick }

/-- R187, R197, R202: an occupancy period is emitted and cleared; the next begins at `next`. -/
def State.occOut (s : State) (n i next tick : Nat) (part : Bool) : State :=
  let v := s.lib n i
  (s.slotEmit n i [⟨occRec n part v.occ tick, [], 0⟩] [] (v.flags.testBit 0) 6 0 .closed tick).setLib n i
    { v with base := next, occ := 0, rreq := false, flags := 0, doneTo := tick }

/-- R187, R197, R199: a cluster is emitted. -/
def State.clusterOut (s : State) (n i : Nat) (c : Cluster) (split : Bool) : State :=
  let v := s.lib n i
  (s.slotEmit n i ((clusterRun n v c split).map (fun w => ⟨w, [], 0⟩)) [] c.poison 10 4 .closed s.time.tick).setLib n i
    { v with clusters := v.clusters.filter (· ≠ c), doneTo := s.time.tick }

/-- R186, R187: windows of GATEDCOUNT, their offsets and width, and the tick after a mark on which its group ends. -/
def gateN (v : LibSlot) : Nat := bits v.p1 0 2 + 1
def gateOfs (v : LibSlot) (w : Nat) : Nat :=
  match w with
  | 0 => bits v.p2 0 16
  | 1 => bits v.p2 16 16
  | 2 => bits v.p3 0 16
  | _ => bits v.p3 16 16
def gateWid (v : LibSlot) : Nat := bits v.p1 16 16
def gateSpan (v : LibSlot) : Nat := maxOf 0 ((List.range (gateN v)).map (gateOfs v)) + gateWid v + 4500

/-- R187, R197, R200: a mark group is emitted, one header and its chunks for each window; `takes` says which hits still count. -/
def State.groupOut (s : State) (n i : Nat) (g : MarkGroup) (tick : Nat) (part : Bool) (takes : EmitTakes) : State :=
  let v := s.lib n i
  (List.range (gateN v)).foldl (fun a w =>
    a.slotEmit n i (countRecs n v i 1 w (part || g.flags.testBit 2) (g.flags.testBit 1) 0 tick) g.counts (g.flags.testBit 0) 28 8
      takes tick) s

/-- R189: a slot closes: what is in progress goes out with PARTIAL or SPLIT, its close tick the current one, and no later hit
counts. -/
def State.slotClose (s : State) (n i : Nat) : State :=
  let v := s.lib n i
  let t := s.time.tick
  if !v.run then s
  else
    let s' := match v.num with
      | 1 =>
        let s1 := v.groups.foldl (fun (a : State) _ => a.oldFrameOut n i t true) s
        (List.range (ceilDiv (t - v.base) (max 1 v.p1) - v.nextF)).foldl (fun (a : State) j => a.frameOut n i (v.nextF + j) t true) s1
      | 2 => s.histOut n i t true
      | 3 => v.clusters.foldl (fun (a : State) c => a.clusterOut n i c true) s
      | 4 => s.occOut n i t t true
      | 5 => s.histOut n i t true
      | 6 =>
        let s1 := v.groups.foldl (fun (a : State) g => a.groupOut n i g t true .closed) s
        let s2 := if v.marks = 0 then s1 else s1.groupOut n i ⟨v.counts, 0, v.flags⟩ t true .closed
        s2.setLib n i { s2.lib n i with groups := [], counts := [], marks := 0, flags := 0, doneTo := t }
      | _ => s
    s'.emitShut n i

/-- R184: the slots of a region stop running. -/
def State.libStop (s : State) (n : Nat) : State :=
  (List.range 4).foldl (fun a i => a.setLib n i LibSlot.reset) s

/-- R189: every running slot of a region closes, and SAFE_TICK advances. -/
def State.libCloseAll (s : State) (n : Nat) : State :=
  ((List.range 4).foldl (fun a i => a.slotClose n i) s).libSafe n

/-- R192 (memory): the library's copy of a region's walk table in its serving core's data memory. -/
def State.walkBase (s : State) (n : Nat) : Nat :=
  let c := s.servedBy n
  reWindow c + (if c = n then 0x100 else 0x180)
def State.walkCopy (s : State) (n : Nat) : State :=
  (List.range 64).foldl (fun a i => a.writeLe (s.walkBase n + 2 * i) 2 (s.get (Reg.PB_WALK_E n i))) s

/-- R184, R185, R195: the library reads a region's block: PB_STAT, and the slots start if every check passes. -/
def State.libRead (s : State) (n : Nat) : State :=
  let c := s.servedBy n
  let r := s.pbCheck n
  let s1 := (((((s.pbFix n).libStop n).walkCopy n).put (Reg.PB_STAT_SEQ n) (s.get (Reg.PB_STAT_SEQ n) + 1)).put
    (Reg.PB_STAT_CODE n) r.1).put (Reg.PB_STAT_FSLOT n) r.2
  let s2 := (s1.put (Reg.PB_STAT_FOOT n) (min 0xFFFF (s1.pbFoot n))).kick c
  let s3 := s2.put (Reg.PB_STAT_MERGE n) (s2.mergeLog c)
  if r.1 = 0 then
    ((s3.pbEnabled n).foldl (fun a i => a.slotStart n i) s3).put (Reg.PB_STAT_RUN n) (sumOf ((s3.pbEnabled n).map (fun i => 2 ^ i)))
  else s3.put (Reg.PB_STAT_RUN n) 0

/-- R189, R195: the histogram slots of a region close, SAFE_TICK advances, and they restart under a new merge factor. -/
def State.histRestart (s : State) (n m : Nat) : State :=
  let hist := fun (a : State) (i : Nat) => (a.lib n i).run && ((a.lib n i).num = 2 || (a.lib n i).num = 5)
  let s1 := ((List.range 4).foldl (fun a i => if hist a i then a.slotClose n i else a) s).libSafe n
  (List.range 4).foldl (fun a i => if hist a i then a.slotBegin n i (a.lib n i) else a) (s1.put (Reg.PB_STAT_MERGE n) m)

/-- R195: where the merge factor of a core's regions changes, MERGE follows and their histogram slots restart; nothing at LEVEL 1. -/
def State.mergeUpdate (s : State) (c : Nat) : State :=
  let m := s.mergeLog c
  if s.on (Reg.CORE_CTRL_LEVEL c) then s
  else (s.served c).foldl (fun a n =>
    if a.libMerge n = m then a
    else if (a.libRun n).isEmpty then a.put (Reg.PB_STAT_MERGE n) m else a.histRestart n m) s

/-- R184: the library of a core that starts at ENTRY reads the block of every region it serves. -/
def State.libStart (s : State) (c : Nat) : State :=
  if s.on (Reg.CORE_CTRL_LEVEL c) then s
  else
    let s1 := if s.servesOwn c then s.libRead c else s
    let s2 := if s.servesBuddy c then s1.libRead (buddy c) else s1
    s2.mergeUpdate c

/-- R132, R184: a core starts, and at LEVEL 0 its library reads the blocks. -/
def State.coreRun (s : State) (c : Nat) : State := (s.coreStart c).libStart c

/-! ### Hits (R187, R188, R192) -/

/-- The full time of a hit in fine units, walk-corrected with WALK = 1 in the reductions marked for it (R75, R172, R186). -/
def State.hitTime (s : State) (n : Nat) (v : LibSlot) (w : Nat) : Nat :=
  let t := textTick s.time.tick (bits w 19 24) * 1024 + bits w 9 10
  let e := if v.walk && v.num ≠ 2 && v.num ≠ 4 then signed 16 (s.readLe (s.walkBase n + 2 * (bits w 0 9 / 8)) 2) else 0
  ((t : Int) - e).toNat

/-- R187: local pixels that neighbour each other, 8- or 4-connected; a pixel neighbours itself, so that a further hit of a member
pixel joins its cluster (DEDUCED, notes/assumptions/99.md). -/
def neighbours (four : Bool) (a b : Nat) : Bool :=
  let dr := if a / 16 ≤ b / 16 then b / 16 - a / 16 else a / 16 - b / 16
  let dc := if a % 16 ≤ b % 16 then b % 16 - a % 16 else a % 16 - b % 16
  if four then dr + dc ≤ 1 else dr ≤ 1 && dc ≤ 1

/-- R187: two clusters, or a cluster and a hit, become one. -/
def joinClusters (a b : Cluster) : Cluster :=
  { pixels := a.pixels ++ b.pixels, seed := if b.first < a.first then b.seed else a.seed, first := min a.first b.first,
    last := max a.last b.last, tot := a.tot + b.tot, hits := a.hits + b.hits, poison := a.poison || b.poison }

/-- R187, R191: the oldest of open clusters: the one whose first hit is the earliest. -/
def oldestCluster (c : Cluster) (r : List Cluster) : Cluster := r.foldl (fun b x => if x.first < b.first then x else b) c

/-- R187 (CLUSTER): a hit joins the clusters it neighbours within TWIN, or opens one, closing the oldest of eight. -/
def State.clusterHit (s : State) (n i l t tot : Nat) (poison : Bool) : State :=
  let v := s.lib n i
  let win := bits v.p1 0 16 * 1024
  let joins := v.clusters.filter (fun c => c.pixels.any (neighbours (v.p2.testBit 17) l) && c.last ≤ t && t ≤ c.last + win)
  let one : Cluster := ⟨[l], l, t, t, tot, 1, poison⟩
  if joins.isEmpty then
    let s1 := match v.clusters with
      | c :: r => if (c :: r).length ≥ 8 then s.clusterOut n i (oldestCluster c r) true else s
      | [] => s
    s1.setLib n i { s1.lib n i with clusters := (s1.lib n i).clusters ++ [one] }
  else
    let merged := joins.foldl joinClusters one
    s.setLib n i { v with clusters := v.clusters.filter (fun c => !joins.contains c) ++ [merged] }

/-- R171, R172: BIN of a 34-bit time. -/
def binOf (t origin shift nbins : Nat) : Nat :=
  let d := (t + 2 ^ 34 - origin % 2 ^ 34) % 2 ^ 34
  if d ≥ 2 ^ 33 ∨ d / 2 ^ shift ≥ nbins then nbins else d / 2 ^ shift

/-- R174, R224: a region request pulse waits for the trigger unit. -/
def State.regionRequest (s : State) (n line : Nat) : State := { s with rreqs := s.rreqs ++ [(n, line)] }

/-- R194, R197: a hit counts in the period that is being emitted while its counter is to be sent, else in the one in progress. -/
def State.histHit (s : State) (n i k : Nat) (poison : Bool) : State :=
  match s.emitHit n i k 65535 poison (· == .period) with
  | some s1 => s1
  | none =>
    let v := s.lib n i
    s.setLib n i { v with counts := SMap.ins v.counts k (min 65535 (SMap.get v.counts k 0 + 1)), flags := v.flags ||| b2n poison }

/-- R192: a poisoned hit that a mark group still counts poisons what is unsent of every window of the group. -/
def State.groupPoison (s : State) (n i : Nat) (takes : EmitTakes) : State :=
  let c := s.servedBy n
  s.setCore c { s.core c with emits := (s.core c).emits.map (fun e =>
    if e.region == n && e.slot == i && e.takes == takes then { e with poison := true } else e) }

/-- R194, R197: a hit counts in a window of the mark group that is being emitted, while no further mark has come and its counter is
to be sent, else of the group in progress. -/
def State.gateHit (s : State) (n i k : Nat) (poison : Bool) : State :=
  let v := s.lib n i
  match s.emitHit n i k (2 ^ 32 - 1) poison (· == .group v.refAt) with
  | some s1 => if poison then s1.groupPoison n i (.group v.refAt) else s1
  | none =>
    s.setLib n i { v with counts := SMap.ins v.counts k (min (2 ^ 32 - 1) (SMap.get v.counts k 0 + 1)),
                          flags := v.flags ||| b2n poison }

/-- R187: one slot's reduction of a hit. -/
def State.slotHit (s : State) (n i : Nat) (w : Nat) (poison : Bool) : State :=
  let v := s.lib n i
  let l := bits w 43 7
  let tot := bits w 0 9
  let t := s.hitTime n v w
  let tick := t / 1024
  if !v.run then s
  else if v.num = 4 then
    let occ := v.occ + 1
    let thr := bits v.p2 0 17
    let s1 := s.setLib n i { v with occ := occ, flags := v.flags ||| b2n poison }
    if thr ≠ 0 ∧ occ ≥ thr ∧ !v.rreq then
      (s1.setLib n i { s1.lib n i with rreq := true }).regionRequest n (bits v.p2 20 2)
    else s1
  else if !v.isOpen then s
  else match v.num with
    | 0 =>
      let rec' := if v.walk then w - bits w 9 34 * 2 ^ 9 + t % 2 ^ 34 * 2 ^ 9 else w
      let done := textTick s.time.tick (bits w 19 24)
      let s1 := s.libRecord n i v.stream (BitVec.ofNat 64 rec') poison v.doneTo done
      if s.libSends n v.stream then s1.setLib n i { s1.lib n i with doneTo := done } else s1
    | 1 =>
      if tick < v.openAt then s
      else match s.emitHit n i l (2 ^ 32 - 1) poison (fun e => match e with
        | .frame lo stop => decide (lo ≤ tick) && decide (tick < stop)
        | _ => false) with
      | some s1 => s1
      | none =>
      match oldFrameHit v tick l poison v.groups with
      | some gs => s.setLib n i { v with groups := gs }
      | none =>
      if tick < v.base + v.nextF * v.p1 then s.setLib n i { v with late := v.late + 1 }
      else
        let f := (tick - v.base) / (max 1 v.p1)
        let k := f * 128 + l
        s.setLib n i { v with counts := SMap.ins v.counts k (min (2 ^ 32 - 1) (SMap.get v.counts k 0 + 1)),
                              fl := SMap.set v.fl f (SMap.get v.fl f 0 ||| b2n poison) 0 }
    | 2 =>
      let m := s.libMerge n
      let b := if tot < bits v.p2 0 9 then 0 else min ((tot - bits v.p2 0 9) / 2 ^ (bits v.p2 16 2 + m)) (libBins v m - 1)
      if tick < v.openAt then s else s.histHit n i (l * 64 + b) poison
    | 3 => s.clusterHit n i l t tot poison
    | 5 =>
      let m := s.libMerge n
      let nb := libBins v m
      let b := match v.refAt with
        | some r => binOf t (unsigned 34 ((r : Int) + signed 32 v.p2)) (bits v.p1 8 6 + m) (nb - 1)
        | none => nb - 1
      if tick < v.openAt then s else s.histHit n i (l * 64 + b) poison
    | 6 =>
      match v.refAt with
      | some r =>
        let d34 := signed 34 ((t + 2 ^ 34 - r % 2 ^ 34) % 2 ^ 34)
        if d34 < 0 ∨ tick < v.openAt then s
        else
          let d := d34.toNat / 1024
          ((List.range (gateN v)).filter (fun x => gateOfs v x ≤ d && d < gateOfs v x + gateWid v)).foldl
            (fun a x => a.gateHit n i (x * 128 + l) poison) s
      | none => s
    | _ => s

/-- R171, R129: the oldest word of a region's hit queue is popped and checked. -/
def State.popHit (s : State) (n : Nat) : Option (HqWord × State) :=
  let r := s.region n
  match r.hq with
  | [] => none
  | h :: rest =>
    let s1 := (s.setRegion n { r with hq := rest }).put (Reg.HQ_STAT_OCC n) rest.length
    if h.bad then
      some ({ h with poison := true }, (s1.hwSet (Reg.HQ_STAT_PERR n) 1).err
        { sev := 1, src := 4, code := 0x03, unit := n, info := bits h.word.toNat 43 17 })
    else some (h, s1)

/-- R542: a kick for every 256 hit words popped. -/
def State.popKick (s : State) (c : Nat) : State :=
  let k := SMap.get s.libPops c 0 + 1
  let s1 := { s with libPops := SMap.set s.libPops c (k % 256) 0 }
  if k % 256 = 0 then s1.kick c else s1

/-- R187: the library pops a hit word of region `n`, after every pending mark, and runs the slots in ascending order. -/
def State.libHit (s : State) (n : Nat) : State :=
  let c := s.servedBy n
  if s.libAlive c && (s.core c).evq.isEmpty && !(s.libRun n).isEmpty then
    match s.popHit n with
    | some (h, s1) => (((List.range 4).foldl (fun a i => a.slotHit n i h.word.toNat h.poison) s1).libSafe n).popKick c
    | none => s
  else s

def execLibraryHit (n : Fin 1024) (s : State) : Host.Outcome State Fault Refusal := .next (s.libHit n.val)

/-! ### Marks (R187, R190) -/

/-- R135: the fields of a mark word. -/
def markCh (w : Word64) : Nat := bits w.toNat 60 4
def markOvr (w : Word64) : Bool := w.getLsbD 59
def markBuddy (w : Word64) : Bool := w.getLsbD 58
def markDetail (w : Word64) : Nat := bits w.toNat 50 8
/-- The full tick of a mark word: the latest with its low 40 bits. -/
def markTick (now : Nat) (w : Word64) : Nat := now - (now + 2 ^ 40 - bits w.toNat 10 40) % 2 ^ 40

/-- R190: the stream of a slot opens at a tick: what is in progress counts from there and is emitted PARTIAL. -/
def State.slotOpen (s : State) (n i tick : Nat) : State :=
  let v := s.lib n i
  let cur := (tick - v.base) / (max 1 v.p1)
  let going := if v.num = 6 then decide (v.marks ≠ 0) else true
  if v.isOpen then s
  else
    s.setLib n i { v with
      isOpen := true, openAt := tick, counts := [], clusters := [],
      flags := (if v.num = 4 then v.flags else (v.flags &&& 2) ||| 4 * b2n going),
      nextF := (if v.num = 1 then cur else v.nextF),
      fl := (if v.num = 1 then [(cur, (SMap.get v.fl cur 0 &&& 2) ||| 4)] else v.fl),
      groups := (if v.num = 6 then v.groups.map (fun g => { g with counts := [], flags := (g.flags &&& 2) ||| 4 }) else []),
      doneTo := tick }

/-- R190, R200: a mark event with OVR = 1: MOVR in everything still open, and a pad record for each running slot, whose result
tells whether its stream is open. -/
def State.libOvr (s : State) (n : Nat) : State :=
  (List.range 4).foldl (fun a i =>
    let v := a.lib n i
    if v.run then
      let fresh := (a.time.tick - v.base) / (max 1 v.p1) + 1 - v.nextF
      let going := !(v.num = 6 && v.marks = 0)
      let fl1 := (List.range fresh).foldl (fun m j => SMap.ins m (v.nextF + j) (SMap.get m (v.nextF + j) 0 ||| 2)) v.fl
      let v1 := { v with flags := if going then v.flags ||| 2 else v.flags, fl := if v.num = 1 then fl1 else v.fl,
                         groups := v.groups.map (fun g => { g with flags := g.flags ||| 2 }) }
      let a1 := (a.setLib n i v1).libPad n i
      if a.sendOpen v.stream then (a1.setLib n i v1).slotOpen n i a.time.tick else a1
    else a) s

/-- R187: the open frames from `first` on that hold counts. -/
def framesHeld (v : LibSlot) (first : Nat) : List Nat :=
  v.counts.foldl (fun l e => if e.1 / 128 < first ∨ l.contains (e.1 / 128) then l else l ++ [e.1 / 128]) []

/-- R187, R189, R190: a mark's effect on one slot.  Frames that hold counts and lie after the one that a SYNC mark closes are closed
with it, PARTIAL and with the current tick (DEDUCED, notes/assumptions/99.md). -/
def State.slotMark (s : State) (n i : Nat) (w : Word64) : State :=
  let v := s.lib n i
  let ch := markCh w
  let tick := markTick s.time.tick w
  let t := tick * 1024 + bits w.toNat 0 10
  if !v.run then s
  else if ch = 15 then
    if bits w.toNat 50 6 = v.stream then
      if markDetail w ≥ 128 then
        if v.isOpen then
          let s1 := s.slotClose n i
          s1.setLib n i { s1.lib n i with isOpen := false }
        else s
      else s.slotOpen n i tick
    else s
  else if ch ≠ v.ch then s
  else match v.num with
    | 1 =>
      let cur := (tick - v.base) / (max 1 v.p1)
      let s1 := if v.isOpen && decide (v.base + v.nextF * v.p1 ≤ tick) then
          (s.setLib n i { v with groups := v.groups ++ (List.range (cur - v.nextF)).map (fun j => oldFrame v (v.nextF + j)) }).frameOut
            n i cur tick true
        else s
      let first := if v.base + v.nextF * v.p1 ≤ tick then cur + 1 else v.nextF
      let s2 := if v.isOpen then (framesHeld v first).foldl (fun (a : State) f => a.frameOut n i f s.time.tick true) s1 else s1
      s2.setLib n i { s2.lib n i with base := tick, nextF := 0, counts := [], fl := [] }
    | 5 => s.setLib n i { v with refAt := some t }
    | 6 =>
      let nm := bits v.p1 4 12
      if v.marks ≥ nm then
        s.setLib n i { v with groups := v.groups ++ [⟨v.counts, v.lastMark + gateSpan v, v.flags⟩], counts := [], flags := 0,
                              marks := 1, lastMark := tick, refAt := some t }
      else s.setLib n i { v with marks := v.marks + 1, lastMark := tick, refAt := some t }
    | _ => s

/-- R187, R190: the library of core `c` handles its oldest mark event. -/
def State.libMark (s : State) (c : Nat) : State :=
  if s.libAlive c then
    match (s.core c).evq with
    | [] => s
    | w :: rest =>
      let s1 := ((s.setCore c { s.core c with evq := rest }).put (Reg.MBOX_STAT_EVQ c) rest.length).kick c
      let n := if markBuddy w then buddy c else c
      let s2 := if markOvr w then
          let a := if s1.servesOwn c then s1.libOvr c else s1
          if a.servesBuddy c then a.libOvr (buddy c) else a
        else s1
      if s2.servedBy n = c then ((List.range 4).foldl (fun a i => a.slotMark n i w) s2).libSafe n else s2
  else s

def execLibraryMark (n : Fin 1024) (s : State) : Host.Outcome State Fault Refusal := .next (s.libMark n.val)

/-! ### Closes that time brings (R187): the clock of an IDLE core starts for them (R33) -/

/-- R33, R187: the library of core `c` is there to act once TNOW has come: RUNNING or IDLE at LEVEL 0. -/
def State.libThere (s : State) (c : Nat) : Bool :=
  s.coreAlive c && !s.on (Reg.CORE_CTRL_LEVEL c) && !(s.core c).dbgHalt

/-- R187: the next frame of a COUNTFRAME slot closes once TNOW reaches its end plus LAG. -/
def State.frameClose (s : State) (n i : Nat) : State :=
  let v := s.lib n i
  if s.libThere (s.servedBy n) && v.run && v.num = 1 && s.time.run then
    match v.groups with
    | g :: _ =>
      let s1 := (s.adv g.due).wake (s.servedBy n)
      (s1.oldFrameOut n i (if g.flags.testBit 2 then s1.time.tick else g.due - frameLag v) false).libSafe n
    | [] =>
      let stop := v.base + (v.nextF + 1) * v.p1
      let s1 := (s.adv (stop + frameLag v)).wake (s.servedBy n)
      (s1.frameOut n i v.nextF (if (SMap.get v.fl v.nextF 0).testBit 2 then s1.time.tick else stop) false).libSafe n
  else s

def execFrameClose (n : Fin 1024) (slot : Fin 4) (s : State) : Host.Outcome State Fault Refusal :=
  .next (s.frameClose n.val slot.val)

/-- R187: a TOTSPECTRUM, TIMEHIST or OCCUPANCY period ends. -/
def State.periodClose (s : State) (n i : Nat) : State :=
  let v := s.lib n i
  if s.libThere (s.servedBy n) && v.run && s.time.run then
    let stop := v.base + (if v.num = 5 then v.p3 else v.p1)
    let s1 := (s.adv stop).wake (s.servedBy n)
    match v.num with
    | 2 => (s1.histOut n i s1.time.tick false).libSafe n
    | 5 => (s1.histOut n i s1.time.tick false).libSafe n
    | 4 => (s1.occOut n i stop s1.time.tick false).libSafe n
    | _ => s
  else s

def execPeriodClose (n : Fin 1024) (slot : Fin 4) (s : State) : Host.Outcome State Fault Refusal :=
  .next (s.periodClose n.val slot.val)

/-- R187: the tick on which a cluster closes. -/
def clusterDue (v : LibSlot) (c : Cluster) : Nat := ceilDiv c.last 1024 + bits v.p1 0 16 + bits v.p2 0 16

/-- R187: the cluster that closes first is emitted on its tick. -/
def State.clusterClose (s : State) (n i : Nat) : State :=
  let v := s.lib n i
  if s.libThere (s.servedBy n) && v.run && v.num = 3 && s.time.run then
    match v.clusters with
    | [] => s
    | c :: r =>
      let d := r.foldl (fun b x => if clusterDue v x < clusterDue v b then x else b) c
      (((s.adv (clusterDue v d)).wake (s.servedBy n)).clusterOut n i d false).libSafe n
  else s

def execClusterClose (n : Fin 1024) (slot : Fin 4) (s : State) : Host.Outcome State Fault Refusal :=
  .next (s.clusterClose n.val slot.val)

/-- R187: a mark group is emitted once its last window plus LAG has passed. -/
def State.groupClose (s : State) (n i : Nat) : State :=
  let v := s.lib n i
  if s.libThere (s.servedBy n) && v.run && v.num = 6 && s.time.run then
    match v.groups with
    | g :: r =>
      let s1 := (s.adv g.due).wake (s.servedBy n)
      let s2 := s1.groupOut n i g s1.time.tick false .closed
      (s2.setLib n i { s2.lib n i with groups := r, doneTo := s2.time.tick }).libSafe n
    | [] =>
      if v.marks = bits v.p1 4 12 then
        let s1 := (s.adv (v.lastMark + gateSpan v)).wake (s.servedBy n)
        let s2 := s1.groupOut n i ⟨v.counts, 0, v.flags⟩ s1.time.tick false (.group v.refAt)
        (s2.setLib n i { s2.lib n i with counts := [], marks := 0, flags := 0, doneTo := s2.time.tick }).libSafe n
      else s
  else s

def execMarkGroupClose (n : Fin 1024) (slot : Fin 4) (s : State) : Host.Outcome State Fault Refusal :=
  .next (s.groupClose n.val slot.val)

/-- R184: a message the library takes from its mailbox: RELOAD ([63:56] = 1) closes, rereads and restarts the region;
any other is discarded. -/
def State.libReload (s : State) (c : Nat) : State :=
  if s.libAlive c then
    match (s.core c).mbox with
    | [] => s
    | (m, b) :: rest =>
      let s1 := ((s.setCore c { s.core c with mbox := rest }).put (Reg.MBOX_STAT_IN c) rest.length).kick c
      let n := if b then buddy c else c
      if bits m.toNat 56 8 = 1 ∧ s1.servedBy n = c then
        ((s1.libCloseAll n).libRead n).mergeUpdate c
      else s1
  else s

def execReload (n : Fin 1024) (s : State) : Host.Outcome State Fault Refusal := .next (s.libReload n.val)

end Sys2Proof.Machine
end

