-- ==== Sys2Proof/Machine/Bridle.lean ====
section
/-! DEFINITION. The bridle (R236 to R257): declarations and their snapshot, the checks of a commit, the meters, and the
ballast counts. -/
namespace Sys2Proof.Machine

/-! ### Keels -/

def SpillSt.reset : SpillSt := ⟨[], [], [], 0, [], [], [], [], [], [], 0⟩
def StreamSt.reset : StreamSt :=
  { reqO := none, openedAt := 0, reqC := none, cutoff := false, closedAt := none, flushAt := none, sus := 0, peak := 0,
    lvlAt := 0, bal := [], block := none, first := false, wait := [], disc := none, shaped := 0, shapedAt := 0 }
def PinSt.reset : PinSt := ⟨false, 0⟩
def KeelSt.reset : KeelSt :=
  { streams := [], queues := [], snap := [], snapAt := 0, commitT := none, changed := false, pairs := [],
    force := none, spill := SpillSt.reset, mirror := none, passed := false, loaded := false, testing := none, held := false, testAt := 0, frameAt := 0 }
def Retain.reset : Retain := ⟨0, none, none, false⟩

/-- A keel's state, a stream's state in a keel, and those states set. -/
def State.keel (s : State) (k : Nat) : KeelSt := SMap.get s.keels k KeelSt.reset
def State.setKeel (s : State) (k : Nat) (v : KeelSt) : State := { s with keels := SMap.set s.keels k v KeelSt.reset }
def State.stream (s : State) (k q : Nat) : StreamSt := SMap.get (s.keel k).streams q StreamSt.reset
def State.setStream (s : State) (k q : Nat) (v : StreamSt) : State :=
  s.setKeel k { s.keel k with streams := SMap.set (s.keel k).streams q v StreamSt.reset }
/-- R288: a SRC_PERMIT pin, and that pin set. -/
def State.pin (s : State) (p : Nat) : PinSt := SMap.get s.pins p PinSt.reset
def State.setPin (s : State) (p : Nat) (v : PinSt) : State := { s with pins := SMap.set s.pins p v PinSt.reset }
/-- R289, R462: with no grant both pins are low, since now where they were high. -/
def State.pinsLow (s : State) : State :=
  { s with pins := s.pins.map (fun e => (e.1, (⟨false, if e.2.high then s.time.tick else e.2.fellAt⟩ : PinSt))) }
/-- The state of a keel, lost in a reset. -/
def State.keelGone (s : State) (k : Nat) : State := s.setKeel k KeelSt.reset
def State.retained (s : State) (q : Nat) : Retain := SMap.get s.retain q Retain.reset
def State.setRetained (s : State) (q : Nat) (v : Retain) : State :=
  { s with retain := SMap.set s.retain q v Retain.reset }

/-- R267: the states of a stream: 0 CLOSED, 1 OPEN, 2 CLOSING. -/
def State.stState (s : State) (k q : Nat) : Nat := s.get (Reg.ST_CTRL_STATE k q)
/-- A stream that is OPEN or CLOSING takes words and marks. -/
def State.stLive (s : State) (k q : Nat) : Bool := s.stState k q != 0

/-! ### Declarations (R238 to R240, R244) -/

/-- The bit address of a byte address. -/
def bitAddr (a : Nat) : Nat := 8 * a

/-- R244, R245: the key is a bit of a register that a commit snapshots: the declarations of the bridle area, ST_CFG and
SP_STREAMS (as in keel A's window), LG_CFG, and the trigger and waveform settings of R239. -/
def declKey (key : Nat) : Bool :=
  let a := key / 8
  (0x12000C ≤ a && a < 0x120010) || (0x120020 ≤ a && a < 0x120028) || (0x120100 ≤ a && a < 0x120500)
    || (0x120C00 ≤ a && a < 0x120C90) || (0x124000 ≤ a && a < 0x128000)
    || (0x130000 ≤ a && a < 0x130800 && a % 0x20 / 4 == 1) || (0x130900 ≤ a && a < 0x130920 && a % 0x10 / 8 == 1)
    || (0x303000 ≤ a && a < 0x303040) || (0x50000 ≤ a && a < 0x50004) || (0x50100 ≤ a && a < 0x50200)
    || (0x50300 ≤ a && a < 0x50340)

/-- A key of keel `k`'s window as the same register's key in keel A's window, and back. -/
def toKeelA (k key : Nat) : Nat :=
  if bitAddr (0x100000 + 0x80000 * k) ≤ key ∧ key < bitAddr (0x180000 + 0x80000 * k) then key - bitAddr (0x80000 * k) else key
def fromKeelA (k key : Nat) : Nat :=
  if bitAddr 0x100000 ≤ key ∧ key < bitAddr 0x180000 then key + bitAddr (0x80000 * k) else key

/-- The registers of the other keel's window left out. -/
def notOther (k key : Nat) : Bool :=
  !(decide (bitAddr (0x100000 + 0x80000 * (1 - k)) ≤ key) && decide (key < bitAddr (0x180000 + 0x80000 * (1 - k))))

/-- R245: the snapshot that a commit of keel `k` takes. -/
def State.declSnap (s : State) (k : Nat) : SMap Nat :=
  ((s.regs.filter (fun e => notOther k e.1)).map (fun e => (toKeelA k e.1, e.2))).filter (fun e => declKey e.1)

/-- A field of a snapshot (its field in keel A's window). -/
def dget (d : SMap Nat) (f : Field) : Nat := SMap.get d f.key f.rst

/-- R256: the values in force; before the first commit the reset values, BR_PCAP's from its option byte. -/
def State.inForce (s : State) (k : Nat) : SMap Nat :=
  ((s.keel k).force).getD (SMap.set [] (Reg.BR_PCAP_CAP 0).key (s.optByte 5) (Reg.BR_PCAP_CAP 0).rst)

def dSus (d : SMap Nat) (q : Nat) : Nat := dget d (Reg.BR_SUS_SUS 0 q)
def dBur (d : SMap Nat) (q : Nat) : Nat := dget d (Reg.BR_BUR_BUR 0 q)
def dTol (d : SMap Nat) (q : Nat) : Nat := 512 * dget d (Reg.BR_TOL_TOL 0 q)
/-- R242: a stream with BUR = SUS counts as having BDUR = 0 (µs). -/
def dBdur (d : SMap Nat) (q : Nat) : Nat := if dBur d q ≤ dSus d q then 0 else dget d (Reg.BR_BDUR_BDUR 0 q)
def dGroup (d : SMap Nat) (q : Nat) : Nat := dget d (Reg.ST_CFG_GROUP 0 q)
/-- R293: LSIZE, 8 to 512 words. -/
def dLsize (d : SMap Nat) (q : Nat) : Nat := min 512 (max 8 (dget d (Reg.ST_CFG_LSIZE 0 q)))

/-- R236: the charge bits of a word in a stream: 64 × (L + 16) ÷ L. -/
def wordCharge (d : SMap Nat) (q : Nat) : Rat := 64 * ((dLsize d q + 2 : Nat) : Rat) / (dLsize d q : Nat)

/-- R225: HOLDOFF of trigger `n`, at least 16 index units. -/
def dHold (d : SMap Nat) (n : Nat) : Nat := max 16 (dget d (Reg.TRG_HOLD_HOLDOFF n))

/-- R231: PRE and POST of a window unit, POST extended so that their sum is a multiple of 5. -/
def winPre (pre : Nat) : Nat := min 8192 pre
def winPost (pre post : Nat) : Nat := alignUp 5 (winPre pre + max 1 post) - winPre pre

/-- R235: the records per second of waveform unit `n`. -/
def waveRate (d : SMap Nat) (n : Nat) : Rat :=
  let rate : Rat := if dget d Reg.WAVE_CTRL_MODE == 1 then 1250000000 else 2500000000
  match dget d (Reg.WR_CFG_KIND n) with
  | 0 => rate / 5 * 257 / 256
  | 3 =>
    let pre := dget d (Reg.WR_WIN_PRE n)
    let len := winPre pre + winPost pre (dget d (Reg.WR_WIN_POST n))
    2500000000 / (dHold d (dget d (Reg.WR_CFG_CH n)) : Rat) * ((len : Rat) / 5 + 1)
  | _ => rate / ((2 ^ min 20 (max 1 (dget d (Reg.WR_CFG_LOG2N n))) : Nat) : Rat)

/-- The sum of a list of rationals. -/
def ratSum (l : List Rat) : Rat := l.foldl (· + ·) 0

/-- R239: the words per second that the keel, the triggers, the waveform units and a second pin add to stream `q`. -/
def extraWords (d : SMap Nat) (q : Nat) : Rat :=
  (if dSus d q > 0 then 400000 else 0)
  + ratSum ((List.range 8).map (fun n =>
      if dget d (Reg.TRG_CFG_EN n) == 1 && (dget d (Reg.TRG_STREAMS_MASK n)).testBit q then 2500000000 / (dHold d n : Rat) else 0))
  + ratSum ((List.range 4).map (fun n =>
      if dget d (Reg.WR_CFG_EN n) == 1 && dget d (Reg.WR_CFG_STREAM n) == q then waveRate d n else 0))
  + (if (dget d (Reg.SP_STREAMS_MASK 0 0)).testBit q && (dget d (Reg.SP_STREAMS_MASK 0 1)).testBit q then 76294 else 0)

/-- R239: SUS′ and BUR′ in Mbit/s. -/
def susP (d : SMap Nat) (q : Nat) : Rat := dSus d q + extraWords d q * wordCharge d q / 1000000
def burP (d : SMap Nat) (q : Nat) : Rat := dBur d q + extraWords d q * wordCharge d q / 1000000

/-! ### Capacity and bursts (R237, R242) -/

/-- R238: the streams with a budget. -/
def budgeted (d : SMap Nat) : List Nat := (List.range 64).filter (fun q => decide (dSus d q > 0))
/-- R270: the streams of a group, with a budget or without. -/
def groupStreams (d : SMap Nat) (g : Nat) : List Nat := (List.range 64).filter (fun q => dGroup d q == g)

/-- R327: lane group `g` of a snapshot covers logical lane `l`. -/
def inGroup (d : SMap Nat) (g l : Nat) : Bool :=
  dget d (Reg.LG_CFG_EN g) == 1 && dget d (Reg.LG_CFG_FIRST g) ≤ l
    && l < dget d (Reg.LG_CFG_FIRST g) + 2 ^ min 5 (dget d (Reg.LG_CFG_WCODE g))

/-- R327: a key of the LG_CFG registers. -/
def laneKey (key : Nat) : Bool := decide (bitAddr 0x303000 ≤ key) && decide (key < bitAddr 0x303040)

/-- R237, R340: C_g: the slots that carry a lane of the group and have their BR_LANES bit set, times 24,500 Mbit/s. -/
def State.capacity (s : State) (d : SMap Nat) (g : Nat) : Nat :=
  24500 * ((List.range 36).filter (fun i => (dget d (Reg.BR_LANES_UP 0)).testBit i
    && inGroup d g (s.get (Reg.LN_TXSTAT_LOGL i)))).length

/-- R242: E_g in Mbit/s. -/
def State.burstE (s : State) (d : SMap Nat) (g : Nat) : Rat :=
  max 0 (ratSum ((groupStreams d g).map (burP d)) - s.capacity d g)

/-- Insertion sort of streams by BDUR, ascending. -/
def byBdur (d : SMap Nat) (q : Nat) : List Nat → List Nat
  | [] => [q]
  | x :: r => if dBdur d q < dBdur d x then q :: x :: r else x :: byBdur d q r

/-- R242: the loop over the streams of a group: v, at time t (µs) and rate (Mbit/s); v in bits. -/
def burstLoop (d : SMap Nat) (t v rate : Rat) : List Nat → Rat
  | [] => v
  | q :: r =>
    let b : Rat := dBdur d q
    burstLoop d b (if rate > 0 then v + rate * (b - t) else v) (rate - ((dBur d q : Rat) - dSus d q)) r

/-- R242: V_g in bits. -/
def State.burstV (s : State) (d : SMap Nat) (g : Nat) : Rat :=
  let qs := groupStreams d g
  burstLoop d 0 0 (ratSum (qs.map (burP d)) - s.capacity d g) (qs.foldl (fun l q => byBdur d q l) [])

/-- R242: R_g in µs; none where no stream of the group bursts and refills (a stream with SUS′ = 0 never refills its allowance;
notes/assumptions/21.md). -/
def burstR (d : SMap Nat) (g : Nat) : Option Rat :=
  let rs := ((groupStreams d g).filter (fun q => decide (dBur d q > dSus d q) && decide (susP d q > 0))).map
    (fun q => ((dBur d q : Rat) - dSus d q) * dBdur d q / susP d q)
  match rs with
  | [] => none
  | r :: rest => some (rest.foldl min r)

/-- The lane capacity a group's sustained rates leave, in Mbit/s. -/
def State.spare (s : State) (d : SMap Nat) (g : Nat) : Rat :=
  s.capacity d g - ratSum ((groupStreams d g).map (susP d))

/-! ### Power (R243) -/

/-- R243: the sum of CYC + HRATE ÷ 2 over a stripe. -/
def stripeLoad (d : SMap Nat) (st : Nat) : Rat :=
  ratSum ((List.range 128).map (fun i => (dget d (Reg.BR_REGION_CYC 0 (st * 128 + i)) : Rat)
    + (dget d (Reg.BR_REGION_HRATE 0 (st * 128 + i)) : Rat) / 2))

/-- R243: A_d of a domain for the keel that holds ACTIVE. -/
def State.activity (s : State) (k : Nat) (d : SMap Nat) (dom : Nat) : Rat :=
  if 11 ≤ dom ∧ dom ≤ 18 then stripeLoad d (dom - 11)
  else if dom = 19 + k then 600 + ratSum ((List.range 64).map (burP d)) / 1000
  else if dom = 31 ∨ dom = 32 then ratSum ((List.range 16).map (s.burstE d)) / 2000
  else 0

/-- PR_DOM_EN and PR_DOM_FAIL of a domain: R441's "EN". -/
def State.domEn (s : State) (d : Nat) : Bool :=
  (d < 3 || s.fbit Reg.PR_DOM_EN_EN (d - 3)) && !s.fbit Reg.PR_DOM_FAIL_FAIL d

/-- R243: the domain counts: enabled for ACQUIRE; a TXQ domain where it holds a lane whose BR_LANES bit is 1. -/
def State.counted (s : State) (d : SMap Nat) (dom : Nat) : Bool :=
  if 21 ≤ dom ∧ dom ≤ 29 then
    (List.range 4).any (fun i => (dget d (Reg.BR_LANES_UP 0)).testBit ((dom - 21) * 4 + i))
  else s.domEn dom

/-- R243: the worst-case power P in mW. -/
def State.worstPower (s : State) (k : Nat) (d : SMap Nat) : Rat :=
  ratSum ((List.range 36).map (fun dom =>
    if s.counted d dom then (dget d (Reg.BRPWR_BASE 0 dom) : Rat) + (dget d (Reg.BRPWR_ACT 0 dom) : Rat) * s.activity k d dom / 1000
    else 0))

/-! ### Checks (R241) -/

/-- R241, R253: check 3 and check 4 of a region; a pair sum where `pair` holds. -/
def slotBad (d : SMap Nat) (pair : Nat → Bool) (n : Nat) : Bool :=
  let r := dget d (Reg.BR_REGION_RREC 0 n)
  r > 1000 || (pair n && r + dget d (Reg.BR_REGION_RREC 0 (buddy n)) > 1000)
def coreBad (d : SMap Nat) (pair : Nat → Bool) (n : Nat) : Bool :=
  let r := dget d (Reg.BR_REGION_CYC 0 n)
  r > 1000 || (pair n && r + dget d (Reg.BR_REGION_CYC 0 (buddy n)) > 1000)

/-- R241: the pair sum applies to a region that is CLOSING, ADOPTED or RETURNING. -/
def State.pairOf (s : State) (n : Nat) : Bool := s.get (Reg.ADOPT_STAT_STATE n) != 0
/-- R241: these regions at the snapshot. -/
def State.pairsNow (s : State) : List Nat := (List.range 1024).filter s.pairOf

/-- R241, check 1: the index it names; its conditions in the order listed, each over ascending index
(notes/assumptions/21.md). -/
def fieldBad (d : SMap Nat) : Option Nat :=
  let noBudget := fun (m : Nat) => (List.range 64).find? (fun q => m.testBit q && dSus d q == 0)
  match (List.range 64).find? (fun q => decide (dBur d q < dSus d q) || (dTol d q == 0 && decide (dSus d q > 0))) with
  | some q => some q
  | none =>
    match (List.range 1024).find? (fun n => decide (dget d (Reg.BR_REGION_HRATE 0 n) > 1000)
        || (noBudget (dget d (Reg.BR_MASK_MASK 0 n))).isSome) with
    | some n => some n
    | none =>
      match (List.range 8).findSome? (fun n =>
          if dget d (Reg.TRG_CFG_EN n) == 1 then noBudget (dget d (Reg.TRG_STREAMS_MASK n)) else none) with
      | some q => some q
      | none => (List.range 4).findSome? (fun n =>
          if dget d (Reg.WR_CFG_EN n) == 1 && dSus d (dget d (Reg.WR_CFG_STREAM n)) == 0
          then some (dget d (Reg.WR_CFG_STREAM n)) else none)

/-- R241: CODE and the index of BR_FAIL; the checks in order, the first that fails. -/
def State.bridleCheck (s : State) (k : Nat) (d : SMap Nat) : Nat × Nat :=
  let groups := List.range 16
  let pair := fun (n : Nat) => (s.keel k).pairs.contains n
  match fieldBad d with
  | some i => (1, i)
  | none =>
  match (budgeted d).find? (fun q => s.capacity d (dGroup d q) == 0) with
  | some q => (2, q)
  | none =>
  match (List.range 1024).find? (slotBad d pair) with
  | some n => (3, n)
  | none =>
  match (List.range 1024).find? (coreBad d pair) with
  | some n => (4, n)
  | none =>
  if sumOf ((budgeted d).map (fun q => dTol d q + 8192)) > 8388608 then (5, 0)
  else
  match groups.find? (fun g => decide (s.spare d g < 0)) with
  | some g => (6, g)
  | none =>
  if ratSum (groups.map (s.burstE d)) > s.get (Reg.BR_SPILL_W_RATE k) then (7, 0)
  else if ratSum (groups.map (s.burstV d)) > 8 * 2 ^ 20 * s.get (Reg.BR_SPILL_CAP_CAP k) then (8, 0)
  else
  match groups.find? (fun g => decide (s.burstV d g > 0)
      && (match burstR d g with | some r => decide (s.burstV d g > s.spare d g * r) | none => decide (s.spare d g = 0))) with
  | some g => (9, g)
  | none =>
  if s.worstPower k d > 250 * min 76 (dget d (Reg.BR_PCAP_CAP 0)) then (10, 0)
  else if (s.keel k).changed then (11, 0)
  else (0, 0)

/-- A rational rounded up to a natural number. -/
def ratCeil (r : Rat) : Nat := r.ceil.toNat

/-! ### Commit (R244, R245) -/

/-- R399: a bit of CD_EVT of a powered keel set. -/
def State.condEvent (s : State) (k bitNo : Nat) : State :=
  if s.dom (19 + k) then s.hwSetBit (Reg.CD_EVT_EVT k) bitNo else s

/-- R245, step 1: a COMMIT accepted by keel `k`. -/
def State.commitStart (s : State) (k : Nat) : State :=
  let v := { s.keel k with snap := s.declSnap k, snapAt := s.time.tick, commitT := none, changed := false }
  let s1 := s.setKeel k { v with pairs := s.pairsNow }
  (s1.put (Reg.BR_STAT_BUSY k) 1).put (Reg.BR_CTRL_COMMIT k) 1

/-- R245: the end of a commit: BUSY and COMMIT clear, CODE and the conductor's event. -/
def State.commitEnd (s : State) (k code fail : Nat) : State :=
  let s1 := ((s.put (Reg.BR_STAT_BUSY k) 0).put (Reg.BR_CTRL_COMMIT k) 0).put (Reg.BR_STAT_CODE k) code
  let s2 := s1.putIf (code != 0) (Reg.BR_FAIL_IDX k) fail
  (s2.setKeel k { s2.keel k with snap := [], commitT := none, changed := false, pairs := [] }).condEvent k 3

/-- R254: the snapshot with the spill figures it was checked against. -/
def State.withSpill (s : State) (k : Nat) (d : SMap Nat) : SMap Nat :=
  SMap.set (SMap.set d (Reg.BR_SPILL_W_RATE 0).key (s.get (Reg.BR_SPILL_W_RATE k)) 0)
    (Reg.BR_SPILL_CAP_CAP 0).key (s.get (Reg.BR_SPILL_CAP_CAP k)) 0

/-- R245, steps 2 and 3: the checks complete; an accepted commit keeps the spill figures it was checked against and waits for the
next tick that is a multiple of 2¹⁴. -/
def State.commitChecked (s : State) (k : Nat) : State :=
  if s.on (Reg.BR_STAT_BUSY k) && (s.keel k).commitT.isNone then
    let d := (s.keel k).snap
    let s1 := s.put (Reg.BR_PWR_WC_P k) (min (2 ^ 32 - 1) (ratCeil (s.worstPower k d)))
    let r := s1.bridleCheck k d
    if r.1 = 0 then
      s1.setKeel k { s1.keel k with commitT := some (alignUp 16384 (s1.time.tick + 1)), snap := s1.withSpill k d }
    else s1.commitEnd k r.1 r.2
  else s

/-- R241 (check 11): something that the check in progress reads has changed. -/
def State.commitChanged (s : State) : State :=
  (List.range 2).foldl (fun a k =>
    if a.on (Reg.BR_STAT_BUSY k) && (a.keel k).commitT.isNone then a.setKeel k { a.keel k with changed := true } else a) s

/-! ### Meters (R246, R247) -/

/-- The charge bits that a rate in Mbit/s fills in `n` ticks of 0.8 ns. -/
def fillOf (rate : Rat) (n : Nat) : Rat := rate * n / 1250

/-- R246: the depths of the two buckets. -/
def depthP (d : SMap Nat) (q : Nat) : Rat := dTol d q
def depthS (d : SMap Nat) (q : Nat) : Rat := (dBur d q - dSus d q) * dBdur d q + dTol d q

/-- R246: the buckets of a stream brought to the current tick. -/
def meterTo (d : SMap Nat) (q tick : Nat) (v : StreamSt) : StreamSt :=
  let n := tick - v.lvlAt
  { v with sus := min (depthS d q) (v.sus + fillOf (susP d q) n), peak := min (depthP d q) (v.peak + fillOf (burP d q) n),
           lvlAt := max tick v.lvlAt }

/-- R246: full buckets. -/
def meterFull (d : SMap Nat) (q tick : Nat) (v : StreamSt) : StreamSt :=
  { v with sus := depthS d q, peak := depthP d q, lvlAt := tick }

/-- R247: a debit that never drops (marks and block charges). -/
def meterDebit (bits : Nat) (v : StreamSt) : StreamSt := { v with sus := v.sus - bits, peak := v.peak - bits }

/-- R247: a record of this charge is admitted. -/
def meterAdmits (bits : Nat) (v : StreamSt) : Bool := decide ((bits : Rat) ≤ v.sus) && decide ((bits : Rat) ≤ v.peak)

/-! ### Shaping (R248) -/

/-- R248: what the shaping buffer holds of a stream, brought to a tick: it leaves at BUR′, or at once for a stream without a
rate (notes/assumptions/87.md). -/
def shapeTo (d : SMap Nat) (q tick : Nat) (v : StreamSt) : StreamSt :=
  { v with shaped := if burP d q > 0 then max 0 (v.shaped - fillOf (burP d q) (tick - v.shapedAt)) else 0,
           shapedAt := max tick v.shapedAt }

/-- R248: more charge enters the shaping buffer. -/
def shapeIn (d : SMap Nat) (q tick bits : Nat) (v : StreamSt) : StreamSt :=
  let w := shapeTo d q tick v
  { w with shaped := w.shaped + bits }

/-- R248: the tick on which everything now in the shaping buffer has left it. -/
def shapedOut (d : SMap Nat) (q : Nat) (v : StreamSt) : Nat :=
  v.shapedAt + (if burP d q > 0 then ratCeil (v.shaped * 1250 / burP d q) else 0)

/-- R245, R248: a block that still has words in the shaping buffer on tick `t` leaves it at the new rate. -/
def reRelease (old new : SMap Nat) (q t : Nat) (b : Block) : Block :=
  if b.relAt ≤ t then b
  else { b with relAt := t + (if burP old q > 0 ∧ burP new q > 0 then ratCeil (((b.relAt - t : Nat) : Rat) * burP old q / burP new q) else 0) }

/-- R245, R248: the shaping buffer of a stream when new values come into force on tick `t`: what has left by then left at the old
rate. -/
def reshape (old new : SMap Nat) (q t : Nat) (v : StreamSt) : StreamSt :=
  { shapeTo old q t v with block := v.block.map (reRelease old new q t), wait := v.wait.map (reRelease old new q t) }

/-! ### Ballast (R250 to R252) -/

/-- R250: a ballast count of a cause reaches a stream. -/
def addBallast (v : StreamSt) (cause n : Nat) : StreamSt :=
  { v with bal := SMap.set v.bal cause (SMap.get v.bal cause 0 + n) 0 }

/-- R252: a ballast mark. -/
def ballastMark (q cause count tick : Nat) : Word64 :=
  mkWord [(60, 4, 0xD), (54, 6, q), (52, 2, cause), (24, 28, count), (0, 24, tick)]

/-! ### OVER and DRIFT (R254, R255) -/

/-- R256: BR_STAT as a word. -/
def State.brStat (s : State) (k : Nat) : Nat :=
  s.get (Reg.BR_STAT_BUSY k) * 2 ^ 31 + s.get (Reg.BR_STAT_OVER k) * 2 ^ 30 + s.get (Reg.BR_STAT_DRIFT k) * 2 ^ 29
    + s.get (Reg.BR_STAT_CODE k) * 2 ^ 16 + s.get (Reg.BR_STAT_SEQ k)

/-- R254, R385, R470: OVER is set, a medium error of source 6 (bridle) and code 0x08 (R506) is logged, a notice of kind 2
goes to the owner and interrupt bit 1 is set. -/
def State.bridleOver (s : State) (k unit : Nat) : State :=
  let s1 := ((s.put (Reg.BR_STAT_OVER k) 1).errFree { sev := 2, src := 6, code := 8, unit := unit }).irq 1
  s1.noticeOwner 2 (leBytes 4 (s1.brStat k))

/-- R255: DRIFT is set in the keels where a commit is in force. -/
def State.bridleDrift (s : State) : State :=
  (List.range 2).foldl (fun a k => a.putIf ((a.keel k).force.isSome) (Reg.BR_STAT_DRIFT k) 1) s

/-- R253, R254: checks 3 and 4 hold for the pair of region `n`, by the values in force in keel `k`. -/
def State.pairFits (s : State) (k n : Nat) : Bool :=
  let d := s.inForce k
  let both := fun (_ : Nat) => true
  !(slotBad d both n || coreBad d both n || slotBad d both (buddy n) || coreBad d both (buddy n))

/-- R253: an adoption by command is accepted by the bridle of the active keel. -/
def State.bridleAdopts (s : State) (n : Nat) : Bool :=
  match s.active? with
  | some k => s.pairFits k n
  | none => false

end Sys2Proof.Machine
end

