-- ==== Sys2Proof/Machine/Streams.lean ====
section
/-! DEFINITION. Streams and blocks in the active keel (R258 to R273, R286 to R290): marks, the merge, opening and closing,
flushes, the SRC_PERMIT pins. -/
namespace Sys2Proof.Machine

/-! ### Record words (R258 to R264) -/

/-- R262: an extension record's first word. -/
def extWord (xcode xw payload : Nat) : Word64 := mkWord [(60, 4, 0xF), (52, 8, xcode), (48, 4, xw), (0, 48, payload)]

/-- R263: the epoch mark of tick `e`, whose accumulator value is `acc`. -/
def epochWords (e acc : Nat) : List Word64 :=
  [mkWord [(60, 4, 0xC), (30, 30, e / 2 ^ 23), (0, 30, accNs acc)],
   mkWord [(16, 48, accSec acc), (0, 16, acc % 2 ^ 32 / 2 ^ 16)]]

/-- R263: the epoch mark of the latest tick E that is a multiple of 2²³. -/
def State.lastEpoch (s : State) : List Word64 := epochWords s.time.epoch s.time.epochAcc

/-- The type of a record word. -/
def wordType (w : Word64) : Nat := bits w.toNat 60 4

/-- R247: types 0xB to 0xF are marks, which are never dropped. -/
def isMark (w : Word64) : Bool := wordType w ≥ 0xB

/-- R261: how many continuation words follow a record word. -/
def contWords (w : Word64) : Nat :=
  match wordType w with
  | 0xC => 1
  | 0xE => 1
  | 0xF => bits w.toNat 48 4
  | _ => 0

/-! ### Blocks (R271, R277) -/

/-- R271, R277: the open block of a stream closes: FLUSH where it is not full, CLOSE at the end of the stream. -/
def State.blockClose (s : State) (k q : Nat) (last : Bool) : State :=
  let v := s.stream k q
  match v.block with
  | none => s
  | some b =>
    let b1 := { b with flush := decide (b.words.length < b.size), last := last, closeAt := s.time.tick,
                       epoch := s.get Reg.ARB_STAT_EPOCH }
    (s.setStream k q { v with block := none, wait := v.wait ++ [b1] }).putIf b.poison Reg.EL_POIS_COUNT
      (satAdd 32 (s.get Reg.EL_POIS_COUNT) 1)

/-- R236, R271: a block opens for a stream, with its charge. -/
def State.blockOpen (s : State) (k q : Nat) : State :=
  let d := s.inForce k
  let v := shapeIn d q s.time.tick 128 (meterDebit 128 (meterTo d q s.time.tick (s.stream k q)))
  s.setStream k q { v with
    block := some ⟨q, [], false, false, v.first, false, s.time.tick, 0, dLsize d q, dGroup d q, 0, 0, 0, 0⟩, first := false }

/-- R248, R271: a record with its continuation words joins the stream's block, which is complete for the packers once the words
have left the shaping buffer. -/
def State.blockPut (s : State) (k q : Nat) (ws : List Word64) (poison : Bool) : State :=
  let full := match (s.stream k q).block with
    | some b => decide (b.words.length + ws.length > b.size)
    | none => false
  let s1 := if full then s.blockClose k q false else s
  let s2 := if (s1.stream k q).block.isNone then s1.blockOpen k q else s1
  let d := s2.inForce k
  let v := shapeIn d q s2.time.tick (64 * ws.length) (s2.stream k q)
  match v.block with
  | none => s2
  | some b =>
    let b1 := { b with words := b.words ++ ws, poison := b.poison || poison, relAt := shapedOut d q v }
    let s3 := s2.setStream k q { v with block := some b1 }
    if b1.words.length ≥ b1.size then s3.blockClose k q false else s3

/-- R247: a mark enters a stream, poisoned or not: debited, never dropped. -/
def State.markPut (s : State) (k q : Nat) (ws : List Word64) (poison : Bool) : State :=
  let v := meterDebit (64 * ws.length) (meterTo (s.inForce k) q s.time.tick (s.stream k q))
  (s.setStream k q v).blockPut k q ws poison
/-- A mark of the keel's own. -/
def State.markIn (s : State) (k q : Nat) (ws : List Word64) : State := s.markPut k q ws false

/-- The streams of keel `k` that are OPEN or CLOSING. -/
def State.liveStreams (s : State) (k : Nat) : List Nat := (List.range 64).filter (s.stLive k)

/-- A mark enters every stream of the active keel that is OPEN or CLOSING and passes a test. -/
def State.markAll (s : State) (k : Nat) (p : Nat → Bool) (ws : List Word64) : State :=
  ((s.liveStreams k).filter p).foldl (fun a q => a.markIn k q ws) s

/-! ### The merge (R247, R260, R265, R269) -/

/-- R269: the stream of a merged item: edge records (source 32) and monitor results (source 34) take SRC_ROUTE. -/
def State.routeOf (s : State) (k src : Nat) (m : MergeItem) : Option Nat :=
  if src = 32 then
    match m.origin with
    | 0 => if s.on (Reg.SRC_ROUTE_EN0 k) then some (s.get (Reg.SRC_ROUTE_S0 k)) else none
    | 1 => if s.on (Reg.SRC_ROUTE_EN1 k) then some (s.get (Reg.SRC_ROUTE_S1 k)) else none
    | 2 => if s.on (Reg.SRC_ROUTE_EN2 k) then some (s.get (Reg.SRC_ROUTE_S2 k)) else none
    | _ => if s.on (Reg.SRC_ROUTE_EN3 k) then some (s.get (Reg.SRC_ROUTE_S3 k)) else none
  else if src = 34 then
    if s.on (Reg.SRC_ROUTE_MON_EN k) then some (s.get (Reg.SRC_ROUTE_MON_STREAM k)) else none
  else some m.stream

/-- R247: a record meets the meters of its stream. -/
def State.meterIn (s : State) (k q : Nat) (m : MergeItem) : State :=
  let charge := 64 * m.words.length
  let v := meterTo (s.inForce k) q s.time.tick (s.stream k q)
  if meterAdmits charge v then (s.setStream k q (meterDebit charge v)).blockPut k q m.words m.poison
  else (s.setStream k q (addBallast v 0 1)).put (Reg.BR_BAL_COUNT k q) (s.get (Reg.BR_BAL_COUNT k q) + 1)

/-- R247, R260, R269, R394: an item reaches the merge of the keel that holds the grant. -/
def State.mergeIn (s : State) (src : Nat) (m : MergeItem) : State :=
  match s.active?, m.words with
  | some k, w :: _ =>
    match s.routeOf k src m with
    | some q =>
      if !s.stLive k q || wordType w == 0 then s
      else if m.cls == .gap || isMark w then s.markPut k q m.words m.poison
      else s.meterIn k q m
    | none => s
  | _, _ => s

/-- R501, R504: the block class of the trunk's words, by source: the region engines, or the waveform digitiser, edge unit and monitor. -/
def trunkClass (src : Nat) : Nat := if src < 32 then 0 else 6

/-- R265, R513: the next item in merge order leaves its source, poisoned where its word holds an uncorrectable error. -/
def State.mergeNext (s : State) : State :=
  match List.find? (fun e => !e.2.isEmpty) s.merge with
  | some (src, m :: rest) =>
    (({ s with merge := SMap.set s.merge src rest [] }).eccCount (trunkClass src) m.ecc).mergeIn src
      { m with poison := m.poison || decide (2 ≤ m.ecc), ecc := 0 }
  | _ => s

/-- R501, R513: a block's words are read from staging or from a queue: a single-bit error counts (class 2), an uncorrectable one sets POISON,
and the block counts among those that are closed poisoned. -/
def State.blockRead (s : State) (b : Block) : Block × State :=
  let s1 := (s.eccCount 2 b.ecc).putIf (decide (2 ≤ b.ecc) && !b.poison) Reg.EL_POIS_COUNT (satAdd 32 (s.get Reg.EL_POIS_COUNT) 1)
  ({ b with poison := b.poison || decide (2 ≤ b.ecc), ecc := 0 }, s1)

def execMergeWord (s : State) : Host.Outcome State Fault Refusal := .next s.mergeNext

/-! ### Ballast (R250, R251) -/

/-- R250: the counts of causes 1 and 2 of a region reach the active keel, in every open stream of its mask. -/
def State.ballastReport (s : State) (n : Nat) : State :=
  let r := s.region n
  let s1 := s.setRegion n { r with balHq := 0, balOut := 0 }
  match s.active? with
  | none => s1
  | some k =>
    let mask := s.get (Reg.STREAM_MASK_MASK n)
    ((s1.liveStreams k).filter (fun q => mask.testBit q)).foldl (fun a q =>
      a.setStream k q (addBallast (addBallast (a.stream k q) 1 r.balHq) 2 r.balOut)) s1

def execBallastCountReport (n : Fin 1024) (s : State) : Host.Outcome State Fault Refusal := .next (s.ballastReport n.val)

/-- R251, R252: the ballast marks of a stream's pending counts, in ascending cause order. -/
def State.ballastOut (s : State) (k q tick : Nat) : State :=
  let counts := (s.stream k q).bal
  let s1 := s.setStream k q { s.stream k q with bal := [] }
  counts.foldl (fun a e => a.markIn k q [ballastMark q e.1 e.2 tick]) s1

/-- The next tick that is a multiple of `m` after the current one. -/
def State.nextMult (s : State) (m : Nat) : Nat := alignUp m (s.time.tick + 1)

/-- The next end of the intervals of `m` ticks, the last of which ended on tick `done`: it may be the current tick. -/
def State.dueMult (s : State) (m done : Nat) : Nat :=
  let e := alignUp m s.time.tick
  if e ≤ done then done + m else e

/-- R251: a ballast interval ends. -/
def State.ballastEnd (s : State) : State :=
  if s.time.run then
    let t := s.dueMult 16384 s.ballastDone
    let s1 := { s.adv t with ballastDone := t }
    match s1.active? with
    | some k => (s1.liveStreams k).foldl (fun a q => a.ballastOut k q t) s1
    | none => s1
  else s

def execBallastIntervalEnd (s : State) : Host.Outcome State Fault Refusal := .next s.ballastEnd

/-! ### Epoch marks (R263) -/

/-- R134, R263: on epoch tick `e`, which is now, an epoch mark enters every open stream, and a mark event goes out on channel 12,
whose detail the spec does not state (a free value). -/
def State.epochInsert (s : State) (e : Nat) : State :=
  let s1 := { s with epochDone := e }
  let s2 := s1.spend.mark 12 (s1.fresh 8) e 0
  match s2.active? with
  | some k => s2.markAll k (fun _ => true) s2.lastEpoch
  | none => s2

/-! ### Opening and closing (R267, R268) -/

/-- R264: a gap mark that applies to every source of a stream. -/
def gapAllWords (cause start stop count : Nat) : List Word64 := gapWords cause true 0 start stop count

/-- R408, R317: the gap mark a stream's retention record holds for its next opening: cause 2 where the stream is
INTERRUPTED, with the earlier START, else the range of a closed stream (notes/assumptions/24.md). -/
def heldGap (r : Retain) : Option (List Word64) :=
  match r.intr, r.range with
  | some (o, d), none => some (gapAllWords 2 o d 131072)
  | some (o, d), some g => some (gapAllWords 2 (min o g.start) d 131072)
  | none, some g => some (gapAllWords (if g.spill then 4 else 1) g.start g.stop g.count)
  | none, none => none

/-- R267: an OPEN request is met. -/
def State.openOk (s : State) (k q : Nat) : Bool :=
  let v := s.stream k q
  s.stState k q == 0 && v.reqO.isNone && s.pwr == 4 && decide (dSus (s.inForce k) q > 0) && (s.keel k).force.isSome
    && (match v.closedAt with | some c => decide (s.time.tick ≥ c + 2 ^ 20) | none => true)

/-- R267: a stream opens on its tick O. -/
def State.streamOpen (s : State) (q : Nat) : State :=
  match s.active? with
  | none => s
  | some k =>
    match (s.stream k q).reqO with
    | none => s
    | some o =>
      if s.time.run && s.pwr == 4 then
        let s1 := (s.adv o).put (Reg.ST_CTRL_STATE k q) 1
        let v := s1.stream k q
        let s2 := s1.setStream k q (meterFull (s1.inForce k) q o
          { v with reqO := none, openedAt := o, reqC := none, cutoff := false, first := true, bal := [], shaped := 0, shapedAt := o })
        let s3 := ({ s2 with sendMask := setBit s2.sendMask q }).markStream q o
        let r := s3.retained q
        let s4 := s3.markIn k q s3.lastEpoch
        let s5 := match heldGap r with
          | some ws => (s4.markIn k q ws).setRetained q { r with intr := none, range := none }
          | none => s4
        s5.markIn k q [extWord 1 0 (s5.get Reg.ARB_STAT_EPOCH * 2 ^ 32 + o % 2 ^ 32)]
      else s

def execStreamOpen (q : Fin 64) (s : State) : Host.Outcome State Fault Refusal := .next (s.streamOpen q.val)

/-- R267: a stream enters CLOSING on tick C; its regions are told by a mark event. -/
def State.streamClosing (s : State) (k q c : Nat) : State :=
  if s.stState k q == 1 then
    ((s.put (Reg.ST_CTRL_STATE k q) 2).setStream k q { s.stream k q with reqC := some c, reqO := none }).markStream (q + 128) c
  else s.setStream k q { s.stream k q with reqO := none }

/-- R267: tick C of a CLOSE request comes. -/
def State.streamClose (s : State) (q : Nat) : State :=
  match s.active? with
  | none => s
  | some k =>
    match (s.stream k q).reqC with
    | some c => if s.stState k q == 1 && s.time.run then (s.adv c).streamClosing k q c else s
    | none => s

def execStreamClose (q : Fin 64) (s : State) : Host.Outcome State Fault Refusal := .next (s.streamClose q.val)

/-- R267: every open stream of keel `k` enters CLOSING on tick `c`. -/
def State.closeAll (s : State) (k c : Nat) : State := (List.range 64).foldl (fun a q => a.streamClosing k q c) s

/-- R268: 64 ticks before a closing stream closes, the regions stop treating it as open. -/
def State.sendCutoff (s : State) (q : Nat) : State :=
  match s.active? with
  | none => s
  | some k =>
    match (s.stream k q).reqC with
    | some c =>
      if s.stState k q == 2 && s.time.run then
        let s1 := s.adv (c + 65536 - 64)
        ({ s1 with sendMask := clrBit s1.sendMask q }).setStream k q { s1.stream k q with cutoff := true }
      else s
    | none => s

def execStreamSendCutoff (q : Fin 64) (s : State) : Host.Outcome State Fault Refusal := .next (s.sendCutoff q.val)

/-- R317, R408: the discards of a stream that closes are kept for its next opening. -/
def joinDiscard (a b : Option Discard) : Option Discard :=
  match a, b with
  | some x, some y => some ⟨min x.start y.start, max x.stop y.stop, x.count + y.count, x.spill || y.spill⟩
  | some x, none => some x
  | none, y => y

/-- A list with its last entry changed. -/
def onLast {α : Type} (f : α → α) : List α → List α
  | [] => []
  | [x] => [f x]
  | x :: r => x :: onLast f r

/-- R267, R274: the block that holds a stream's close extension closes with CLOSE = 1; where that word filled it, it has just
closed. -/
def State.lastBlock (s : State) (k q : Nat) : State :=
  let v := s.stream k q
  if v.block.isSome then s.blockClose k q true
  else s.setStream k q { v with wait := onLast (fun b => { b with last := true }) v.wait }

/-- R286, R317: the gap mark of a stream's discards enters it. -/
def State.discardOut (s : State) (k q : Nat) : State :=
  match (s.stream k q).disc with
  | some g => (s.setStream k q { s.stream k q with disc := none }).markIn k q
      (gapAllWords (if g.spill then 4 else 1) g.start g.stop (min g.count (2 ^ 24 - 1)))
  | none => s

/-- R251, R265, R267: a closing stream closes at C + 2¹⁶: pending ballast marks, the gap mark of a discard interval that
ends there, the close extension, the last block. -/
def State.streamClosed (s : State) (q : Nat) : State :=
  match s.active? with
  | none => s
  | some k =>
    match (s.stream k q).reqC with
    | some c =>
      if s.stState k q == 2 && s.time.run then
        let t := c + 65536
        let s0 := (s.adv t).ballastOut k q (alignUp 16384 t)
        let s1 := if t % 32768 = 0 then s0.discardOut k q else s0
        let s2 := (s1.markIn k q [extWord 2 0 (c % 2 ^ 32)]).lastBlock k q
        let v := s2.stream k q
        let r := s2.retained q
        let s3 := (s2.setStream k q { v with reqC := none, closedAt := some t, cutoff := false, disc := none }).put
          (Reg.ST_CTRL_STATE k q) 0
        ({ s3 with sendMask := clrBit s3.sendMask q }).setRetained q { r with range := joinDiscard r.range v.disc }
      else s
    | none => s

def execStreamClosed (q : Fin 64) (s : State) : Host.Outcome State Fault Refusal := .next (s.streamClosed q.val)

/-! ### Flushes (R271, R272) -/

/-- R272: tick F of a flush comes: the open block closes; a write of 1 in that cycle asks for the next flush (R12). -/
def State.flushTick (s : State) (q : Nat) : State :=
  match s.active? with
  | none => s
  | some k =>
    match (s.stream k q).flushAt with
    | some f =>
      if s.time.run then
        let s0 := s.adv f
        let again := s0.metWrote (Reg.ST_CTRL_FLUSH k q) != 0
        let s1 := s0.put (Reg.ST_CTRL_FLUSH k q) (b2n again)
        (s1.setStream k q { s1.stream k q with flushAt := if again then some (f + 4) else none }).blockClose k q false
      else s
    | none => s

def execFlushTick (q : Fin 64) (s : State) : Host.Outcome State Fault Refusal := .next (s.flushTick q.val)

/-- R293: the flush timer exponent, 0 for off, else 10 to 26. -/
def State.fltOf (s : State) (k q : Nat) : Nat :=
  let f := s.get (Reg.ST_CFG_FLT k q)
  if f = 0 then 0 else min 26 (max 10 f)

/-- R271: 2^FLT ticks after a block opened, it closes. -/
def State.flushTimer (s : State) (q : Nat) : State :=
  match s.active? with
  | none => s
  | some k =>
    match (s.stream k q).block with
    | some b =>
      if s.fltOf k q ≠ 0 ∧ s.time.run then (s.adv (b.openAt + 2 ^ s.fltOf k q)).blockClose k q false else s
    | none => s

def execFlushTimer (q : Fin 64) (s : State) : Host.Outcome State Fault Refusal := .next (s.flushTimer q.val)

/-- R286, R317: a discard interval ends: one gap mark covers the discards of each stream. -/
def State.discardEnd (s : State) : State :=
  if s.time.run then
    let t := s.dueMult 32768 s.discardDone
    let s1 := { s.adv t with discardDone := t }
    match s1.active? with
    | some k => (s1.liveStreams k).foldl (fun a q => a.discardOut k q) s1
    | none => s1
  else s

def execDiscardIntervalEnd (s : State) : Host.Outcome State Fault Refusal := .next s.discardEnd

/-! ### SRC_PERMIT (R288 to R290) -/

/-- R288: the conditions of pin `p` but for the minimum low time. -/
def State.permitOk (s : State) (k p : Nat) : Bool :=
  let gm := s.get (Reg.SP_CTRL_GMASK k p)
  s.on (Reg.SP_CTRL_EN k p) && !s.on (Reg.SP_CTRL_FORCE k p)
    && (s.pwr == 4 || (!s.on (Reg.SP_CTRL_ACQ k p) && s.pwr == 3)) && s.active? == some k
    && (List.range 16).all (fun g => !(gm.testBit g && s.on (Reg.OQ_STAT_HOLD k g)))

/-- R290: a change of a pin enters the streams that SP_STREAMS selects. -/
def State.permitMark (s : State) (k p : Nat) (level : Bool) : State :=
  s.markAll k (fun q => (s.get (Reg.SP_STREAMS_MASK k p)).testBit q)
    [extWord 3 0 (p * 2 ^ 47 + b2n level * 2 ^ 46 + s.time.tick % 2 ^ 32)]

/-- R288, R289: a pin that is high and no longer permitted falls. -/
def State.pinFall (s : State) (k p : Nat) : State :=
  if (s.pin p).high && !s.permitOk k p then
    (s.setPin p ⟨false, s.time.tick⟩).permitMark k p false
  else s

/-- R289: every pin falls that must; without a grant both are low. -/
def State.pinsFall (s : State) : State :=
  match s.active? with
  | some k => (s.pinFall k 0).pinFall k 1
  | none => s.pinsLow

/-- R288: a pin rises once it is permitted and has been low for MINLOW. -/
def State.pinRise (s : State) (p : Nat) : State :=
  match s.active? with
  | none => s
  | some k =>
    let v := s.pin p
    if !v.high && s.permitOk k p && s.time.run then
      let s1 := s.adv (v.fellAt + max 1 (s.get (Reg.SP_CTRL_MINLOW k p)) * 32768)
      (s1.setPin p ⟨true, v.fellAt⟩).permitMark k p true
    else s

def execSrcPermitRise (p : Fin 2) (s : State) : Host.Outcome State Fault Refusal := .next (s.pinRise p.val)

/-- R287: HWM and LWM of a group in bytes. -/
def State.hwm (s : State) (k g : Nat) : Nat := min 64 (max 1 (s.get (Reg.OQ_WM_HWM k g))) * 256
def State.lwm (s : State) (k g : Nat) : Nat :=
  min (s.get (Reg.OQ_WM_LWM k g)) (min 64 (max 1 (s.get (Reg.OQ_WM_HWM k g))) - 1) * 256

/-- R287: a queue level set, with HOLD and the pins it lowers. -/
def State.queueLevel (s : State) (k g level : Nat) : State :=
  let s1 := s.put (Reg.OQ_STAT_LEVEL k g) level
  if level ≥ s1.hwm k g then (s1.put (Reg.OQ_STAT_HOLD k g) 1).pinsFall
  else if level ≤ s1.lwm k g then s1.put (Reg.OQ_STAT_HOLD k g) 0
  else s1

end Sys2Proof.Machine
end

