-- ==== Sys2Proof/Machine/Packing.lean ====
section
/-! DEFINITION. The packed block format (R274 to R285): the packer and the unpacker. -/
namespace Sys2Proof.Machine

/-! ### Bit strings (R278) -/

/-- The `n` low bits of a number, least significant first. -/
def lowBits : Nat → Nat → List Bool
  | 0, _ => []
  | n + 1, v => v.testBit 0 :: lowBits n (v / 2)

/-- The number whose bits, least significant first, are given. -/
def ofBits : List Bool → Nat
  | [] => 0
  | b :: r => b2n b + 2 * ofBits r

/-- R278: the bytes of a bit string of at most `8 n` bits; a last byte is filled with 0. -/
def bytesOfBits : Nat → List Bool → List Byte
  | 0, _ => []
  | n + 1, bs => BitVec.ofNat 8 (ofBits (bs.take 8)) :: bytesOfBits n (bs.drop 8)

/-! ### Fields (R283) -/

/-- R283: a field of a record: its lowest bit, its width, and whether it is coded raw. -/
structure PackField where
  lo  : Nat
  wid : Nat
  raw : Bool
  deriving DecidableEq, Repr

/-- R283: the fields of a record type, in coding order. -/
def packFields (ty : Nat) : List PackField :=
  match ty with
  | 1 => [⟨43, 17, false⟩, ⟨19, 24, false⟩, ⟨9, 10, true⟩, ⟨0, 9, false⟩]
  | 7 => [⟨0, 12, false⟩, ⟨12, 12, false⟩, ⟨24, 12, false⟩, ⟨36, 12, false⟩, ⟨48, 12, false⟩]
  | _ => [⟨45, 15, false⟩, ⟨30, 15, false⟩, ⟨15, 15, false⟩, ⟨0, 15, false⟩]

/-- R279: what the packer remembers: the previous type and the previous record of each type. -/
structure PackMem where
  prevType : Nat
  prev     : SMap Nat
  deriving DecidableEq, Repr
def PackMem.start : PackMem := ⟨1, []⟩

/-! ### The packer (R280 to R284) -/

/-- R281: a payload of `n` bits reaches a difference. -/
def deltaFits (n : Nat) (x : Int) : Bool := decide (-(2 ^ (n - 1) : Int) ≤ x) && decide (x < (2 ^ (n - 1) : Int))

/-- R281, R282: the shortest delta code of a value, the first listed among equals; the difference does not wrap, as the
worked example of R284 has it (notes/assumptions/25.md). -/
def deltaCode (w prev v : Nat) : List Bool :=
  let x : Int := (v : Int) - (prev : Int)
  if x = 0 then [false]
  else if deltaFits 4 x ∧ 6 ≤ 4 + w then [true, false] ++ lowBits 4 (unsigned 4 x)
  else if deltaFits 8 x ∧ 11 ≤ 4 + w then [true, true, false] ++ lowBits 8 (unsigned 8 x)
  else if deltaFits 16 x ∧ 20 ≤ 4 + w then [true, true, true, false] ++ lowBits 16 (unsigned 16 x)
  else [true, true, true, true] ++ lowBits w v

/-- R281: one field. -/
def fieldCode (f : PackField) (prev w : Nat) : List Bool :=
  if f.raw then lowBits f.wid (bits w f.lo f.wid) else deltaCode f.wid (bits prev f.lo f.wid) (bits w f.lo f.wid)

/-- R280: the type code. -/
def typeCode (prevType ty : Nat) : List Bool := if prevType = ty then [false] else true :: lowBits 4 ty

/-- R284: words of a block coded in order; `cont` continuation words still belong to the last record. -/
def packWords (m : PackMem) (cont : Nat) : List Word64 → List Bool
  | [] => []
  | w :: r =>
    if cont > 0 then lowBits 64 w.toNat ++ packWords m (cont - 1) r
    else
      let ty := wordType w
      let prev := SMap.get m.prev ty 0
      typeCode m.prevType ty ++ (packFields ty).flatMap (fun f => fieldCode f prev w.toNat)
        ++ packWords ⟨ty, SMap.ins m.prev ty w.toNat⟩ (contWords w) r

/-! ### Blocks as sent (R274 to R276) -/

/-- A length rounded up to a multiple of 8. -/
def pad8 (n : Nat) : Nat := alignUp 8 n

/-- R274: the header's bytes. -/
def headerBytes (b : Block) (raw poison spill : Bool) (plen : Nat) : List Byte :=
  leBytes 4 (b.stream % 64 * 2 ^ 26 + b2n raw * 2 ^ 25 + b2n poison * 2 ^ 24 + b2n b.flush * 2 ^ 23 + b2n spill * 2 ^ 22
      + b2n b.first * 2 ^ 21 + b2n b.last * 2 ^ 20 + b.words.length * 2 ^ 10)
    ++ leBytes 4 (b.epoch % 65536 * 65536 + plen) ++ leBytes 4 b.bseq

/-- R275: the packed bit string, if it is short enough to be sent. -/
def packedBits (b : Block) : Option (List Bool) :=
  let s := packWords PackMem.start 0 b.words
  if pad8 ((s.length + 7) / 8) + 8 ≤ 8 * b.words.length then some s else none

/-- R276: the CRC of a block. -/
def blockCrc (b : Block) (raw : Bool) (plen : Nat) : Nat :=
  crc32c (b.words.flatMap (fun w => leBytes 8 w.toNat) ++ headerBytes b raw false false plen)

/-- R275: a block as it is sent. -/
def blockBytes (b : Block) (spill : Bool) : List Byte :=
  match packedBits b with
  | some s =>
    let plen := (s.length + 7) / 8
    headerBytes b false b.poison spill plen ++ bytesOfBits (pad8 plen) s ++ leBytes 4 (blockCrc b false plen)
  | none =>
    let plen := 8 * b.words.length
    headerBytes b true b.poison spill plen ++ b.words.flatMap (fun w => leBytes 8 w.toNat) ++ leBytes 4 (blockCrc b true plen)

/-- R275: the block is sent raw, and its length in bytes. -/
def blockRaw (b : Block) : Bool := (packedBits b).isNone
def blockLen (b : Block) : Nat :=
  match packedBits b with
  | some s => 16 + pad8 ((s.length + 7) / 8)
  | none => 16 + 8 * b.words.length

/-! ### The unpacker (R284, R285) -/

/-- The bits of bytes, in order. -/
def bitsOfBytes (bs : List Byte) : List Bool := bs.flatMap (fun b => lowBits 8 b.toNat)

/-- `n` bits read from a bit string. -/
def takeBits (n : Nat) (s : List Bool) : Option (Nat × List Bool) :=
  if s.length < n then none else some (ofBits (s.take n), s.drop n)

/-- R281: a delta field read. -/
def readDelta (w prev : Nat) (s : List Bool) : Option (Nat × List Bool) :=
  let rel := fun (n : Nat) (t : List Bool) =>
    (takeBits n t).map (fun x => (unsigned w ((prev : Int) + signed n x.1), x.2))
  match s with
  | false :: t => some (prev, t)
  | true :: false :: t => rel 4 t
  | true :: true :: false :: t => rel 8 t
  | true :: true :: true :: false :: t => rel 16 t
  | true :: true :: true :: true :: t => takeBits w t
  | _ => none

/-- R284: the fields of a record read: the word so far and the rest. -/
def readFields (prev : Nat) : List PackField → Nat → List Bool → Option (Nat × List Bool)
  | [], w, s => some (w, s)
  | f :: fs, w, s =>
    match (if f.raw then takeBits f.wid s else readDelta f.wid (bits prev f.lo f.wid) s) with
    | some (v, t) => readFields prev fs (w + v * 2 ^ f.lo) t
    | none => none

/-- R284: words read until `n` are there; the rest of the bit string is returned. -/
def unpackWords (m : PackMem) (cont : Nat) : Nat → List Bool → Option (List Word64 × List Bool)
  | 0, s => if cont = 0 then some ([], s) else none
  | n + 1, s =>
    if cont > 0 then
      match takeBits 64 s with
      | some (v, t) => (unpackWords m (cont - 1) n t).map (fun r => (BitVec.ofNat 64 v :: r.1, r.2))
      | none => none
    else
      let tr := match s with
        | false :: t => some (m.prevType, t)
        | true :: t => takeBits 4 t
        | [] => none
      match tr with
      | none => none
      | some (ty, t) =>
        match readFields (SMap.get m.prev ty 0) (packFields ty) (ty * 2 ^ 60) t with
        | none => none
        | some (w, u) =>
          (unpackWords ⟨ty, SMap.ins m.prev ty w⟩ (contWords (BitVec.ofNat 64 w)) n u).map
            (fun r => (BitVec.ofNat 64 w :: r.1, r.2))

/-- R284, R285: the words of a packed body of PLEN bytes, with its padding bits 0. -/
def unpackBody (nw plen : Nat) (body : List Byte) : Option (List Word64) :=
  match unpackWords PackMem.start 0 nw (bitsOfBytes (body.take plen)) with
  | some (ws, rest) =>
    if rest.length < 8 && rest.all (· == false) && (body.drop plen).all (· == 0) then some ws else none
  | none => none

/-- R285: no continuation word lies beyond the last word; `cont` of them still belong to the last record. -/
def contsFit : Nat → List Word64 → Bool
  | cont, [] => cont == 0
  | cont, w :: r => if cont > 0 then contsFit (cont - 1) r else contsFit (contWords w) r

/-- R285: the words of a raw body. -/
def rawWords (nw : Nat) (body : List Byte) : Option (List Word64) := (some (wordsOfBytes nw body)).filter (contsFit 0)

/-- R285: an unpacker's result for the bytes of one block: its words, or none where the block is discarded whole. -/
def unpackBlock (bs : List Byte) : Option (List Word64) :=
  let hw0 := ofLeBytes (bs.take 4)
  let plen := bits (ofLeBytes ((bs.drop 4).take 4)) 0 13
  let nw := bits hw0 10 10
  let raw := hw0.testBit 25
  let body := (bs.drop 12).take (pad8 plen)
  let crc := ofLeBytes ((bs.drop (12 + pad8 plen)).take 4)
  if nw = 0 ∨ nw > 512 ∨ bs.length ≠ 16 + pad8 plen then none
  else if (raw && plen != 8 * nw) || (!raw && decide (pad8 plen + 8 > 8 * nw)) then none
  else
    match (if raw then rawWords nw body else unpackBody nw plen body) with
    | some ws =>
      let hdr := leBytes 4 (clrBit (clrBit hw0 24) 22) ++ (bs.drop 4).take 8
      if crc32c (ws.flatMap (fun w => leBytes 8 w.toNat) ++ hdr) = crc then some ws else none
    | none => none

end Sys2Proof.Machine
end

