-- ==== Sys2Proof/Machine/Spill.lean ====
section
/-! DEFINITION. The spill store and the memory controller (R295 to R317), and the routing of packed blocks (R286). -/
namespace Sys2Proof.Machine

/-! ### The memory controller (R295 to R298) -/

/-- R295, R318: channels present, their number, the data rate and the total capacity D in MiB. -/
def State.mcChannels (s : State) : List Nat := (List.range 4).filter (fun c => (s.get Reg.MC_CFG_CHMASK).testBit c)
def State.mcN (s : State) : Nat := s.mcChannels.length
def State.mcRate (s : State) : Nat :=
  match s.get Reg.MC_CFG_RATE with
  | 1 => 7500
  | 2 => 8533
  | _ => 6400
def State.mcCap (s : State) : Nat := s.mcN * (1024 * 2 ^ (s.get Reg.MC_CFG_CAPC + 1))

/-- READY = 1 and FAULT = 0. -/
def State.mcUp (s : State) : Bool := s.on Reg.MC_STAT_READY && !s.on Reg.MC_STAT_FAULT

/-- R297: BR_SPILL_W and BR_SPILL_CAP as the memory controller sets them. -/
def State.spillW (s : State) : Nat :=
  if s.mcUp then
    let wc := s.mcN * s.mcRate * 32 * 29 * 15 / (32 * 16)
    let lim := s.get Reg.MC_WLIM_WLIM
    if lim = 0 then wc else min wc lim
  else 0
def State.spillCap (s : State) : Nat := if s.mcUp then s.mcCap * 7 / 8 else 0

/-- R254: a spill figure of a keel falls below the one the commit in force used. -/
def State.spillShort (s : State) (k : Nat) : Bool :=
  (s.keel k).force.isSome
    && (decide (s.get (Reg.BR_SPILL_W_RATE k) < dget (s.inForce k) (Reg.BR_SPILL_W_RATE 0))
      || decide (s.get (Reg.BR_SPILL_CAP_CAP k) < dget (s.inForce k) (Reg.BR_SPILL_CAP_CAP 0)))

/-- R297: the spill figures of both keels take their values; a change in a commit's checks, or a fall below the commit in
force, counts (R241, R254). -/
def State.spillFigures (s : State) : State :=
  let w := s.spillW
  let c := s.spillCap
  let same := (List.range 2).all (fun k => s.get (Reg.BR_SPILL_W_RATE k) == w && s.get (Reg.BR_SPILL_CAP_CAP k) == c)
  if same then s
  else
    let s1 := ((((s.put (Reg.BR_SPILL_W_RATE 0) w).put (Reg.BR_SPILL_W_RATE 1) w).put (Reg.BR_SPILL_CAP_CAP 0) c).put
      (Reg.BR_SPILL_CAP_CAP 1) c).commitChanged
    match s1.spillKeel? with
    | some k => if s1.spillShort k then s1.bridleOver k 0 else s1
    | none => s1

/-- R296: the memory domains of CHMASK are on. -/
def State.memDomsOn (s : State) : Bool := s.mcChannels.all (fun c => s.dom (31 + c / 2)) && decide (0 < s.mcN)

/-- R296, step 1: initialisation starts. -/
def State.mcStart (s : State) : State :=
  if s.memDomsOn then { s with mc := ⟨1, s.time.tick, 0⟩ } else s

/-- R318: EN = 0 stops the controller, with RESET_n asserted. -/
def State.mcStop (s : State) : State :=
  (({ s with mc := ⟨0, 0, 0⟩ }.put Reg.MC_STAT_READY 0).put Reg.MC_STAT_CHUP 0).spillFigures

/-- A step of the sequence comes at `dt` ticks after the start, if the controller stands at step `at0`. -/
def State.mcStep (s : State) (at0 dt : Nat) : State :=
  if s.mc.step = at0 then
    let s1 := if s.time.run then s.adv (s.mc.start + dt) else s
    { s1 with mc := { s1.mc with step := at0 + 1 } }
  else s

def execMemoryResetRelease (s : State) : Host.Outcome State Fault Refusal := .next (s.mcStep 1 250000)
def execModeRegisterWrite (s : State) : Host.Outcome State Fault Refusal := .next (s.mcStep 2 2750000)

/-- R296, steps 4 and 5: training ends with these channels trained. -/
def State.trainingDone (s : State) (up : Nat) : State :=
  if s.mc.step = 3 then
    let m := s.get Reg.MC_CFG_CHMASK
    let s1 := { s with mc := { s.mc with step := 4 } }.put Reg.MC_STAT_CHUP (up &&& m)
    if up &&& m = m then (s1.put Reg.MC_STAT_READY 1).spillFigures
    else (s1.put Reg.MC_STAT_FAULT 1).spillFigures
  else s

def execTrainingComplete (up : BitVec 4) (s : State) : Host.Outcome State Fault Refusal := .next (s.trainingDone up.toNat)

/-- R298: the oscillators are read; a channel whose drift exceeds the threshold is retrained. -/
def State.oscRead (s : State) (drifted : Nat) : State :=
  if s.on Reg.MC_STAT_READY then
    let m := drifted &&& s.get Reg.MC_STAT_CHUP
    let n := ((List.range 4).filter (fun c => m.testBit c)).length
    { s with mc := { s.mc with busy := s.mc.busy ||| m } }.bump Reg.MC_STAT_RETRAIN n
  else s

def execOscillatorReadout (drifted : BitVec 4) (s : State) : Host.Outcome State Fault Refusal :=
  .next (s.oscRead drifted.toNat)

/-- R298: a channel's retraining ends. -/
def State.retrained (s : State) (c : Nat) : State := { s with mc := { s.mc with busy := clrBit s.mc.busy c } }

def execRetrainComplete (c : Fin 4) (s : State) : Host.Outcome State Fault Refusal := .next (s.retrained c.val)

/-! ### Tags and pages (R302, R308, R313, R405) -/

def State.spill (s : State) (k : Nat) : SpillSt := (s.keel k).spill
def State.setSpill (s : State) (k : Nat) (v : SpillSt) : State := s.setKeel k { s.keel k with spill := v }
def SpillStr.reset : SpillStr := ⟨[], [], (0, 0), 0, 0, [], [], 0, [], 0⟩
def State.spillStr (s : State) (k q : Nat) : SpillStr := SMap.get (s.spill k).strs q SpillStr.reset
def State.setSpillStr (s : State) (k q : Nat) (v : SpillStr) : State :=
  s.setSpill k { s.spill k with strs := SMap.set (s.spill k).strs q v SpillStr.reset }

/-- R313: MC_TAGS follows the tags held. -/
def State.tagsNow (s : State) (k : Nat) : State :=
  let n := (s.spill k).ops.length
  (s.put Reg.MC_TAGS_NOW n).putIf (decide (n > s.get Reg.MC_TAGS_PEAK)) Reg.MC_TAGS_PEAK n

/-- R302: the channel a brick lies in, and where it lies: its channel and its byte address in that channel (of at most 2³⁴
bytes). -/
def State.channelOf (s : State) (place : Nat) : Nat := s.mcChannels.getD (place % max 1 s.mcN) 0
def State.brickAddr (s : State) (place : Nat) : Nat := s.channelOf place * 2 ^ 34 + 128 * (place / max 1 s.mcN)

/-- R302: the pages of the brick space below the reserve: D × 8,192 bricks less those of its highest D ÷ 32 MiB, 32 to a page. -/
def State.spillPages (s : State) : Nat := s.mcCap * 248

/-- R302, R307: a page for a stream's chain: the first free one, or the first never used; none where the brick space is full. -/
def State.takePage (s : State) (k : Nat) : Option (Nat × State) :=
  match (s.spill k).free with
  | f :: rest => some (f, s.setSpill k { s.spill k with free := rest })
  | [] =>
    let f := (s.spill k).fresh
    if f < s.spillPages then some (f, s.setSpill k { s.spill k with fresh := f + 1 }) else none

/-- R302, R307: a place for the next brick of a stream: the tail page's next, or the first of another page. -/
def State.brickPlace (s : State) (k q : Nat) : Option (Nat × State) :=
  let v := s.spillStr k q
  match v.pages.getLast?, decide (v.used < 32) with
  | some p, true => some (p * 32 + v.used, s.setSpillStr k q { v with used := v.used + 1 })
  | _, _ => (s.takePage k).map (fun r => (r.1 * 32, r.2.setSpillStr k q { v with pages := v.pages ++ [r.1], used := 1 }))

/-- R308, R405: pages of a stream whose published bricks are all read, but for its tail page, go to quarantine. -/
def State.freePages (s : State) (k q : Nat) : State :=
  let v := s.spillStr k q
  let waits := fun (p : Nat) => v.slots.any (fun e => decide (v.readNext ≤ e.1) && e.2.1 / 32 == p)
    || (s.spill k).ops.any (fun o => o.stream == q && o.place / 32 == p)
    || (s.spill k).staged.any (fun b => b.stream == q && (match b.place with | some x => x / 32 == p | none => false))
  let gone := (v.pages.dropLast).filter (fun p => !waits p)
  let s1 := s.setSpillStr k q { v with pages := v.pages.filter (fun p => !gone.contains p) }
  s1.setSpill k { s1.spill k with quar := (s1.spill k).quar ++ gone.map (fun p => (p, s.time.tick)),
                                  valid := gone.foldl (fun m p => SMap.erase m p) (s1.spill k).valid }

/-- R405: 64 µs after it was freed, the oldest page in quarantine returns to the free list. -/
def State.quarEnd (s : State) : State :=
  match s.active? with
  | none => s
  | some k =>
    match (s.spill k).quar with
    | (p, t) :: rest =>
      let s1 := if s.time.run then s.adv (t + 80000) else s
      s1.setSpill k { s1.spill k with quar := rest, free := (s1.spill k).free ++ [p] }
    | [] => s

def execPageQuarantineEnd (s : State) : Host.Outcome State Fault Refusal := .next s.quarEnd

/-! ### What is held (R314, R315, R319) -/

/-- The blocks held in all streams of a keel's spill store and in its drained queues. -/
def State.spillHeld (s : State) (k : Nat) : Nat := sumOf ((s.spill k).strs.map (fun e => sumOf (e.2.held.map (·.len))))
def State.drainedBytes (s : State) (k : Nat) : Nat :=
  sumOf ((s.spill k).drained.map (fun e => sumOf (e.2.map (·.blk.len))))

/-- R319: SPL_STAT, SPL_HELD and SPL_BLK follow what is held. -/
def State.spillStats (s : State) (k : Nat) : State :=
  let n := s.spillHeld k + s.drainedBytes k
  let s1 := (s.put (Reg.SPL_STAT_EMPTY k) (b2n (n == 0))).put (Reg.SPL_HELD_BYTES k) n
  (List.range 16).foldl (fun a g => a.put (Reg.SPL_BLK_COUNT k g)
    ((SMap.get (a.spill k).order g []).length + (SMap.get (a.spill k).drained g []).length)) s1

/-- R315: the oldest block that a group of a spill store holds. -/
def State.oldestBlk (_ : State) (v : SpillSt) (g : Nat) : Option SpillBlk :=
  match SMap.get v.drained g [] with
  | d :: _ => some d.blk
  | [] =>
    match SMap.get v.order g [] with
    | q :: _ => (SMap.get v.strs q SpillStr.reset).held.find? (fun b => b.group == g)
    | [] => none

/-- R315: the age in µs of a block accepted on a tick, 0 where there is none. -/
def State.ageOf (s : State) : Option Nat → Nat
  | some t => min (2 ^ 32 - 1) ((s.time.tick - t) / 1250)
  | none => 0
def State.spillAge (s : State) (k g : Nat) : Nat := s.ageOf ((s.oldestBlk (s.spill k) g).map (·.heldAt))

/-! ### Accepting (R299 to R303) -/

/-- R300: the CRC-16 of a brick's halves. -/
def crc16 (bs : List Byte) : Nat := crcLeft 16 0x1021 0xFFFF bs

/-- R299: a brick: header, payload and the CRC of each half. -/
def brickBytes (header : Nat) (pay : List Byte) : List Byte :=
  let h := leBytes 8 header
  let a := h ++ pay.take 54
  let b := pay.drop 54
  a ++ leBytes 2 (crc16 a) ++ b ++ leBytes 2 (crc16 (h ++ b))

/-- R299: a brick header. -/
def brickHeader (stream bseq ofs brick : Nat) : Nat :=
  stream % 64 * 2 ^ 58 + bseq % 2 ^ 32 * 2 ^ 26 + ofs % 2 ^ 13 * 2 ^ 13 + brick % 2 ^ 13

/-- R301: bytes of a stream cut into bricks 116 at a time: `hdr` is the BSEQ and OFS of the first byte, `next` the
offset in block `bseq` of the byte after the first brick.  What is left over has its own BSEQ and OFS. -/
def cutBricks (stream bseq next : Nat) (hdr : Nat × Nat) (brick : Nat) : Nat → List Byte → List Staged × (List Byte × (Nat × Nat) × Nat)
  | 0, bs => ([], (bs, hdr, brick))
  | n + 1, bs =>
    if bs.length < 116 then ([], (bs, hdr, brick))
    else
      let h := brickHeader stream hdr.1 hdr.2 brick
      let r := cutBricks stream bseq (next + 116) (bseq, next) (brick + 1) n (bs.drop 116)
      (⟨stream, brick, h, brickBytes h (bs.take 116), 0, none, 0⟩ :: r.1, r.2)

/-- R303: the spill store accepts a block of this length. -/
def State.spillOk (s : State) (k len : Nat) : Bool :=
  s.mcUp && s.pwr == 4 && decide (s.spillHeld k + s.drainedBytes k + len ≤ s.get (Reg.BR_SPILL_CAP_CAP k) * 2 ^ 20)
    && decide (128 * (s.spill k).staged.length + len ≤ 262144)

/-- R301, R303: an accepted block joins its stream's byte sequence and its group's order log. -/
def State.spillTake (s : State) (k : Nat) (b : Block) : State :=
  let q := b.stream
  let v := s.spillStr k q
  let bytes := blockBytes b false
  let pos := v.tail.length
  let hdr := if pos = 0 then (b.bseq, 0) else v.tailHdr
  let r := cutBricks q b.bseq (116 - pos) hdr v.bricks 64 (v.tail ++ bytes)
  let s1 := s.setSpillStr k q { v with
    held := v.held ++ [⟨b.bseq, bytes.length, b.openAt, b.closeAt, s.time.tick, b.poison, b.group⟩],
    tail := r.2.1, tailHdr := r.2.2.1, bricks := r.2.2.2 }
  (s1.setSpill k { s1.spill k with
    staged := (s1.spill k).staged ++ r.1,
    order := SMap.ins (s1.spill k).order b.group (SMap.get (s1.spill k).order b.group [] ++ [q]) }).spillStats k

/-! ### Routing (R273, R286) -/

/-- A packed block receives its number. -/
def State.numbered (s : State) (k : Nat) (b : Block) : Block × State :=
  let n := s.get (Reg.ST_BSEQ_NEXT k b.stream)
  let s1 := (s.put (Reg.ST_BSEQ_NEXT k b.stream) (n + 1)).put (Reg.ST_BLK_COUNT k b.stream)
    (s.get (Reg.ST_BLK_COUNT k b.stream) + 1)
  ({ b with bseq := n }, if blockRaw b then s1.put (Reg.ST_RAW_COUNT k b.stream) (s.get (Reg.ST_RAW_COUNT k b.stream) + 1) else s1)

/-- R286, R317: blocks of a stream are discarded: the gap mark of the interval, or of the stream's next opening, covers them. -/
def State.discarded (s : State) (k q : Nat) (g : Discard) : State :=
  if s.stLive k q then s.setStream k q { s.stream k q with disc := joinDiscard (s.stream k q).disc (some g) }
  else s.setRetained q { s.retained q with range := joinDiscard (s.retained q).range (some g) }

/-- R286: a block that neither queue nor spill store takes is discarded and counted. -/
def State.blockDiscard (s : State) (k : Nat) (b : Block) : State :=
  (s.bump (Reg.ST_DISC_COUNT k b.stream) 1).discarded k b.stream ⟨b.openAt, b.closeAt + 1, 1, false⟩

/-- R294: blocks that still wait for the packers or in the output queues when the lanes are cut are discarded
(notes/assumptions/89.md). -/
def State.queuesDrop (s : State) (k : Nat) : State :=
  let kv := s.keel k
  let s1 := s.setKeel k { kv with queues := [], streams := kv.streams.map (fun e => (e.1, { e.2 with wait := [] })) }
  let s2 := (kv.streams.flatMap (fun e => e.2.wait) ++ kv.queues.flatMap (fun e => e.2)).foldl (fun a b => a.blockDiscard k b) s1
  (List.range 16).foldl (fun a g => a.queueLevel k g 0) s2

/-- R248, R286: the oldest closed block of a stream, once its words have left the shaping buffer, goes to its group's queue, to the
spill store, or is discarded. -/
def State.blockRoute (s : State) (q : Nat) : State :=
  match s.active? with
  | none => s
  | some k =>
    match (s.stream k q).wait with
    | [] => s
    | b0 :: rest =>
      let a := (if s.time.run then s.adv b0.relAt else s).blockRead b0
      let b := a.1
      let s0 := a.2.setStream k q { s.stream k q with wait := rest }
      let len := blockLen b
      let level := s0.get (Reg.OQ_STAT_LEVEL k b.group)
      if level + len ≤ 16384 then
        let r := s0.numbered k b
        let kv := r.2.keel k
        (r.2.setKeel k { kv with queues := SMap.ins kv.queues b.group (SMap.get kv.queues b.group [] ++ [r.1]) }).queueLevel
          k b.group (level + len)
      else if s0.spillOk k len then
        let r := s0.numbered k b
        r.2.spillTake k r.1
      else s0.blockDiscard k b

def execBlockRoute (q : Fin 64) (s : State) : Host.Outcome State Fault Refusal := .next (s.blockRoute q.val)

/-! ### Brick writes (R304 to R306) -/

/-- The first staged brick that is not being written. -/
def firstIdle : List Staged → Option Staged
  | [] => none
  | b :: r => if b.place.isNone then some b else firstIdle r

/-- A staged brick's place set, and a staged brick removed. -/
def setPlace (q n : Nat) (place : Option Nat) (bump : Nat) (l : List Staged) : List Staged :=
  l.map (fun b => if b.stream = q ∧ b.brick = n then { b with place := place, tries := b.tries + bump } else b)
def dropStaged (q n : Nat) (l : List Staged) : List Staged := l.filter (fun b => !(b.stream == q && b.brick == n))

/-- In the list of what stands on a slot a drained block of stream `q` is marked as 128 + `q`. -/
def drainedMark : Nat := 128

/-- R312: blocks of a stream with bytes in brick `n` are poisoned; `pos` is the byte position of the first. -/
def poisonHeld (n pos : Nat) : List SpillBlk → List SpillBlk
  | [] => []
  | b :: r =>
    (if pos < (n + 1) * 116 ∧ n * 116 < pos + b.len then { b with poison := true } else b) :: poisonHeld n (pos + b.len) r

/-- R501, R513: a brick is read from write staging: a single-bit error counts (class 3), an uncorrectable one poisons the blocks with
bytes in the brick. -/
def State.stagedRead (s : State) (k : Nat) (b : Staged) : State :=
  let s1 := s.eccCount 3 b.ecc
  let w := s1.spillStr k b.stream
  let s2 := if 2 ≤ b.ecc then s1.setSpillStr k b.stream { w with held := poisonHeld b.brick w.headPos w.held } else s1
  s2.setSpill k { s2.spill k with staged := (s2.spill k).staged.map (fun x =>
    if x.stream = b.stream ∧ x.brick = b.brick then { x with ecc := 0 } else x) }

/-- R304: the ticks that one brick takes of the average BR_SPILL_W: 928 payload bits. -/
def State.brickTime (s : State) (k : Nat) : Rat := 928 * 1250 / (s.get (Reg.BR_SPILL_W_RATE k) : Rat)

/-- R304, R313, R394: the oldest complete brick is issued, if a tag is free and its channel is not retraining, no sooner than the
pace of BR_SPILL_W allows (notes/assumptions/88.md). -/
def State.brickWrite (s : State) : State :=
  match s.active? with
  | none => s
  | some k =>
    match firstIdle (s.spill k).staged with
    | none => s
    | some b =>
      match s.brickPlace k b.stream with
      | none => s
      | some (place, s1) =>
        if s.mcUp && decide ((s.spill k).ops.length < 1024) && !s.mc.busy.testBit (s.channelOf place) then
          let s2 := (if s1.time.run then s1.adv (ratCeil (s1.spill k).paceAt) else s1).stagedRead k b
          let v := s2.spill k
          (s2.setSpill k { v with staged := setPlace b.stream b.brick (some place) 0 v.staged,
                                  ops := v.ops ++ [⟨false, b.stream, b.brick, place, s2.time.tick⟩],
                                  paceAt := max v.paceAt s2.time.tick + s2.brickTime k }).tagsNow k
        else s

def execBrickWrite (s : State) : Host.Outcome State Fault Refusal := .next s.brickWrite

/-- The oldest operation of a kind on a stream. -/
def State.spillOp? (s : State) (k q : Nat) (read : Bool) : Option SpillOp :=
  (s.spill k).ops.find? (fun o => o.read == read && o.stream == q)

/-- An operation gives its tag back. -/
def State.opDone (s : State) (k : Nat) (o : SpillOp) : State :=
  (s.setSpill k { s.spill k with ops := (s.spill k).ops.filter (· ≠ o) }).tagsNow k

/-- R304, R305, R318: `halves` halves of a brick are lost: it will be written again elsewhere; four losses in a row set FAULT. -/
def State.brickLost (s : State) (k halves : Nat) (o : SpillOp) : State :=
  let s1 := (s.opDone k o).bump Reg.MC_LOST_COUNT halves
  let tries := match (s1.spill k).staged.find? (fun b => b.stream == o.stream && b.brick == o.brick) with
    | some b => b.tries + 1
    | none => 0
  let s2 := s1.setSpill k { s1.spill k with staged := setPlace o.stream o.brick none 1 (s1.spill k).staged }
  if tries ≥ 4 then
    ((s2.put Reg.MC_STAT_FAULT 1).err { sev := 3, src := 7, code := 7, unit := 0, info := o.place }).spillFigures
  else s2

/-- R304: both halves accepted: the brick is stored and its valid bit published. -/
def State.brickStored (s : State) (k : Nat) (o : SpillOp) : State :=
  match (s.spill k).staged.find? (fun b => b.stream == o.stream && b.brick == o.brick) with
  | none => s.opDone k o
  | some b =>
    let s1 := { s.opDone k o with dram := SMap.ins s.dram (s.brickAddr o.place) b.bytes }
    let v := s1.spill k
    let page := o.place / 32
    let s2 := s1.setSpill k { v with staged := dropStaged o.stream o.brick v.staged,
                                     valid := SMap.ins v.valid page (setBit (SMap.get v.valid page 0) (o.place % 32)) }
    let w := s2.spillStr k o.stream
    s2.setSpillStr k o.stream { w with slots := SMap.ins w.slots o.brick (o.place, b.header) }

/-- R304, R305: the oldest brick write of a stream completes; `lost` has a bit for each half that was lost. -/
def State.brickWriteDone (s : State) (q lost : Nat) : State :=
  match s.active? with
  | none => s
  | some k =>
    match s.spillOp? k q false with
    | none => s
    | some o => if lost = 0 then s.brickStored k o else s.brickLost k (lost % 2 + lost / 2) o

def execBrickWriteComplete (q : Fin 64) (lost : BitVec 2) (s : State) : Host.Outcome State Fault Refusal :=
  .next (s.brickWriteDone q.val lost.toNat)

/-! ### Drain (R310 to R312) -/

/-- A drained block's header with SPILL set and, where it is poisoned, POISON. -/
def drainedHeader (poison : Bool) : List Byte → List Byte
  | a :: b :: c :: d :: r => a :: b :: (c ||| 0x40) :: (if poison then d ||| 0x01 else d) :: r
  | l => l

/-- R501, R513: a drained block is read from its staging: a single-bit error counts (class 3), an uncorrectable one sets POISON, and the
block counts among those drained poisoned. -/
def State.drainedRead (s : State) (d : DrainBlk) : DrainBlk × State :=
  if 2 ≤ d.ecc then
    ({ d with blk := { d.blk with poison := true }, bytes := drainedHeader true d.bytes, ecc := 0 },
     s.putIf (!d.blk.poison) Reg.EL_POIS_COUNT (satAdd 32 (s.get Reg.EL_POIS_COUNT) 1))
  else ({ d with ecc := 0 }, s.eccCount 3 d.ecc)

/-- The head block's bytes that are on chip: those in drain staging, and the tail's once every complete brick is read. -/
def State.headBytes (s : State) (k q : Nat) : List Byte :=
  let v := s.spillStr k q
  v.got ++ (if v.readNext = v.bricks then v.tail.drop (v.headPos + v.got.length - v.bricks * 116) else [])

/-- The head block of stream `q` belongs to group `g` and lies whole on chip. -/
def State.headWhole (s : State) (k g q : Nat) : Bool :=
  match (s.spillStr k q).held with
  | b :: _ => b.group == g && decide (b.len ≤ (s.headBytes k q).length)
  | [] => false

/-- R311: the head block of a stream leaves for its group's lanes and its entry leaves the order log. -/
def State.headDrain (s : State) (k g q : Nat) : State :=
  let v := s.spillStr k q
  match v.held with
  | [] => s
  | b :: rest =>
    let bytes := drainedHeader b.poison ((s.headBytes k q).take b.len)
    let s1 := s.setSpillStr k q { v with held := rest, got := v.got.drop b.len, headPos := v.headPos + b.len }
    let w := s1.spill k
    let s2 := s1.setSpill k { w with
      order := SMap.set w.order g ((SMap.get w.order g []).tail) [],
      drained := SMap.ins w.drained g (SMap.get w.drained g [] ++ [⟨q, b, bytes, decide (v.got.length < b.len), 0⟩]) }
    (s2.putIf b.poison Reg.EL_POIS_COUNT (satAdd 32 (s2.get Reg.EL_POIS_COUNT) 1)).spillStats k

/-- R311: the blocks that the oldest entries of a group's order log name leave while they lie whole on chip. -/
def State.headsDrain (s : State) (k g : Nat) : List Nat → State
  | [] => s
  | q :: rest => if s.headWhole k g q then (s.headDrain k g q).headsDrain k g rest else s

/-- The order log of a group. -/
def State.orderLog (s : State) (k g : Nat) : List Nat := SMap.get (s.spill k).order g []

/-- R305, R311: payload bytes of brick `n` join the head's bytes, but for those already sent; the directory keeps the bricks from
the head's on. -/
def State.brickIn (s : State) (k q n : Nat) (pay : List Byte) : State :=
  let v := s.spillStr k q
  s.setSpillStr k q { v with got := v.got ++ pay.drop (v.headPos + v.got.length - n * 116), readNext := n + 1,
                             slots := SMap.keep v.slots (fun m => decide (v.headPos / 116 ≤ m)) }

/-- The payload of a brick. -/
def brickPay (bs : List Byte) : List Byte := (bs.drop 8).take 54 ++ (bs.drop 64).take 62

/-- R310: reads may be issued for a group. -/
def State.drainOk (s : State) (k g : Nat) : Bool :=
  decide (s.get (Reg.OQ_STAT_LEVEL k g) ≤ s.lwm k g)
    && decide (sumOf (((SMap.get (s.spill k).order g []).dedup.map (fun q => (s.spillStr k q).got.length))
        ++ (SMap.get (s.spill k).drained g []).map (·.blk.len)) + 116 ≤ 8192)
    && decide (((s.spill k).ops.filter (·.read)).length < 256) && decide ((s.spill k).ops.length < 1024)
    && (s.on Reg.MC_STAT_FAULT || (firstIdle (s.spill k).staged).isNone)

/-- R305, R310, R311: the next brick of stream `q`, which group `g`'s oldest order-log entry names, is read; after a FAULT, an
unwritten brick drains from staging. -/
def State.brickRead (s : State) (k g q : Nat) : State :=
  let v := s.spillStr k q
  if (s.spillOp? k q true).isSome || v.held.head?.any (fun b => b.group != g) then s
  else
    match SMap.find? v.slots v.readNext with
    | some (place, _) =>
      if s.mc.busy.testBit (s.channelOf place) then s
      else (s.setSpill k { s.spill k with ops := (s.spill k).ops ++ [⟨true, q, v.readNext, place, s.time.tick⟩] }).tagsNow k
    | none =>
      match (s.spill k).staged.find? (fun b => b.stream == q && b.brick == v.readNext) with
      | some b =>
        if s.on Reg.MC_STAT_FAULT then
          let s1 := (s.stagedRead k b).brickIn k q b.brick (brickPay b.bytes)
          let s2 := s1.setSpill k { s1.spill k with staged := dropStaged q b.brick (s1.spill k).staged }
          s2.headsDrain k g (s2.orderLog k g)
        else s
      | none => s

/-- R310, R311: a group's drain goes on: blocks whose bytes are all on chip leave without a read; otherwise the next brick of the
stream named by the oldest order-log entry is read. -/
def State.drainRead (s : State) (g : Nat) : State :=
  match s.active? with
  | none => s
  | some k =>
    match s.orderLog k g with
    | [] => s
    | q :: rest =>
      if !s.drainOk k g || s.pwr < 3 || s.pwr > 4 then s
      else if s.headWhole k g q then s.headsDrain k g (q :: rest)
      else s.brickRead k g q

def execDrainRead (g : Fin 16) (s : State) : Host.Outcome State Fault Refusal := .next (s.drainRead g.val)

/-- R299, R300: the halves of a brick as read whose CRC-16 is right. -/
def halfGood (bs : List Byte) : Bool × Bool :=
  (crc16 (bs.take 62) == ofLeBytes ((bs.drop 62).take 2),
   crc16 (bs.take 8 ++ (bs.drop 64).take 62) == ofLeBytes ((bs.drop 126).take 2))

/-- R312, R318: the failed halves of a brick as read: those whose CRC-16 is wrong, and half 0 where the header is not the one that
the directory expects. -/
def brickFails (header : Nat) (bs : List Byte) : Nat :=
  let g := halfGood bs
  b2n (!g.1 || ofLeBytes (bs.take 8) != header) + b2n (!g.2)

/-- R311, R312: a brick read ends with these bytes, `fails` halves of it failed. -/
def State.brickReadEnd (s : State) (k : Nat) (o : SpillOp) (bs : List Byte) (fails : Nat) : State :=
  let v := s.spillStr k o.stream
  let s0 := s.opDone k o
  let s1 := if fails = 0 then s0
    else ((s0.setSpillStr k o.stream { v with held := poisonHeld o.brick v.headPos v.held }).bump Reg.MC_POIS_COUNT fails).err
        { sev := 2, src := 7, code := 6, unit := 0, info := o.place }
  let s2 := (s1.brickIn k o.stream o.brick (brickPay bs)).freePages k o.stream
  match v.held with
  | b :: _ => if (s2.orderLog k b.group).head? == some o.stream then s2.headsDrain k b.group (s2.orderLog k b.group) else s2
  | [] => s2

/-- The header that the directory expects of a brick. -/
def State.headerOf (s : State) (k : Nat) (o : SpillOp) : Nat :=
  match SMap.find? (s.spillStr k o.stream).slots o.brick with
  | some e => e.2
  | none => 0

/-- Bytes with the bits of an upset changed. -/
def upsetBytes (upset : Nat) : List Byte → List Byte
  | [] => []
  | b :: r => (b ^^^ BitVec.ofNat 8 upset) :: upsetBytes (upset / 256) r

/-- R311, R312: the oldest brick read of a stream completes; `upset` holds the bits read wrong. -/
def State.drainReadDone (s : State) (q upset : Nat) : State :=
  match s.active? with
  | none => s
  | some k =>
    match s.spillOp? k q true with
    | none => s
    | some o =>
      let bs := upsetBytes upset (SMap.get s.dram (s.brickAddr o.place) (List.replicate 128 0))
      s.brickReadEnd k o bs (brickFails (s.headerOf k o) bs)

def execDrainReadComplete (q : Fin 64) (upset : BitVec 1024) (s : State) : Host.Outcome State Fault Refusal :=
  .next (s.drainReadDone q.val upset.toNat)

/-- R306: the oldest operation of a kind on a stream has not completed within 20 µs. -/
def State.opTimeout (s : State) (q : Nat) (read : Bool) : State :=
  match s.active? with
  | none => s
  | some k =>
    match s.spillOp? k q read with
    | none => s
    | some o =>
      let s1 := (if s.time.run then s.adv (o.at0 + 25000) else s).bump Reg.MC_TMO_COUNT 1
      if read then s1.spend.brickReadEnd k o (leBytes 128 (s1.fresh 1024)) 1 else s1.brickLost k 1 o

def execOperationTimeout (q : Fin 64) (read : Bool) (s : State) : Host.Outcome State Fault Refusal :=
  .next (s.opTimeout q.val read)

/-! ### Discards (R316, R317) -/

/-- The blocks of stream `q` that a spill store holds: in drain staging first, then in its directory. -/
def SpillSt.blocksOf (v : SpillSt) (q : Nat) : List SpillBlk :=
  v.drained.flatMap (fun e => (e.2.filter (fun d => d.stream == q)).map (·.blk)) ++ (SMap.get v.strs q SpillStr.reset).held

/-- R316: the entries of a discard: for each stream the first and the last BSEQ lost (notes/assumptions/58.md). -/
def State.spillLog (s : State) (k : Nat) : State :=
  (List.range 64).foldl (fun (a : State) q =>
    match (s.spill k).blocksOf q with
    | [] => a
    | h :: r => [minOf h.bseq (r.map (·.bseq)), maxOf h.bseq (r.map (·.bseq))].dedup.foldl (fun (b : State) n =>
        b.err { sev := 3, src := 7, code := 9, unit := q, info := n }) a) s

/-- R316, R317: every block that the spill store of keel `k` holds is discarded, with its gap marks and entries. -/
def State.spillDiscard (s : State) (k : Nat) : State :=
  let v := s.spill k
  let s1 := (List.range 64).foldl (fun (a : State) q =>
    match v.blocksOf q with
    | [] => a
    | h :: r =>
      let g : Discard := ⟨minOf h.openAt (r.map (·.openAt)), maxOf h.closeAt (r.map (·.closeAt)) + 1, r.length + 1, true⟩
      (a.discarded k q g).bump (Reg.SPL_DROP_COUNT k) (r.length + 1)) (s.spillLog k)
  ((s1.setKeel k { s1.keel k with spill := SpillSt.reset }).spillStats k).tagsNow k

/-- R316: the blocks that the spill store holds are discarded. -/
def State.spillGone (s : State) : State :=
  match s.spillKeel? with
  | some k => s.spillDiscard k
  | none => s

end Sys2Proof.Machine
end

