-- ==== Sys2Proof/Machine/Commit.lean ====
section
/-! DEFINITION. A commit of the bridle completes its checks and comes into force (R245, R246, R314). -/
namespace Sys2Proof.Machine

/-- R245, step 2: the checks of the commit that the active keel runs complete. -/
def State.checksDone (s : State) : State :=
  match s.active? with
  | some k => s.commitChecked k
  | none => s

def execCommitChecksDone (s : State) : Host.Outcome State Fault Refusal := .next s.checksDone

/-- R246: the meters of a stream under new values: each bucket keeps its level, clipped to its new depth. -/
def meterClip (old new : SMap Nat) (q tick : Nat) (v : StreamSt) : StreamSt :=
  let w := meterTo old q tick v
  { w with sus := min (depthS new q) w.sus, peak := min (depthP new q) w.peak }

/-- R314: B_g: the largest BDUR of the streams of a group that burst. -/
def burstB (d : SMap Nat) (g : Nat) : Nat :=
  maxOf 0 (((groupStreams d g).filter (fun q => decide (dBur d q > dSus d q))).map (dBdur d))

/-- R314: RW_g in µs, rounded up. -/
def State.reorderWindow (s : State) (d : SMap Nat) (g : Nat) : Nat :=
  let v := s.burstV d g
  min (2 ^ 32 - 1) (ratCeil (2000 + burstB d g + (if v > 0 then v / s.spare d g else 0)))

/-- R314: the reorder windows of the groups with capacity. -/
def State.writeWindows (s : State) (k : Nat) (d : SMap Nat) : State :=
  (List.range 16).foldl (fun a g =>
    if a.capacity d g > 0 then a.put (Reg.SPL_RWIN_US k g) (a.reorderWindow d g) else a) s

/-- R245: STREAM_MASK of every region. -/
def State.writeMasks (s : State) (d : SMap Nat) : State :=
  (List.range 1024).foldl (fun a n => a.put (Reg.STREAM_MASK_MASK n) (dget d (Reg.BR_MASK_MASK 0 n))) s

/-- R245, step 3: on tick T the snapshot comes into force: open streams it leaves without a budget enter CLOSING (R267;
the marks go out under the old masks, notes/assumptions/26.md), the meters are clipped, the shaping buffer goes on at the new
rates (R248), masks and windows written; spill figures
that fell after the checks set OVER again (R254). -/
def State.commitForce (s : State) (k t : Nat) : State :=
  let s0 := s.adv t
  let old := s0.inForce k
  let d := (s0.keel k).snap
  let s1 := ((List.range 64).filter (fun q => dSus d q == 0)).foldl (fun a q => a.streamClosing k q t) s0
  let s2a := (s1.liveStreams k).foldl (fun a q => a.setStream k q (meterClip old d q t (a.stream k q))) s1
  let s2 := ((s2a.keel k).streams.map (·.1)).foldl (fun a q => a.setStream k q (reshape old d q t (a.stream k q))) s2a
  let s3 := { (s2.setKeel k { s2.keel k with force := some d, snap := [], commitT := none, changed := false }).writeMasks d with
    laneCfg := SMap.keep d laneKey }
  let s4 := (s3.writeWindows k d).put (Reg.BR_COMMIT_TICK_T k) t
  let s5 := ((s4.put (Reg.BR_STAT_SEQ k) (s4.get (Reg.BR_STAT_SEQ k) + 1)).put (Reg.BR_STAT_OVER k) 0).put
    (Reg.BR_STAT_DRIFT k) 0
  let s6 := s5.commitEnd k 0 0
  if s6.spillShort k then s6.bridleOver k 0 else s6

/-- R245: the T of an accepted commit of the active keel comes. -/
def State.commitInForce (s : State) : State :=
  match s.active? with
  | some k =>
    match (s.keel k).commitT with
    | some t => if s.time.run then s.commitForce k t else s
    | none => s
  | none => s

def execCommitInForce (s : State) : Host.Outcome State Fault Refusal := .next s.commitInForce

end Sys2Proof.Machine
end

