-- ==== Sys2Proof/Machine/Engines.lean ====
section
/-! DEFINITION. Region engines apart from their instructions (R119 to R152, R511, R512): core states, timers, marks,
watchdog and escalation, mailbox, BIST, adoption, trunk slots. -/
namespace Sys2Proof.Machine

/-! ### Events (R174) -/

/-- Every served region's hit queue is empty. -/
def State.hqEmpty (s : State) (c : Nat) : Bool := (s.served c).all (fun n => (s.region n).hq.isEmpty)

/-- R174: EPEND. -/
def State.epend (s : State) (c : Nat) : Nat :=
  let k := s.core c
  putBit (putBit (putBit k.latched 0 (!s.hqEmpty c)) 4 (!k.evq.isEmpty)) 5 (!k.mbox.isEmpty)

/-- R174: the mask of a WAIT; 0 acts as 0xFF. -/
def waitMask (m : Nat) : Nat := if m = 0 then 0xFF else m

/-! ### Starting and stopping (R132, R137) -/

/-- R132: a core enters HALTED at an instruction boundary. -/
def State.coreHalt (s : State) (c : Nat) : State :=
  (s.put (Reg.CORE_STAT_STATE c) cHALTED).put (Reg.CORE_CTRL_HALT c) 0

/-- R132: GO of a core. -/
def State.goWrite (s : State) (c : Nat) : State :=
  if s.coreState c == cHALTED && s.mayStart c then s.coreRun c else s

/-- R132: HALT of a core: it stops at the next instruction boundary, which is here between two commands. -/
def State.haltWrite (s : State) (c : Nat) : State := if s.coreAlive c then s.coreHalt c else s

/-- R137, R184: a core reset that ends the library's slots with the core's work. -/
def State.coreWipe (s : State) (c : Nat) : State := ((s.served c).foldl (fun a n => a.libStop n) s).coreReset c

/-- R137, R138: a core reset that abandons work: gaps, reset, and a start at ENTRY where the conditions hold. -/
def State.coreRestart (s : State) (c : Nat) : State :=
  let s1 := (s.gapAll c s.time.tick).coreWipe c
  if s1.mayStart c then s1.coreRun c else s1

/-! ### Close requests (R147, R173) -/

/-- R147: a close request reaches core `c` for its own region or its buddy's. -/
def State.closeRequest (s : State) (c : Nat) (forBuddy : Bool) : State :=
  let k := s.core c
  let k1 := if forBuddy then { k with closedBuddy := false } else { k with closedOwn := false }
  if k.closePend then s.setCore c { k1 with closeNext := k.closeNext ++ [forBuddy] }
  else (s.setCore c { k1 with closePend := true, closeBuddy := forBuddy, closeAck := false }).latchEv c 7

/-- R445, R460: a core is asked to close every region it serves. -/
def State.closeServed (s : State) (c : Nat) : State :=
  (s.served c).foldl (fun a n => a.closeRequest c (decide (n ≠ c))) s

/-- R445, R460: every region the core serves is closed. -/
def State.allClosed (s : State) (c : Nat) : Bool :=
  let k := s.core c
  (!s.servesOwn c || k.closedOwn) && (!s.servesBuddy c || k.closedBuddy)

/-- R147, R177: CLACK acknowledges the pending close request; the switch of a closing region is due on the next tick. -/
def State.clack (s : State) (c : Nat) : State :=
  let k := s.core c
  if !k.closePend then s
  else
    let n := if k.closeBuddy then buddy c else c
    let k1 := if k.closeBuddy then { k with closedBuddy := true } else { k with closedOwn := true }
    let s1 := match k.closeNext with
      | [] => s.setCore c { k1 with closePend := false, closeAck := true, latched := clrBit k.latched 7 }
      | b :: r => s.setCore c { k1 with closeBuddy := b, closeNext := r, closeAck := false }
    let st := s1.get (Reg.ADOPT_STAT_STATE n)
    if (st == 1 || st == 3) && s1.servedBy n == c && (s1.region n).switchDue.isNone then
      s1.setRegion n { s1.region n with switchDue := some (s1.time.tick + 1, false) }
    else s1

/-- R152: while the device leaves ARMED, a region whose slots run still has hit words to be reduced. -/
def State.libDrains (s : State) (n : Nat) : Bool :=
  s.descent.isSome && !(s.libRun n).isEmpty && !(s.region n).hq.isEmpty

/-- R189: the library executes CLACK once every slot of the region that the close request names has closed and its last record
is sent. -/
def State.libClack (s : State) (c : Nat) : State :=
  let n := if (s.core c).closeBuddy then buddy c else c
  if s.libAlive c && (s.core c).closePend && (s.libRun n).isEmpty && !(s.core c).emits.any (fun e => e.region == n) then s.clack c
  else s

/-- R189, R191, R542: the library closes the slots of the region that a close request names, and acknowledges. -/
def State.libClose (s : State) (c : Nat) : State :=
  let n := if (s.core c).closeBuddy then buddy c else c
  if s.libAlive c && (s.core c).closePend && !s.libDrains n then
    (((((s.libCloseAll n).libStop n).put (Reg.PB_STAT_RUN n) 0).kick c)).libClack c
  else s

def execLibraryClose (n : Fin 1024) (s : State) : Host.Outcome State Fault Refusal := .next (s.libClose n.val)

/-- R132, R152: once the device leaves ARMED, a core with empty hit queues and closed reductions enters HALTED. -/
def State.coreQuiesced (s : State) (c : Nat) : State :=
  if s.descent.isSome && s.coreAlive c && s.hqEmpty c && s.allClosed c then s.coreHalt c else s

def execCoreQuiesced (n : Fin 1024) (s : State) : Host.Outcome State Fault Refusal := .next (s.coreQuiesced n.val)

/-! ### Idling and timers (R33, R133) -/

/-- R33: the core waits: at LEVEL 1 a WAIT whose events are absent, at LEVEL 0 a library with nothing to do. -/
def State.coreWaits (s : State) (c : Nat) : Bool :=
  let k := s.core c
  if s.on (Reg.CORE_CTRL_LEVEL c) then
    match k.waiting with
    | some (_, m) => s.epend c &&& waitMask m == 0
    | none => false
  else k.evq.isEmpty && k.mbox.isEmpty && k.emits.isEmpty && !k.closePend

/-- R33, R132, R137: IDLE_CYC cycles without an event: the clock stops, and the watchdog restarts. -/
def State.coreIdle (s : State) (c : Nat) : State :=
  if s.coreState c == cRUNNING && !(s.core c).dbgHalt && s.hqEmpty c && s.coreWaits c then
    (s.put (Reg.CORE_STAT_STATE c) cIDLE).kick c
  else s

def execCoreIdle (n : Fin 1024) (s : State) : Host.Outcome State Fault Refusal := .next (s.coreIdle n.val)

/-- R133: a write of TMRt_CTRL; a write with EN = 1 starts the timer, and where it is enabled already starts its count again
(DESIGN CHOICE: notes/assumptions/85.md). -/
def State.tmrWrite (s : State) (c t v : Nat) : State :=
  let s1 := (s.put (Reg.TMR_CTRL_EN c t) (bits v 31 1)).put (Reg.TMR_CTRL_PERIODIC c t) (bits v 30 1)
  if v.testBit 31 then s1.setCore c { s1.core c with timers := SMap.ins (s1.core c).timers t s1.time.tick } else s1

/-- R133: timer `t` reaches TMR_PERIOD: its event, and a restart or the end. -/
def State.timerExpiry (s : State) (c t : Nat) : State :=
  let per := s.get (Reg.TMR_PERIOD_PERIOD c t)
  if s.on (Reg.TMR_CTRL_EN c t) && per != 0 && s.time.run then
    let due := SMap.get (s.core c).timers t 0 + per
    let s1 := (s.adv due).latchEv c (2 + t)
    if s1.on (Reg.TMR_CTRL_PERIODIC c t) then
      s1.setCore c { s1.core c with timers := SMap.ins (s1.core c).timers t due }
    else s1.hwPut (Reg.TMR_CTRL_EN c t) 0
  else s

def execCoreTimerExpiry (n : Fin 1024) (t : Fin 2) (s : State) : Host.Outcome State Fault Refusal :=
  .next (s.timerExpiry n.val t.val)

/-! ### Marks (R134 to R136) -/

/-- R134, R267: region `n` receives a mark: its subscription, and for channel 15 its STREAM_MASK when it was issued. -/
def State.hearsMark (s : State) (n : Nat) (m : MarkEv) : Bool :=
  s.fbit (Reg.MARK_SUB_CH n) m.ch
    && (m.ch != 15 || m.dests.contains n)

/-- R135: the word of a mark event. -/
def markWord (m : MarkEv) (ovr forBuddy : Bool) : Word64 :=
  mkWord [(60, 4, m.ch), (59, 1, b2n ovr), (58, 1, b2n forBuddy), (50, 8, m.detail), (10, 40, m.tick), (0, 10, m.fine)]

/-- R135, R136: a mark enters a core's event queue, or is lost where it holds 16. -/
def State.pushMark (s : State) (c : Nat) (forBuddy : Bool) (m : MarkEv) : State :=
  let k := s.core c
  if k.evq.length ≥ 16 then (s.hwSet (Reg.CORE_STAT_MOVR c) 1).setCore c { k with ovrNext := true }
  else ((s.setCore c { k with evq := k.evq ++ [markWord m k.ovrNext forBuddy], ovrNext := false }).put
    (Reg.MBOX_STAT_EVQ c) (k.evq.length + 1)).wake c

/-- R134, R227, R541: the next mark that region `n` subscribes to arrives at the core that serves it; it waits while the time base
is stopped. -/
def State.markEvent (s : State) (n : Nat) : State :=
  let r := s.region n
  let rest := s.marks.drop r.markSeen
  match rest.findIdx? (fun m => s.hearsMark n m) with
  | none => s.setRegion n { r with markSeen := s.marks.length }
  | some i =>
    match rest[i]? with
    | none => s
    | some m =>
      if !s.time.run then s else
      let s1 := (s.setRegion n { r with markSeen := r.markSeen + i + 1 }).adv (m.tick + 8)
      if s1.dom (domDig (stripeOf n)) then s1.pushMark (s1.servedBy n) (decide (s1.servedBy n ≠ n)) m else s1

def execMarkEvent (n : Fin 1024) (s : State) : Host.Outcome State Fault Refusal := .next (s.markEvent n.val)

/-! ### Escalation (R511, R512) -/

def EscSt.reset : EscSt := ⟨0, false, false, none⟩
def State.escOf (s : State) (b : Nat) : EscSt := SMap.get s.esc b EscSt.reset
def State.setEsc (s : State) (b : Nat) (v : EscSt) : State := { s with esc := SMap.set s.esc b v EscSt.reset }

/-- R508, R512: a step completes: the entries it kept open close. -/
def State.escEnd (s : State) (b : Nat) : State := (s.setEsc b { s.escOf b with busy := false, doneAt := s.clock? }).errClose b

/-- R508: the key of a failure's entry of RE core `c`: its recovery action is the next step, which waits where one is in progress. -/
def State.escKey (s : State) (c : Nat) : Nat := if (s.escOf c).busy then 4096 + c else c

/-- R512: the entry of steps 2 and 3. -/
def State.escEntry (s : State) (src unit sev info key : Nat) : State :=
  s.err { sev := sev, src := src, code := 0x0A, unit := unit, info := info, esc := true, openKey := some key }

/-- R460: a core is asked to quiesce: its close requests where it runs. -/
def State.askCore (s : State) (c why dom : Nat) : State :=
  let s1 := if s.coreAlive c then s.closeServed c else s
  { s1 with quiesce := s1.quiesce ++ [⟨c, why, dom, s.coreAlive c, s.clock?⟩] }

/-- R147, R148: the buddy of core `c` can adopt its region. -/
def State.buddyCan (s : State) (c : Nat) : Bool :=
  s.served c == [c] && s.get (Reg.ADOPT_STAT_STATE c) ≤ 1 && s.get (Reg.ADOPT_STAT_STATE (buddy c)) == 0
    && s.coreAlive (buddy c)

/-- R147, R148: step 3: the adoption by escalation, or the end of a pair; a region whose core has acknowledged its close only
waits for its switch. -/
def State.escAdopt (s : State) (c : Nat) : State :=
  if (s.region c).switchDue.isSome then (s.escEntry 4 c 3 3 c).escEnd c
  else if s.buddyCan c then
    let s1 := ((s.escEntry 4 c 3 3 c).gapHeld c s.time.tick).coreWipe c
    s1.setRegion c { s1.region c with switchDue := some (s1.time.tick + 1, true), closeBy := none }
  else
    let s1 := s.escEntry 4 c 3 0x103 c
    ((s1.gapAll c s1.time.tick).coreWipe c).escEnd c

/-- R511: the action of a step of an RE core. -/
def State.escCore (s : State) (c step : Nat) : State :=
  match step with
  | 1 => (s.coreRestart c).escEnd c
  | 2 => (s.escEntry 4 c 2 2 c).askCore c 1 0
  | _ => s.escAdopt c

/-- R511, R512: a failure of an RE core: the next step, or, while a step is in progress, once it completes. -/
def State.escFail (s : State) (c : Nat) : State :=
  let e := s.escOf c
  if e.busy then s.setEsc c { e with again := true }
  else
    let step := min 3 (e.step + 1)
    (s.setEsc c ⟨step, true, false, none⟩).escCore c step

/-- R508, R512: a step completes, and the next is taken, which the entries of failures that came meanwhile wait for. -/
def State.escNext (s : State) (c : Nat) : State :=
  let s1 := s.escEnd c
  { s1 with errOpen := s1.errOpen.map (fun k => if k = 4096 + c then c else k) }.escFail c

/-- R512: a step in progress completes; a failure that came meanwhile takes the next. -/
def State.escDone (s : State) (c : Nat) : State := if (s.escOf c).again then s.escNext c else s.escEnd c

/-- R137: the watchdog of a core that is RUNNING expires: the error, WDG, and the step of R511. -/
def State.coreWatchdog (s : State) (c : Nat) : State :=
  let k := s.core c
  if s.coreState c == cRUNNING && s.on (Reg.WDOG_EN c) && s.time.run && !k.dbgHalt then
    let s1 := (s.adv (k.wdStart + 1024 * max 1 (s.get (Reg.WDOG_PERIOD c)))).err
      { sev := 2, src := 4, code := 0x04, unit := c, info := k.pc, openKey := some (s.escKey c) }
    (s1.escFail c).hwSet (Reg.CORE_STAT_WDG c) 1
  else s

def execCoreWatchdog (n : Fin 1024) (s : State) : Host.Outcome State Fault Refusal := .next (s.coreWatchdog n.val)

/-- R137: a write of WDOG: while EN = 0 the watchdog stands at the count so far. -/
def State.wdogWrite (s : State) (c v : Nat) : State :=
  let k := s.core c
  let s1 := (s.put (Reg.WDOG_EN c) (bits v 31 1)).put (Reg.WDOG_PERIOD c) (bits v 0 24)
  if s1.wdRuns c == s.wdRuns c then s1 else s1.setCore c { k with wdStart := s.time.tick - k.wdStart }

/-- R141: a nested exception: the error, the step of R511, NEST. -/
def State.coreNested (s : State) (c : Nat) : State :=
  ((s.err { sev := 2, src := 4, code := 0x05, unit := c, info := (s.core c).pc, openKey := some (s.escKey c) }).escFail c).put
    (Reg.CORE_STAT_NEST c) 1

/-! ### Block reset of a core (R459, R460) -/

/-- R460: the core acknowledges a quiesce: HALTED, in BIST, serving no region, or every close request answered. -/
def State.coreAcks (s : State) (c : Nat) : Bool := !s.coreAlive c || (s.served c).isEmpty || s.allClosed c

/-- R138: a reset of the core would abandon records: in its output buffer, or in an emission. -/
def State.coreHolds (s : State) (c : Nat) : Bool := !(s.core c).outq.isEmpty || !(s.core c).emits.isEmpty

/-- R137, R138, R459: the reset of a core after its quiesce, with a gap where it abandons work; it restarts at ENTRY if it was
RUNNING or IDLE when it was asked. -/
def State.coreBlockReset (s : State) (c : Nat) (alive timedOut : Bool) : State :=
  let s1 := (if (alive && timedOut) || s.coreHolds c then s.gapAll c s.time.tick else s).coreWipe c
  if alive && s1.mayStart c then s1.coreRun c else s1

/-! ### Mailbox (R145) -/

/-- R145: a message posted to core `c`, or MBOX_FULL. -/
def State.mboxPost (s : State) (c : Nat) (forBuddy : Bool) (w : Word64) : State × Status :=
  let k := s.core c
  if k.mbox.length ≥ 8 then (s, .mboxFull)
  else (((s.setCore c { k with mbox := k.mbox ++ [(w, forBuddy)] }).put (Reg.MBOX_STAT_IN c) (k.mbox.length + 1)).wake c, .ok)

/-! ### BIST (R149) -/

/-- R149: BIST starts on a halted core that serves no region; DONE, PASS and FAIL are 0 until it ends (DEDUCED,
notes/assumptions/86.md). -/
def State.bistStart (s : State) (c : Nat) : State :=
  if s.coreState c == cHALTED && (s.served c).isEmpty then
    ((((s.put (Reg.CORE_STAT_STATE c) cBIST).put (Reg.BIST_START c) 1).put (Reg.BIST_DONE c) 0).put (Reg.BIST_PASS c) 0).put
      (Reg.BIST_FAIL c) 0
  else s

/-- R149: BIST ends: data memory zero, code memory undefined, VALID 0, HALTED; a write of 1 to START in that cycle starts it again
(R12). -/
def State.bistDone (s : State) (c fail : Nat) : State :=
  if s.coreState c == cBIST then
    let s1 := (s.put (Reg.CORE_STAT_STATE c) cHALTED).dropMem (reWindow c) (reWindow c + 0xC000)
    let s2 := s1.newCode [c]
    let s3 := ((((s2.hwPut (Reg.CORE_CTRL_VALID c) 0).put (Reg.BIST_START c) 0).put (Reg.BIST_DONE c) 1).put
      (Reg.BIST_PASS c) (b2n (fail == 0))).put (Reg.BIST_FAIL c) fail
    if s.metWrote (Reg.BIST_START c) = 0 then s3 else s3.bistStart c
  else s

def execBistDone (n : Fin 1024) (fail : Fin 7) (s : State) : Host.Outcome State Fault Refusal :=
  .next (s.bistDone n.val fail.val)

/-! ### Adoption (R146 to R148) -/

/-- R146: the conditions of ADOPT and of RETURN of region `n`; the bridle accepts every return (R253). -/
def State.adoptOk (s : State) (n : Nat) : Bool :=
  s.get (Reg.ADOPT_STAT_STATE n) == 0 && s.get (Reg.ADOPT_STAT_STATE (buddy n)) == 0 && s.coreAlive (buddy n)
    && s.bridleAdopts n
def State.returnOk (s : State) (n : Nat) : Bool :=
  s.get (Reg.ADOPT_STAT_STATE n) == 2 && s.coreState n == cHALTED && s.codeValid n

/-- R147: TMO in ticks (µs of 1,250 ticks; 0 acts as 1). -/
def State.adoptTmo (s : State) (n : Nat) : Nat := 1250 * max 1 (s.get (Reg.ADOPT_CTRL_TMO n))

/-- R147: an accepted ADOPT or RETURN: the state, the timeout, the close request to the core that serves the region. -/
def State.adoptBegin (s : State) (n : Nat) (isReturn : Bool) : State :=
  let s1 := (s.put (Reg.ADOPT_STAT_STATE n) (if isReturn then 3 else 1)).put
    (if isReturn then Reg.ADOPT_CTRL_RETURN n else Reg.ADOPT_CTRL_ADOPT n) 1
  let s2 := s1.setRegion n { s1.region n with closeBy := some (s1.time.tick + s1.adoptTmo n), switchDue := none }
  s2.closeRequest (if isReturn then buddy n else n) isReturn

/-- R146: a write of ADOPT_CTRL. -/
def State.adoptWrite (s : State) (n v : Nat) : State × Status :=
  let a := v.testBit 0
  let r := v.testBit 1
  if (a && !s.adoptOk n) || (r && !s.returnOk n) then (s, .prot)
  else
    let s1 := s.put (Reg.ADOPT_CTRL_TMO n) (bits v 16 16)
    (if a then s1.adoptBegin n false else if r then s1.adoptBegin n true else s1, .ok)

/-- R147: TMO elapses without an acknowledgement; the switch follows at the next tick, with a gap. -/
def State.adoptTimeout (s : State) (n : Nat) : State :=
  let r := s.region n
  match r.closeBy with
  | some t =>
    if r.switchDue.isSome then s
    else
      let s1 := s.adv (if s.time.run then t else 0)
      let s2 := if s1.get (Reg.ADOPT_STAT_STATE n) == 1 then (s1.gapHeld n s1.time.tick).coreReset n else s1
      s2.setRegion n { s2.region n with closeBy := none, switchDue := some (s2.time.tick + 1, true) }
  | none => s

def execAdoptTimeout (n : Fin 1024) (s : State) : Host.Outcome State Fault Refusal := .next (s.adoptTimeout n.val)

/-- R254: an adoption by escalation of a pair that fails check 3 or 4, in a fail-over by the keel that will take the grant. -/
def State.adoptOver (s : State) (n : Nat) : State :=
  match s.spillKeel? with
  | some k => if s.pairFits k n then s else s.bridleOver k n
  | none => s

/-- R147: region `n` leaves its serving core: its slots end there, with what they still send. -/
def State.libLeave (s : State) (n : Nat) : State :=
  let c := s.servedBy n
  (s.libStop n).setCore c { s.core c with emits := (s.core c).emits.filter (fun e => e.region != n) }

/-- R147: tick T: routes and serving core change, EPOCH advances, the adoption event is latched in the new serving core. -/
def State.adoptSwitch (s : State) (n : Nat) : State :=
  match (s.region n).switchDue with
  | none => s
  | some (t, g) =>
    if !s.time.run then s
    else
      let s0 := s.adv t
      let back := s0.get (Reg.ADOPT_STAT_STATE n) == 3
      let byEsc := !back && (s0.escOf n).busy && (s0.escOf n).step == 3
      let s1 := (s0.setRegion n { s0.region n with switchDue := none, closeBy := none }).libLeave n
      let s2 := (((s1.put (Reg.ADOPT_STAT_EPOCH n) (s1.get (Reg.ADOPT_STAT_EPOCH n) + 1)).put
        (Reg.ADOPT_STAT_STATE n) (if back then 0 else 2)).put (Reg.ADOPT_CTRL_ADOPT n) 0).put (Reg.ADOPT_CTRL_RETURN n) 0
      let s3 := if back then s2 else (s2.put (Reg.ADOPT_STAT_CAUSE n) (b2n byEsc)).coreHalt n
      let s4 := ((if g then s3.gap n t else s3).serve2 n).serve2 (buddy n)
      let s5 := if back then (if s4.coreState n == cHALTED && s4.mayStart n then s4.coreRun n else s4)
        else if s4.on (Reg.CORE_CTRL_LEVEL (buddy n)) || !s4.coreAlive (buddy n) then s4 else s4.libRead n
      let s6 := ((s5.mergeUpdate (buddy n)).latchEv (s5.servedBy n) 6).commitChanged
      if back then s6
      else if byEsc then (((s6.lifeEvent 5).notable).adoptOver n).escDone n
      else s6.lifeEvent 6

def execAdoptionSwitch (n : Fin 1024) (s : State) : Host.Outcome State Fault Refusal := .next (s.adoptSwitch n.val)

/-! ### The trunk (R24 to R27, R142, R144) -/

/-- R142, R513: an entry leaves on the trunk: a record or gap to the keel merge, poisoned where its word holds an uncorrectable error, a
message to the conductor (with its core and region flag). -/
def State.toTrunk (s : State) (c : Nat) (e : OutEntry) : State :=
  let s := s.eccCount 0 e.ecc
  match e.cls, e.words with
  | .message, w :: _ => { s with remsgs := s.remsgs ++ [(w, c + 1024 * b2n e.buddy)] }
  | .message, [] => s
  | _, _ => s.toMerge (c % 32) ⟨e.words, e.stream, e.poison || decide (2 ≤ e.ecc), e.cls, if e.buddy then buddy c else c, 0⟩

/-- R138, R264: the gap records that the next slot of core `c` takes, each in two of its four positions, those of its own
region first: how many of its own region and of its buddy's. -/
def State.gapsOwn (s : State) (c : Nat) : Nat := if s.servesOwn c then min 2 (s.region c).gapq.length else 0
def State.gapsBuddy (s : State) (c : Nat) : Nat :=
  if s.servesBuddy c then min (2 - s.gapsOwn c) (s.region (buddy c)).gapq.length else 0

/-- R25, R138, R142, R264: the slot of core `c` fills up to four positions, gap records ahead of all others. -/
def State.slotTake (s : State) (c : Nat) : List OutEntry × State :=
  let g := s.gapsOwn c
  let h := s.gapsBuddy c
  let room := 4 - 2 * (g + h)
  let s1 := s.setRegion c { s.region c with gapq := (s.region c).gapq.drop g }
  let s2 := s1.setRegion (buddy c) { s1.region (buddy c) with gapq := (s1.region (buddy c)).gapq.drop h }
  let k := s2.core c
  ((s.region c).gapq.take g ++ ((s.region (buddy c)).gapq.take h).map (fun e => { e with buddy := true }) ++ k.outq.take room,
   (s2.setCore c { k with outq := k.outq.drop room }).put (Reg.OUTQ_STAT_OCC c) (k.outq.drop room).length)

/-- R24, R27, R32, R493: the trunk slot of core `c` begins, in ARMED and ACQUIRE; that of a debug-halted core carries nothing, and
that of a core that serves no region stays unused (records left in its output buffer wait, notes/assumptions/86.md).  The library
goes on with its emissions meanwhile. -/
def State.slotStartTrunk (s : State) (c : Nat) : State :=
  if (s.core c).dbgHalt || !s.dom (domDig (stripeOf c)) || !s.armed then s
  else
    let s1 := if (s.core c).emits.isEmpty then s else (s.libEmits c).libClack c
    if (s1.served c).isEmpty then s1
    else
      let r := s1.slotTake c
      r.1.foldl (fun a e => a.toTrunk c e) r.2

def execSlotStart (n : Fin 1024) (s : State) : Host.Outcome State Fault Refusal := .next (s.slotStartTrunk n.val)

end Sys2Proof.Machine
end

