-- ==== Sys2Proof/Machine/SharedTime.lean ====
section
/-! DEFINITION. The time unit (R345 to R364): clock set and capture, time transfer, the servo, the reference monitor and the
transition marks. -/
namespace Sys2Proof.Machine

/-! ### Transitions (R363, R364) -/

/-- R363: the severity of the error entry of an event code (0 for none), and whether the owner is noticed. -/
def transSev (code : Nat) : Nat :=
  match code with
  | 0 => 1
  | 2 => 2
  | 3 => 2
  | 5 => 1
  | 6 => 3
  | _ => 0
def transNotice (code : Nat) : Bool := 2 ≤ code && code ≤ 7

/-- TU_STAT.ACTIVE and the servo state (0 FREE, 1 COARSE, 2 TRACK, 3 LOCKED, 4 COAST). -/
def State.srcActive (s : State) : Nat := s.get Reg.TU_STAT_ACTIVE
def State.servoState (s : State) : Nat := s.get Reg.TU_STAT_SERVO

/-- R364: the check interval of the current tick; the intervals begin anew where TB_COUNT wraps. -/
def State.checkSpan (s : State) : Nat := s.time.tick / 2 ^ 56 * (2 ^ 56 / 12500000 + 1) + s.time.tick % 2 ^ 56 / 12500000

/-- R363, R364: an event of the time unit: error entry, mark event on channel 13, extension (at most four in a check
interval), notice of kind 4 and interrupt bit 4. -/
def State.transition (s : State) (code before after : Nat) (step : Int) : State :=
  let v := s.servo
  let payload := code * 2 ^ 44 + before * 2 ^ 42 + after * 2 ^ 40 + s.servoState * 2 ^ 37 + b2n v.more * 2 ^ 36
    + s.time.tick % 2 ^ 32
  let s1 := if transSev code = 0 then s
    else s.err { sev := transSev code, src := 9, code := 8, unit := code, info := bits payload 32 16 }
  let s2 := s1.mark 13 code s1.time.tick 0
  let n := if v.span = s.checkSpan then v.spanN else 0
  let s3 := if n ≥ 4 then
      { s2.bump Reg.TU_MSUP_COUNT 1 with servo := { v with span := s.checkSpan, spanN := n, more := true } }
    else
      let a := { s2 with servo := { v with span := s.checkSpan, spanN := n + 1, more := false } }
      match a.active? with
      | some k => a.markAll k (fun _ => true) [extWord 4 1 payload, BitVec.ofInt 64 step]
      | none => a
  if transNotice code then (s3.noticeOwner 4 (leBytes 6 payload)).irq 4 else s3

/-- An event that changes no source; the conductors see every transition (R399, event 5). -/
def State.timeEvent (s : State) (code before after : Nat) (step : Int) : State :=
  ((s.transition code before after step).condEvent 0 5).condEvent 1 5

/-- R356, R363: the servo moves to a state, with a SERVO mark where it changes. -/
def State.servoTo (s : State) (st : Nat) : State :=
  if s.servoState = st then s
  else
    let s1 := { s with servo := { s.servo with inLock := 0, outStep := 0, outLock := 0 } }.put Reg.TU_STAT_SERVO st
    s1.timeEvent 8 s.srcActive s.srcActive 0

/-- R356: the servo's state after its enables, or a restart of the time base, changed. -/
def State.servoOn (s : State) : Bool := s.on Reg.TT_CFG_EN && s.on Reg.TU_CTRL_SERVO_EN
def State.servoEnable (s : State) : State :=
  if s.servoOn then (if s.servoState = 0 then s.servoTo 1 else s) else s.servoTo 0
def State.servoRestart (s : State) : State := if s.servoOn then s.servoTo 1 else s

/-! ### SET and SNAP (R349, R350) -/

/-- R349: a SET request: refused where TU_SETV_NS is out of range. -/
def State.setOk (s : State) : Bool := decide (s.get Reg.TU_SETV_NS_NS < 1000000000)
def State.setRequest (s : State) : State :=
  { s.put Reg.TU_CTRL_SET 1 with servo := { s.servo with setAt := some (s.time.tick + 4) } }

/-- R346, R349, R356: the accumulator takes a new value on the current tick, which the epoch mark of that tick carries too (R364). -/
def State.setAcc (s : State) (acc : Nat) : State :=
  let e := decide (s.time.tick % 2 ^ 23 = 0)
  let s1 := { s with time := { s.time with acc := acc, epochAcc := if s.time.epoch = s.time.tick then acc else s.time.epochAcc } }
  if e && decide (s.epochDone < s.time.tick) then s1.epochInsert s.time.tick else s1

/-- R349: tick S of a SET; a write of 1 that meets it asks anew (R12). -/
def State.setTick (s : State) : State :=
  match s.servo.setAt with
  | some t =>
    if s.time.run then
      let s1 := s.adv t
      let new : Nat := (s1.get Reg.TU_SETV_SEC_SEC * 1000000000 + s1.get Reg.TU_SETV_NS_NS) * 2 ^ 32
      let step : Int := ((new : Int) - s1.time.acc) / 65536
      let keep := match s1.servo.step with
        | some (x, y) => if x = s1.time.tick then none else some (x, y)
        | none => none
      let s2a := ({ s1 with servo := { s1.servo with setAt := none, step := keep } }.setAcc new).put Reg.TU_CTRL_SET 0
      let s2 := if s1.metWrote Reg.TU_CTRL_SET = 0 then s2a else s2a.setRequest
      let s3 := if s2.servoOn then s2.put Reg.TU_STAT_SERVO 1 else s2
      s3.timeEvent 5 s3.srcActive s3.srcActive step
    else s
  | none => s

def execSetTick (s : State) : Host.Outcome State Fault Refusal := .next s.setTick

/-- R350: a SNAP request, and its capture; a write of 1 that meets it asks anew (R12). -/
def State.snapRequest (s : State) : State :=
  { s.put Reg.TU_CTRL_SNAP 1 with servo := { s.servo with snapAt := some (s.time.tick + 4) } }
def State.snapTick (s : State) : State :=
  match s.servo.snapAt with
  | some t =>
    if s.time.run then
      let s1 := s.adv t
      let s2 := { s1 with servo := { s1.servo with snapAt := none } }.put Reg.TU_CTRL_SNAP 0
      let s3 := (((s2.put Reg.TU_SNAP_TICK_TICK s2.now).put Reg.TU_SNAP_SEC_SEC s2.lcSec).put Reg.TU_SNAP_NS_NS s2.lcNs).put
        Reg.TU_SNAP_FRAC_FRAC s2.lcFrac
      if s1.metWrote Reg.TU_CTRL_SNAP = 0 then s3 else s3.snapRequest
    else s
  | none => s

def execSnapTick (s : State) : Host.Outcome State Fault Refusal := .next s.snapTick

/-! ### Time frames (R351 to R355) -/

/-- R353: local time, in units of 2^-16 ns, of an instant `ui` unit intervals (8/165 tick) after the current tick. -/
def State.localAt (s : State) (ui : Nat) : Rat :=
  ((s.time.acc : Rat) + (ui : Rat) * 8 / 165 * (s.get Reg.TU_ADDEND_ADDEND : Rat)) / 65536

/-- R353: picoseconds in units of 2^-16 ns. -/
def psUnits (ps : Nat) : Rat := (ps : Rat) * 65536 / 1000

/-- The four kept values with a new one in front. -/
def keepFour (l : List (Nat × Rat)) (fcnt : Nat) (t : Rat) : List (Nat × Rat) := ((fcnt, t) :: l.filter (fun e => e.1 ≠ fcnt)).take 4
def keptAt (l : List (Nat × Rat)) (fcnt : Nat) : Option Rat := (l.find? (fun e => e.1 == fcnt)).map (·.2)

/-- R353, R354: t3 of a TX time frame of slot `i` captured `ui` unit intervals after the current tick. -/
def State.captureT3 (s : State) (i fcnt ui : Nat) : State :=
  let t := s.localAt ui + psUnits (s.get Reg.TT_PINOFS_TXOFS)
  { s with servo := { s.servo with t3s := keepFour s.servo.t3s fcnt t, prevT3 := SMap.ins s.servo.prevT3 i (fcnt, t) } }

/-- R353, R354: t2 of an RX time frame captured `ui` unit intervals after the current tick. -/
def State.captureT2 (s : State) (fcnt ui : Nat) : State :=
  { s with servo := { s.servo with t2s := keepFour s.servo.t2s fcnt (s.localAt ui - psUnits (s.get Reg.TT_PINOFS_RXOFS)) } }

/-- R351: the payload of a time word, and the word. -/
def timeWord (wcode payload : Nat) : Word64 := mkWord [(0, 8, 0x33), (8, 8, wcode), (16, 48, payload)]

/-- R348, R351: seconds, and nanoseconds with fraction, of a time in units of 2^-16 ns. -/
def unitsSec (t : Rat) : Nat := (t.floor.toNat / 65536 / 1000000000) % 2 ^ 48
def unitsNs (t : Rat) : Nat := (t.floor.toNat / 65536 % 1000000000) * 2 ^ 18 + t.floor.toNat % 65536 * 4

/-- R351: a signed value of 48 bits, saturating. -/
def sat48 (v : Int) : Nat := unsigned 48 (max (-(2 ^ 47)) (min (2 ^ 47 - 1) v))

/-- TT_OFFSET and TT_DELAY. -/
def State.ttOffset (s : State) : Int := signed 64 (s.get Reg.TT_OFFSET_V)
def State.ttDelay (s : State) : Int := signed 64 (s.get Reg.TT_DELAY_V)

/-- R351: the six time words that a TX time frame of slot `i` carries, about the slot's previous time frame (0 before the first). -/
def State.timeWords (s : State) (i : Nat) : List Word64 :=
  let p := (SMap.find? s.servo.prevT3 i).getD (0, 0)
  [timeWord 0x11 (unitsSec p.2), timeWord 0x12 (unitsNs p.2), timeWord 0x13 (sat48 s.ttOffset), timeWord 0x14 (sat48 s.ttDelay),
   timeWord 0x15 (p.1 % 2 ^ 32 * 2 ^ 16 + s.get Reg.TU_STAT_PLLLOCK * 2 ^ 6 + s.get Reg.TU_STAT_HOLD * 2 ^ 5
     + s.srcActive * 2 ^ 3 + s.servoState), timeWord 0x16 0]

/-- R351, R366: TT_CFG.TTDIV and TXSLOT as they act. -/
def State.ttDiv (s : State) : Nat := min 14 (max 4 (s.get Reg.TT_CFG_TTDIV))
def State.ttSlot (s : State) : Nat := if s.get Reg.TT_CFG_TXSLOT ≥ 36 then 0 else s.get Reg.TT_CFG_TXSLOT

/-! ### Servo (R356, R357) -/

/-- R366: LOCKTHR and STEPLIM in units of 2^-16 ns. -/
def State.lockThr (s : State) : Rat := (max 1 (s.get Reg.TT_SERVO_LOCKTHR) : Nat) * 65536
def State.stepLim (s : State) : Rat := (max 1 (s.get Reg.TT_SERVO_STEPLIM) : Nat) * 65536000

/-- R357: a clamp. -/
def ratClamp (lo hi x : Rat) : Rat := max lo (min hi x)

/-- R347, R357: ADDEND of a frequency correction, rounded, within ±100 ppm. -/
def addendOf (f : Rat) : Nat :=
  min 3436317434 (max 3435630240 (((3435973836.8 : Rat) * (1 + f) + 1 / 2).floor.toNat))

/-- R357: f at the last epoch tick. -/
def State.fEpoch (s : State) : Rat := if s.time.epoch > s.servo.fAt then s.servo.f else s.servo.fE

/-- R357: the servo's filter for a measurement, `off` and `dt` in ns. -/
def State.servoFilter (s : State) (off dt : Rat) : State :=
  let v := s.servo
  let lim : Rat := 1 / 10000
  let gain := fun (e : Nat) => off / ((2 ^ e : Nat) * dt)
  let fi0 := v.fi - gain (s.get Reg.TT_SERVO_KI)
  let fi := ratClamp (-lim) lim fi0
  let f0 := fi - gain (s.get Reg.TT_SERVO_KP)
  let f1 := ratClamp (-lim) lim f0
  let fE := s.fEpoch
  let f := if s.servoState = 3 then ratClamp (fE - 1 / 50000000) (fE + 1 / 50000000) f1 else f1
  let hit := decide (fi ≠ fi0) || decide (f1 ≠ f0) || decide (f ≠ f1)
  ({ s with servo := { v with fi := fi, f := f, fE := fE, fAt := s.time.tick, recent := (f :: v.recent).take 16 } }.put Reg.TU_STAT_FRANGE
    (b2n hit)).hwPut Reg.TU_ADDEND_ADDEND (addendOf f)

/-- R356: what a valid measurement does in the servo's state. -/
def State.servoMeasure (s : State) (off : Int) : State :=
  let mag : Rat := off.natAbs
  let dt : Rat := match s.servo.lastAt with
    | some t => ((max 1 (s.time.tick - t) : Nat) : Rat) * 4 / 5
    | none => 1
  let seen := fun (a : State) => { a with servo := { a.servo with lastAt := some a.time.tick } }
  let coarse := fun (a : State) =>
    if mag > a.stepLim ∧ a.on Reg.TU_CTRL_STEPEN then
      { a with servo := { a.servo with step := some (a.time.tick + 1, -off), inLock := 0, outStep := 0, outLock := 0 } }.put
        Reg.TU_STAT_SERVO 2
    else a.servoTo 2
  match s.servoState with
  | 1 => seen (coarse s)
  | 2 =>
    let a := s.servoFilter ((off : Rat) / 65536) dt
    let inl := if mag ≤ a.lockThr then a.servo.inLock + 1 else 0
    let out := if mag > a.stepLim then a.servo.outStep + 1 else 0
    let b := { a with servo := { a.servo with inLock := inl, outStep := out } }
    seen (if inl ≥ 16 then b.servoTo 3 else if out ≥ 4 then b.servoTo 1 else b)
  | 3 =>
    let a := s.servoFilter ((off : Rat) / 65536) dt
    let out := if mag > 8 * a.lockThr then a.servo.outLock + 1 else 0
    let b := { a with servo := { a.servo with outLock := out } }
    seen (if out ≥ 4 then b.servoTo 2 else b)
  | 4 => seen (coarse (s.servoTo 1))
  | _ => s

/-- R355: a measurement from the four timestamps. -/
def State.measure (s : State) (t1 t2 t3 t4 : Rat) : State :=
  let ms := t2 - t1
  let sm := t4 - t3
  let delay : Int := ((ms + sm) / 2).floor
  let off : Int := ((ms - sm - (signed 32 (s.get Reg.TT_ASYM_ASYM) : Rat)) / 2).floor
  if delay < 0 then s.bump Reg.TT_CNT_MISS 1
  else
    (((s.bump Reg.TT_CNT_GOOD 1).put Reg.TT_OFFSET_V (unsigned 64 off)).put Reg.TT_DELAY_V (unsigned 64 delay)).servoMeasure off

/-- R352: the payload of a time word in its place, if it is there. -/
def timeWordIs (wcode : Nat) (w : Word64) : Bool := bits w.toNat 0 8 == 0x33 && bits w.toNat 8 8 == wcode
def wordPay (w : Word64) : Nat := bits w.toNat 16 48
/-- R352: a timestamp in units of 2^-16 ns from its two payloads. -/
def stampOf (sec nsf : Nat) : Rat := ((sec * 1000000000 + nsf / 2 ^ 18) * 65536 + bits nsf 2 16 : Nat)

/-- R352, R354: an RX time frame on the time lane with this FCNT and these time words, captured `ui` unit intervals after
the current tick. -/
def State.timeFrame (s : State) (fcnt ui : Nat) (w2 w3 w4 w5 w6 w7 : Word64) : State :=
  let s1 := s.captureT2 fcnt ui
  let ok := timeWordIs 1 w2 && timeWordIs 2 w3 && timeWordIs 3 w4 && timeWordIs 4 w5 && timeWordIs 5 w6 && timeWordIs 6 w7
  let t2 := keptAt s1.servo.t2s (bits (wordPay w6) 16 32)
  let t3 := keptAt s1.servo.t3s (bits (wordPay w7) 16 32)
  match ok && (wordPay w7).testBit 0 && (wordPay w7).testBit 1, t2, t3 with
  | true, some a, some b => s1.measure (stampOf (wordPay w2) (wordPay w3)) a b (stampOf (wordPay w4) (wordPay w5))
  | _, _, _ => s1.bump Reg.TT_CNT_MISS 1

/-- The tick of a physical instant, and the whole unit intervals (8/165 tick) it lies after that tick. -/
def uiAfter (time : Nat) : Nat := time % tickU * 165 / (8 * tickU)

/-- R336, R353: the lane that carries time is UP and the time base runs. -/
def State.timeLaneUp (s : State) : Bool := s.get (Reg.LN_RXSTAT_STATE (s.get Reg.TT_CFG_RXLANE)) == 5 && s.time.run

def State.timeFrameRx (s : State) (time fcnt : Nat) (w2 w3 w4 w5 w6 w7 : Word64) : State :=
  if s.timeLaneUp && s.on Reg.TT_CFG_EN then (s.adv (time / tickU)).timeFrame fcnt (uiAfter time) w2 w3 w4 w5 w6 w7 else s

def execTimeFrameRx (time : Nat) (fcnt : BitVec 32) (w2 w3 w4 w5 w6 w7 : Word64) (s : State) :
    Host.Outcome State Fault Refusal := .next (s.timeFrameRx time fcnt.toNat w2 w3 w4 w5 w6 w7)

/-- R349, R356: the step that COARSE asked for is made on its tick, unless a SET falls on the same tick. -/
def State.servoStep (s : State) : State :=
  match s.servo.step with
  | some (t, d) =>
    if s.time.run then
      let s1 := { s.adv t with servo := { s.servo with step := none } }
      if s.servo.setAt = some s1.time.tick then s1
      else
      let s2 := s1.setAcc ((s1.time.acc : Int) + d * 65536).toNat
      s2.timeEvent 5 s2.srcActive s2.srcActive d
    else s
  | none => s

def execServoStep (s : State) : Host.Outcome State Fault Refusal := .next s.servoStep

/-- R263, R364: the next tick that is a multiple of 2²³ comes; a SET or a servo step due on it is made first, so that the mark
carries it and the extension of the step follows the mark. -/
def State.epochMark (s : State) : State :=
  if s.time.run then
    let e := s.dueMult (2 ^ 23) s.epochDone
    let s1 := s.adv e
    if s.servo.setAt = some e then s1.setTick
    else if s.servo.step.any (fun x => x.1 == e) then s1.servoStep
    else s1.epochInsert e
  else s

def execEpochMark (s : State) : Host.Outcome State Fault Refusal := .next s.epochMark

/-- R356: MTO ms without a valid measurement: f becomes the mean of its last values and the servo coasts; in STANDBY the transfer is
stopped (R367). -/
def State.servoTimeout (s : State) : State :=
  if (s.servoState = 2 ∨ s.servoState = 3) ∧ s.time.run ∧ s.armed then
    let t0 := s.servo.lastAt.getD s.time.tick
    let s1 := s.adv (t0 + max 1 (s.get Reg.TT_CFG_MTO) * 1250000)
    let r := s1.servo.recent
    let f := if r.isEmpty then s1.servo.f else ratSum r / (r.length : Rat)
    ({ s1 with servo := { s1.servo with f := f, fE := s1.fEpoch, fAt := s1.time.tick } }.hwPut Reg.TU_ADDEND_ADDEND (addendOf f)).servoTo 4
  else s

def execServoTimeout (s : State) : Host.Outcome State Fault Refusal := .next s.servoTimeout

/-! ### Reference monitor (R358 to R362) -/

/-- R366: T and W in units of 0.1 ppm. -/
def State.thrT (s : State) : Nat := max 1 (s.get Reg.TU_THR_T) * 10
def State.thrW (s : State) : Nat := min (s.get Reg.TU_THR_W) (max 1 (s.get Reg.TU_THR_T) - 1) * 10

/-- The distance of two relative frequencies. -/
def dfDist (a b : Int) : Nat := (a - b).natAbs

/-- The DPLL moves to a source (0 REFA, 1 REFB, 2 RXREC). -/
def State.toSource (s : State) (x : Nat) : State := s.put Reg.TU_STAT_ACTIVE x

/-- R359, R361: holdover is entered, and left to a source. -/
def State.holdEnter (s : State) : State :=
  if s.on Reg.TU_STAT_HOLD then s
  else
    let s1 := (s.put Reg.TU_STAT_HOLD 1).bump Reg.RM_CNT_HOLDS 1
    { s1 with servo := { s1.servo with agree := [] } }.timeEvent 3 s1.srcActive s1.srcActive 0
def State.holdLeave (s : State) (x : Nat) : State :=
  ((s.put Reg.TU_STAT_HOLD 0).toSource x).timeEvent 4 s.srcActive x 0

/-- R359: the pairs of sources that agree, in the order REFA, REFB, RXREC. -/
def agreeing (src : List Nat) (df : Nat → Int) (w : Nat) : List (Nat × Nat) :=
  src.flatMap (fun a => (src.filter (fun b => decide (a < b) && decide (dfDist (df a) (df b) ≤ w))).map (fun b => (a, b)))
/-- R359: the first of them. -/
def firstPair (src : List Nat) (df : Nat → Int) (w : Nat) : Option (Nat × Nat) := (agreeing src df w).head?

/-- R359, rule 1: WARN. -/
def State.monWarn (s : State) (dep : Bool) : State :=
  if dep && !s.on Reg.TU_STAT_WARN then
    ((s.put Reg.TU_STAT_WARN 1).bump Reg.RM_CNT_WARNS 1).timeEvent 0 s.srcActive s.srcActive 0
  else if !dep && s.on Reg.TU_STAT_WARN then (s.put Reg.TU_STAT_WARN 0).timeEvent 1 s.srcActive s.srcActive 0
  else s

/-- R359: a check of the monitor with the sources present and their frequencies relative to the active source, in 0.1
ppm. -/
def State.refCheck (s : State) (present : Nat) (df : Nat → Int) : State :=
  let here := (List.range 3).filter (fun x => present.testBit x && (x != 2 || s.get (Reg.LN_RXSTAT_STATE 0) == 5))
  let act := s.srcActive
  let s1 := (List.range 3).foldl (fun a x => a.put (Reg.RM_DF_DF x) (if here.contains x then unsigned 16 (df x) else 0x8000))
    (s.put Reg.TU_STAT_PRESENT (sumOf (here.map (fun x => 2 ^ x))))
  let others := here.filter (· != act)
  let s2 := s1.monWarn (others.any (fun x => decide (dfDist (df x) (df act) > s1.thrW)))
  let away := !others.isEmpty && others.all (fun x => decide (dfDist (df x) (df act) > s1.thrT))
  let bad := fun (a : State) (pair : Option (Nat × Nat)) =>
    (List.range 3).foldl (fun b x =>
      let dep := match pair with
        | some (p, q) => here.contains x && decide (dfDist (df x) (df p) > b.thrT) && decide (dfDist (df x) (df q) > b.thrT)
        | none => false
      let agr := here.contains x && decide (dfDist (df x) (df b.srcActive) ≤ b.thrW)
      if dep then b.putFbit Reg.TU_STAT_BAD x true else if agr then b.putFbit Reg.TU_STAT_BAD x false else b) a
  if s2.on Reg.TU_STAT_HOLD then
    let pairs := agreeing here df s2.thrW
    match pairs.find? s2.servo.agree.contains with
    | some (p, q) => bad ({ s2 with servo := { s2.servo with agree := [] } }.holdLeave p) (some (p, q))
    | none => bad { s2 with servo := { s2.servo with agree := pairs } } pairs.head?
  else if away then
    match s2.on Reg.TU_CTRL_AUTOSW, firstPair others df s2.thrW with
    | true, some (p, q) =>
      bad (((s2.toSource p).bump Reg.RM_CNT_SWITCHES 1).timeEvent 2 act p 0) (some (p, q))
    | _, pr => bad s2.holdEnter pr
  else bad s2 (firstPair here df s2.thrW)

/-- R358: which sources are present is told against the always-on oscillator, whether or not the time base runs. -/
def State.refPresence (s : State) (present : Nat) : State :=
  let here := (List.range 3).filter (fun x => present.testBit x && (x != 2 || s.get (Reg.LN_RXSTAT_STATE 0) == 5))
  (List.range 3).foldl (fun a x => a.putIf (!here.contains x) (Reg.RM_DF_DF x) 0x8000)
    (s.put Reg.TU_STAT_PRESENT (sumOf (here.map (fun x => 2 ^ x))))

/-- R359, R367: the 10 ms check of the monitor, which is stopped in STANDBY. -/
def execReferenceCheck (present : BitVec 3) (dfA dfB dfR : BitVec 16) (s : State) : Host.Outcome State Fault Refusal :=
  .next (if s.time.run && s.armed then s.refCheck present.toNat (fun x => if x = 0 then dfA.toInt else if x = 1 then dfB.toInt else dfR.toInt)
    else if s.dom 2 then s.refPresence present.toNat else s)

/-- R358, R366: a source is no longer present. -/
def State.refGone (s : State) (x : Nat) : State :=
  (s.putFbit Reg.TU_STAT_PRESENT x false).putIf (decide (x < 3)) (Reg.RM_DF_DF x) 0x8000

/-- R358: the selected source's edges are lost: holdover at once. -/
def State.refLoss (s : State) : State :=
  let s1 := s.refGone s.srcActive
  if s.time.run then s1.holdEnter else if s.dom 2 then s1 else s

def execReferenceLoss (s : State) : Host.Outcome State Fault Refusal := .next s.refLoss

/-- R360: REFSEL as it acts, whether a write may name it, and the write's effect. -/
def refselOf (v : Nat) : Nat := if v = 3 then 0 else v
def State.refselOk (s : State) (v : Nat) : Bool := (s.get Reg.TU_STAT_PRESENT).testBit (refselOf v)
def State.refselWrite (s : State) (v : Nat) : State :=
  let s1 := s.put Reg.TU_CTRL_REFSEL v
  if s1.on Reg.TU_STAT_HOLD then s1.holdLeave (refselOf v) else s1.toSource (refselOf v)

/-- R362: the time-base PLL loses lock, and regains it; a RELOCK follows an UNLOCK only (the first lock after a start of
the time base ends no interval; notes/assumptions/33.md). -/
def State.pllUnlock (s : State) : State :=
  if s.on Reg.TU_STAT_PLLLOCK then
    let s1 := ((s.put Reg.TU_STAT_PLLLOCK 0).bump Reg.RM_CNT_UNLOCKS 1).timeEvent 6 s.srcActive s.srcActive 0
    { s1 with pw := { s1.pw with unlocked := true } }
  else s
def State.pllRelock (s : State) : State :=
  if s.on Reg.TU_STAT_PLLLOCK || !s.dom 2 || !s.time.run then s
  else
    let s1 := s.put Reg.TU_STAT_PLLLOCK 1
    if s1.pw.unlocked then
      { s1 with pw := { s1.pw with unlocked := false } }.timeEvent 7 s.srcActive s.srcActive 0
    else s1

def execPllUnlock (s : State) : Host.Outcome State Fault Refusal := .next s.pllUnlock
def execPllRelock (s : State) : Host.Outcome State Fault Refusal := .next s.pllRelock

end Sys2Proof.Machine
end

