-- ==== Sys2Proof/Machine/Lanes.lean ====
section
/-! DEFINITION. The serial lanes (R320 to R342): frames, the lane mux, equalisation candidates, RX training, host reports,
spares and the lane map. -/
namespace Sys2Proof.Machine

def RxLk.reset : RxLk := ⟨0, false, [], 0, [], false, 0, 0, 0⟩
def RxSt.reset : RxSt := ⟨0, [], none, 0, 0, 0, RxLk.reset, none⟩
def State.rx (s : State) (j : Nat) : RxSt := SMap.get s.rxs j RxSt.reset
def State.setRx (s : State) (j : Nat) (v : RxSt) : State := { s with rxs := SMap.set s.rxs j v RxSt.reset }

/-- R320: the domain of a TX slot, and RXQ. -/
def domTxq (i : Nat) : Nat := 21 + i / 4
def domRxq : Nat := 30

/-- R338: the host states of a slot. -/
def hUNKNOWN : Nat := 0
def hUP : Nat := 1
def hDOWN : Nat := 2
def State.hostState (s : State) (i : Nat) : Nat := s.get (Reg.LN_TXSTAT_HSTATE i)
/-- R343: the logical lane a slot carries, 63 for none. -/
def State.logl (s : State) (i : Nat) : Nat := s.get (Reg.LN_TXSTAT_LOGL i)

/-! ### Candidates (R332, R333) -/

/-- The board table as the lane block holds it (a copy of the table it loaded; no table leaves every candidate out). -/
def laneTable : Nat := 0x1000000000 + 256 * 0x800

/-- R332: a word of the table; candidates per lane; the word of TX candidate `c` of slot `i` and of RX candidate `c`. -/
def State.tblWord (s : State) (i : Nat) : Nat := s.readLe (laneTable + 4 * i) 4
def State.candCount (s : State) : Nat := min 8 (s.tblWord 1 % 16)
def State.txCand (s : State) (i c : Nat) : Nat := s.tblWord (2 + 8 * i + c)
def State.rxCand (s : State) (j c : Nat) : Nat := s.tblWord (290 + 8 * j + c)

/-- R333: a candidate word is valid: V = 1 and, for TX, taps of at most 63 in all. -/
def txValid (w : Nat) : Bool := w.testBit 31 && decide (bits w 0 4 + bits w 16 6 + bits w 8 5 ≤ 63)
def rxValid (w : Nat) : Bool := w.testBit 31

/-- R333: the valid candidates of a slot and of an RX lane. -/
def State.txCands (s : State) (i : Nat) : List Nat := (List.range s.candCount).filter (fun c => txValid (s.txCand i c))
def State.rxCands (s : State) (j : Nat) : List Nat := (List.range s.candCount).filter (fun c => rxValid (s.rxCand j c))

/-- R333: the default candidate of a slot (index 0 for the built-in default). -/
def State.txDefault (s : State) (i : Nat) : Nat :=
  match (s.txCands i).find? (fun c => (s.txCand i c).testBit 30) with
  | some c => c
  | none => (s.txCands i).headD 0

/-- R333: the candidates an RX lane trains with; the built-in default alone where none is valid. -/
def State.rxTrain (s : State) (j : Nat) : List Nat := if (s.rxCands j).isEmpty then [0] else s.rxCands j

/-- R332: the built-in default candidates as words of R333: Cpre 2, C0 48, Cpost 8; PEAK 6, GAIN 24. -/
def txBuiltIn : Nat := 2 ^ 31 + 2 ^ 30 + 48 * 2 ^ 16 + 8 * 2 ^ 8 + 2
def rxBuiltIn : Nat := 2 ^ 31 + 2 ^ 30 + 6 * 2 ^ 8 + 24

/-- R332, R333: the word that candidate `c` of a slot or of an RX lane gives the equaliser; the built-in default where the table
has no valid candidate under that index (notes/assumptions/79.md). -/
def State.txWord (s : State) (i c : Nat) : Nat := if (s.txCands i).contains c then s.txCand i c else txBuiltIn
def State.rxWord (s : State) (j c : Nat) : Nat := if (s.rxCands j).contains c then s.rxCand j c else rxBuiltIn

/-- R332: the table named by the option byte is loaded and checked (byte 4, R455). -/
def State.laneTableLoad (s : State) (idx : Nat) : State :=
  let s1 := (s.dropMem laneTable (laneTable + 0x800)).put Reg.LN_GSTAT_TBL idx
  let bytes := s.readBytes (boardTable idx) 1292
  let ok := ofLeBytes (bytes.take 4) == 0x4C4E5442 && crc32c (bytes.take 1288) == ofLeBytes (bytes.drop 1288)
  if ok then (s1.writeBytes laneTable bytes).put Reg.LN_GSTAT_TBLBAD 0
  else (s1.put Reg.LN_GSTAT_TBLBAD 1).err { sev := 1, src := 8, code := 6, unit := 0, info := idx }

/-- R343: the reset value of CAND and CSEL of every slot, the default candidate of the table just loaded. -/
def State.laneDefaults (s : State) : State :=
  (List.range 36).foldl (fun a i => (a.put (Reg.LN_TXCTRL_CAND i) (a.txDefault i)).put (Reg.LN_TXSTAT_CSEL i) (a.txDefault i)) s

/-! ### The lane mux (R328, R311) -/

/-- R459, R460: the slot, or the lane block, is asked to quiesce: its payload drains. -/
def State.slotQuiet (s : State) (i : Nat) : Bool := s.quiesce.any (fun x => x.block == 0x410 + i || x.block == 0x450)

/-- R327, R328: the slots of a group that may take a block: in the group in force, enabled, powered, not DOWN, not asked to
quiesce, and with a free payload slot in the frame being filled; in ascending logical lane. -/
def State.muxSlots (s : State) (g : Nat) : List Nat :=
  (List.range 32).filterMap (fun l =>
    if inGroup s.laneCfg g l then
      (List.range 36).find? (fun i => s.logl i == l && s.on (Reg.LN_TXCTRL_EN i) && s.dom (domTxq i)
        && s.hostState i != hDOWN && !s.slotQuiet i && decide ((s.tx i).payload.length < 392))
    else none)

/-- The slot of least waiting payload, the first among equals. -/
def State.leastLoaded (s : State) : List Nat → Option Nat
  | [] => none
  | i :: r =>
    match s.leastLoaded r with
    | some j => some (if (s.tx j).payload.length < (s.tx i).payload.length then j else i)
    | none => some i

/-- R328, R311: the group's next queued block goes to the lane that is free first; where none is queued a drained one goes to
a lane that is idle. -/
def State.muxPlace (s : State) (g : Nat) : State :=
  match s.active? with
  | none => s
  | some k =>
    if !s.armed then s
    else
      match SMap.get (s.keel k).queues g [] with
      | b0 :: rest =>
        match s.leastLoaded (s.muxSlots g) with
        | none => s
        | some i =>
          let a := s.blockRead b0
          let b := a.1
          let s1 := a.2.setKeel k { s.keel k with queues := SMap.set (s.keel k).queues g rest [] }
          let s2 := s1.place i (blockBytes b false)
          (s2.setTx i { s2.tx i with onLane := (s2.tx i).onLane ++ [(b.stream, b.bseq, b.openAt, blockLen b / 8)] }).queueLevel
            k g (s.get (Reg.OQ_STAT_LEVEL k g) - blockLen b)
      | [] =>
        match SMap.get (s.spill k).drained g [], (s.muxSlots g).find? (fun i => (s.tx i).payload.isEmpty) with
        | d0 :: rest, some i =>
            let a := s.drainedRead d0
            let d := a.1
            let s2 := (a.2.setSpill k { s.spill k with drained := SMap.set (s.spill k).drained g rest [],
                                                       sending := (s.spill k).sending ++ [d] }).place i d.bytes
            (s2.setTx i { s2.tx i with
              onLane := (s2.tx i).onLane ++ [(drainedMark + d.stream, d.blk.bseq, d.blk.openAt, d.blk.len / 8)] }).spillStats k
        | _, _ => s

def execLaneMuxPlace (g : Fin 16) (s : State) : Host.Outcome State Fault Refusal := .next (s.muxPlace g.val)

/-! ### TX frames (R322 to R326) -/

/-- R323: an idle block. -/
def idleBlock : Bool × Word64 := (true, 0x1E)

/-- R321: the scrambler x⁵⁸ + x³⁹ + 1 over the bits of a word, least significant first; its state is the last 58 bits
sent, the latest lowest. -/
def scrambleBits : Nat → Nat → Nat → List Bool × Nat
  | 0, st, _ => ([], st)
  | n + 1, st, w =>
    let b := (w.testBit 0 != st.testBit 38) != st.testBit 57
    let r := scrambleBits n ((st * 2 + b2n b) % 2 ^ 58) (w / 2)
    (b :: r.1, r.2)

/-- R321: the blocks of a frame as they leave the scrambler. -/
def scrambleFrame : Nat → List (Bool × Word64) → List (Bool × Word64) × Nat
  | st, [] => ([], st)
  | st, (c, w) :: r =>
    let x := scrambleBits 64 st w.toNat
    let y := scrambleFrame x.2 r
    ((c, BitVec.ofNat 64 (ofBits x.1)) :: y.1, y.2)

/-- R324, R327: the enabled group of the lane mux that covers a slot's logical lane, 0 where none. -/
def State.laneGroup (s : State) (i : Nat) : Nat := ((List.range 16).find? (fun g => inGroup s.laneCfg g (s.logl i))).getD 0

/-- R324, R325: the two control blocks at the head of a frame. -/
def State.frameHead (s : State) (i fcnt : Nat) (tf : Bool) (pay : List (Bool × Word64)) : List (Bool × Word64) :=
  let ptr := (List.findIdx? (fun e => e.1) pay).getD 511
  [(true, mkWord [(32, 32, fcnt), (25, 1, s.get (Reg.LN_TXSTAT_SUB i)), (21, 4, s.laneGroup i), (15, 6, s.logl i), (9, 6, i),
      (8, 1, b2n tf), (0, 8, 0x4B)]),
   (true, mkWord [(17, 1, b2n pay.isEmpty), (8, 9, ptr), (0, 8, 0x2D)])]

/-- R351: the slot's frame with this count is a time frame. -/
def State.isTimeFrame (s : State) (i fcnt : Nat) : Bool :=
  s.on Reg.TT_CFG_EN && s.ttSlot == i && fcnt % 2 ^ s.ttDiv == 0

/-- The blocks not yet sent whole once `n` more payload words have left. -/
def laneLeft : Nat → List (Nat × Nat × Nat × Nat) → List (Nat × Nat × Nat × Nat)
  | _, [] => []
  | n, (q, b, o, w) :: r => if w ≤ n then laneLeft (n - w) r else (q, b, o, w - n) :: r

/-- The drained blocks among those that stood on a slot and have left it whole. -/
def drainedSent (before after : List (Nat × Nat × Nat × Nat)) : List (Nat × Nat) :=
  ((before.take (before.length - after.length)).filter (fun e => decide (drainedMark ≤ e.1))).map (fun e => (e.1 - drainedMark, e.2.1))

/-- R412: a drained block that has been sent whole is held no more. -/
def State.sentWhole (s : State) (gone : List (Nat × Nat)) : State :=
  match s.active?, gone with
  | some k, _ :: _ => s.setSpill k { s.spill k with
      sending := (s.spill k).sending.filter (fun d => !gone.contains (d.stream, d.blk.bseq)) }
  | _, _ => s

/-- R331: the idle blocks among the unit intervals inserted ahead of a frame; the rest are idle bits. -/
def leadBlocks (lead : Nat) : List (Bool × Word64) := List.replicate (lead / 66) idleBlock

/-- R325, R344: a TX frame starts on the next tick that is a multiple of 1,280; its t3 is captured `ui` unit intervals
after that tick and SLIP more (R331, R353).  Without a grant its payload slots are idle, and a control message waits; it is
discarded where the slot cannot carry it any more (R342, R384). -/
def State.txFrame (s : State) (i ui : Nat) : State :=
  if s.on (Reg.LN_TXCTRL_EN i) && s.dom (domTxq i) && s.armed && s.time.run then
    let t0 := alignUp 1280 s.time.tick
    let t := if (s.tx i).sentAt == some t0 then t0 + 1280 else t0
    let a0 := s.adv t
    let a := if a0.slotCarries i then a0 else a0.msgsLost i
    let s1 := if a.on (Reg.LN_TXCTRL_AUTO i) then a else a.put (Reg.LN_TXSTAT_CSEL i) (a.get (Reg.LN_TXCTRL_CAND i))
    let fcnt := s1.now / 1280 % 2 ^ 32
    let tf := s1.isTimeFrame i fcnt
    let v := s1.tx i
    let sends := s1.active?.isSome
    let pay := if sends then v.payload.take 392 else []
    let slip := s1.get (Reg.LN_TXCTRL_SLIP i)
    let lead := slip - v.slip
    let svc := if tf then (s1.timeWords i).map (fun w => (true, w)) else List.replicate 6 idleBlock
    let blocks := s1.frameHead i fcnt tf pay ++ svc ++ pay.map (fun e => (false, e.2)) ++ List.replicate (392 - pay.length) idleBlock
    let w := scrambleFrame v.scr (leadBlocks lead ++ blocks)
    let s2 := s1.setTx i { v with payload := if sends then v.payload.drop 392 else v.payload,
                                  frame := blocks, wire := w.1, scr := w.2, sentAt := some t,
                                  onLane := if sends then laneLeft 392 v.onLane else v.onLane,
                                  slip := slip, lead := lead, eq := s1.txWord i (s1.get (Reg.LN_TXSTAT_CSEL i)),
                                  ecc := if sends then v.ecc - 392 else v.ecc }
    let s3 := (s2.eccCount 4 (b2n (sends && decide (0 < v.ecc) && decide (v.ecc ≤ 392)))).sentWhole (if sends then drainedSent v.onLane (laneLeft 392 v.onLane) else [])
    if tf then s3.captureT3 i fcnt (ui + slip) else s3
  else s

def execTxFrame (i : Fin 36) (ui : BitVec 12) (s : State) : Host.Outcome State Fault Refusal := .next (s.txFrame i.val ui.toNat)

/-! ### Spares (R340) -/

/-- R340: the eligible spares, the lowest first; in a fail-over BR_LANES is that of the keel that will take the grant. -/
def State.sparesFree (s : State) : List Nat :=
  match s.spillKeel? with
  | none => []
  | some k =>
    [32, 33, 34, 35].filter (fun i => s.logl i == 63 && s.on (Reg.LN_TXCTRL_EN i) && s.hostState i == hUP
      && (dget (s.inForce k) (Reg.BR_LANES_UP 0)).testBit i)

/-- R254: no spare takes the place of slot `i`, which is DOWN: OVER where its BR_LANES bit is 1. -/
def State.noSpare (s : State) (i : Nat) : State :=
  match s.spillKeel? with
  | none => s
  | some k => if (dget (s.inForce k) (Reg.BR_LANES_UP 0)).testBit i then s.bridleOver k i else s

/-- R340: due substitutions stand in ascending logical lane. -/
def dueIns (l i : Nat) : List (Nat × Nat) → List (Nat × Nat)
  | [] => [(l, i)]
  | e :: r => if l < e.1 then (l, i) :: e :: r else e :: dueIns l i r

/-- R254, R340: a slot has entered DOWN: a substitution is due if a spare is left for it. -/
def State.slotDown (s : State) (i : Nat) : State :=
  let s1 := ((((s.put (Reg.LN_TXSTAT_HSTATE i) hDOWN).bump (Reg.LN_TXSTAT_DOWNS i) 1).lifeEvent 8).irq 5).commitChanged
  let s2 := (s1.condEvent 0 4).condEvent 1 4
  let l := s2.logl i
  let grouped := decide (l < 32) && (List.range 16).any (fun g => inGroup s2.laneCfg g l)
  if grouped && s2.on Reg.LN_GCTRL_SPARE_AUTO && decide (s2.subDue.length < s2.sparesFree.length) then
    { s2 with subDue := dueIns l i s2.subDue }
  else s2.noSpare i

/-- R340: spare `i` takes logical lane `l` of slot `old`. -/
def State.spareTakes (s : State) (i l old : Nat) : State :=
  let s1 := ((((s.hwPut (Reg.LMAP_SLOT l) i).put (Reg.LN_TXSTAT_LOGL i) l).put (Reg.LN_TXSTAT_SUB i) 1).put
    (Reg.LN_TXSTAT_LOGL old) 63).put (Reg.LN_TXSTAT_SUB old) 0
  let s2 := ((((s1.lifeEvent 7).commitChanged).irq 5).condEvent 0 4).condEvent 1 4
  s2.noticeOwner 3 [BitVec.ofNat 8 i, BitVec.ofNat 8 l]

/-- R340: the first substitution due goes to the lowest eligible spare; with none eligible any more the slot stays in its
group. -/
def State.subNext (s : State) : State :=
  match s.subDue with
  | [] => s
  | (l, old) :: rest =>
    match s.sparesFree with
    | i :: _ => { s with subDue := rest }.spareTakes i l old
    | [] => { s with subDue := rest }.noSpare old

/-- R340: at its next frame start the lowest eligible spare takes the lowest logical lane that waits for one; while the time
base is stopped it waits (R541). -/
def State.substitute (s : State) (i : Nat) : State :=
  if s.time.run then
    match s.sparesFree with
    | x :: _ => if x = i ∧ ¬ s.subDue.isEmpty then (s.adv (alignUp 1280 s.time.tick)).subNext else s
    | [] => s.subNext
  else s

def execSpareSubstitution (i : Fin 4) (s : State) : Host.Outcome State Fault Refusal := .next (s.substitute (32 + i.val))

/-! ### The lane map (R341) -/

/-- R341: a write to LMAPl would make one slot carry two logical lanes, or names no slot. -/
def State.lmapOk (s : State) (l slot : Nat) : Bool :=
  decide (slot < 36) && (List.range 32).all (fun x => x == l || s.get (Reg.LMAP_SLOT x) != slot)

/-- R341: an accepted write waits for the frame start. -/
def State.lmapWrite (s : State) (l slot : Nat) : State :=
  { s.put (Reg.LMAP_SLOT l) slot with lmapDue := SMap.ins s.lmapDue l slot }

/-- R341: a change of the lane map takes effect at the next frame start, after the substitutions of that frame start; while the
time base is stopped it waits (R541). -/
def State.lmapApply (s : State) (l : Nat) : State :=
  match SMap.find? s.lmapDue l, s.time.run with
  | none, _ => s
  | _, false => s
  | some slot, true =>
    let s0 := s.subDue.foldl (fun a _ => a.subNext) (s.adv (alignUp 1280 s.time.tick))
    let old := (List.range 36).find? (fun i => s0.logl i == l)
    let s1 := match old with
      | some i => (s0.put (Reg.LN_TXSTAT_LOGL i) 63).put (Reg.LN_TXSTAT_SUB i) 0
      | none => s0
    (({ s1 with lmapDue := SMap.erase s1.lmapDue l }.put (Reg.LN_TXSTAT_LOGL slot) l).put (Reg.LN_TXSTAT_SUB slot)
      (b2n (decide (slot ≥ 32)))).put (Reg.LMAP_SLOT l) slot |>.commitChanged

def execLmapApply (l : Fin 32) (s : State) : Host.Outcome State Fault Refusal := .next (s.lmapApply l.val)

/-- R327: a write to LG_CFGg is accepted, whatever its EN. -/
def State.laneGroupOk (s : State) (g wcode first : Nat) : Bool :=
  let w := 2 ^ min 5 wcode
  first % w == 0 && decide (first + w ≤ 32) && (List.range 16).all (fun h => h == g || !s.on (Reg.LG_CFG_EN h)
    || (let f := s.get (Reg.LG_CFG_FIRST h)
        decide (f + 2 ^ min 5 (s.get (Reg.LG_CFG_WCODE h)) ≤ first) || decide (first + w ≤ f)))

/-! ### TX candidates (R339) -/

/-- R339: selection runs only if an RX lane is UP. -/
def State.rxAnyUp (s : State) : Bool := (List.range 4).any (fun j => s.get (Reg.LN_RXSTAT_STATE j) == 5)

/-- R339: selection starts with the first valid candidate. -/
def State.selStart (s : State) (i : Nat) : State :=
  match s.txCands i with
  | [] => s
  | c :: _ =>
    if s.on (Reg.LN_TXCTRL_AUTO i) && s.on (Reg.LN_TXCTRL_EN i) && s.rxAnyUp then
      (s.setTx i { s.tx i with sel := some (c, s.time.tick), best := [] }).put (Reg.LN_TXSTAT_CSEL i) c
    else s

def execTxCandidateSelection (i : Fin 36) (s : State) : Host.Outcome State Fault Refusal := .next (s.selStart i.val)

/-- The key of the greatest value, the lowest among equals. -/
def bestKey (d : Nat) (m : SMap Nat) : Nat :=
  (m.foldl (fun (a : Option (Nat × Nat)) e => match a with
    | some x => if e.2 > x.2 then some e else some x
    | none => some e) none).map (·.1) |>.getD d

/-- R339: a dwell of 2 ms ends: the next valid candidate, or the best, or the default where no report matched. -/
def State.selDwell (s : State) (i : Nat) : State :=
  match (s.tx i).sel with
  | none => s
  | some (c, t) =>
    let s1 := if s.time.run then s.adv (t + 2500000) else s
    match (s1.txCands i).find? (fun x => decide (x > c)) with
    | some n => (s1.setTx i { s1.tx i with sel := some (n, s1.time.tick) }).put (Reg.LN_TXSTAT_CSEL i) n
    | none => (s1.setTx i { s1.tx i with sel := none }).put (Reg.LN_TXSTAT_CSEL i) (bestKey (s1.txDefault i) (s1.tx i).best)

def execTxCandidateDwell (i : Fin 36) (s : State) : Host.Outcome State Fault Refusal := .next (s.selDwell i.val)

/-! ### Host reports (R337, R338) -/

/-- R339: a report of a slot in selection counts if it names the candidate and comes in the last 1 ms of the dwell. -/
def State.selReport (s : State) (i : Nat) (w : Word64) : State :=
  match (s.tx i).sel with
  | none => s
  | some (c, t) =>
    let fom := bits w.toNat 48 8
    let v := s.tx i
    let better : Bool := match SMap.find? v.best c with
      | some x => decide (fom > x)
      | none => true
    if bits w.toNat 45 3 = c ∧ s.time.tick ≥ t + 1250000 ∧ better then s.setTx i { v with best := SMap.ins v.best c fom } else s

/-- R338: a host lane report is applied. -/
def State.hostReport (s : State) (w : Word64) : State :=
  let i := bits w.toNat 58 6
  let lock := w.getLsbD 57
  if i < 36 ∧ s.rxAnyUp ∧ s.dom (domTxq i) then
    let v := s.tx i
    let run := if v.run > 0 ∧ v.lock = lock then v.run + 1 else 1
    let s0 := (s.put (Reg.LN_HREP_REP i) w.toNat).bump (Reg.LN_HERR_SUM i) (bits w.toNat 8 8)
    let s1 := if s.on (Reg.LN_TXCTRL_EN i) then s0.setTx i { v with lock := lock, run := min 2 run, repAt := s.time.tick } else s0
    let s2 := s1.selReport i w
    let h := s2.hostState i
    if ¬ s.on (Reg.LN_TXCTRL_EN i) then s2
    else if run ≥ 2 ∧ lock ∧ h ≠ hUP then
      let s3 := (s2.put (Reg.LN_TXSTAT_HSTATE i) hUP).commitChanged
      if h = hDOWN then s3.selStart i else s3
    else if run ≥ 2 ∧ ¬ lock ∧ h ≠ hDOWN then s2.slotDown i
    else s2
  else s

def execHostLaneReport (w : Word64) (s : State) : Host.Outcome State Fault Refusal := .next (s.hostReport w)

/-- R338: no report for HRTMO: the slot returns to UNKNOWN. -/
def State.hostTimeout (s : State) (i : Nat) : State :=
  if s.hostState i = hUNKNOWN then s
  else
    let s1 := if s.time.run then s.adv ((s.tx i).repAt + max 1 (s.get Reg.LN_GCTRL_HRTMO) * 12500) else s
    ((s1.setTx i { s1.tx i with run := 0 }).put (Reg.LN_TXSTAT_HSTATE i) hUNKNOWN).commitChanged

def execHostReportTimeout (i : Fin 36) (s : State) : Host.Outcome State Fault Refusal := .next (s.hostTimeout i.val)

/-- R338, R343: a slot's EN = 0, its domain off, or its reset: UNKNOWN, no payload. -/
def State.txOff (s : State) (i : Nat) : State :=
  let s1 := ((s.msgsLost i).setTx i { TxSt.reset with scr := (s.tx i).scr }).put (Reg.LN_TXSTAT_HSTATE i) hUNKNOWN
  if s.hostState i = hUNKNOWN then s1 else s1.commitChanged

/-- R339, R343: a write of LN_TXCTRL. -/
def State.txCtrlWrite (s : State) (i v : Nat) : State :=
  let was := s.on (Reg.LN_TXCTRL_EN i)
  let s1 := (((s.put (Reg.LN_TXCTRL_EN i) (bits v 31 1)).put (Reg.LN_TXCTRL_AUTO i) (bits v 30 1)).put (Reg.LN_TXCTRL_CAND i)
    (bits v 27 3)).put (Reg.LN_TXCTRL_SLIP i) (bits v 0 10)
  if v.testBit 31 then
    if v.testBit 30 then s1.selStart i else s1.setTx i { s1.tx i with sel := none }
  else if was then s1.txOff i
  else s1

/-! ### RX training (R335) -/

def State.rxState (s : State) (j : Nat) : Nat := s.get (Reg.LN_RXSTAT_STATE j)
/-- A state is entered; its timer, if it has one, runs from this tick. -/
def State.rxTo (s : State) (j st : Nat) : State :=
  (s.setRx j { s.rx j with at0 := s.time.tick }).put (Reg.LN_RXSTAT_STATE j) st
/-- R358: lane 0 leaves UP: RXREC is no longer present. -/
def State.rxLeft (s : State) (j : Nat) : State := if j = 0 ∧ s.rxState 0 = 5 then s.refGone 2 else s
/-- The timer of the state of an RX lane, of `n` ticks, ends. -/
def State.rxDue (s : State) (j n : Nat) : State := if s.time.run then s.adv ((s.rx j).at0 + n) else s

/-- R335: candidate `c` is applied. -/
def State.rxApply (s : State) (j c : Nat) : State :=
  (s.setRx j { s.rx j with cand := c, eq := s.rxWord j c }).put (Reg.LN_RXSTAT_CSEL j) c

/-- R335: training starts (CAND, then HUNT at once) with the first candidate. -/
def State.rxStart (s : State) (j : Nat) : State :=
  ((s.setRx j { s.rx j with foms := [] }).rxApply j ((s.rxTrain j).headD 0)).rxTo j 2

/-- R335: an RX lane that is OFF, with EN = 1 and RXQ on, starts. -/
def State.rxEnable (s : State) (j : Nat) : State :=
  if s.on (Reg.LN_RXCTRL_EN j) && s.dom domRxq && s.rxState j == 0 then s.rxStart j else s

def execRxLaneEnable (j : Fin 4) (s : State) : Host.Outcome State Fault Refusal := .next (s.rxEnable j.val)

/-- R335: the next valid candidate is tried; with none left the best is frozen (FINAL, then SETTLE at once), or the lane is
DOWN. -/
def State.rxNext (s : State) (j : Nat) : State :=
  match (s.rxTrain j).find? (fun c => decide (c > (s.rx j).cand)) with
  | some c => (s.rxApply j c).rxTo j 2
  | none => if (s.rx j).foms.isEmpty then s.rxTo j 7 else (s.rxApply j (bestKey 0 (s.rx j).foms)).rxTo j 4

/-- R335: a block met while the lane hunts for block lock: 64 valid headers in a row give it, an invalid one slips a bit. -/
def RxLk.hunt (c : RxLk) (b : RxBlk) : RxLk :=
  if !b.valid then { c with run := 0, slips := c.slips + 1 }
  else if c.run + 1 < 64 then { c with run := c.run + 1 }
  else { RxLk.reset with block := true, slips := c.slips }

/-- R335: block `p` since block lock as a frame start or not: two starts exactly 400 blocks apart give frame lock, four
expected starts missing in a row end it. -/
def RxLk.starting (c : RxLk) (p : Nat) (start : Bool) : RxLk :=
  if c.frame then
    if p ≠ c.next then c
    else if start then { c with next := p + 400, missed := 0 }
    else if c.missed + 1 < 4 then { c with next := p + 400, missed := c.missed + 1 }
    else { c with frame := false, starts := [], missed := 0 }
  else if !start then c
  else if c.starts.any (fun x => x + 400 == p) then { c with frame := true, next := p + 400, missed := 0, starts := [] }
  else { c with starts := p :: c.starts.filter (fun x => decide (p < x + 400)) }

/-- R335: a block met by a lane: 16 invalid headers among 64 consecutive ones end block lock, and frame lock with it. -/
def RxLk.meet (c : RxLk) (b : RxBlk) : RxLk :=
  if !c.block then c.hunt b
  else
    let win := (b.valid :: c.win).take 64
    if (win.filter (! ·)).length ≥ 16 then { RxLk.reset with slips := c.slips }
    else { c with win := win, count := c.count + 1 }.starting (c.count + 1) (b.valid && b.start)

/-- R335: "locked": block lock and frame lock together. -/
def RxLk.locked (c : RxLk) : Bool := c.block && c.frame

/-- R335: a lane that is not OFF meets blocks. -/
def State.rxMeet (s : State) (j : Nat) (bs : List RxBlk) : State :=
  s.setRx j { s.rx j with lk := bs.foldl RxLk.meet (s.rx j).lk }

/-- R335: what a lane does that is locked. -/
def State.rxLocked (s : State) (j : Nat) : State :=
  match s.rxState j with
  | 2 => s.rxTo j 3
  | 4 => ((s.put (Reg.LN_RXSTAT_CSEL j) (s.rx j).cand).put (Reg.LN_RXSTAT_FOM j) (SMap.get (s.rx j).foms (s.rx j).cand 0)).rxTo j 5
  | 6 => s.rxTo j 5
  | _ => s

/-- R335: the blocks that a lane in training meets bring it block lock and frame lock, or not. -/
def State.rxLock (s : State) (j : Nat) (bs : List RxBlk) : State :=
  if s.rxState j = 0 then s
  else
    let s1 := s.rxMeet j bs
    if (s1.rx j).lk.locked then s1.rxLocked j else s1

def execRxLock (x : RxRun) (s : State) : Host.Outcome State Fault Refusal := .next (s.rxLock x.lane.val x.blocks)

/-- R335: the 10 ms timer ends without lock. -/
def State.rxTimeout (s : State) (j : Nat) : State :=
  match s.rxState j with
  | 2 => (s.rxDue j 12500000).rxNext j
  | 4 => (s.rxDue j 12500000).rxTo j 7
  | 6 => (s.rxDue j 12500000).rxStart j
  | _ => s

def execRxLockTimeout (j : Fin 4) (s : State) : Host.Outcome State Fault Refusal := .next (s.rxTimeout j.val)

/-- R334, R335: a measurement of the candidate is done after 1 ms: H and W give its FOM. -/
def State.rxMeasured (s : State) (j h w : Nat) : State :=
  if s.rxState j = 3 then
    let fom := s.get Reg.LN_GCTRL_WH * h + s.get Reg.LN_GCTRL_WW * w
    ((s.rxDue j 1250000).setRx j { s.rx j with foms := SMap.ins (s.rx j).foms (s.rx j).cand fom }).rxNext j
  else s

def execRxMeasureDone (j : Fin 4) (h w : Fin 64) (s : State) : Host.Outcome State Fault Refusal :=
  .next (s.rxMeasured j.val h.val w.val)

/-- R335: the blocks that an UP lane meets end its lock, or not. -/
def State.rxLost (s : State) (j : Nat) (bs : List RxBlk) : State :=
  if s.rxState j = 5 then
    let s1 := s.rxMeet j bs
    if (s1.rx j).lk.locked then s1 else (((s1.rxLeft j).rxTo j 6).bump (Reg.LN_RXLL_COUNT j) 1).lifeEvent 8
  else s

def execRxLockLost (x : RxRun) (s : State) : Host.Outcome State Fault Refusal := .next (s.rxLost x.lane.val x.blocks)

/-- R335: the RETRY period of a DOWN lane elapses. -/
def State.rxRetry (s : State) (j : Nat) : State :=
  if s.rxState j = 7 then (s.rxDue j (max 1 (s.get Reg.LN_GCTRL_RETRY) * 12500000)).rxStart j else s

def execRxDownRetry (j : Fin 4) (s : State) : Host.Outcome State Fault Refusal := .next (s.rxRetry j.val)

/-- R335: RETRAIN restarts training of a lane that is not OFF; EN = 0, RXQ off or a lane reset makes it OFF. -/
def State.rxRetrain (s : State) (j : Nat) : State := if s.rxState j = 0 then s else (s.rxLeft j).rxStart j
def State.rxOff (s : State) (j : Nat) : State := ((s.rxLeft j).setRx j RxSt.reset).put (Reg.LN_RXSTAT_STATE j) 0

/-- R343: a write of LN_RXCTRL. -/
def State.rxCtrlWrite (s : State) (j v : Nat) : State :=
  let s1 := s.put (Reg.LN_RXCTRL_EN j) (bits v 31 1)
  if !v.testBit 31 then s1.rxOff j
  else if v.testBit 30 then s1.rxRetrain j
  else s1

/-- R323: the control block types; a receiver counts a frame error for any other. -/
def knownType (w : Word64) : Bool := [0x1E, 0x4B, 0x2D, 0x33, 0x66].contains (bits w.toNat 0 8)

/-- R336, R343: the RX lanes bonded with lane `j`, itself among them. -/
def State.bonded (s : State) (j : Nat) : List Nat :=
  match s.get Reg.RX_CFG_RXW with
  | 0 => [j]
  | 1 => if j < 2 then [0, 1] else [j]
  | _ => [0, 1, 2, 3]

/-- R336: the deskew's window, 16 blocks of 3.2 ticks, in parts of a tick. -/
def deskewWindow : Nat := 256 * tickU / 5

/-- R336: the reports of the frame that a lane holds go to the host-report decoder. -/
def State.rxDeliver (s : State) (j : Nat) : State :=
  match (s.rx j).held with
  | some (_, _, ws) => ws.foldl (fun a w => a.hostReport w) (s.setRx j { s.rx j with held := none })
  | none => s

/-- R336: the frame a lane holds has waited longer than the deskew's window. -/
def State.rxStale (s : State) (j time : Nat) : Bool :=
  match (s.rx j).held with
  | some (_, at0, _) => decide (at0 + deskewWindow < time)
  | none => false

/-- R336: a lane holds a frame of this count. -/
def State.rxHolds (s : State) (j fcnt : Nat) : Bool :=
  match (s.rx j).held with
  | some (f, _, _) => f == fcnt
  | none => false

/-- R336: the reports of a frame wait until every bonded lane that is UP has the frame of the same count, up to 16 blocks; a lane
without a bond delivers at once.  The model settles what the rule leaves open in notes/assumptions/91.md. -/
def State.deskew (s : State) (j fcnt time : Nat) (ws : List Word64) : State :=
  let bond := s.bonded j
  let s1 := bond.foldl (fun a x => if a.rxStale x time then a.rxDeliver x else a) s
  let s2 := s1.setRx j { s1.rx j with held := some (fcnt, time, ws) }
  if bond.all (fun x => s2.rxState x != 5 || s2.rxHolds x fcnt) then
    bond.foldl (fun a x => if a.rxHolds x fcnt then a.rxDeliver x else a) s2
  else s2

/-- R323, R335: a frame received as the lock expects it. -/
def RxSt.received (v : RxSt) (fcnt : Nat) (ws : List Word64) : RxSt :=
  { v with frame := some (fcnt, ws), ferr := v.ferr + (ws.filter (fun w => !knownType w)).length,
           lk := { v.lk with win := List.replicate 64 true, next := v.lk.count + 1, missed := 0 } }

/-- R323, R336, R352: an RX frame on an UP lane: its time words go to the time unit, ahead of the deskew, its reports to the
host-report decoder. -/
def State.rxFrame (s : State) (j time fcnt : Nat) (tf : Bool) (ws : List Word64) : State :=
  if s.rxState j = 5 ∧ s.time.run then
    let s0 := s.adv (time / tickU)
    let s1 := s0.setRx j ((s0.rx j).received fcnt ws)
    let s2 :=
      match tf, ws with
      | true, [w2, w3, w4, w5, w6, w7] =>
        if j = s1.get Reg.TT_CFG_RXLANE ∧ s1.on Reg.TT_CFG_EN then s1.timeFrame fcnt (uiAfter time) w2 w3 w4 w5 w6 w7 else s1
      | _, _ => s1
    s2.deskew j fcnt time (if tf then [] else ws.filter (fun w => bits w.toNat 0 8 == 0x66))
  else s

def execRxFrame (j : Fin 4) (time : Nat) (fcnt : BitVec 32) (tf : Bool) (w2 w3 w4 w5 w6 w7 : Word64) (s : State) :
    Host.Outcome State Fault Refusal := .next (s.rxFrame j.val time fcnt.toNat tf [w2, w3, w4, w5, w6, w7])

end Sys2Proof.Machine
end

