-- ==== Sys2Proof/Machine/Line.lean ====
section
/-! DEFINITION. The line code of the tether (R17, R368): the 8b/10b code of IEEE 802.3 Clause 36, and a message as a port receives it
from a line that upset some bits. -/
namespace Sys2Proof.Machine

/-! ### The code groups -/

/-- The six-bit and four-bit halves at negative running disparity, bit `a` (`f`) highest. -/
def sixNeg (x : Nat) : Nat :=
  [0x27, 0x1D, 0x2D, 0x31, 0x35, 0x29, 0x19, 0x38, 0x39, 0x25, 0x15, 0x34, 0x0D, 0x2C, 0x1C, 0x17, 0x1B, 0x23, 0x13, 0x32, 0x0B,
   0x2A, 0x1A, 0x3A, 0x33, 0x26, 0x16, 0x36, 0x0E, 0x2E, 0x1E, 0x2B].getD x 0
def fourNeg (y : Nat) : Nat := [0xB, 0x9, 0x5, 0xC, 0xD, 0xA, 0x6, 0xE].getD y 0

/-- The ones of a half of `n` bits. -/
def onesOf (n v : Nat) : Nat := sumOf ((List.range n).map (fun i => b2n (v.testBit i)))

/-- A half at a running disparity (`true`: positive): the complement of the negative one where that is unbalanced, and for
D.x.3 and D.7. -/
def halfAt (rd : Bool) (n v : Nat) : Nat :=
  if rd && (onesOf n v * 2 != n || (n == 6 && v == 0x38) || (n == 4 && v == 0xC)) then 2 ^ n - 1 - v else v

/-- The running disparity after a half of `n` bits. -/
def rdAfter (rd : Bool) (n v : Nat) : Bool :=
  if onesOf n v * 2 = n then rd else decide (onesOf n v * 2 > n)

/-- D.x.7 takes the alternate half after these. -/
def altSeven (rd : Bool) (x : Nat) : Bool := if rd then x == 11 || x == 13 || x == 14 else x == 17 || x == 18 || x == 20

/-- The four-bit half of D.x.y at the running disparity after the six-bit one. -/
def fourOf (rd : Bool) (x y : Nat) : Nat := halfAt rd 4 (if y == 7 && altSeven rd x then 0x7 else fourNeg y)

/-- A data byte as its code group, and the running disparity after it. -/
def encodeData (rd : Bool) (b : Byte) : Nat × Bool :=
  let six := halfAt rd 6 (sixNeg (b.toNat % 32))
  let rd1 := rdAfter rd 6 six
  let four := fourOf rd1 (b.toNat % 32) (b.toNat / 32)
  (six * 16 + four, rdAfter rd1 4 four)

/-- Bytes as code groups. -/
def encodeLine : Bool → List Byte → List Nat
  | _, [] => []
  | rd, b :: r =>
    let x := encodeData rd b
    x.1 :: encodeLine x.2 r

/-- R368: a code group as a data byte, and the running disparity after it; any other group is a code error inside a message. -/
def decodeData (rd : Bool) (g : Nat) : Option (Byte × Bool) :=
  match (List.range 32).find? (fun x => halfAt rd 6 (sixNeg x) == g / 16) with
  | none => none
  | some x =>
    let rd1 := rdAfter rd 6 (g / 16)
    match (List.range 8).find? (fun y => fourOf rd1 x y == g % 16) with
    | none => none
    | some y => some (BitVec.ofNat 8 (32 * y + x), rdAfter rd1 4 (g % 16))

/-- Code groups as bytes; none where one is a code error. -/
def decodeLine : Bool → List Nat → Option (List Byte)
  | _, [] => some []
  | rd, g :: r =>
    match decodeData rd g with
    | none => none
    | some (b, rd1) => (decodeLine rd1 r).map (b :: ·)

/-! ### A message received -/

/-- Bit `i` of the line upset: bits of a group are numbered as they are sent. -/
def upsetBit (gs : List Nat) (i : Nat) : List Nat := gs.modify (i / 10) (fun g => g ^^^ 2 ^ (9 - i % 10))

/-- R375: the fields of a received message, CRC apart. -/
def msgOfBytes (bs : List Byte) : Msg :=
  { dest := bs.getD 0 0, src := bs.getD 1 0, tagw := BitVec.ofNat 16 (fieldOf bs 2 2), opcode := bs.getD 4 0, status := bs.getD 5 0,
    seq := BitVec.ofNat 16 (fieldOf bs 6 2), epoch := BitVec.ofNat 16 (fieldOf bs 10 2), payload := (bs.drop 12).take (bs.length - 16) }

/-- R368, R375, R378: a message whose header, payload and CRC met upset bits on the line, as the port receives it, and whether it
passes its checks.  /S/ leaves the running disparity negative. -/
def received (m : Msg) (upsets : List Nat) : Msg × Bool :=
  if upsets.isEmpty then (m, true)
  else
    match decodeLine false (upsets.foldl upsetBit (encodeLine false (msgBytes m))) with
    | none => (m, false)
    | some bs =>
      (msgOfBytes bs, fieldOf bs 8 2 + 16 == bs.length && crc32c (bs.take (bs.length - 4)) == ofLeBytes (bs.drop (bs.length - 4)))

end Sys2Proof.Machine
end

