-- ==== Sys2Proof/Machine/Tether.lean ====
section
/-! DEFINITION. Control ports (R368 to R390, R477): the ring, messages and responses, posted-write failures and fences,
ownership.  Register accesses by message are in Machine/Ports.lean. -/
namespace Sys2Proof.Machine

/-! ### Responses (R375, R376, R384) -/

/-- R372: the position of a tether port. -/
def State.pos (s : State) (p : Nat) : Nat := s.get (Reg.TH_CTRL_POS p)

/-- R375: TAG, RSP and NP of a message. -/
def msgTag (m : Msg) : Nat := m.tagw.toNat % 4096
def msgNp (m : Msg) : Bool := m.tagw.getLsbD 13

/-- R375: the response to a command. -/
def State.responseMsg (s : State) (p : Nat) (m : Msg) (status : Nat) (payload : List Byte) : Msg :=
  { dest := m.src, src := BitVec.ofNat 8 (if p < 2 then s.pos p else 0), tagw := BitVec.ofNat 16 (msgTag m + 0x1000),
    opcode := m.opcode, status := BitVec.ofNat 8 status, seq := m.seq, epoch := m.epoch, payload := payload }

/-- R379: the code of a status. -/
def Status.code : Status → Nat
  | .ok => 0
  | .badAddress => 1
  | .prot => 2
  | .domainOff => 3
  | .ecc => 4
  | .notOwner => 5
  | .roleStale => 6
  | .adoptStale => 7
  | .mboxFull => 8
  | .timeout => 9
  | .badMsg => 10
  | .authFail => 11
  | .owned => 12
  | .challenge => 13
  | .dbg c => c

/-- R498: the fields of a response that the monitor prints: the words of a READ, else the bytes of the payload in one
field (notes/assumptions/43.md). -/
def monFields (op : Nat) (payload : List Byte) : List (List Byte) :=
  if payload.isEmpty then []
  else if op = 1 then (List.range (payload.length / 4)).map (fun i => hexOf 8 (ofLeBytes ((payload.drop (4 * i)).take 4)))
  else [hexBytes payload]

/-- R376, R384, R386, R498: the response to a command leaves on its port; a broadcast gets none. -/
def State.respond (s : State) (p : Nat) (m : Msg) (st : Status) (payload : List Byte) : State :=
  let r := s.responseMsg p m st.code payload
  let s1 := { s with lastStatus := st }
  if m.dest == 0xFF then s1
  else if p < 2 then
    let q := s1.port p
    if q.inserted then (s1.setPort p { q with flight := q.flight ++ [(r, 0)] }).emit p r else s1
  else if p = 2 then (if s1.ccUp then s1.emit 2 r else s1.bump Reg.CC_STAT_DROP 1)
  else if s1.monAlive then
    s1.printLine (if st = .ok then okLine (monFields m.opcode.toNat payload) else errLine st.code (monFields 0 payload))
  else s1

/-- R392: the port works: SVC is on, and on the host channel the device is in ARMED or ACQUIRE. -/
def State.portUp (s : State) (p : Nat) : Bool := s.dom 1 && (p ≠ 2 || s.armed)

/-! ### Ownership and the lease (R387) -/

/-- R387: the states of OWN_STAT. -/
def oNONE : Nat := 0
def oOWNED : Nat := 1
def oHANDING : Nat := 2
def State.ownState (s : State) : Nat := s.get Reg.OWN_STAT_STATE
def State.isOwner (s : State) (p : Nat) : Bool := s.owner? == some p
def State.eligible (s : State) (p : Nat) : Bool := s.fbit Reg.OWN_CFG_ELIG p

/-- R387: the lease starts. -/
def State.leaseStart (s : State) : State :=
  { (s.put Reg.OWN_STAT_LEFT (s.get Reg.OWN_CFG_LEASE)) with leaseAt := s.time.tick, leaseLoose := false }

/-- R387: any command from the owner restarts the lease. -/
def State.renew (s : State) (p : Nat) : State := if s.isOwner p then s.leaseStart else s

/-! ### The ring (R369 to R378, R386) -/

/-- R371: TH_CTRL.EN changes: the port inserts, or leaves, at the next boundary. -/
def State.thEnable (s : State) (p : Nat) (en : Bool) : State :=
  let q := s.port p
  let s1 := s.put (Reg.TH_CTRL_EN p) (b2n en)
  if en then s1.setPort p { q with insertDue := !q.inserted, removeDue := false }
  else s1.setPort p { q with insertDue := false, removeDue := q.inserted }

/-- R371: JOIN. -/
def State.join (s : State) (p : Nat) : State := if s.dom 1 then s.thEnable p true else s

/-- R386: the port leaves LONE when a command from SRC 0 arrives, and sends what it kept. -/
def State.leaveLone (s : State) (p : Nat) : State := (s.put (Reg.TH_STAT_LONE p) 0).pump p

/-- R386, R387: a command from the controller has arrived on a tether port. -/
def State.heard (s : State) (p : Nat) : State := (s.leaveLone p).renew p

/-- R371, R376: a JOIN broadcast, heard also on a port that is not inserted. -/
def execJoin (p : Fin 2) (s : State) : Host.Outcome State Fault Refusal :=
  .next (if s.dom 1 then (s.heard p.val).join p.val else s)

/-- R372: RING_POS; above 63 acts as 0, automatic. -/
def State.ringPos (s : State) : Nat := if s.optByte 1 > 63 then 0 else s.optByte 1

/-- R372: NUMBER gives an automatic port the HOP value that it writes. -/
def State.number (s : State) (p hop : Nat) : State :=
  if s.ringPos = 0 ∧ s.dom 1 then s.put (Reg.TH_CTRL_POS p) (hop + 1) else s

def execNumber (p : Fin 2) (hop : BitVec 8) (s : State) : Host.Outcome State Fault Refusal :=
  .next (if (s.port p.val).inserted && s.dom 1 then (s.heard p.val).number p.val hop.toNat else s)

/-- R371: the bypass opens: the port is inserted. -/
def State.portInsert (s : State) (p : Nat) : State :=
  let q := s.port p
  if q.insertDue && s.dom 1 then (s.setPort p { q with inserted := true, insertDue := false }).pump p else s

/-- R371: the bypass closes; what the port had in flight is lost with the ring. -/
def State.portRemove (s : State) (p : Nat) : State :=
  let q := s.port p
  if q.removeDue then
    (s.setPort p { q with inserted := false, removeDue := false, flight := [] }).put (Reg.TH_STAT_SYNC p) 0
  else s

def execPortInsert (p : Fin 2) (s : State) : Host.Outcome State Fault Refusal := .next (s.portInsert p.val)
def execPortRemove (p : Fin 2) (s : State) : Host.Outcome State Fault Refusal := .next (s.portRemove p.val)

/-- R378, R387: an accepted command joins the port's input queue, and its arrival restarts the owner's lease. -/
def State.enqueue (s : State) (p : Nat) (m : Msg) : State :=
  let q := s.port p
  let s1 := (s.setPort p { q with inq := q.inq ++ [m] }).renew p
  if p < 2 then s1.put (Reg.TH_STAT_INQ p) (q.inq.length + 1) else s1

/-- R387: a command that executes restarts the owner's lease where it arrives now; one from the input queue did so when it arrived,
since when an unknown time has passed if the time base stands still. -/
def State.renewNew (s : State) (p : Nat) (m : Msg) : State :=
  if (s.port p).inq.head? = some m then (if s.isOwner p && !s.time.run then { s with leaseLoose := true } else s) else s.renew p

/-- The command that executes leaves the input queue if it is its head. -/
def State.dequeue (s : State) (p : Nat) (m : Msg) : State :=
  let q := s.port p
  match q.inq with
  | x :: r =>
    if x = m then
      let s1 := s.setPort p { q with inq := r }
      if p < 2 then s1.put (Reg.TH_STAT_INQ p) r.length else s1
    else s
  | [] => s

/-- R377: the message on its way round with its trailer. -/
def State.forward (s : State) (p : Nat) (m : Msg) (ackb hop : Nat) : State :=
  { s with sent := s.sent ++ [⟨p, m, ackb, hop⟩] }

/-- R382: a posted WRITE that would not fit the port's queue of 16. -/
def State.postedFull (s : State) (p : Nat) (m : Msg) : Bool :=
  m.opcode == 2 && !msgNp m && decide ((s.port p).posted.length + ((s.port p).inq.filter (fun x => x.opcode == 2 && !msgNp x)).length ≥ 16)

/-- R376: the opcodes; 0x10 to 0x16 are the debug opcodes of R491. -/
def knownOp (op : Nat) : Bool := (1 ≤ op && op ≤ 7) || (9 ≤ op && op ≤ 12) || (16 ≤ op && op ≤ 24)

/-- R376: a broadcast may carry WRITE with NP = 0, RESET, JOIN, LEAVE and NUMBER. -/
def broadcastOp (m : Msg) : Bool :=
  let op := m.opcode.toNat
  (op == 2 && !msgNp m) || op == 7 || op == 9 || op == 10 || op == 11

/-- R386: a message of the port's own comes back: a notice or response outstanding is done where it was accepted, and else the
next that is sent again. -/
def State.returned (s : State) (p : Nat) (m : Msg) (ackb : Nat) : State :=
  let q := s.port p
  match q.flight.find? (fun e => e.1 == m) with
  | none => s
  | some e =>
    let rest := q.flight.erase e
    if ackb = 0xA5 then
      let s1 := s.setPort p { q with flight := rest, notices := if isNotice m then q.notices.erase (keptNotice m) else q.notices }
      (s1.put (Reg.TH_STAT_NQ p) (s1.port p).notices.length).pump p
    else s.setPort p { q with flight := e :: rest }

/-- R376 to R378: what an inserted port does with a command addressed to it: ACKB. -/
def State.addressed (s : State) (p : Nat) (m : Msg) (ackb : Nat) (good : Bool) : Nat × State :=
  if ackb ≠ 0 then (ackb, (if good then s else s.bump (Reg.TH_CNT_BAD p) 1).hwSet (Reg.TH_STAT_DUP p) 1)
  else if !good then (0x3C, s.bump (Reg.TH_CNT_BAD p) 1)
  else if (s.port p).inq.length ≥ 4 || s.postedFull p m then (0x96, s.leaveLone p)
  else if !knownOp m.opcode.toNat || m.opcode == 9 || m.opcode == 11 then (0xA5, (s.heard p).respond p m .badMsg [])
  else (0xA5, (s.leaveLone p).enqueue p m)

/-- R376: a broadcast from the controller. -/
def State.broadcast (s : State) (p : Nat) (m : Msg) (hop : Nat) (good : Bool) : State :=
  if !good || !broadcastOp m then s.bump (Reg.TH_CNT_BAD p) 1
  else
    let s1 := s.leaveLone p
    if m.opcode == 9 || m.opcode == 11 then
      let s2 := s1.renew p
      if !m.payload.isEmpty then s2 else if m.opcode == 9 then s2.join p else s2.number p hop
    else if (s1.port p).inq.length ≥ 4 || s1.postedFull p m then s1
    else s1.enqueue p m

/-- R369, R373, R376 to R378: a message passes a tether port. -/
def State.ringMessage (s : State) (p : Nat) (m : Msg) (ackb hop : Nat) (good : Bool) : State :=
  let q := s.port p
  if !s.dom 1 then s
  else if !q.inserted then
    (if m.dest == 0xFF && m.src == 0 && m.opcode == 9 && m.payload.isEmpty && good then (s.heard p).join p else s)
  else
    let s0 := s.put (Reg.TH_STAT_SYNC p) 1
    let me := s0.pos p
    if me ≠ 0 ∧ m.src.toNat = me then s0.returned p m ackb
    else if hop + 1 ≥ 128 then s0.bump (Reg.TH_CNT_ORPH p) 1
    else if m.src ≠ 0 then s0.forward p m ackb (hop + 1)
    else if m.dest == 0xFF then (s0.broadcast p m hop good).forward p m ackb (hop + 1)
    else if me ≠ 0 ∧ m.dest.toNat = me then
      let r := s0.addressed p m ackb good
      r.2.forward p m r.1 (hop + 1)
    else s0.forward p m ackb (hop + 1)

/-- R368, R378: the message as the line brought it. -/
def execTetherMessage (p : Fin 2) (msg : Msg) (ackb hop : BitVec 8) (upsets : List Nat) (s : State) :
    Host.Outcome State Fault Refusal :=
  .next (s.ringMessage p.val (received msg upsets).1 ackb.toNat hop.toNat (received msg upsets).2)

/-- R376, R384: a control message in the payload of an RX lane that is UP; a DEST from 64 to 254 is never executed (R375). -/
def State.hostMessage (s : State) (m : Msg) (good : Bool) : State :=
  if !(s.on Reg.CC_CFG_EN && s.armed && (List.range 4).any (fun j => s.get (Reg.LN_RXSTAT_STATE j) == 5)) then s
  else if !good then s.bump Reg.CC_STAT_BAD 1
  else if m.src ≠ 0 ∨ (64 ≤ m.dest.toNat ∧ m.dest ≠ 0xFF) ∨ (m.dest = 0xFF ∧ !broadcastOp m) then s
  else if !knownOp m.opcode.toNat || m.opcode == 9 || m.opcode == 11 || s.postedFull 2 m then (s.renew 2).respond 2 m .badMsg []
  else s.enqueue 2 m

def execHostControlMessage (msg : Msg) (good : Bool) (s : State) : Host.Outcome State Fault Refusal :=
  .next (s.hostMessage msg good)

/-- R386: the message outstanding that came back unaccepted last, or the oldest that is late: resent, and after 3 retries kept with
LONE set (a notice) or discarded (a response). -/
def State.retryMsg (s : State) (p : Nat) : State :=
  let q := s.port p
  match q.flight with
  | [] => s
  | (m, n) :: r =>
    if n < 3 then (s.setPort p { q with flight := r ++ [(s.fromHere p m, n + 1)] }).emit p (s.fromHere p m)
    else
      let s1 := s.setPort p { q with flight := r }
      if isNotice m then s1.put (Reg.TH_STAT_LONE p) 1 else s1.bump (Reg.TH_CNT_RLOST p) 1

def execNoticeRetry (p : Fin 2) (s : State) : Host.Outcome State Fault Refusal := .next (s.retryMsg p.val)

/-! ### Changes of owner (R387 to R390) -/

/-- R387, R391: OWN_STAT.LEFT: the lease remaining in ms, of 1,250,000 ticks; where the time base has not run all the while, a free
value no greater (notes/assumptions/92.md). -/
def State.leaseLeft (s : State) : Nat :=
  let m := s.get Reg.OWN_STAT_LEFT - (s.time.tick - s.leaseAt) / 1250000
  if s.ownState = oNONE then 0
  else if s.get Reg.OWN_CFG_LEASE = 0 then 0xFFFF
  else if s.leaseLoose || !s.time.run then Config.free s.freeCtr % (m + 1)
  else m

/-- R387, R391: OWN_STAT.LEFT as master `m` reads it: the owner's own command has just restarted the lease. -/
def State.leaseShown (s : State) (m : Nat) : Nat :=
  if s.isOwner m && !s.leaseLoose && !s.time.run then (if s.get Reg.OWN_CFG_LEASE = 0 then 0xFFFF else s.get Reg.OWN_STAT_LEFT)
  else s.leaseLeft

/-- R385, R389: the notice of an ownership change; the spec gives no code to the cause, nor to an absent new owner. -/
def State.ownNotice (s : State) (p old : Nat) (new : Option Nat) : State :=
  let a := match new with | some q => q | none => Config.free (s.freeCtr + 1) % 256
  ({ s with freeCtr := s.freeCtr + 2 }).notice p 1
    [BitVec.ofNat 8 old, BitVec.ofNat 8 a, BitVec.ofNat 8 (Config.free s.freeCtr % 256)]

/-- R387: port `p` owns the device from now on. -/
def State.own (s : State) (p : Nat) : State :=
  (((s.put Reg.OWN_STAT_STATE oOWNED).put Reg.OWN_STAT_OWNER p).put Reg.OWN_STAT_TARGET 0).leaseStart

/-- R387: nobody owns the device. -/
def State.disown (s : State) : State :=
  ((s.put Reg.OWN_STAT_STATE oNONE).put Reg.OWN_STAT_TARGET 0).put Reg.OWN_STAT_LEFT 0

/-- R477: the bytes that a CLAIM's MAC covers. -/
def State.claimBytes (s : State) (p nonce : Nat) : List Byte :=
  leBytes 16 nonce ++ leBytes 8 (s.get Reg.SEC_DEVID_ID) ++ [BitVec.ofNat 8 p]

/-- R477: the MAC is right. -/
def State.macOk (s : State) (p nonce : Nat) (mac : List Byte) : Bool :=
  decide (ofLeBytes mac = ofLeBytes (leBytes 32 ((Config.hmacSha256 (BitVec.ofNat 256 s.claimKey) (s.claimBytes p nonce)).toNat)))

/-- R388: the verdict on a CLAIM that ownership does not stand in the way of: OK, a challenge with its nonce, or a refusal.  A MAC is
late where the command says so or 100 ms of ticks have passed (notes/assumptions/92.md). -/
def State.claimCheck (s : State) (p : Nat) (payload : List Byte) (late : Bool) : Status × List Byte × State :=
  let q := s.port p
  let spent := s.setPort p { q with nonce := none }
  if s.lc = 2 then
    if payload.isEmpty then
      if s.on Reg.SEC_STAT_RNGFAIL then (.authFail, [], s)
      else
        let n := s.fresh 128
        (.challenge, leBytes 16 n, s.spend.setPort p { q with nonce := some n, nonceAt := s.clock? })
    else
      match q.nonce with
      | some n => if !late && q.nonceAt.all (fun t => decide (s.time.tick ≤ t + 125000000)) && s.macOk p n payload then (.ok, [], spent) else (.authFail, [], spent)
      | none => (.authFail, [], s)
  else if payload.isEmpty then (.ok, [], s)
  else (.authFail, [], spent)

/-- R387, R388: a CLAIM from port `p`. -/
def State.claimPort (s : State) (p : Nat) (payload : List Byte) (late : Bool) : Status × List Byte × State :=
  if !(payload.length = 0 ∨ payload.length = 32) then (.badMsg, [], s)
  else if s.lc = 4 then (.authFail, [], s)
  else if s.ownState = oHANDING ∧ s.get Reg.OWN_STAT_TARGET ≠ p then
    (.owned, [], (s.put Reg.OWN_STAT_STATE oOWNED).put Reg.OWN_STAT_TARGET 0)
  else if s.ownState = oOWNED ∧ !s.isOwner p then (.owned, [], s)
  else if !s.eligible p then (.authFail, [], s)
  else
    let r := s.claimCheck p payload late
    match r.1 with
    | .ok =>
      let old := s.get Reg.OWN_STAT_OWNER
      if s.ownState = oHANDING then (.ok, [], (r.2.2.own p).ownNotice old old (some p)) else (.ok, [], r.2.2.own p)
    | st => (st, r.2.1, r.2.2)

/-- R387, R388: the CLAIM row. -/
def State.claimCmd (s : State) (p : Nat) (m0 : Msg) (late : Bool) : State :=
  let m := { m0 with opcode := 4 }
  let s1 := (s.renewNew p m).dequeue p m
  let r := s1.claimPort p m.payload late
  r.2.2.respond p m r.1 r.2.1

def execClaim (p : Fin 4) (msg : Msg) (late : Bool) (s : State) : Host.Outcome State Fault Refusal :=
  .next (if s.portUp p.val then s.claimCmd p.val msg late else s)

/-- R387: HANDOVER to port `q`; a command of the owner leaves a handover in progress as it is. -/
def State.handoverPort (s : State) (p q : Nat) : Status × State :=
  if !s.isOwner p then (.notOwner, s)
  else if s.ownState = oHANDING then (.ok, s)
  else if q > 3 ∨ !s.eligible q then (.prot, s)
  else (.ok, (s.put Reg.OWN_STAT_STATE oHANDING).put Reg.OWN_STAT_TARGET q)

def State.handoverCmd (s : State) (p : Nat) (m0 : Msg) : State :=
  let m := { m0 with opcode := 5 }
  let s1 := (s.renewNew p m).dequeue p m
  match m.payload with
  | [q] =>
    let r := s1.handoverPort p q.toNat
    r.2.respond p m r.1 []
  | _ => s1.respond p m .badMsg []

def execHandover (p : Fin 4) (msg : Msg) (s : State) : Host.Outcome State Fault Refusal := .next (if s.portUp p.val then s.handoverCmd p.val msg else s)

/-- R387: RELEASE; a command of the owner leaves a handover in progress as it is. -/
def State.releasePort (s : State) (p : Nat) : Status × State :=
  if !s.isOwner p then (.notOwner, s)
  else if s.ownState = oHANDING then (.ok, s)
  else (.ok, s.disown)

def State.releaseCmd (s : State) (p : Nat) (m0 : Msg) : State :=
  let m := { m0 with opcode := 6 }
  let s1 := (s.renewNew p m).dequeue p m
  if !m.payload.isEmpty then s1.respond p m .badMsg []
  else
    let r := s1.releasePort p
    r.2.respond p m r.1 []

def execRelease (p : Fin 4) (msg : Msg) (s : State) : Host.Outcome State Fault Refusal := .next (if s.portUp p.val then s.releaseCmd p.val msg else s)

/-- R387: the lease ends: no owner, a notice to the old one, a low-severity error of source 10. -/
def State.leaseExpire (s : State) : State :=
  match s.owner? with
  | some p =>
    if s.get Reg.OWN_CFG_LEASE = 0 then s
    else (s.disown.ownNotice p p none).errFree { sev := 1, src := 10, code := 0x08, unit := 0 }
  | none => s

def execLeaseExpiry (s : State) : Host.Outcome State Fault Refusal := .next s.leaseExpire

/-- R387: the handover timer ends. -/
def State.handoverEnd (s : State) : State :=
  if s.ownState = oHANDING then (s.put Reg.OWN_STAT_STATE oOWNED).put Reg.OWN_STAT_TARGET 0 else s

def execHandoverTimeout (s : State) : Host.Outcome State Fault Refusal := .next s.handoverEnd

/-- R371, R390: LEAVE from the owner's port takes a tether port out of the ring; the other ports are in none (notes/assumptions/92.md). -/
def State.leaveCmd (s : State) (p : Nat) (m0 : Msg) : State :=
  let m := { m0 with opcode := 10 }
  let s1 := (s.renewNew p m).dequeue p m
  if !m.payload.isEmpty then s1.respond p m .badMsg []
  else if !s1.isOwner p then s1.respond p m .notOwner []
  else if p < 2 then (s1.respond p m .ok []).thEnable p false
  else s1.respond p m .ok []

def execLeave (p : Fin 4) (msg : Msg) (s : State) : Host.Outcome State Fault Refusal := .next (if s.portUp p.val then s.leaveCmd p.val msg else s)

/-- R376: PING returns its bytes. -/
def State.pingCmd (s : State) (p : Nat) (m0 : Msg) : State :=
  let m := { m0 with opcode := 12 }
  ((s.renewNew p m).dequeue p m).respond p m .ok m.payload

def execPing (p : Fin 4) (msg : Msg) (s : State) : Host.Outcome State Fault Refusal := .next (if s.portUp p.val then s.pingCmd p.val msg else s)

/-! ### Posted-write failures and fences (R383) -/

/-- R383: the four words of a posted-write log entry. -/
def pwWords (w : Posted) (p status tick : Nat) : List Nat :=
  [w.seq % 2 ^ 16 * 0x10000 + w.tag % 4096, w.addr, status * 2 ^ 24 + p * 2 ^ 22 + w.src % 64 * 2 ^ 16 + w.epoch % 2 ^ 16,
   tick % 2 ^ 32]

/-- R383: a posted write fails at its first word left: the log entry, the port's failure count, a notice of kind 0. -/
def State.postedFail (s : State) (p : Nat) (w : Posted) (st : Status) : State :=
  let i := s.get Reg.PW_STAT_NEXT % 16
  let n := s.get Reg.PW_STAT_COUNT
  let s1 := ((((((((s.put (Reg.PW_LOG0_SEQ i) w.seq).put (Reg.PW_LOG0_TAG i) w.tag).put (Reg.PW_LOG1_ADDR i) w.addr).put
    (Reg.PW_LOG2_STATUS i) st.code).put (Reg.PW_LOG2_PORT i) p).put (Reg.PW_LOG2_SRC i) w.src).put
    (Reg.PW_LOG2_EPOCH i) w.epoch).put (Reg.PW_LOG3_TICK i) s.now).put Reg.PW_STAT_NEXT ((i + 1) % 16)
  let s2 := if n ≥ 16 then s1.bump Reg.PW_STAT_OVF 1 else s1.put Reg.PW_STAT_COUNT (n + 1)
  let q := s2.port p
  let s3 := s2.setPort p { q with fails := min 65535 (q.fails + 1), failSeq := if q.fails = 0 then w.seq else q.failSeq,
                                  failSts := if q.fails = 0 then st.code else q.failSts }
  { (s3.notice p 0 ((pwWords w p st.code s.now).flatMap (leBytes 4))) with lastStatus := st }

/-- R391: PW_STAT.CLR empties the log and clears OVF. -/
def State.pwClear (s : State) : State :=
  let z := fun (a : State) (f : Field) => a.put f 0
  let s1 := (List.range 16).foldl (fun a i => [Reg.PW_LOG0_SEQ i, Reg.PW_LOG0_TAG i, Reg.PW_LOG1_ADDR i, Reg.PW_LOG2_STATUS i,
    Reg.PW_LOG2_PORT i, Reg.PW_LOG2_SRC i, Reg.PW_LOG2_EPOCH i, Reg.PW_LOG3_TICK i].foldl z a) s
  [Reg.PW_STAT_OVF, Reg.PW_STAT_COUNT].foldl z s1

/-- R383: a FENCE waits for the posted writes ahead of it. -/
def State.fencePort (s : State) (p : Nat) (m : Msg) : State :=
  let q := s.port p
  s.setPort p { q with fence := q.fence ++ [(m, q.posted.length)] }

def State.fenceCmd (s : State) (p : Nat) (m0 : Msg) : State :=
  let m := { m0 with opcode := 3 }
  let s1 := (s.renewNew p m).dequeue p m
  if m.payload.isEmpty then s1.fencePort p m else s1.respond p m .badMsg []

def execFence (p : Fin 4) (msg : Msg) (s : State) : Host.Outcome State Fault Refusal := .next (if s.portUp p.val then s.fenceCmd p.val msg else s)

/-- R383: the oldest fence answers once no posted write is ahead of it, and clears the count. -/
def State.fenceDone (s : State) (p : Nat) : State :=
  let q := s.port p
  match q.fence with
  | (m, 0) :: r =>
    (s.setPort p { q with fence := r, fails := 0, failSeq := 0, failSts := 0 }).respond p m .ok
      (leBytes 2 q.fails ++ leBytes 2 q.failSeq ++ leBytes 1 q.failSts ++ [0, 0, 0])
  | _ => s

def execFenceComplete (p : Fin 4) (s : State) : Host.Outcome State Fault Refusal := .next (s.fenceDone p.val)

/-- R382, R383: the posted write at the head of a port's queue ends. -/
def State.postedEnd (s : State) (p : Nat) : State :=
  let q := s.port p
  s.setPort p { q with posted := q.posted.tail, fence := q.fence.map (fun e => (e.1, e.2 - 1)) }

end Sys2Proof.Machine
end

