-- ==== Sys2Proof/Machine/Wave.lean ====
section
/-! DEFINITION. The waveform digitiser (R203 to R221, R227, R230 to R235): samples and their correction, the reduction
units, trigger marks, tuning, self-calibration and slice failure. -/
namespace Sys2Proof.Machine

def State.setWave (s : State) (w : WaveSt) : State := { s with wave := w }
def State.wr (s : State) (u : Nat) : WrSt := SMap.get s.units u WrSt.reset
def State.setWr (s : State) (u : Nat) (v : WrSt) : State := { s with units := SMap.set s.units u v WrSt.reset }

/-! ### Roles (R203, R204, R218, R219) -/

/-- R204: MODE; 2 and 3 act as 0. -/
def State.waveMode (s : State) : Nat := if s.get Reg.WAVE_CTRL_MODE = 1 then 1 else 0
def State.roleP0 (s : State) : Nat := s.get Reg.WAVE_STAT_ROLE_P0
def State.roleP1 (s : State) : Nat := s.get Reg.WAVE_STAT_ROLE_P1
def State.roleT (s : State) : Nat := s.get Reg.WAVE_STAT_ROLE_T
/-- The index units between samples. -/
def State.waveStep (s : State) : Nat := if s.waveMode = 0 ∧ s.roleP1 ≠ 3 then 1 else 2
/-- R233: the mode code of an anchor. -/
def State.modeCode (s : State) : Nat := if s.roleP1 = 3 ∨ s.roleP0 = 3 then 2 else s.waveMode

/-- R206: the correction set that a slice uses. -/
def State.corr (s : State) (x : Nat) : CorrSet :=
  ⟨s.get (Reg.CORR_G_OFS x), s.get (Reg.CORR_G_GAIN x), s.get (Reg.CORR_S_SKEW x),
   (List.range 16).flatMap (fun j => [s.get (Reg.INL_E0 x j), s.get (Reg.INL_E1 x j), s.get (Reg.INL_E2 x j),
     s.get (Reg.INL_E3 x j)])⟩

/-- A correction set written to a slice's registers, with new check bits (R501). -/
def State.putCorr (s : State) (x : Nat) (c : CorrSet) : State :=
  let s0 := { s with ecc := SMap.keep s.ecc (fun a => !(decide (a / 8 = 0xA008 + x) || decide (a / 64 = 0x1410 + x))) }
  let s1 := ((s0.put (Reg.CORR_G_OFS x) c.ofs).put (Reg.CORR_G_GAIN x) c.gain).put (Reg.CORR_S_SKEW x) c.skew
  (List.range 16).foldl (fun a j =>
    (((a.put (Reg.INL_E0 x j) (c.inl.getD (4 * j) 0)).put (Reg.INL_E1 x j) (c.inl.getD (4 * j + 1) 0)).put
      (Reg.INL_E2 x j) (c.inl.getD (4 * j + 2) 0)).put (Reg.INL_E3 x j) (c.inl.getD (4 * j + 3) 0)) s1

/-- R206: the corrected value before it is clipped. -/
def corrected (c : CorrSet) (raw : Nat) : Int :=
  let x16 : Int := 16 * raw + signed 8 (c.inl.getD (raw / 64) 0) - signed 16 c.ofs
  (2048 * 16 * 32768 + (x16 - 2048 * 16) * c.gain + 8 * 32768) / (16 * 32768)

/-- R206: a corrected sample of slice `x`, clipped and counted. -/
def State.sampleOf (s : State) (x raw : Nat) : Nat × State :=
  let v := corrected (s.corr x) raw
  if v < 0 then (0, (s.hwSet Reg.WAVE_STAT_CLIP 1).bump Reg.WAVE_OVR_COUNT 1)
  else if v > 4095 then (4095, (s.hwSet Reg.WAVE_STAT_CLIP 1).bump Reg.WAVE_OVR_COUNT 1)
  else (v.toNat, s)

/-! ### Reduction units (R230 to R233) -/

def State.wrKind (s : State) (u : Nat) : Nat := s.get (Reg.WR_CFG_KIND u)
def State.wrStream (s : State) (u : Nat) : Nat := s.get (Reg.WR_CFG_STREAM u)
/-- R230: N. -/
def State.wrN (s : State) (u : Nat) : Nat := 2 ^ min 20 (max 1 (s.get (Reg.WR_CFG_LOG2N u)))
/-- The input a unit takes: 0 FSUM, 1 AIN. -/
def State.wrInput (s : State) (u : Nat) : Nat :=
  if s.waveMode = 0 then s.get Reg.WAVE_CTRL_INSEL else s.get (Reg.WR_CFG_INPUT u)

/-- R232: a unit is enabled, admitted by the commit in force, and its stream takes words. -/
def State.wrLive (s : State) (u : Nat) : Bool :=
  s.on (Reg.WR_CFG_EN u) && s.waveLive &&
    (match s.active? with
     | some k => dget (s.inForce k) (Reg.WR_CFG_EN u) == 1 && s.stLive k (s.wrStream u)
     | none => false)

/-- Words of a unit go to the keel merge. -/
def State.wrSend (s : State) (u : Nat) (ws : List Word64) : State :=
  ws.foldl (fun a w => a.toMerge 33 ⟨[w], a.wrStream u, false, .record, u, 0⟩) s

/-- R233: an anchor of a unit for a first sample index. -/
def State.anchorWord (s : State) (u i : Nat) : Word64 :=
  mkWord [(60, 4, 8), (56, 1, s.wrInput u), (54, 2, if s.wrKind u = 3 then 1 else 0), (53, 1, s.get Reg.WAVE_STAT_DEG),
          (50, 3, if s.wrKind u = 3 then (s.wr u).trig else 0), (48, 2, s.modeCode), (0, 48, i)]

/-- R233: a sample record. -/
def sampleWord (vs : List Nat) : Word64 := mkWord ((60, 4, 7) :: vs.zipIdx.map (fun (v, i) => (12 * i, 12, v)))

/-- R233: an envelope record and a mean record. -/
def envWord (input start lo hi : Nat) : Word64 :=
  mkWord [(60, 4, 8), (57, 3, 1), (56, 1, input), (44, 12, lo), (32, 12, hi), (0, 32, start)]
def meanWord (input start sum n : Nat) : Word64 :=
  mkWord [(60, 4, 8), (57, 3, 2), (56, 1, input), (32, 24, (2 * sum * 4096 + n) / (2 * n)), (0, 32, start)]

/-- R231: PRE and POST of a unit. -/
def State.wrPre (s : State) (u : Nat) : Nat := winPre (s.get (Reg.WR_WIN_PRE u))
def State.wrPost (s : State) (u : Nat) : Nat := winPost (s.get (Reg.WR_WIN_PRE u)) (s.get (Reg.WR_WIN_POST u))

/-- R231: the end of a window from its start, in whole records (notes/assumptions/28.md). -/
def winEnd (step a b : Nat) : Nat := a + 5 * step * ceilDiv (b - a) (5 * step)

/-- R231: the longest window in samples, in whole records. -/
def winMax : Nat := 1048580

/-- A unit that is not live holds nothing of a run. -/
def WrSt.cleared (v : WrSt) : WrSt := { WrSt.reset with sent := v.sent }

/-- R232, R233: five samples of a unit make a record, with an anchor where one is due; a unit that is not live sends nothing and holds
nothing. -/
def State.sampleRecord (s : State) (u : Nat) : State :=
  let t := s.wr u
  let five := t.buf.take 5
  if !s.wrLive u then s.setWr u t.cleared else
  match five with
  | (i, _) :: _ =>
    if five.length < 5 then s
    else
      let anchor := t.anchor || t.run == 256
      let ws := (if anchor then [s.anchorWord u i] else []) ++ [sampleWord (five.map (·.2))]
      let nxt := (five.getLastD (0, 0)).1 + s.waveStep
      (s.wrSend u ws).setWr u { t with buf := t.buf.drop 5, anchor := false, run := if anchor then 1 else t.run + 1,
                                       sent := max t.sent nxt }
  | [] => s

def execSampleRecord (u : Fin 4) (s : State) : Host.Outcome State Fault Refusal := .next (s.sampleRecord u.val)

/-- R230, R232: a complete interval of a unit is sent. -/
def State.intervalRecord (s : State) (u : Nat) : State :=
  let t := s.wr u
  if !s.wrLive u then s.setWr u t.cleared else
  match t.done with
  | (a, lo, hi, sum) :: r =>
    let w := if s.wrKind u = 1 then envWord (s.wrInput u) a lo hi else meanWord (s.wrInput u) a sum (s.wrN u)
    (s.wrSend u [w]).setWr u { t with done := r }
  | [] => s

def execWaveIntervalRecord (u : Fin 4) (s : State) : Host.Outcome State Fault Refusal := .next (s.intervalRecord u.val)

/-- R231: the records that a unit's samples still fill are sent. -/
def State.wrFlush (s : State) (u : Nat) : State :=
  (List.range ((s.wr u).buf.length / 5)).foldl (fun a _ => a.sampleRecord u) s

/-- R231: the history of a unit's input, the earliest sample first. -/
def State.wrHist (s : State) (u : Nat) : List (Nat × Nat) := (if s.wrInput u = 0 then s.wave.hist0 else s.wave.hist1).reverse

/-- R231: a window takes its samples of the history from index `a`; `first` is its first index. -/
def State.windowTake (s : State) (u first a stop : Nat) : State :=
  let t := s.wr u
  let got := (s.wrHist u).filter (fun h => decide (a ≤ h.1) && decide (h.1 < stop))
  let nextI := match got.getLast? with | some (x, _) => x + s.waveStep | none => a
  s.setWr u { t with buf := t.buf ++ got, win := some (nextI, stop), winS := first, winN := t.winN + got.length }

/-- R231, R232: a window of a unit for trigger `n` opens at its first unsent index, with an anchor of its own. -/
def State.windowOpen (s : State) (u n from0 until0 : Nat) : State :=
  let step := s.waveStep
  let start := max from0 (s.wr u).sent
  let first := match (s.wrHist u).find? (fun h => decide (start ≤ h.1)) with
    | some (x, _) => x
    | none => alignUp step (max start s.wave.next)
  let c := s.setWr u { s.wr u with anchor := true, run := 0, winN := 0, trig := n, buf := [] }
  if first < until0 then c.windowTake u first first (winEnd step first until0) else s

/-- R231: a window that has taken its last sample closes, and the window that waits for it opens; one of 2²⁰ samples goes on as a new
window. -/
def State.windowEnd (s : State) (u : Nat) : State :=
  match (s.wr u).win with
  | some (i, e) =>
    let a := s.wrFlush u
    if i ≥ e then
      let b := a.setWr u { a.wr u with win := none, winN := 0, anchor := true, buf := [], wait := (a.wr u).wait.drop 1 }
      match (a.wr u).wait with
      | (from0, until0, n) :: _ => b.windowOpen u n from0 until0
      | [] => b
    else if (s.wr u).winN ≥ winMax then a.setWr u { a.wr u with winN := 0, anchor := true }
    else s
  | none => s

/-- R230, R231: one live unit takes the sample of its input. -/
def State.wrSample (s : State) (u j v step : Nat) : State :=
  let t := s.wr u
  match s.wrKind u with
  | 0 => s.setWr u { t with buf := t.buf ++ [(j, v)] }
  | 3 =>
    let s0 := match t.win with
      | some (i, e) => if e ≤ i ∧ !t.wait.isEmpty then s.windowEnd u else s
      | none => s
    match (s0.wr u).win with
    | some (i, e) =>
      if i ≤ j ∧ j < e then
        let a := if (s0.wr u).winN ≥ winMax then s0.windowEnd u else s0
        a.setWr u { a.wr u with buf := (a.wr u).buf ++ [(j, v)], win := some (j + step, e), winN := (a.wr u).winN + 1 }
      else s0
    | none => s0
  | _ =>
    let n := s.wrN u
    let acc := if j % (n * step) = 0 then some (j, 0, 4095, 0, 0) else t.acc
    match acc with
    | some (a, c, lo, hi, sum) =>
      let x := (a, c + 1, min lo v, max hi v, sum + v)
      if c + 1 = n then s.setWr u { t with acc := none, done := t.done ++ [(a, min lo v, max hi v, sum + v)] }
      else s.setWr u { t with acc := some x }
    | none => s

/-- R231, R232: every unit meets a sample of an input. -/
def State.unitsSample (s : State) (input j v step : Nat) : State :=
  (List.range 4).foldl (fun a u =>
    if !a.wrLive u then a.setWr u (a.wr u).cleared
    else if a.wrInput u = input then a.wrSample u j v step
    else a) s

def execWindowEnd (u : Fin 4) (s : State) : Host.Outcome State Fault Refusal := .next (s.windowEnd u.val)

/-- R231: a window that overlaps the last one of those that wait extends it, else it waits behind them. -/
def joinWait (from0 until0 n : Nat) : List (Nat × Nat × Nat) → List (Nat × Nat × Nat)
  | [] => [(from0, until0, n)]
  | [(x, e, m)] => if from0 < e then [(x, max e until0, m)] else [(x, e, m), (from0, until0, n)]
  | w :: r => w :: joinWait from0 until0 n r

/-- R230, R231: trigger `n` fires at an index: the windows of its units, from PRE indices before it to POST indices after, open,
extend the one still being sent that they overlap, or wait until that one has taken its last sample (notes/assumptions/28.md). -/
def State.windowFire (s : State) (n i : Nat) : State :=
  let step := s.waveStep
  (List.range 4).foldl (fun a u =>
    if !(a.wrLive u && a.wrKind u == 3 && a.get (Reg.WR_CFG_CH u) == n) then a
    else
      let from0 := alignUp step (i - a.wrPre u)
      let until0 := i + a.wrPost u
      let b := match (a.wr u).win with
        | some (x, e) => if e ≤ x ∧ e ≤ from0 then a.windowEnd u else a
        | none => a
      match (b.wr u).win with
      | some (x, e) =>
        if from0 < e then b.windowTake u (b.wr u).winS x (winEnd step (b.wr u).winS (max e until0))
        else b.setWr u { b.wr u with wait := joinWait from0 until0 n (b.wr u).wait }
      | none => b.windowOpen u n from0 until0) s

/-! ### Trigger marks (R225, R227, R229) -/

/-- R227: a trigger mark. -/
def trigWord (f : Firing) : Word64 :=
  mkWord [(60, 4, 0xB), (57, 3, f.trig), (55, 2, f.src), (46, 9, f.rem), (0, 46, f.index)]

/-- R225 to R231: a firing is decided: suppressed in a holdoff, or a mark in each selected stream, a mark event, TRIG_OUT and
the windows. -/
def State.fireDecide (s : State) (f : Firing) : State :=
  let n := f.trig
  let s0 := s.adv (f.index / 2 + (if f.src = 0 then 20 else 0))
  let held := match (s0.trg n).last with
    | some l => decide (f.index < l + max 16 (s0.get (Reg.TRG_HOLD_HOLDOFF n)))
    | none => false
  if held then s0.bump (Reg.TRG_CNT_SUP n) 1
  else
    let s1 := (s0.bump (Reg.TRG_CNT_FIRED n) 1).setTrg n { s0.trg n with last := some f.index }
    let mask := s1.get (Reg.TRG_STREAMS_MASK n)
    let s2 := ((List.range 64).filter (fun q => mask.testBit q)).foldl
      (fun a q => a.toMerge 33 ⟨[trigWord f], q, false, .record, 4 + n, 0⟩) s1
    let s3 := s2.mark n n (f.index / 2) (f.index % 2 * 512 + f.rem)
    let s4 := if s3.on Reg.TOUT_CFG_EN && s3.fbit Reg.TOUT_CFG_MASK n then
        s3.setWave { s3.wave with rises := s3.wave.rises ++ [f.index + outLatency f.src] } else s3
    let s5 := if s4.on Reg.MON_ICTRL_WTEN && s4.get Reg.MON_ICTRL_WTRIG == n then s4.injRequest else s4
    s5.windowFire n f.index

/-- The firing of least index, then least trigger. -/
def firstFire : List Firing → Option Firing
  | [] => none
  | f :: r =>
    match firstFire r with
    | none => some f
    | some g => if g.index < f.index ∨ (g.index = f.index ∧ g.trig < f.trig) then some g else some f

/-- R227, R541: the next firing; it waits while the time base is stopped. -/
def State.fireNext (s : State) : State :=
  match firstFire s.firings with
  | none => s
  | some f => if !s.time.run then s else ({ s with firings := s.firings.erase f }).fireDecide f

def execTriggerFire (s : State) : Host.Outcome State Fault Refusal := .next s.fireNext

/-! ### Sampling (R203 to R207, R235) -/

/-- R230, R232: every complete record and interval of a unit is sent. -/
def State.wrDrain (s : State) (u : Nat) : State :=
  (List.range (s.wr u).done.length).foldl (fun a _ => a.intervalRecord u) (s.wrFlush u)

/-- R235: delivery resumes at an index: the gap in progress is marked in every stream that had an enabled unit, after the records
complete before it. -/
def State.gapResume (s : State) (j : Nat) : State :=
  match s.wave.gapAt with
  | none => s
  | some g =>
    let s0 := (List.range 4).foldl (fun a u => a.wrDrain u) s
    let all := s0.fresh 1 == 1
    let s1 := s0.wave.gapQ.foldl (fun a q => a.toMerge 33 ⟨gapWords 3 all 0 g j 0, q, false, .gap, 8, 0⟩) s0.spend
    let s2 := (List.range 4).foldl (fun a u => a.setWr u (a.wr u).cleared) s1
    s2.setWave { s2.wave with gapAt := none, gapQ := [] }

/-- One input's value goes to its history, the triggers and the units. -/
def State.deliver (s : State) (input j v step : Nat) : State :=
  let w := s.wave
  let s1 := s.setWave (if input = 0 then { w with hist0 := ((j, v) :: w.hist0).take 8192 }
    else { w with hist1 := ((j, v) :: w.hist1).take 8192 })
  let s2 := (List.range 8).foldl (fun a n =>
    if a.waveMode = 0 ∨ a.get (Reg.TRG_CFG_INP n) = input then a.trgSample n v j else a) s1
  s2.unitsSample input j v step

/-- R208, R210: a rotation period ends in a commit: the T slice holds a new set. -/
def State.commits (s : State) : Bool := s.wave.shadow.isSome && s.roleT != 3 && !s.on Reg.WAVE_CTRL_CALMODE

/-- R210: index `j` is the incoming slice's of a commit that has not been made: it waits for ROTATION_COMMIT. -/
def State.commitAt (s : State) (j : Nat) : Bool :=
  s.commits && (match s.wave.rot with | some r => decide (2 * (r + 2 ^ 20) ≤ j) | none => false)

/-- R203 to R206, R210: the next sample (in MODE 1 one of each input) is delivered and evaluated. -/
def State.sample (s : State) (raw0 raw1 : Nat) : State :=
  if !(s.waveLive && s.time.run && s.wave.phase == 2 && s.roleP0 != 3) || s.commitAt s.wave.next then s
  else
    let j := s.wave.next
    let step := s.waveStep
    let s1 := (s.adv (j / 2)).gapResume j
    let s2 := s1.setWave { s1.wave with next := j + step }
    if s2.waveMode = 0 then
      let a := s2.sampleOf (if j % 2 = 0 then s2.roleP0 else s2.roleP1) raw0
      a.2.deliver (s2.get Reg.WAVE_CTRL_INSEL) j a.1 step
    else
      let a := s2.sampleOf s2.roleP0 raw0
      let s3 := a.2.deliver 0 j a.1 step
      if s3.roleP1 = 3 then s3
      else
        let b := s3.sampleOf s3.roleP1 raw1
        b.2.deliver 1 j b.1 step

def execSampleTick (raw0 raw1 : BitVec 12) (s : State) : Host.Outcome State Fault Refusal := .next (s.sample raw0.toNat raw1.toNat)

/-- R235: delivery stops; where an enabled unit's stream is open, a gap begins, in every stream with an enabled unit. -/
def State.waveStop (s : State) : State :=
  let w := s.wave
  let cut := w.phase != 0 && w.gapAt.isNone && (List.range 4).any s.wrLive
  let qs := (((List.range 4).filter (fun u => s.on (Reg.WR_CFG_EN u))).map s.wrStream).eraseDups
  (((s.setWave { w with phase := 0, rot := none, fit := none, shadow := none,
                        gapAt := if cut then some (if w.phase = 2 then w.next else 2 * w.start) else w.gapAt,
                        gapQ := if cut then qs else w.gapQ }).put Reg.WAVE_STAT_INIT 0).put Reg.WAVE_STAT_TPH 3).waveFresh

/-- R214, R541: the device leaves ARMED and ACQUIRE: delivery stops; a self-calibration in progress goes on with the ticks. -/
def State.waveLeave (s : State) : State := if s.wave.phase = 3 ∧ s.on Reg.WAVE_CTRL_SCAL then s else s.waveStop

/-- R209, R215, R221: the roles of a run with CALMODE = 1: slices 0 and 1 in P0 and P1 and slice 2 the spare, which stands in for one
that is not healthy. -/
def State.calRoles (s : State) : State :=
  let ok := fun (x : Nat) => !s.fbit Reg.WAVE_STAT_FAIL x && !s.wave.trial.testBit x
  let p0 := if ok 0 then 0 else if ok 2 then 2 else if ok 1 then 1 else 3
  let p1 := if p0 ≠ 1 ∧ ok 1 then 1 else if p0 ≠ 2 ∧ ok 2 then 2 else 3
  ((s.put Reg.WAVE_STAT_ROLE_P0 p0).put Reg.WAVE_STAT_ROLE_P1 p1).put Reg.WAVE_STAT_ROLE_T
    (if p0 ≠ 2 ∧ p1 ≠ 2 ∧ ok 2 then 2 else 3)

/-- R217: the active slices enter their roles at an index. -/
def State.rolesSince (s : State) (i : Nat) : State :=
  s.setWave { s.wave with since := ([s.roleP0, s.roleP1].filter (· != 3)).foldl (fun m x => SMap.ins m x i) s.wave.since }

/-- R213: the digitiser starts: the initial calibration with CALMODE = 0, else sampling from the next tick. -/
def State.waveStart (s : State) : State :=
  if !(s.waveLive && s.on Reg.WAVE_CTRL_EN && s.wave.phase == 0) then s
  else if s.on Reg.WAVE_CTRL_CALMODE then
    (s.setWave { s.wave with phase := 2, start := s.time.tick, next := 2 * (s.time.tick + 1) }).rolesSince (2 * (s.time.tick + 1))
  else ((s.setWave { s.wave with phase := 1, start := s.time.tick }).put Reg.WAVE_STAT_INIT 1).put Reg.WAVE_STAT_TPH 0

/-! ### Fits and failures (R211, R212, R215, R217 to R219) -/

/-- R212: a fitted value lies outside its range. -/
def fitInl (f : Fit) : List Nat := (List.range 64).map (fun i => bits f.inl.toNat (16 * i) 16)
def fitBad (f : Fit) : Bool :=
  let o := signed 16 f.ofs.toNat
  decide (o < -1024 ∨ 1023 < o) || decide (f.gain.toNat < 0x7000 ∨ 0x9000 < f.gain.toNat)
    || (fitInl f).any (fun e => decide (signed 16 e < -128 ∨ 127 < signed 16 e))
def fitSet (f : Fit) (skew : Nat) : CorrSet := ⟨f.ofs.toNat, f.gain.toNat, skew, (fitInl f).map (· % 256)⟩

/-- R217 to R221: the healthy slices. -/
def State.healthy (s : State) : List Nat :=
  (List.range 3).filter (fun x => !s.fbit Reg.WAVE_STAT_FAIL x && !s.wave.trial.testBit x)

/-- R212, R215: a slice's result is rejected. -/
def State.sliceReject (s : State) (x : Nat) : State :=
  (s.hwSetBit Reg.WAVE_STAT_REJ x).errFree { sev := 1, src := 5, code := 0x06, unit := x }

/-- R230 to R233: what a unit holds when the samples' step changes: the window in progress goes on from the next index. -/
def WrSt.restep (t : WrSt) (step next : Nat) : WrSt :=
  { t with buf := [], acc := none, winS := next,
           win := t.win.map (fun w => if w.2 ≤ w.1 ∨ w.2 ≤ next then (next, next) else (next, winEnd step next w.2)) }

/-- R218, R219: the anchors of a change of mode or degradation, in every stream with an enabled unit, after the records complete
before it. Where the step between samples changes, or samples are missing between, samples that no longer fit a record with their
successors are left out, and the histories begin anew (notes/assumptions/28.md). -/
def State.degAnchors (s : State) (same : Bool) : State :=
  (List.range 4).foldl (fun a u =>
    if a.wrLive u then
      let b := a.wrDrain u
      let t := b.wr u
      let t1 := if same then t else t.restep b.waveStep b.wave.next
      let i := match t1.buf with | (x, _) :: _ => x | [] => b.wave.next
      (b.wrSend u [b.anchorWord u i]).setWr u { t1 with anchor := false, run := 0 }
    else a) (if same then s else s.waveFresh)

/-- R217 to R219: slice `x` is declared failed. -/
def State.sliceFail (s : State) (x : Nat) : State :=
  let step := s.waveStep
  let s1 := ((s.putFbit Reg.WAVE_STAT_FAIL x true).err
    { sev := 2, src := 5, code := 0x07, unit := x, info := SMap.get s.wave.since x 0 }).setWave
    { s.wave with trial := clrBit s.wave.trial x, fit := none, shadow := none }
  let fit := fun (y : Nat) => y != 3 && !s1.fbit Reg.WAVE_STAT_FAIL y
  let idle := (s1.healthy.find? (fun y => y != s1.roleP0 && y != s1.roleP1)).getD 3
  let p0 := if fit s1.roleP0 then s1.roleP0 else if idle ≠ 3 then idle else if fit s1.roleP1 then s1.roleP1 else 3
  let p1 := if fit s1.roleP1 && p0 != s1.roleP1 then s1.roleP1 else if fit s1.roleP1 then 3 else if p0 ≠ idle then idle else 3
  let s2a := (((s1.put Reg.WAVE_STAT_ROLE_P0 p0).put Reg.WAVE_STAT_ROLE_P1 p1).put
    Reg.WAVE_STAT_ROLE_T 3).put Reg.WAVE_STAT_TPH 3
  let moved := [(p0, s1.roleP0), (p1, s1.roleP1)].filter (fun y => y.1 != y.2 && y.1 != 3)
  let s2 := s2a.setWave { s2a.wave with since := moved.foldl (fun m y => SMap.ins m y.1 s2a.wave.next) s2a.wave.since }
  let s3 := s2.put Reg.WAVE_STAT_DEG 1
  let s4 := if s3.healthy.isEmpty then s3.errFree { sev := 3, src := 5, code := 0x07, unit := x } else s3
  let s5 := s4.setWave { s4.wave with next := alignUp s4.waveStep s4.wave.next }
  s5.degAnchors (s5.waveStep == step)

/-- R212, R217: a slice in tuning is rejected, and fails if it was rejected in its last period too. -/
def State.tuneReject (s : State) (x : Nat) : State :=
  let s1 := s.sliceReject x
  if s1.wave.bad.testBit x then (s1.setWave { s1.wave with bad := clrBit s1.wave.bad x }).sliceFail x
  else s1.setWave { s1.wave with bad := setBit s1.wave.bad x }

/-! ### Tuning (R208 to R213) -/

/-- R213: after 2¹⁸ ticks the initial calibration ends: the sets are in use, sampling and rotation begin. -/
def State.initialEnd (s : State) (fits : List Fit) : State :=
  if s.wave.phase = 1 ∧ s.time.run then
    let t := s.wave.start + 2 ^ 18
    let s0 := ((s.adv t).put Reg.WAVE_STAT_INIT 0).setWave
      { s.wave with phase := 2, start := t, next := 2 * t, rot := some t, fit := none, shadow := none }
    let s1 := fits.zipIdx.foldl (fun a (f, x) =>
      if a.fbit Reg.WAVE_STAT_FAIL x then a
      else if fitBad f then a.tuneReject x
      else (a.putCorr x (fitSet f 0)).setWave { a.wave with bad := clrBit a.wave.bad x }) (s0.rolesSince (2 * t))
    (((s1.put (Reg.CORR_S_SKEW 0) 0).put (Reg.CORR_S_SKEW 1) 0).put (Reg.CORR_S_SKEW 2) 0).put Reg.WAVE_STAT_TPH
      (if s1.roleT = 3 then 3 else 0)
  else s

def execInitialCalibrationEnd (fit0 fit1 fit2 : Fit) (s : State) : Host.Outcome State Fault Refusal :=
  .next (s.initialEnd [fit0, fit1, fit2])

/-- R208, R212: the reference phase of the T slice ends with a fit. -/
def State.matchStart (s : State) (f : Fit) : State :=
  match s.wave.rot with
  | some r =>
    if s.wave.phase = 2 ∧ s.roleT ≠ 3 ∧ s.time.run ∧ s.get Reg.WAVE_STAT_TPH = 0 then
      let s1 := (s.adv (r + 2 ^ 19)).put Reg.WAVE_STAT_TPH 1
      if fitBad f then s1.tuneReject s.roleT
      else s1.setWave { s1.wave with fit := some (fitSet f (s1.corr s.roleT).skew), bad := clrBit s1.wave.bad s.roleT }
    else s
  | none => s

def execMatchPhaseStart (fit : Fit) (s : State) : Host.Outcome State Fault Refusal := .next (s.matchStart fit)

/-- R208, R211: the hold: the new set, with the SKEW of the match phase where it could be fitted, goes to the shadow. -/
def State.tuneHold (s : State) (enough : Bool) (ofs gain skew : Nat) : State :=
  match s.wave.rot with
  | some r =>
    if s.wave.phase = 2 ∧ s.get Reg.WAVE_STAT_TPH = 1 ∧ s.time.run then
      let s1 := (s.adv (r + 2 ^ 20 - 2 ^ 12)).put Reg.WAVE_STAT_TPH 2
      s1.setWave { s1.wave with shadow := s1.wave.fit.map (fun c =>
        { c with ofs := ofs, gain := gain, skew := if enough then skew else c.skew }) }
    else s
  | none => s

def execTuningHold (enough : Bool) (ofs gain : BitVec 16) (skew : BitVec 8) (s : State) : Host.Outcome State Fault Refusal :=
  .next (s.tuneHold enough ofs.toNat gain.toNat skew.toNat)

/-- R209: the role that the T slice takes: a vacant one, else that of the slice active longer. -/
def State.targetIsP0 (s : State) : Bool :=
  s.roleP0 == 3 || (s.roleP1 != 3 && decide (SMap.get s.wave.since s.roleP0 0 ≤ SMap.get s.wave.since s.roleP1 0))

/-- R221: a slice on trial takes the T role where none tunes. -/
def State.trialStart (s : State) : State :=
  if s.roleT = 3 then
    match (List.range 3).find? (fun x => s.wave.trial.testBit x) with
    | some x => (s.put Reg.WAVE_STAT_ROLE_T x).put Reg.WAVE_STAT_TPH 0
    | none => s
  else s.put Reg.WAVE_STAT_TPH 0

/-- R208 to R210, R221: the rotation tick: the T slice with its new set takes the target's role, at the sample boundary: once the
samples before it are delivered. -/
def State.rotate (s : State) : State :=
  match s.wave.rot with
  | some r =>
    if s.wave.phase = 2 ∧ s.time.run ∧ !s.on Reg.WAVE_CTRL_CALMODE then
      let t := r + 2 ^ 20
      if s.commits && s.roleP0 != 3 && decide (s.wave.next < 2 * t) then s else
      let s0 := s.adv t
      let s1 := match s0.wave.shadow, s0.roleT == 3 with
        | some c, false =>
          let x := s0.roleT
          let step := s0.waveStep
          let p0 := s0.targetIsP0
          let old := if p0 then s0.roleP0 else s0.roleP1
          let a := (s0.putCorr x c).bump Reg.WAVE_ROT_COUNT 1
          let b := (a.put (if p0 then Reg.WAVE_STAT_ROLE_P0 else Reg.WAVE_STAT_ROLE_P1) x).put Reg.WAVE_STAT_ROLE_T old
          let d := b.setWave { b.wave with since := SMap.ins b.wave.since x (2 * t), trial := clrBit b.wave.trial x,
                                           next := max b.wave.next (2 * t) }
          let same := d.waveStep == step && s0.roleP0 != 3
          if d.on Reg.WAVE_STAT_DEG && d.healthy.length == 3 then (d.put Reg.WAVE_STAT_DEG 0).degAnchors same
          else if !same || d.modeCode ≠ s0.modeCode then d.degAnchors same
          else d
        | _, _ => s0
      (s1.setWave { s1.wave with rot := some t, fit := none, shadow := none }).trialStart
    else s
  | none => s

def execRotationCommit (s : State) : Host.Outcome State Fault Refusal := .next s.rotate

/-! ### Self-calibration (R214, R215) -/

/-- R214: no open stream has an enabled unit. -/
def State.scalOk (s : State) : Bool :=
  s.on Reg.WAVE_CTRL_CALMODE && s.on Reg.WAVE_CTRL_EN && !s.on Reg.WAVE_CTRL_SCAL &&
    (match s.active? with
     | some k => (List.range 4).all (fun u => !(s.on (Reg.WR_CFG_EN u) && s.stLive k (s.wrStream u)))
     | none => true)

/-- R214, step 1: sampling stops; the next index is that of step 7. -/
def State.scalStart (s : State) : State :=
  ((s.setWave { s.wave with phase := 3, start := s.time.tick, next := 2 * (s.time.tick + 16000000) }).put
    Reg.WAVE_CTRL_SCAL 1).waveFresh

/-- R215, R217: a slice rejected in a self-calibration: one rejected twice in succession fails; for an active one the spare takes its
role if it passed, else the slice fails. -/
def State.scalReject (s : State) (x : Nat) (spareOk : Bool) : State :=
  let s1 := s.sliceReject x
  let t := s1.roleT
  if s1.wave.bad.testBit x then (s1.setWave { s1.wave with bad := clrBit s1.wave.bad x }).sliceFail x
  else
    let s2 := s1.setWave { s1.wave with bad := setBit s1.wave.bad x }
    if x ≠ s2.roleP0 ∧ x ≠ s2.roleP1 then s2
    else if spareOk && t != 3 && t != x && !s2.fbit Reg.WAVE_STAT_FAIL t then
      let s3 := (s2.put (if x = s2.roleP0 then Reg.WAVE_STAT_ROLE_P0 else Reg.WAVE_STAT_ROLE_P1) t).put Reg.WAVE_STAT_ROLE_T x
      s3.setWave { s3.wave with since := SMap.ins s3.wave.since t (2 * (s3.wave.start + 16000000)) }
    else s2.sliceFail x

/-- R221: a slice on trial that passes is healthy again, and takes a vacant role. -/
def State.trialPass (s : State) (x : Nat) : State :=
  let s1 := s.setWave { s.wave with trial := clrBit s.wave.trial x }
  let i := 2 * (s1.wave.start + 16000000)
  let into := s1.setWave { s1.wave with since := SMap.ins s1.wave.since x i }
  let s2 := if s1.roleP0 = 3 then into.put Reg.WAVE_STAT_ROLE_P0 x
    else if s1.roleP1 = 3 then into.put Reg.WAVE_STAT_ROLE_P1 x
    else if s1.roleT = 3 then s1.put Reg.WAVE_STAT_ROLE_T x else s1
  if s2.healthy.length = 3 then s2.put Reg.WAVE_STAT_DEG 0 else s2

/-- R214, R215: step 6: the sets that pass are written; SCAL clears. -/
def State.scalEnd (s : State) (fits : List Fit) : State :=
  if s.wave.phase = 3 ∧ s.on Reg.WAVE_CTRL_SCAL ∧ s.time.run then
    let s0 := (s.adv (s.wave.start + 16000000)).put Reg.WAVE_CTRL_SCAL 0
    let spare := s0.roleT
    let ok := fun (x : Nat) => match fits[x]? with | some f => !fitBad f | none => false
    let tested := (List.range 3).filter (fun x => !s0.fbit Reg.WAVE_STAT_FAIL x)
    let s1 := (tested.filter ok).foldl (fun a x =>
      let b := match fits[x]? with | some f => a.putCorr x (fitSet f f.skew.toNat) | none => a
      let d := b.setWave { b.wave with bad := clrBit b.wave.bad x }
      if d.wave.trial.testBit x then d.trialPass x else d) s0
    (tested.filter (fun x => !ok x)).foldl (fun a x =>
      if a.wave.trial.testBit x then (a.sliceReject x).sliceFail x
      else a.scalReject x (ok spare && a.roleT == spare)) s1
  else s

def execSelfCalibrationEnd (fit0 fit1 fit2 : Fit) (s : State) : Host.Outcome State Fault Refusal :=
  .next (s.scalEnd [fit0, fit1, fit2])

/-- R214, step 7: sampling resumes at index 32,000,000 after zero; outside ARMED and ACQUIRE, on the next entry. -/
def State.scalResume (s : State) : State :=
  if s.wave.phase = 3 ∧ !s.on Reg.WAVE_CTRL_SCAL ∧ s.time.run then
    let t := s.wave.start + 16000000
    if s.waveLive then (s.adv t).setWave { s.wave with phase := 2, start := t, next := 2 * t }
    else (s.adv t).setWave { s.wave with phase := 0 }
  else s

def execSamplingResume (s : State) : Host.Outcome State Fault Refusal := .next s.scalResume

/-! ### Writes (R214, R216, R221) -/

/-- R221: RETRY clears every FAIL bit; the slices that had failed go on trial. -/
def State.retry (s : State) : State :=
  let f := s.get Reg.WAVE_STAT_FAIL
  (s.setWave { s.wave with trial := s.wave.trial ||| f, bad := 0 }).put Reg.WAVE_STAT_FAIL 0

/-- R214, R216, R221: a write of WAVE_CTRL. -/
def State.waveCtrlWrite (s : State) (v : Nat) : State × Status :=
  let en := bits v 4 1
  let cal := bits v 3 1
  let insel := bits v 2 1
  let mode := bits v 0 2
  let on := s.on Reg.WAVE_CTRL_EN
  let changes := cal != s.get Reg.WAVE_CTRL_CALMODE || insel != s.get Reg.WAVE_CTRL_INSEL || mode != s.get Reg.WAVE_CTRL_MODE
  if on && changes then (s, .prot)
  else if v.testBit 31 && !(s.scalOk && en == 1) then (s, .prot)
  else
    let s1 := (((s.put Reg.WAVE_CTRL_EN en).put Reg.WAVE_CTRL_CALMODE cal).put Reg.WAVE_CTRL_INSEL insel).put
      Reg.WAVE_CTRL_MODE mode
    let s1' := if cal == 1 && !s.on Reg.WAVE_CTRL_CALMODE then s1.calRoles else s1
    let s2 := if v.testBit 30 then s1'.retry else s1'
    let s3 := if v.testBit 31 then s2.scalStart else s2
    (if on && en == 0 then (s3.waveStop).put Reg.WAVE_CTRL_SCAL 0 else if !on && en == 1 then s3.waveStart else s3, .ok)

/-- R216: the correction registers take writes only with CALMODE = 1 and SCAL = 0. -/
def State.corrOk (s : State) : Bool := s.on Reg.WAVE_CTRL_CALMODE && !s.on Reg.WAVE_CTRL_SCAL

end Sys2Proof.Machine
end

