-- ==== Sys2Proof/Machine/Blocks.lean ====
section
/-! DEFINITION. Where registers lie: the domain of an address (R440, R468), the reset that reaches a register (R452), and
the registers that a reset or a power-up loads with their reset values (R442). -/
namespace Sys2Proof.Machine

/-- R43, R440: the power domain of a byte address (a keel by its own window, a region by its physical window).  The
registers of a TX slot or an RX lane lie in the domain of that slot or lane; the other lane registers and those of the
memory controller with the service core (notes/assumptions/31.md). -/
def addrDom (a : Nat) : Nat :=
  if a < 0x10000 then 0 else if a < 0x20000 then 1 else if a < 0x30000 then 0 else if a < 0x40000 then 2
  else if a < 0x50000 then 35 else if a < 0x60000 then 33 else if a < 0x70000 then 34 else if a < 0xA0000 then 1
  else if a < 0xA0400 then 0 else if a < 0x100000 then 1 else if a < 0x180000 then 19 else if a < 0x200000 then 20
  else if 0x301000 ≤ a ∧ a < 0x301480 then 21 + (a - 0x301000) / 0x80
  else if 0x302000 ≤ a ∧ a < 0x302080 then 30
  else if a < 0x400000 then 1
  else 11 + (a - 0x40000000) / 0x10000 / 128

/-- The domain of a register field. -/
def keyDom (key : Nat) : Nat := addrDom (key / 8)

/-- The indices of a register's row at an address, and the word of the register it is. -/
def RegRow.index (r : RegRow) (a : Nat) : Option (Nat × Nat × Nat) :=
  if a < r.base then none
  else
    let i := (a - r.base) / r.s1
    let x := a - r.base - i * r.s1
    let j := x / r.s2
    let y := x - j * r.s2
    if i < r.n1 ∧ j < r.n2 ∧ y < 4 * r.words then some (i, j, y / 4) else none

/-- The fields of the register that covers an address, with the address of its low word and its number of words. -/
def fieldsAt (a : Nat) : List RegRow → Option (List Field × Nat × Nat)
  | [] => none
  | r :: rest =>
    match r.index a with
    | some (i, j, w) => some (r.fields i j, a / 4 * 4 - 4 * w, r.words)
    | none => fieldsAt a rest

/-- The register that covers an address. -/
def regAt (a : Nat) : Option (List Field × Nat × Nat) := fieldsAt a regRows

/-- The reset that reaches the field of a key (R452); a key of no register is reached by RESET_N. -/
def keyReach (key : Nat) : Reach :=
  match regAt (key / 8) with
  | some (fs, _, _) =>
    match fs.find? (fun f => f.key == key) with
    | some f => f.reach
    | none => .resetN
  | none => .resetN

/-- The fields whose keys satisfy a test take their reset values; fields that no reset reaches keep theirs. -/
def State.dropRegs (s : State) (p : Nat → Bool) : State :=
  { s with regs := SMap.keep s.regs (fun k => !(p k && keyReach k != .keep)),
           latchHi := SMap.keep s.latchHi (fun k => !p (8 * (k % 2 ^ 32))),
           heldLo := SMap.keep s.heldLo (fun k => !p (8 * k)) }

/-- The registers of an address range take their reset values. -/
def State.dropRange (s : State) (lo hi : Nat) : State :=
  s.dropRegs (fun k => decide (8 * lo ≤ k) && decide (k < 8 * hi))

end Sys2Proof.Machine
end

