-- ==== Sys2Proof/Machine/Keels.lean ====
section
/-! DEFINITION. The arbiter, the keels and their conductors (R393 to R418): grant, mirror, fail-over, restart, self-test,
and the conductors apart from their instructions. -/
namespace Sys2Proof.Machine

/-! ### Roles (R393, R404, R418) -/

/-- KL_STAT.ROLE. -/
def rSTANDBY : Nat := 0
def rACTIVE : Nat := 1
def rRESET : Nat := 2
def rTEST : Nat := 3
def State.role (s : State) (k : Nat) : Nat := s.get (Reg.KL_STAT_ROLE k)
def State.setRole (s : State) (k r : Nat) : State := s.put (Reg.KL_STAT_ROLE k) r
def domKeel (k : Nat) : Nat := 19 + k

/-- The keel in the role of STANDBY. -/
def State.standby? (s : State) : Option Nat :=
  [0, 1].find? (fun k => s.role k == rSTANDBY && s.dom (domKeel k) && s.active? != some k)

/-- R404: READY of keel `k`. -/
def State.keelReady (s : State) (k : Nat) : Bool := s.on (Reg.KL_STAT_READY k)

/-- R399, R404: READY changes: the arbiter is told, and event 6 is set in both keels. -/
def State.setReady (s : State) (k : Nat) (b : Bool) : State :=
  if s.keelReady k == b then s
  else
    let s1 := (s.put (Reg.KL_STAT_READY k) (b2n b)).put (if k = 0 then Reg.ARB_STAT_RDY_A else Reg.ARB_STAT_RDY_B) (b2n b)
    (s1.condEvent 0 6).condEvent 1 6

/-- R404: the conditions of READY but for the age of the last frame. -/
def State.readyOk (s : State) (k : Nat) : Bool :=
  s.dom (domKeel k) && s.role k == rSTANDBY && (s.keel k).passed && (s.keel k).loaded && (s.keel k).mirror.isSome

/-! ### Conductors (R396 to R401) -/

/-- The core number of keel `k`'s conductor. -/
def condCore (k : Nat) : Nat := 1024 + k
/-- CD_CTRL.STATE. -/
def cdHALTED : Nat := 1
def cdRUNNING : Nat := 2
def cdSTOPPED : Nat := 3
def State.condState (s : State) (k : Nat) : Nat := s.get (Reg.CD_CTRL_STATE k)

/-- R399, R418: the conductor starts at CD_ENTRY. -/
def State.condStart (s : State) (k : Nat) : State :=
  (s.put (Reg.CD_CTRL_STATE k) cdRUNNING).setCore (condCore k)
    ((s.core (condCore k)).started s.time.tick (s.get (Reg.CD_ENTRY_IDX k)) s.time.tick)

/-- R418: GO. -/
def State.condGo (s : State) (k : Nat) : State :=
  if s.on (Reg.CD_CTRL_VALID k) && s.condState k == cdHALTED then s.condStart k else s

/-- R401: HALT of a conductor; rejected for the active keel's while HBEN = 1. -/
def State.condHalt (s : State) (k : Nat) : State × Status :=
  if s.on (Reg.CD_CTRL_HBEN k) && s.active? == some k then (s, .prot)
  else (if s.condState k == cdRUNNING then s.put (Reg.CD_CTRL_STATE k) cdHALTED else s, .ok)

/-- The reset of a conductor's cores: what R137 clears of an RE (notes/assumptions/32.md); writes that it posted stay
posted (R414). -/
def State.condReset (s : State) (k : Nat) : State :=
  (s.put (Reg.CD_CTRL_STATE k) cdHALTED).setCore (condCore k)
    { CoreSt.reset with brks := (s.core (condCore k)).brks, busw := (s.core (condCore k)).busw,
                        timers := (s.core (condCore k)).timers }

/-- R418: a write of CD_TMR starts the timer. -/
def State.condTimerSet (s : State) (k : Nat) : State :=
  s.setCore (condCore k) { s.core (condCore k) with timers := [(0, s.time.tick)] }

/-- R399, R418: the timer reaches CD_TMR: event 1, and a restart. -/
def State.condTimer (s : State) (k : Nat) : State :=
  let per := s.get (Reg.CD_TMR_PERIOD k)
  if per ≠ 0 ∧ s.time.run ∧ s.dom (domKeel k) then
    let due := SMap.get (s.core (condCore k)).timers 0 0 + per
    ((s.adv due).setCore (condCore k) { s.core (condCore k) with timers := [(0, due)] }).condEvent k 1
  else s

def execConductorTimer (k : Fin 2) (s : State) : Host.Outcome State Fault Refusal := .next (s.condTimer k.val)

/-- R396, R414: the next RE message reaches the active keel's conductor, is counted as lost where its queue is full, or,
with no grant, is discarded (counted by the arbiter in a fail-over). -/
def State.condMessage (s : State) : State :=
  match s.remsgs with
  | [] => s
  | m :: rest =>
    let s1 := { s with remsgs := rest }
    match s1.active? with
    | some k =>
      let c := s1.core (condCore k)
      if c.inq.length ≥ 256 then s1.bump (Reg.KL_MSGLOST_COUNT k) 1
      else s1.setCore (condCore k) { c with inq := c.inq ++ [m] }
    | none => if s1.get Reg.ARB_STAT_PHASE == 1 then s1.bump Reg.ARB_MSGLOST_COUNT 1 else s1

def execConductorMessage (s : State) : Host.Outcome State Fault Refusal := .next s.condMessage

/-! ### Keel reset and retention (R408) -/

/-- The keel holds words or blocks of stream `q`. -/
def State.keelHolds (s : State) (k q : Nat) : Bool :=
  let v := s.stream k q
  v.block.isSome || !v.wait.isEmpty || (s.keel k).queues.any (fun e => e.2.any (fun b => b.stream == q))
    || !((s.spill k).blocksOf q).isEmpty
    || (List.range 36).any (fun i => (s.tx i).onLane.any (fun e => e.1 == q || e.1 == drainedMark + q))

/-- R408: a keel that holds the grant is reset at tick D: the retention records take each stream's next BSEQ, and the
streams that were open or of which it held anything are INTERRUPTED. -/
def State.retainAll (s : State) (k d : Nat) : State :=
  (List.range 64).foldl (fun a q =>
    let r := a.retained q
    let hit := s.stLive k q || s.keelHolds k q
    a.setRetained q { r with bseq := s.get (Reg.ST_BSEQ_NEXT k q), bump := true,
                             intr := if hit then some ((s.stream k q).openedAt, d) else r.intr }) s

/-- Blocks on the lanes are cut off where the grant falls (R394, R411); control messages are no blocks (R384). -/
def State.cutLanes (s : State) : State :=
  (List.range 36).foldl (fun a i =>
    let v := a.tx i
    if v.payload.isEmpty then a
    else a.setTx i (v.kept isLaneMsg)) s

/-- R407, R418: the reset of a keel: its registers (ST_BSEQ apart, R293), its data-path state, its conductor; the memory controller
sets its spill figures again (R297), and tags that it held are free (R313). -/
def State.keelReset (s : State) (k : Nat) : State :=
  let c := (s.setReady k false).condReset k
  let s1 := c.dropRange (0x100000 + 0x80000 * k) (0x180000 + 0x80000 * k)
  let s2 := ((s1.keelGone k).setEsc (condCore k) EscSt.reset).put (Reg.BR_PCAP_CAP k) (s1.optByte 5)
  ((s2.put (Reg.BR_SPILL_W_RATE k) s2.spillW).put (Reg.BR_SPILL_CAP_CAP k) s2.spillCap).putIf (!(s.spill k).ops.isEmpty)
    Reg.MC_TAGS_NOW 0

/-- R289, R394: the keel that holds the grant loses it: grant, lanes, pins. -/
def State.grantDrop (s : State) : State := (s.put Reg.ARB_STAT_GRANT 0).cutLanes.pinsLow

/-- R395: a grant line falls during a fail-over or a restart: the role epoch advances. -/
def State.grantFall (s : State) : State :=
  let s1 := s.grantDrop
  s1.put Reg.ARB_STAT_EPOCH (s1.get Reg.ARB_STAT_EPOCH + 1)

/-! ### The mirror (R402 to R405) -/

/-- R403: the registers of a keel's window that go with a frame: those that show the state of the bridle, the streams, the queues
and the spill store.  What is written goes to the standby with its write (R402), and the memory controller sets the spill
figures of both (R297). -/
def mirrored (ofs : Nat) : Bool :=
  (0x20004 ≤ ofs && ofs < 0x2000C) || (0x20010 ≤ ofs && ofs < 0x20014) || (0x20028 ≤ ofs && ofs < 0x20030)
    || (0x20800 ≤ ofs && ofs < 0x20A00) || (0x30000 ≤ ofs && ofs < 0x30800 && ofs % 0x20 / 4 != 1)
    || (0x30800 ≤ ofs && ofs < 0x30900 && ofs % 0x10 / 4 == 1) || (0x40000 ≤ ofs && ofs < 0x40200)

/-- The mirrored registers of a keel's window, by their keys inside the window. -/
def State.mirrorRegs (s : State) (k : Nat) : SMap Nat :=
  let lo := bitAddr (0x100000 + 0x80000 * k)
  (s.regs.filter (fun e => decide (lo ≤ e.1) && decide (e.1 < lo + bitAddr 0x80000) && mirrored ((e.1 - lo) / 8))).map
    (fun e => (e.1 - lo, e.2))

/-- Mirrored registers taken by keel `k`. -/
def State.takeRegs (s : State) (k : Nat) (m : SMap Nat) : State :=
  let lo := bitAddr (0x100000 + 0x80000 * k)
  let kept := SMap.keep s.regs (fun key => !(decide (lo ≤ key) && decide (key < lo + bitAddr 0x80000) && mirrored ((key - lo) / 8)))
  { s with regs := m.foldl (fun a e => SMap.ins a (lo + e.1) e.2) kept }

/-- The open ticks of the held blocks, latest first, that have one of the last `n` bytes of a stream's sequence. -/
def openTicks : Nat → List SpillBlk → List Nat
  | _, [] => []
  | n, b :: r => if n = 0 then [] else b.openAt :: openTicks (n - b.len) r

/-- R403: the blocks of stream `q` that keel `k` holds in queues and on the lanes: BSEQ and open tick. -/
def State.queuedBlocks (s : State) (k q : Nat) : List (Nat × Nat) :=
  (s.keel k).queues.flatMap (fun e => (e.2.filter (fun b => b.stream == q)).map (fun b => (b.bseq, b.openAt)))
    ++ (List.range 36).flatMap (fun i => ((s.tx i).onLane.filter (fun e => e.1 == q)).map (fun e => (e.2.1, e.2.2.1)))

/-- The open ticks of the drained blocks of stream `q` that wait for a lane or stand on one, of which bytes were never published. -/
def SpillSt.unpublished (v : SpillSt) (q : Nat) : List Nat :=
  ((v.drained.flatMap (fun e => e.2) ++ v.sending).filter (fun d => d.stream == q && d.tail)).map (·.blk.openAt)

/-- R403: A_k: the merge tick of the oldest word held and neither sent whole nor published; `m` if there is none. -/
def State.oldestHeld (s : State) (k q m : Nat) : Nat :=
  let v := s.stream k q
  let opened := (match v.block with | some b => [b.openAt] | none => []) ++ v.wait.map (·.openAt)
  let sp := s.spillStr k q
  let unpub := sp.tail.length + 116 * ((s.spill k).staged.filter (fun b => b.stream == q)).length
  minOf m (opened ++ (s.queuedBlocks k q).map (·.2) ++ openTicks unpub sp.held.reverse ++ (s.spill k).unpublished q)

/-- R403: BSEQ_LO. -/
def State.bseqLo (s : State) (k q : Nat) : Nat :=
  match (s.queuedBlocks k q).map (·.1) with
  | [] => s.get (Reg.ST_BSEQ_NEXT k q)
  | b :: r => minOf b r

/-- R411, R412: held blocks that end within the first `n` bytes from position `pos`, and where the last of them ends. -/
def heldWithin : Nat → Nat → List SpillBlk → List SpillBlk × Nat
  | pos, _, [] => ([], pos)
  | pos, n, b :: r =>
    if pos + b.len ≤ n then
      let x := heldWithin (pos + b.len) n r
      (b :: x.1, x.2)
    else ([], pos)

/-- R411, R412: a stream's directory without the bricks still in write staging (the first of them `first`): the blocks with
a byte in them or after them are gone, and the sequence goes on from the end of the last block left, in the brick that holds it
(R299). -/
def SpillStr.cut (v : SpillStr) (first : Nat) (dram : Nat → List Byte) : SpillStr :=
  let x := heldWithin v.headPos (116 * first) v.held
  let bricks := x.2 / 116
  let last := match SMap.find? v.slots bricks with
    | some (place, header) => ((brickPay (dram place)).take (x.2 % 116), bits header 26 32, bits header 13 13)
    | none => ((v.got.drop (116 * bricks - v.headPos)).take (x.2 % 116), v.tailHdr)
  { v with held := x.1, bricks := bricks, tail := last.1, tailHdr := last.2, readNext := min v.readNext bricks,
           slots := SMap.keep v.slots (fun n => decide (n < bricks)), got := v.got.take (116 * bricks - v.headPos) }

/-- The last `n` occurrences of a stream leave an order log (given latest first). -/
def dropLatest (q : Nat) : Nat → List Nat → List Nat
  | 0, l => l
  | _, [] => []
  | n + 1, x :: r => if x = q then dropLatest q n r else x :: dropLatest q (n + 1) r

/-- R411, R412: the drained blocks of group `g` in a frame: those on a lane and those that wait for one are drained again; what was
never published is lost with the old keel's staging. -/
def SpillSt.redrained (v : SpillSt) (g : Nat) : List DrainBlk :=
  ((v.sending.filter (fun d => d.blk.group == g) ++ SMap.get v.drained g []).filter (fun d => !d.tail)).map (fun d => { d with ecc := 0 })

/-- R411, R412: what the new keel's spill store takes of a frame. -/
def State.cutSpill (s : State) (v : SpillSt) : SpillSt :=
  (List.range 64).foldl (fun (a : SpillSt) q =>
    match a.staged.find? (fun b => b.stream == q) with
    | none => a
    | some b =>
      let old := SMap.get a.strs q SpillStr.reset
      let new := old.cut b.brick (fun p => SMap.get s.dram (s.brickAddr p) (List.replicate 128 0))
      { a with strs := SMap.set a.strs q new SpillStr.reset,
               staged := a.staged.filter (fun x => x.stream != q),
               order := a.order.map (fun e => (e.1, (dropLatest q (old.held.length - new.held.length) e.2.reverse).reverse)) })
    { v with ops := [], sending := [],
             drained := (List.range 16).foldl (fun m g => SMap.set m g (v.redrained g) []) [] }

/-- R403: the frame of tick `m` of the active keel. -/
def State.capture (s : State) (k m : Nat) : Mirror :=
  let kv := s.keel k
  { tick := m,
    streams := kv.streams.map (fun e => (e.1, { e.2 with block := none, wait := [], disc := none })),
    bseq := (List.range 64).map (fun q => (q, s.get (Reg.ST_BSEQ_NEXT k q))),
    lo := (List.range 64).map (fun q => (q, s.bseqLo k q)),
    oldest := (List.range 64).map (fun q => (q, s.oldestHeld k q m)),
    spill := s.cutSpill kv.spill,
    ages := (List.range 16).foldl (fun a g => match s.oldestBlk kv.spill g with | some b => SMap.ins a g b.heldAt | none => a) [],
    pins := s.pins, force := kv.force, regs := s.mirrorRegs k }

/-- R403: a frame is applied by the standby: its registers follow. -/
def State.applyFrame (s : State) (k : Nat) (m : Mirror) : State :=
  let s1 := s.takeRegs k m.regs
  s1.setKeel k { s1.keel k with mirror := some m, force := m.force }

/-- R403, R404: the next tick M comes: the standby applies the frame, or counts a bad one. -/
def State.mirrorFrame (s : State) (good : Bool) : State :=
  match s.active?, s.standby? with
  | some k, some o =>
    if s.time.run && (s.keel o).passed && (s.keel o).loaded then
      let m := s.dueMult 1250 (s.keel o).frameAt
      let s0 := s.adv m
      let s1 := s0.setKeel o { s0.keel o with frameAt := m }
      if good then
        let s2 := s1.applyFrame o (s1.capture k s1.time.tick)
        if s2.readyOk o then s2.setReady o true else s2
      else s1.bump (Reg.KL_STAT_MIRBAD o) 1
    else s
  | _, _ => s

def execMirrorFrame (good : Bool) (s : State) : Host.Outcome State Fault Refusal := .next (s.mirrorFrame good)

/-- R404: 4 µs without an applied frame. -/
def State.mirrorStale (s : State) : State :=
  match s.standby? with
  | some o =>
    match (s.keel o).mirror with
    | some m => if s.keelReady o && s.time.run then (s.adv (m.tick + 5000)).setReady o false else s
    | none => s
  | none => s

def execMirrorStale (s : State) : Host.Outcome State Fault Refusal := .next s.mirrorStale

/-! ### The grant rises (R408 to R410) -/

/-- R408: the keel that takes the grant loads every ST_BSEQ whose record says so. -/
def State.loadBseq (s : State) (k : Nat) : State :=
  (List.range 64).foldl (fun a q =>
    let r := a.retained q
    if r.bump then
      (a.put (Reg.ST_BSEQ_NEXT k q) (r.bseq + 131072)).setRetained q { r with bseq := r.bseq + 131072, bump := false }
    else a) s

/-- R393, R399: the grant line of keel `k` rises; fail-over and restart are over, and the entries that they kept open close (R508). -/
def State.grantKeel (s : State) (k : Nat) : State :=
  let s1 := ((((s.errClose 2048).errClose 2049).setReady k false).put Reg.ARB_STAT_GRANT (k + 1)).put Reg.ARB_STAT_PHASE 0
  let s2 := ({ s1 with failover := none, failUndo := none }.setRole k rACTIVE).loadBseq k
  s2.condEvent k 2

/-- R410: a stream's three marks at G. -/
def State.failoverMarks (s : State) (k g : Nat) (m : Mirror) (q : Nat) : State :=
  let s1 := s.markIn k q s.lastEpoch
  let s2 := s1.markIn k q (gapAllWords 2 (SMap.get m.oldest q m.tick) g 131072)
  s2.markIn k q [extWord 5 1 (s.get Reg.ARB_STAT_EPOCH * 2 ^ 32 + g % 2 ^ 32),
    mkWord [(32, 32, SMap.get m.lo q 0), (0, 32, SMap.get m.bseq q 0)]]

/-- R409: tick G, later than 2 µs and at most 50 µs after D; which of these ticks it is no rule states
(notes/assumptions/81.md). -/
def State.goTick (s : State) (d : Nat) : Nat := d + 2500 + s.fresh 16 % 60001

/-- R409, R410: tick G of a fail-over, once frame M is frozen and loaded; the old keel may start its self-test on the next tick. -/
def State.grantRise (s : State) : State :=
  match s.failover with
  | some (d, k, frozen) =>
    if frozen && s.get Reg.ARB_STAT_PHASE == 1 then
      let s1 := if s.time.run then s.spend.adv (s.goTick d) else s
      let g := s1.time.tick
      let s1 := s1.setKeel (1 - k) { s1.keel (1 - k) with testAt := g + 1 }
      let s2 := (s1.grantKeel k).put Reg.ARB_LAST_G_T g
      let s3 := match (s2.keel k).mirror with
        | some m => (s2.liveStreams k).foldl (fun a q => a.failoverMarks k g m q) s2
        | none => s2
      if s3.pwr == 4 then s3 else s3.closeAll k g
    else s
  | none => s

def execGrantRise (s : State) : Host.Outcome State Fault Refusal := .next s.grantRise

/-- R407: the grant rises again 50 µs after a restart began. -/
def State.restartGrant (s : State) : State :=
  match s.failover with
  | some (d, k, _) =>
    if s.get Reg.ARB_STAT_PHASE == 2 then
      let s1 := s.adv (if s.time.run then d + 62500 else 0)
      if s1.dom (domKeel k) then s1.grantKeel k else { s1.put Reg.ARB_STAT_PHASE 0 with failover := none }
    else s
  | none => s

def execRestartGrant (s : State) : Host.Outcome State Fault Refusal := .next s.restartGrant

/-- R409, step 2: the standby has frozen frame M. -/
def State.mirrorFrozen (s : State) : State :=
  match s.failover with
  | some (d, k, _) => if s.get Reg.ARB_STAT_PHASE == 1 then { s with failover := some (d, k, true) } else s
  | none => s

def execMirrorFrozen (s : State) : Host.Outcome State Fault Refusal := .next s.mirrorFrozen

/-! ### Arbiter decisions (R406, R407, R409) -/

/-- R409 to R413: the new keel takes frame M: streams with their numbers raised and nothing in the shaping buffer, the spill
directory, the values in force with their lane groups; spill figures that have fallen since set OVER here too (R254). -/
def State.takeFrame (s : State) (k d : Nat) (m : Mirror) : State :=
  let s1 := s.takeRegs k m.regs
  let s2 := m.bseq.foldl (fun a e => a.put (Reg.ST_BSEQ_NEXT k e.1) (e.2 + 131072)) s1
  let s3 := s2.setKeel k { s2.keel k with
    streams := m.streams.map (fun e => (e.1, { e.2 with bal := [], first := false, shaped := 0, shapedAt := d })),
    queues := [], force := m.force, spill := m.spill }
  let s4 := (List.range 16).foldl (fun a g => a.put (Reg.OQ_STAT_LEVEL k g) 0) s3
  let s5 := { s4 with laneCfg := match m.force with | some f => SMap.keep f laneKey | none => s4.laneCfg }
  ((((s5.put (Reg.BR_STAT_BUSY k) 0).put (Reg.BR_CTRL_COMMIT k) 0).putIf (s5.spillShort k) (Reg.BR_STAT_OVER k) 1).tagsNow
    k).spillStats k

/-- R407, R409: a fail-over from keel `k` to the READY standby `n`, at D. -/
def State.failOver (s : State) (k n cause : Nat) : State :=
  let d := s.time.tick
  let busy := s.on (Reg.BR_STAT_BUSY k)
  let undo : FailUndo := ⟨(s.retainAll k d).retain, s.get Reg.ARB_CNT_FAILOVERS, s.get Reg.ARB_LAST_D_T, s.life⟩
  let s1 := ((((s.grantFall.put Reg.ARB_STAT_PHASE 1).put Reg.ARB_STAT_CAUSE cause).put Reg.ARB_LAST_D_T d).bump
    Reg.ARB_CNT_FAILOVERS 1).irq 2
  let s2 := s1.keelReset k
  let s3 := { s2.setKeel k { s2.keel k with held := true } with failover := some (d, n, false) }
  let s4 := match (s3.keel n).mirror with
    | some m => s3.takeFrame n d m
    | none => s3
  let s5 := if busy then s4.commitEnd n 11 0 else s4
  { (s5.lifeEvent 3).notable with failUndo := some undo }

/-- R407, R408: a restart of keel `k`, which holds the grant or is about to; the retention records are taken from what it held at D. -/
def State.restart (s : State) (k cause : Nat) : State :=
  let d := s.time.tick
  let s0 := s.retainAll k d
  let s1 := if s.active? == some k then s0.grantFall else s0
  let s2 := (((s1.put Reg.ARB_STAT_PHASE 2).put Reg.ARB_STAT_CAUSE cause).bump Reg.ARB_CNT_RESTARTS 1).irq 2
  let s3 := { s2.keelReset k with failover := some (d, k, false), failUndo := none }
  ((s3.errFree { sev := 3, src := 11, code := 7, unit := k, openKey := some (2048 + k) }).lifeEvent 4).notable

/-- R407, R415: a STANDBY RESET of keel `k`: it waits in reset for its self-test. -/
def State.standbyReset (s : State) (k : Nat) : State :=
  let s1 := (s.keelReset k).bump Reg.ARB_CNT_STBYRST 1
  s1.setKeel k { s1.keel k with held := true }

/-- R407, R511, R512: the next step of the standby keel, each a STANDBY RESET, with the entries of steps 2 and 3. -/
def State.standbyStep (s : State) (k : Nat) : State :=
  let step := min 3 ((s.escOf 1026).step + 1)
  let s1 := s.setEsc 1026 ⟨step, true, false, none⟩
  let s2 := if step ≥ 2 then s1.escEntry 11 k 3 step 1026 else s1
  s2.standbyReset k

/-- R407, R512: a failure of the standby keel: its next step, at the end of its self-test where one runs. -/
def State.standbyFail (s : State) (k cause : Nat) : State :=
  let s1 := s.put Reg.ARB_STAT_CAUSE cause
  if s.role k == rTEST then s1.setEsc 1026 { s1.escOf 1026 with again := true } else s1.standbyStep k

/-- R407: the fail-over of this tick has not been: its count, its D, its life event and the retention records. -/
def State.failUndone (s : State) : State :=
  match s.failUndo with
  | some u => { ((s.put Reg.ARB_CNT_FAILOVERS u.fails).put Reg.ARB_LAST_D_T u.lastD) with retain := u.retain, life := u.life, failUndo := none }
  | none => s

/-- R407: faults on both keels at one tick: the fail-over that the first began gives way to a restart of the keel that
held the grant, and the other is reset. -/
def State.bothFault (s : State) (n cause : Nat) : State :=
  let s1 := s.failUndone.standbyFail n cause
  let s2 := { s1.put Reg.ARB_STAT_PHASE 0 with failover := none }
  ((s2.setKeel (1 - n) { s2.keel (1 - n) with held := false }).restart (1 - n) cause)

/-- R406, R407: an input of cause 1 to 4 against keel `k`. -/
def State.arbInput (s : State) (k cause : Nat) : State :=
  match s.failover with
  | some (d, n, _) =>
    if s.get Reg.ARB_STAT_PHASE == 1 && n == k then
      if s.time.run && d == s.time.tick then s.bothFault k cause else s.restart k cause
    else if s.get Reg.ARB_STAT_PHASE == 2 && n != k && s.dom (domKeel k) && (s.role k == rSTANDBY || s.role k == rTEST) then
      s.standbyFail k cause
    else s
  | none =>
    if s.active? == some k then
      if s.keelReady (1 - k) then s.failOver k (1 - k) cause else s.restart k cause
    else if s.dom (domKeel k) && (s.role k == rSTANDBY || (s.role k == rTEST && s.active?.isSome)) then s.standbyFail k cause
    else s

/-- R401: 8 µs without HBEAT. -/
def State.heartbeatTimeout (s : State) (k : Nat) : State :=
  if s.on (Reg.CD_CTRL_HBEN k) && s.condState k == cdRUNNING && s.dom (domKeel k) then
    (s.adv (if s.time.run then (s.core (condCore k)).hbAt + 10000 else 0)).arbInput k 1
  else s

def execHeartbeatTimeout (k : Fin 2) (s : State) : Host.Outcome State Fault Refusal := .next (s.heartbeatTimeout k.val)

/-- R400: a lockstep mismatch. -/
def State.lockstep (s : State) (k : Nat) : State :=
  if s.condState k == cdRUNNING && s.dom (domKeel k) then
    ((s.put (Reg.CD_CTRL_STATE k) cdSTOPPED).bump Reg.ARB_CNT_LOCKSTEP 1).arbInput k 2
  else s

def execLockstepMismatch (k : Fin 2) (s : State) : Host.Outcome State Fault Refusal := .next (s.lockstep k.val)

def execSelfcheck (k : Fin 2) (s : State) : Host.Outcome State Fault Refusal := .next (s.arbInput k.val 3)

/-- R508: the key of the entry of a conductor's failure: it closes with the core reset, or, at the active keel's step 2, once a grant
rises. -/
def State.condKey (s : State) (k : Nat) : Nat :=
  if s.active? == some k && (s.escOf (condCore k)).step != 0 then 2048 + k else condCore k

/-- R511, R512: a failure of the active keel's conductor: a core reset, then arbiter cause 4.  The conductor of a keel
that is not active only has its core reset (R141). -/
def State.condFail (s : State) (k : Nat) : State :=
  let b := condCore k
  let again := fun (a : State) => let r := a.condReset k
    if r.on (Reg.CD_CTRL_VALID k) then r.condStart k else r
  if s.active? == some k then
    if (s.escOf b).step = 0 then ((again (s.setEsc b ⟨1, true, false, none⟩))).escEnd b
    else
      let s1 := (s.setEsc b ⟨2, true, false, none⟩).escEntry 11 k 3 2 (2048 + k)
      s1.arbInput k 4
  else (again s).escEnd b

/-- R417: the keel that a STANDBY RESET reaches: the one that neither holds the grant nor is about to take it, in whatever
condition its domain leaves it. -/
def State.otherKeel? (s : State) : Option Nat :=
  let o := match s.active?, s.failover with
    | some k, _ => some (1 - k)
    | none, some (_, n, _) => some (1 - n)
    | none, none => none
  o.filter (fun n => s.dom (domKeel n))

/-- R417: RST_STBY: a STANDBY RESET. -/
def State.rstStby (s : State) : State :=
  match s.otherKeel? with
  | some n => s.standbyReset n
  | none => s

/-- R417: a write of ARB_CTRL: cause 5, a STANDBY RESET; with both bits one after the other. -/
def State.arbWrite (s : State) (v : Nat) : State × Status :=
  let next := fun (a : State) => (if v.testBit 30 then a.rstStby else a, Status.ok)
  if v.testBit 31 then
    match s.active?, s.standby? with
    | some k, some n => if s.keelReady n && s.failover.isNone then next (s.failOver k n 5) else (s, .prot)
    | _, _ => (s, .prot)
  else next s

/-! ### Self-test (R415, R419) -/

/-- R409, R415: keel `k` is neither taking the grant nor the old keel of a fail-over, which is held in reset until G. -/
def State.testable (s : State) (k : Nat) : Bool :=
  match s.failover with
  | none => true
  | some (_, n, _) => s.get Reg.ARB_STAT_PHASE == 2 && n != k

/-- R409, R415: a self-test starts on a keel that waits for it, the old keel's of a fail-over on the tick after G. -/
def State.selfTest (s : State) (k : Nat) : State :=
  if (s.keel k).held && s.dom (domKeel k) && s.testable k then
    let s0 := if s.time.run then s.adv (s.keel k).testAt else s
    let s1 := ((s0.setRole k rTEST).put (Reg.KL_TEST_START k) 1).setReady k false
    s1.setKeel k { s1.keel k with held := false, passed := false, loaded := false, testAt := 0, testing := some s1.time.tick }
  else s

def execKeelSelfTest (k : Fin 2) (s : State) : Host.Outcome State Fault Refusal := .next (s.selfTest k.val)

/-- R415: a write of KL_TEST.START: accepted only in STANDBY, and not while the keel is taking the grant
(notes/assumptions/100.md). -/
def State.klTestWrite (s : State) (k : Nat) : State × Status :=
  if s.role k == rSTANDBY && s.testable k then
    let s1 := s.keelReset k
    ((s1.setKeel k { s1.keel k with held := true }).selfTest k, .ok)
  else (s, .prot)

/-- R419, R454: the keel that is granted with none active: the one PREF names if it passed, else the other. -/
def State.bootGrant (s : State) (k : Nat) : State :=
  let pref := s.get Reg.ARB_CTRL_PREF
  let failed := fun (n : Nat) => !s.dom (domKeel n) || (s.on (Reg.KL_TEST_DONE n) && !s.on (Reg.KL_TEST_PASS n))
  if s.active?.isSome || s.failover.isSome then s
  else if (s.keel pref).passed && s.role pref == rSTANDBY then s.grantKeel pref
  else if failed pref && (s.keel (1 - pref)).passed && s.role (1 - pref) == rSTANDBY then s.grantKeel (1 - pref)
  else s.setReady k false

/-- R415: a self-test ends: a pass makes the keel a standby (granted where R419 says so), a fail leaves it in reset and is
logged; a failure that came during it takes the next step (R512), and a write of START that meets the end asks anew (R12). -/
def State.selfTestDone (s : State) (k fail : Nat) : State :=
  match (s.keel k).testing with
  | some t =>
    let s1 := s.adv (if s.time.run then t + 1625000 else 0)
    let s2 := ((s1.setKeel k { s1.keel k with testing := none, passed := decide (fail = 0) }).put (Reg.KL_TEST_START k) 0).put
      (Reg.KL_TEST_DONE k) 1
    let s3 := ((s2.put (Reg.KL_TEST_PASS k) (b2n (fail == 0))).put (Reg.KL_TEST_FAIL k) fail).dropMem
      (condData k) (condData k + 0x20000)
    let s4 := if fail = 0 then s3.setRole k rSTANDBY
      else (s3.setRole k rRESET).err { sev := 3, src := 11, code := 6, unit := k, info := fail }
    let s5 := (s4.escEnd 1026).bootGrant k
    let s6 := if (s.escOf 1026).again && s5.active? != some k then s5.standbyStep k else s5
    if s1.metWrote (Reg.KL_TEST_START k) = 0 then s6 else (s6.klTestWrite k).1
  | none => s

def execKeelSelfTestDone (k : Fin 2) (fail : BitVec 16) (s : State) : Host.Outcome State Fault Refusal :=
  .next (s.selfTestDone k.val fail.toNat)

/-- R415: the standby that passed has its complete mirror. -/
def State.mirrorLoaded (s : State) (k : Nat) : State :=
  match s.active? with
  | some a =>
    if a ≠ k ∧ s.role k = rSTANDBY ∧ (s.keel k).passed ∧ s.dom (domKeel k) then
      let lo := bitAddr (0x100000 + 0x80000 * a)
      let mine := bitAddr (0x100000 + 0x80000 * k)
      let cfg := (s.regs.filter (fun e => decide (lo ≤ e.1) && decide (e.1 < lo + bitAddr 0x50000))).map (fun e => (e.1 - lo + mine, e.2))
      let kept := SMap.keep s.regs (fun key => !(decide (mine ≤ key) && decide (key < mine + bitAddr 0x50000)))
      let s1 := { s with regs := cfg.foldl (fun r e => SMap.ins r e.1 e.2) kept }
      let s2 := [Reg.CD_CTRL_HBEN, Reg.CD_CTRL_CPAGE, Reg.CD_ENTRY_IDX, Reg.CD_VEC_IDX, Reg.CD_EVT_EN_EN, Reg.CD_TMR_PERIOD].foldl
        (fun (r : State) f => r.put (f k) (r.get (f a))) s1
      let s3 := s2.applyFrame k (s2.capture a s2.time.tick)
      let s4 := s3.setKeel k { s3.keel k with loaded := true }
      if s4.readyOk k then s4.setReady k true else s4
    else s
  | none => s

def execMirrorLoadDone (k : Fin 2) (s : State) : Host.Outcome State Fault Refusal := .next (s.mirrorLoaded k.val)

/-! ### Power of a keel (R442, R449) -/

/-- R398, R442: a keel's domain comes to power-good: everything at its reset values, code memory undefined; it waits for
its self-test. -/
def State.keelPowered (s : State) (k : Nat) : State :=
  let s1 := (s.keelReset k).dropMem (condCode k) (condCode k + 0x40000)
  let s2 := (s1.dropMem (condData k) (condData k + 0x20000)).newCode [1024 + k]
  s2.setKeel k { s2.keel k with held := true }

/-- R449: a keel's domain is cut: nothing of it is left. -/
def State.keelCut (s : State) (k : Nat) : State := s.keelReset k

end Sys2Proof.Machine
end

