-- ==== Sys2Proof/Machine/Monitor.lean ====
section
/-! DEFINITION. The monitor converter with the module sensors, and the I2C controller (R420 to R439). -/
namespace Sys2Proof.Machine

def domMon : Nat := 34
def MonSt.reset : MonSt := ⟨none, false, false, false, none, (0, 0, 0), false, [], [], (0, 0), 0, none, none⟩
def I2cSt.reset : I2cSt := ⟨0, false, true, true, []⟩

/-! ### Values (R420 to R427) -/

/-- R420: the measurable range of a channel that is no sensor channel, in its unit. -/
def channelRange (tag : Nat) : Int × Int :=
  if tag < 8 then (-55000, 150000) else if tag < 16 then (0, 4000000) else if tag < 24 then (0, 2000000)
  else if tag < 36 then (0, 2500000) else if tag = 36 then (0, 5000000) else if tag = 37 then (0, 2500000)
  else (-1250000, 1250000)

/-- R425: the range of a curve; the converter range is what 24 bits hold. -/
def curveRange (curve : Nat) : Int × Int :=
  match curve with
  | 1 | 2 => (-200000, 850000)
  | 3 => (-60000, 250000)
  | 4 => (-40000, 125000)
  | 5 => (-200000, 1372000)
  | 6 => (-200000, 400000)
  | _ => (-8388607, 8388606)

/-- R422: a value held to a range: OOR and the 24 bits. -/
def heldTo (r : Int × Int) (v : Int) : Bool × Nat :=
  if v > r.2 then (true, 0x7FFFFF) else if v < r.1 then (true, 0x800000) else (false, unsigned 24 v)

/-- R425, curve 7: round(raw × GAIN ÷ 4,096) + OFS; a tie goes as a free value says. -/
def State.linear (s : State) (raw : Int) (p : Nat) : Int :=
  let x := raw * signed 16 (p / 65536)
  let up : Int := if x % 4096 > 2048 ∨ (x % 4096 = 2048 ∧ s.fresh 1 = 1) then 1 else 0
  x / 4096 + up + signed 16 p

/-- R425: R/R0 of curves 1 to 3 at `v` thousandths of a degree, in units of 10⁻³⁵. -/
def curveRatio (curve : Nat) (v : Int) : Int :=
  if curve = 3 then 10 ^ 35 + 5485 * v * 10 ^ 26 + 665 * v ^ 2 * 10 ^ 21 + 2805 * v ^ 4 * 10 ^ 9 - 2 * v ^ 6
  else (10 ^ 27 + 39083 * v * 10 ^ 17 - 5775 * v ^ 2 * 10 ^ 11 - (if v < 0 then 4183 * (v - 100000) * v ^ 3 else 0)) * 10 ^ 8

/-- The greatest number up to `hi` and below `v + 2 ^ n` that a test admits; the test falls once. -/
def lastOk (f : Int → Bool) (hi : Int) : Nat → Int → Int
  | 0, v => v
  | n + 1, v => if v + 2 ^ n ≤ hi ∧ f (v + 2 ^ n) then lastOk f hi n (v + 2 ^ n) else lastOk f hi n v

/-- R423: the resistance of `raw` units of 1, 10 or 100 mΩ, as ILVL says, in mΩ. -/
def milliohm (ilvl : Nat) (raw : Int) : Int := raw * (if ilvl = 0 then 100 else if ilvl = 1 then 10 else 1)

/-- R423, R425: the temperature, rounded down to 0.001 °C, at which the resistance `raw` (in units of 1, 10 or 100 mΩ as
ILVL says) lies on curve 1, 2 or 3; resistances well outside the range stay outside it. -/
def curveTemp (curve ilvl : Nat) (raw : Int) : Int :=
  let mohm := milliohm ilvl raw
  let r0 := if curve = 1 then 100 else 1000
  lastOk (fun v => decide (curveRatio curve v * r0 * 1000 ≤ mohm * 10 ^ 35)) ((curveRange curve).2 + 1000) 21
    ((curveRange curve).1 - 1000)

/-- The natural logarithm of `n / d` in units of 2⁻⁶⁴, to within a few of them: that of a power of two, and a series for what is
left (ln x = 2 artanh ((x − 1) ÷ (x + 1)), x from 1 to 2). -/
def artanhSum (u sq : Nat) : Nat → Nat → Nat → Nat
  | 0, _, _ => 0
  | fuel + 1, k, pow => pow / k + artanhSum u sq fuel (k + 2) (pow * sq / 2 ^ 64)
def lnFix (n d : Nat) : Int :=
  let y := n * 2 ^ 200 / d
  let l := Nat.log2 y
  let z := y * 2 ^ 64 / 2 ^ l
  let u := (z - 2 ^ 64) * 2 ^ 64 / (z + 2 ^ 64)
  ((l : Int) - 200) * 12786308645202655660 + 2 * (artanhSum u (u * u / 2 ^ 64) 30 1 u : Int)

/-- R425, curve 4: the temperature, rounded down to 0.001 °C, at which an NTC with SNS_P `p` has the resistance `raw`; none where
β or R25 is 0.  A resistance of 0 or less lies above the range (R427). -/
def ntcTemp (p ilvl : Nat) (raw : Int) : Option Int :=
  let beta := p / 65536
  let r25 := p % 65536 * 10000
  let r := milliohm ilvl raw
  if beta = 0 ∨ r25 = 0 then none
  else if r ≤ 0 then some 1000000
  else
    let den := (100 * beta * 2 ^ 64 : Nat) + 29815 * lnFix r.toNat r25
    if den ≤ 0 then some 1000000 else some ((298150 * beta * 100 * 2 ^ 64 : Nat) / den - 273150)

/-- R426: the cold-junction temperature of sensor channel `c`, if it serves. -/
def State.coldJunction (s : State) (c : Nat) : Option Int :=
  let curve := s.get (Reg.SNS_CFG_CURVE c)
  if s.on (Reg.MON_LAST_VALID (40 + c)) && !s.on (Reg.MON_LAST_OOR (40 + c)) && 1 ≤ curve && curve ≤ 4 then
    some (signed 24 (s.get (Reg.MON_LAST_VALUE (40 + c))))
  else none

/-- R425, curves 5 and 6: a reference function of IEC 60584-1 is a sum of powers of the temperature; its coefficients, from the power
0 up, in units of 10⁻⁹⁰ mV for thousandths of a degree, as a number and a power of ten (notes/assumptions/94.md). -/
def powerSum (v : Int) : List (Int × Nat) → Int → Int
  | [], _ => 0
  | (m, e) :: r, p => m * 10 ^ e * p + powerSum v r (p * v)
def typeKBelow : List (Int × Nat) :=
  [(0, 0), (394501280250, 74), (236223735980, 68), (-328589067840, 63), (-499048287770, 58), (-675090591730, 53), (-574103274280, 48),
   (-310888728940, 43), (-104516093650, 38), (-198892668780, 32), (-163226974860, 26)]
def typeKAbove : List (Int × Nat) :=
  [(-176004136860, 77), (389212049750, 74), (185587700320, 68), (-994575928740, 62), (318409457190, 57), (-560728448890, 51),
   (560750590590, 45), (-320207200030, 39), (971511471520, 32), (-121047212750, 26)]
def typeTBelow : List (Int × Nat) :=
  [(0, 0), (387481063640, 74), (441944343470, 68), (118443231050, 63), (200329735540, 59), (901380195590, 54), (226511565930, 50),
   (360711542050, 45), (384939398830, 40), (282135219250, 35), (142515947790, 30), (487686622860, 24), (107955392700, 19),
   (139450270620, 13), (797951539270, 6)]
def typeTAbove : List (Int × Nat) :=
  [(0, 0), (387481063640, 74), (332922278800, 68), (206182434040, 63), (-218822568460, 58), (109968809280, 53), (-308157587720, 47),
   (454791352900, 41), (-275129016730, 35)]

/-- e⁻ˣ for `x` in units of 2⁻¹²⁸ (below 2⁹), in the same units: its series at x ÷ 512, raised to the power 512. -/
def expNeg (x : Nat) : Nat :=
  let y := x / 2 ^ 9
  let r := (List.range 24).foldr (fun n a => 2 ^ 128 - y * a / ((n + 1) * 2 ^ 128)) (2 ^ 128)
  (List.range 9).foldl (fun a _ => a * a / 2 ^ 128) r

/-- The term of type K above 0 °C that is no power: 0.1185976 e^(−1.183432 × 10⁻⁴ (t − 126.9686)²) mV. -/
def typeKTerm (v : Int) : Int :=
  1185976 * 10 ^ 83 * (expNeg (1183432 * ((10 * v - 1269686) ^ 2).toNat * 2 ^ 128 / 10 ^ 18) : Int) / 2 ^ 128

/-- R425, R426: the EMF of a thermocouple of curve 5 or 6 at `v` thousandths of a degree, in units of 10⁻⁹⁰ mV. -/
def thermoEmf (curve : Nat) (v : Int) : Int :=
  if curve = 5 then (if v < 0 then powerSum v typeKBelow 1 else powerSum v typeKAbove 1 + typeKTerm v)
  else powerSum v (if v < 0 then typeTBelow else typeTAbove) 1

/-- R426: the temperature, rounded down to 0.001 °C, whose EMF is that of `raw` µV added to that of the cold junction at `cj`, and
whether it is met exactly. -/
def thermoTemp (curve : Nat) (raw cj : Int) : Int × Bool :=
  let sum := raw * 10 ^ 87 + thermoEmf curve cj
  let v := lastOk (fun v => decide (thermoEmf curve v ≤ sum)) ((curveRange curve).2 + 1000) 21 ((curveRange curve).1 - 1000)
  (v, thermoEmf curve v == sum)

/-- The full scale of a sensor channel in µV, by GAIN. -/
def fullScale (gain : Nat) : Int := if gain = 0 then 2500000 else if gain = 1 then 1250000 else if gain = 2 then 156250 else 19530

/-- R422: a conversion of a sensor channel saturated the converter, above or below. -/
def satAbove (tag cfg : Nat) (convs : List (BitVec 24)) : Bool :=
  decide (40 ≤ tag) && convs.any (fun v => decide (fullScale (bits cfg 23 2) ≤ v.toInt))
def satBelow (tag cfg : Nat) (convs : List (BitVec 24)) : Bool :=
  decide (40 ≤ tag) && convs.any (fun v => decide (v.toInt ≤ -fullScale (bits cfg 23 2)))

/-- R421: the mean of the averaged conversions; which of the two whole numbers beside it no rule states. -/
def State.monMean (s : State) (convs : List (BitVec 24)) : Int :=
  let sum := convs.foldl (fun a v => a + v.toInt) (0 : Int)
  let n : Int := convs.length
  sum / n + (if sum % n = 0 then 0 else (Config.free (s.freeCtr + 1) % 2 : Nat))

/-- R424: the sensor channel whose BIAS the slot in progress has on: SENS(2n) is pulled towards the positive input limit, SENS(2n+1)
held at mid-scale. -/
def State.biased (s : State) : Option Nat :=
  let tag := s.mon.taken.1
  if 40 ≤ tag && (s.mon.islot.isSome || s.mon.rslot.isSome) && s.mon.taken.2.1.testBit 15 then some (tag - 40) else none

/-- R423: the sources that the slot in progress switches on, and the SENS pins they drive. -/
def State.excites (s : State) : List (Nat × Nat) :=
  let tag := s.mon.taken.1
  let cfg := s.mon.taken.2.1
  let n := tag - 40
  if tag < 40 || (s.mon.islot.isNone && s.mon.rslot.isNone) then []
  else
    match bits cfg 27 2 with
    | 0 => []
    | 1 => [(1, 2 * n)]
    | 2 => [(1, 2 * n), (2, 2 * n + 1)]
    | _ => [(1, bits cfg 19 4)]

/-- R422, R425, R426: OOR and value of a result: `raw` in the channel's unit (for a sensor channel the voltage in µV, which is the
resistance in the unit of R423), with what saturated.  Curves 1 to 4 are inverted to within 0.002 °C, a free value choosing among
the four results that lie so close; of curves 5 and 6 it chooses between the two results beside the temperature. -/
def State.monValue (s : State) (tag cfg p : Nat) (raw : Int) (above below : Bool) : Bool × Nat :=
  if above || below then (true, if above && (!below || s.fresh 1 == 1) then 0x7FFFFF else 0x800000)
  else if tag < 40 then heldTo (channelRange tag) raw
  else
    let curve := bits cfg 29 3
    match curve with
    | 0 => heldTo (curveRange 0) raw
    | 7 => heldTo (curveRange 7) (s.linear raw p)
    | 5 | 6 =>
      match s.coldJunction (bits cfg 16 3) with
      | some cj =>
        let r := thermoTemp curve raw cj
        heldTo (curveRange curve) (if r.2 then r.1 else r.1 + s.fresh 1)
      | none => (true, if s.fresh 1 = 1 then 0x7FFFFF else 0x800000)
    | 4 =>
      match ntcTemp p (min 2 (bits cfg 25 2)) raw with
      | some v => heldTo (curveRange curve) (v + s.fresh 2 - 1)
      | none => heldTo (curveRange curve) (Config.linearise curve (unsigned 24 raw) p)
    | _ => heldTo (curveRange curve) (curveTemp curve (bits cfg 25 2) raw + s.fresh 2 - 1)

/-! ### Slots (R421, R428 to R431) -/

/-- The word of SNS_CFGn and of SNS_Pn. -/
def State.snsCfg (s : State) (n : Nat) : Nat :=
  s.get (Reg.SNS_CFG_CURVE n) * 2 ^ 29 + s.get (Reg.SNS_CFG_WIRE n) * 2 ^ 27 + s.get (Reg.SNS_CFG_ILVL n) * 2 ^ 25
    + s.get (Reg.SNS_CFG_GAIN n) * 2 ^ 23 + s.get (Reg.SNS_CFG_FPIN n) * 2 ^ 19 + s.get (Reg.SNS_CFG_CJ n) * 2 ^ 16
    + s.get (Reg.SNS_CFG_BIAS n) * 2 ^ 15
def State.snsP (s : State) (n : Nat) : Nat := s.get (Reg.SNS_P_HI n) * 65536 + s.get (Reg.SNS_P_LO n)

/-- A slot begins: it takes its registers as they are now. -/
def State.slotTakes (s : State) (tag settle avg : Nat) : State :=
  let c := if 40 ≤ tag then (s.snsCfg (tag - 40), s.snsP (tag - 40)) else (0, 0)
  { s with mon := { s.mon with taken := (tag, c), shape := (settle, avg), at0 := s.time.tick } }

/-- A regular slot begins. -/
def State.regularSlot (s : State) (i : Nat) : State :=
  let s1 := { s with mon := { s.mon with rslot := some i } }
  (s1.put Reg.MON_STAT_SLOT i).slotTakes (s1.get (Reg.MON_RSLOT_TAG i)) (s1.get (Reg.MON_RSLOT_SETTLE i)) (s1.get (Reg.MON_RSLOT_AVG i))

/-- R421: the tick on which the last conversion of the slot in progress completes. -/
def State.slotEnd (s : State) : Nat := s.mon.at0 + (s.mon.shape.1 + 2 ^ s.mon.shape.2) * convTicks

/-- R428: the tick on which the next regular sequence is due: PER × 10 µs after the last; the first at once. -/
def State.regularDue (s : State) : Nat :=
  match s.mon.startAt with
  | some d => if s.time.run then max s.time.tick (d + s.get Reg.MON_RCTRL_PER * 12500) else s.time.tick
  | none => s.time.tick

/-- R428: the start of a regular sequence falls due; with PER = 0 none does while a sequence runs. -/
def State.regularStart (s : State) : State :=
  if !(s.dom domMon && s.on Reg.MON_RCTRL_EN) || (s.get Reg.MON_RCTRL_PER == 0 && s.mon.rslot.isSome) then s
  else
    let s1 := s.adv s.regularDue
    let s2 := { s1 with mon := { s1.mon with startAt := some s.regularDue } }
    if s2.mon.rslot.isSome then { s2.bump Reg.MON_STAT_RLATE 1 with mon := { s2.mon with late := true } }
    else if s2.mon.islot.isSome then { s2 with mon := { s2.mon with late := true } }
    else s2.regularSlot 0

def execRegularSequenceStart (s : State) : Host.Outcome State Fault Refusal := .next s.regularStart

/-- An injected slot begins. -/
def State.injectedSlot (s : State) (i : Nat) : State :=
  { s with mon := { s.mon with islot := some i } }.slotTakes (s.get (Reg.MON_ISLOT_TAG i)) (s.get (Reg.MON_ISLOT_SETTLE i))
    (s.get (Reg.MON_ISLOT_AVG i))

/-- R430: the next conversion boundary: a whole number of periods after the start of the slot in progress; without one, the
current tick (notes/assumptions/94.md). -/
def State.boundary (s : State) : Nat :=
  if s.mon.rslot.isSome then s.convBoundary.getD s.time.tick else s.time.tick

/-- R430: a conversion boundary comes: the injected sequence starts, and a regular slot in progress is abandoned. -/
def State.injectedStart (s0 : State) : State :=
  if s0.mon.ireq && s0.dom domMon && s0.mon.islot.isNone then
    let s := s0.adv s0.boundary
    let s1 := { s with mon := { s.mon with ireq := false, again := s.mon.again || s.mon.rslot.isSome } }
    (s1.put Reg.MON_STAT_IBUSY 1).injectedSlot 0
  else s0

def execInjectedSequenceStart (s : State) : Host.Outcome State Fault Refusal := .next s.injectedStart

/-- R429: a stripe's diode rises through OT °C. -/
def State.overTemp (s : State) (before now : Int) : State :=
  let ot : Int := 1000 * s.get Reg.MON_ICTRL_OT
  if s.on Reg.MON_ICTRL_OTEN && decide (before < ot) && decide (ot ≤ now) then s.injRequest else s

def execOverTemperature (x : DieTemp) (s : State) : Host.Outcome State Fault Refusal := .next (s.overTemp x.before x.now)

/-! ### Results (R432 to R436) -/

/-- The model address of curve `c`'s linearisation coefficients. -/
def coefMem (c : Nat) : Nat := 0x8000000000 + 0x100 * c

/-- R432: E and the 24-bit time of a result at tick `t`. -/
def monEpoch (t : Nat) : Nat := (t + 2) / 2 ^ 23 * 2 ^ 23
def monTime (t : Nat) : Nat := unsigned 24 (((t : Int) - (monEpoch t : Int)) / 256)

/-- R433, R434: a result joins the queue, or is lost from it. -/
def State.monQueue (s : State) (tag flags value : Nat) (poison : Bool) (t : Nat) : State :=
  if !s.on Reg.MON_QCTRL_EN then s
  else if s.mon.queue.length ≥ 64 then { s.bump Reg.MON_QSTAT_OVF 1 with mon := { s.mon with ovrNext := true } }
  else
    let w := mkWord [(56, 8, tag), (48, 4, flags), (52, 1, b2n s.mon.ovrNext), (24, 24, value), (0, 24, monTime t)]
    { s.put Reg.MON_QSTAT_LEVEL (s.mon.queue.length + 1) with
      mon := { s.mon with queue := s.mon.queue ++ [⟨w, poison, parityOf w, monEpoch t⟩], ovrNext := false } }

/-- R435, R501: the coefficients of a curve are read: single-bit errors are corrected; one that is uncorrectable poisons the result. -/
def coefWords (curve : Nat) : List Nat := if curve = 0 then [] else (List.range 64).map (fun i => coefMem curve + 4 * i)
def State.coefRead (s : State) (curve : Nat) : State × Bool :=
  ((coefWords curve).foldl (fun a x => a.eccFix x 6) s, (coefWords curve).any (fun x => s.eccAt x == 2))

/-- R424, R427: an open sensor drives a source, or with BIAS = 1 the input, into the limit; an open thermocouple without BIAS shows some
value of its curve's range. -/
def State.openValue (s : State) (cfg : Nat) : Bool × Nat :=
  let r := curveRange (bits cfg 29 3)
  if bits cfg 27 2 ≠ 0 ∨ cfg.testBit 15 then (true, 0x7FFFFF)
  else (false, unsigned 24 (r.1 + (Config.free s.freeCtr % ((r.2 - r.1).toNat + 1) : Nat)))

/-- R421, R427: OOR and value of the slot in progress; none where `x` is no input of it. -/
def State.slotValue (s : State) (x : SlotInput) (above below : Bool) : Option (Bool × Nat) :=
  let (tag, cfg, p) := s.mon.taken
  match x with
  | .convs l =>
    if l.length = 2 ^ s.mon.shape.2 then
      some (s.monValue tag cfg p (s.monMean l) (above || satAbove tag cfg l) (below || satBelow tag cfg l))
    else none
  | .opened => if 40 ≤ tag then some (s.openValue cfg) else none
  | .shorted => if 40 ≤ tag then some (s.monValue tag cfg p 0 above below) else none

/-- R433: a result of the slot that took `tag`: MON_LAST, the queue, the merge. -/
def State.monResult (s : State) (inj seqend rep : Bool) (t : Nat) (r : Bool × Nat) : State :=
  let (tag, cfg, _) := s.mon.taken
  let flags := b2n inj + 2 * b2n seqend + 4 * b2n r.1 + 8 * b2n rep
  let c := s.spend.spend.coefRead (if 40 ≤ tag then bits cfg 29 3 else 0)
  let s1 := ((c.1.put (Reg.MON_LAST_VALID tag) 1).put (Reg.MON_LAST_OOR tag) (b2n r.1)).put (Reg.MON_LAST_VALUE tag) r.2
  let w := mkWord [(60, 4, 0xA), (52, 8, tag), (48, 4, flags), (24, 24, r.2), (0, 24, monTime t)]
  (s1.monQueue tag flags r.2 c.2 t).toMerge 34 ⟨[w], 0, c.2, .record, 0, 0⟩

/-- R428: after the last slot of a regular sequence. -/
def State.regularNext (s : State) : State :=
  if (s.mon.late || s.get Reg.MON_RCTRL_PER == 0) && s.on Reg.MON_RCTRL_EN then
    { s with mon := { s.mon with late := false } }.regularSlot 0
  else { s with mon := { s.mon with rslot := none, late := false } }

/-- R430: after an injected sequence: a pending run, else the abandoned slot again, or a regular start that waits. -/
def State.injectedNext (s : State) : State :=
  let s1 := { s with mon := { s.mon with islot := none } }.put Reg.MON_STAT_IBUSY 0
  if s1.on Reg.MON_STAT_IPEND then
    ({ (s1.put Reg.MON_STAT_IPEND 0).put Reg.MON_STAT_IBUSY 1 with mon := { s1.mon with pendAt := none } }).injectedSlot 0
  else
    match s1.mon.rslot with
    | some i => s1.regularSlot i
    | none => if s1.mon.late then s1.regularNext else s1

/-- R421: the slot in progress completes, with its averaged conversions or the sensor's fault. -/
def State.slotResult (s : State) (x : SlotInput) (above below : Bool) : State :=
  match s.dom domMon, s.slotValue x above below with
  | true, some r =>
    let s0 := if s.time.run then s.adv s.slotEnd else s
    let t := s0.time.tick
    match s0.mon.islot with
    | some i =>
      let n := s0.get Reg.MON_ICTRL_LEN
      let s1 := s0.monResult true (decide (i ≥ n)) false t r
      if i < n then s1.injectedSlot (i + 1) else s1.injectedNext
    | none =>
      match s0.mon.rslot with
      | some i =>
        let n := s0.get Reg.MON_RCTRL_LEN
        let s1 := s0.monResult false (decide (i ≥ n)) s0.mon.again t r
        let s2 := { s1 with mon := { s1.mon with again := false } }
        if i < n ∧ s2.on Reg.MON_RCTRL_EN then s2.regularSlot (i + 1) else s2.regularNext
      | none => s
  | _, _ => s

def execSlotResult (x : SlotInput) (above below : Bool) (s : State) : Host.Outcome State Fault Refusal :=
  .next (s.slotResult x above below)

/-- R435, R436: a pop of the queue by master `m`: what MON_QLO returns, and the latches. -/
def State.monPop (s : State) (m : Nat) : Nat × State :=
  match s.mon.queue with
  | [] => (0, { s with mon := { s.mon with latches := SMap.ins s.mon.latches m (0xFF000000, 0) } })
  | e :: r =>
    let bad := e.poison || e.bad
    let w := if bad then e.word.toNat ||| 2 ^ 55 else e.word.toNat
    let s1 := { s.put Reg.MON_QSTAT_LEVEL r.length with
      mon := { s.mon with queue := r, latches := SMap.ins s.mon.latches m (w / 2 ^ 32, e.epoch % 2 ^ 56 / 2 ^ 23) } }
    (w % 2 ^ 32, if bad then (s1.hwSet Reg.MON_QSTAT_PERR 1).errFree { sev := 1, src := 14, code := 3, unit := 0 } else s1)

/-- R433: MON_QCTRL.CLR. -/
def State.monClear (s : State) : State := { s.put Reg.MON_QSTAT_LEVEL 0 with mon := { s.mon with queue := [] } }

/-- R424: SNS_CFGn may take a word. -/
def snsOk (n v : Nat) : Bool :=
  let curve := bits v 29 3
  let wire := bits v 27 2
  let fpin := bits v 19 4
  !(wire == 3 && (fpin == 2 * n || fpin == 2 * n + 1)) && !((curve == 5 || curve == 6) && wire != 0)
    && !(1 ≤ curve && curve ≤ 4 && wire == 0)

/-- R436: a slot word may name a tag. -/
def tagOk (v : Nat) : Bool := v % 256 != 39 && v % 256 ≤ 47

/-- R439: MON is cut or reset: the slot in progress is abandoned, both sequences restart from slot 0. -/
def State.monReset (s : State) : State := { s.dropRange 0x60000 0x70000 with mon := MonSt.reset }

/-! ### I2C (R437, R438) -/

/-- R438: the controller samples the bus, then runs the command that waits, recovers the bus, or waits for SCL. -/
def State.i2cSample (s : State) : State :=
  let v := s.i2c
  if v.scl && !v.sda then { s.put Reg.I2C_STAT_BUSY 1 with i2c := { v with phase := 2 } }
  else if !v.scl then { s.put Reg.I2C_STAT_BUSY 1 with i2c := { v with phase := 3 } }
  else if v.wants then { s.put Reg.I2C_STAT_BUSY 1 with i2c := { v with phase := 1, wants := false } }
  else { s.put Reg.I2C_STAT_BUSY 0 with i2c := { v with phase := 0 } }

/-- R437: a GO: the status of the last command clears, and the command waits for the bus. -/
def State.i2cGo (s : State) : State :=
  if !s.on Reg.I2C_CTRL_EN || s.on Reg.I2C_STAT_STUCK then s
  else
    let z := fun (a : State) (f : Field) => a.put f 0
    let s1 := [Reg.I2C_STAT_NACK, Reg.I2C_STAT_ARBLOST, Reg.I2C_STAT_TMO, Reg.I2C_STAT_PECERR, Reg.I2C_STAT_BYTES].foldl z s
    { s1 with i2c := { s1.i2c with wants := true, sent := [] } }.i2cSample

/-- R437: I2C_CMD written: a GO while BUSY = 1 is rejected. -/
def State.i2cCmd (s : State) (v : Nat) : State × Status :=
  if v.testBit 31 && s.on Reg.I2C_STAT_BUSY then (s, .prot)
  else
    let s1 := (((s.put Reg.I2C_CMD_RSTART (bits v 30 1)).put Reg.I2C_CMD_ADDR (bits v 16 7)).put Reg.I2C_CMD_RLEN
      (bits v 8 8)).put Reg.I2C_CMD_WLEN (bits v 0 8)
    (if v.testBit 31 then s1.i2cGo else s1, .ok)

/-- R438: I2C_CTRL written: STUCK clears, a rise of EN samples the bus. -/
def State.i2cCtrl (s : State) (v : Nat) : State :=
  let rise := v.testBit 31 && !s.on Reg.I2C_CTRL_EN
  let s1 := (((s.put Reg.I2C_CTRL_EN (bits v 31 1)).put Reg.I2C_CTRL_SPEED (bits v 29 2)).put Reg.I2C_CTRL_PEC (bits v 28 1)).put
    Reg.I2C_STAT_STUCK 0
  if rise then { s1 with i2c := { s1.i2c with sent := [] } }.i2cSample else s1

/-- The 32-byte buffer's byte `i` set. -/
def State.i2cByte (s : State) (i : Nat) (b : Byte) : State :=
  s.hwPut ((match i % 4 with
    | 0 => Reg.I2C_DATA_B0
    | 1 => Reg.I2C_DATA_B1
    | 2 => Reg.I2C_DATA_B2
    | _ => Reg.I2C_DATA_B3) (i / 4)) b.toNat

/-- Bytes written into the buffer from byte `i`. -/
def State.i2cBytes (s : State) (i : Nat) : List Byte → State
  | [] => s
  | b :: r => if i < 32 then (s.i2cByte i b).i2cBytes (i + 1) r else s

/-- R437: the bytes a whole command moves, the PEC bytes included. -/
def State.i2cLength (s : State) : Nat :=
  let pec := s.get Reg.I2C_CTRL_PEC
  let w := min 32 (s.get Reg.I2C_CMD_WLEN)
  w + pec + (if s.on Reg.I2C_CMD_RSTART then min 32 (s.get Reg.I2C_CMD_RLEN) + pec else 0)

/-- R437: byte `i` of the buffer. -/
def State.i2cBuffer (s : State) (i : Nat) : Byte :=
  BitVec.ofNat 8 (s.get ((match i % 4 with
    | 0 => Reg.I2C_DATA_B0
    | 1 => Reg.I2C_DATA_B1
    | 2 => Reg.I2C_DATA_B2
    | _ => Reg.I2C_DATA_B3) (i / 4)))

/-- R437: the CRC-8 of packet error checking, polynomial 0x07. -/
def crc8Bit (r : Nat) : Nat := if 128 ≤ r then (2 * r % 256) ^^^ 7 else 2 * r
def crc8 (bs : List Byte) : Nat :=
  bs.foldl (fun r b => crc8Bit (crc8Bit (crc8Bit (crc8Bit (crc8Bit (crc8Bit (crc8Bit (crc8Bit (r ^^^ b.toNat))))))))) 0

/-- R437: what the controller sends in a whole command: the address, the write bytes with their PEC byte, and with RSTART = 1 the address
again for the reads. -/
def State.i2cSent (s : State) : List Byte :=
  let addr := 2 * s.get Reg.I2C_CMD_ADDR
  let w := BitVec.ofNat 8 addr :: (List.range (min 32 (s.get Reg.I2C_CMD_WLEN))).map s.i2cBuffer
  let w1 := if s.on Reg.I2C_CTRL_PEC then w ++ [BitVec.ofNat 8 (crc8 w)] else w
  if s.on Reg.I2C_CMD_RSTART then w1 ++ [BitVec.ofNat 8 (addr + 1)] else w1

/-- R437: the PEC byte read does not match; the check runs over every byte of the command (notes/assumptions/94.md). -/
def State.i2cPecBad (s : State) (pec : Byte) (data : List Byte) : Bool :=
  s.on Reg.I2C_CTRL_PEC && s.on Reg.I2C_CMD_RSTART && crc8 (s.i2cSent ++ data.take (min 32 (s.get Reg.I2C_CMD_RLEN))) != pec.toNat

/-- R437: a whole command as the controller puts it on the bus, its own bytes only: the STARTs, the bytes and the STOP. -/
def State.i2cSyms (s : State) : List BusSym :=
  let ws := s.i2cSent.map BusSym.byte
  if s.on Reg.I2C_CMD_RSTART then .start :: ws.dropLast ++ .start :: ws.drop (ws.length - 1) ++ [.stop] else .start :: ws ++ [.stop]

/-- What of it has been sent with the `n`th byte. -/
def symsTo : Nat → List BusSym → List BusSym
  | _, [] => []
  | 0, _ => []
  | n + 1, .byte b :: r => .byte b :: symsTo n r
  | n + 1, x :: r => x :: symsTo (n + 1) r

/-- R437: the data and PEC bytes of the write phase. -/
def State.i2cWrites (s : State) : Nat := min 32 (s.get Reg.I2C_CMD_WLEN) + s.get Reg.I2C_CTRL_PEC

/-- R437: what was sent of a command that ended after `n` data bytes: its address, and the second one where the reads had begun or it
was not acknowledged; a STOP follows a NACK, and a lost arbitration releases both lines. -/
def State.i2cPart (s : State) (n : Nat) (nack : Bool) : List BusSym :=
  symsTo (1 + n + b2n (s.on Reg.I2C_CMD_RSTART && (decide (s.i2cWrites < n) || (nack && n == s.i2cWrites)))) s.i2cSyms
    ++ (if nack then [.stop] else [])

/-- R438: a command runs, or waits at a sample where SCL rises before 25 ms and then runs. -/
def State.i2cRuns (s : State) : Bool := s.i2c.phase == 1 || (s.i2c.phase == 3 && s.i2c.wants)

/-- R437: the command ends: with a NACK or a lost arbitration after `moved` bytes, or whole, with what was read. -/
def State.i2cDone (s : State) (nack arblost : Bool) (pec : Byte) (moved : Nat) (data : List Byte) : State :=
  if s.i2cRuns then
    let part := nack || arblost
    let n := if part then min moved s.i2cLength else s.i2cLength
    let s1 := (((s.put Reg.I2C_STAT_BUSY 0).hwSet Reg.I2C_STAT_DONE 1).put Reg.I2C_STAT_NACK (b2n nack)).put
      Reg.I2C_STAT_ARBLOST (b2n arblost)
    let s2 := (s1.put Reg.I2C_STAT_PECERR (b2n (s.i2cPecBad pec data && !part))).put Reg.I2C_STAT_BYTES n
    let rl := if s.on Reg.I2C_CMD_RSTART then min 32 (s.get Reg.I2C_CMD_RLEN) else 0
    let put := if part then s.i2cPart n (nack && !arblost) else s.i2cSyms
    { s2 with i2c := { s2.i2c with phase := 0, wants := false, sent := s2.i2c.sent ++ put } }.i2cBytes 0
      (data.take (min rl (n - s.i2cWrites)))
  else s

def execI2cCommandDone (nack arblost : Bool) (pec : BitVec 8) (moved : Fin 67) (data : List Byte) (s : State) :
    Host.Outcome State Fault Refusal := .next (s.i2cDone nack arblost pec moved.val data)

/-- R437, R438: SCL has been low for 25 ms; how many bytes a command had moved by then the row does not tell. -/
def State.i2cTimeout (s : State) : State :=
  let idle := { s.put Reg.I2C_STAT_BUSY 0 with i2c := { s.i2c with phase := 0, wants := false } }
  if s.i2c.phase = 1 then
    let n := Config.free s.freeCtr % (s.i2cLength + 1)
    let s1 := (((idle.spend).put Reg.I2C_STAT_TMO 1).hwSet Reg.I2C_STAT_DONE 1).put Reg.I2C_STAT_BYTES n
    { s1 with i2c := { s1.i2c with sent := s1.i2c.sent ++ s.i2cPart n false } }
  else if s.i2c.phase = 3 then (idle.put Reg.I2C_STAT_STUCK 1).put Reg.I2C_STAT_PULSES 0
  else s

def execI2cTimeout (s : State) : Host.Outcome State Fault Refusal := .next s.i2cTimeout

/-- R438: recovery ends, also one that began where SCL rose after a sample: SDA rose at a pulse, a STOP follows and the command that waits
runs; or SDA never did (`pulses` = 0). -/
def State.i2cRecovered (s : State) (pulses : Nat) : State :=
  if s.i2c.phase = 2 ∨ s.i2c.phase = 3 then
    let put := fun (n : Nat) => s.i2c.sent ++ List.replicate n BusSym.pulse
    if pulses = 0 then
      let s1 := { s.put Reg.I2C_STAT_BUSY 0 with i2c := { s.i2c with phase := 0, wants := false, sent := put 9 } }
      ((s1.put Reg.I2C_STAT_STUCK 1).put Reg.I2C_STAT_PULSES 9).errFree { sev := 1, src := 15, code := 7, unit := 0 }
    else
      let s1 := (s.hwSet Reg.I2C_STAT_RECOV 1).put Reg.I2C_STAT_PULSES pulses
      { s1 with i2c := { s1.i2c with scl := true, sda := true, sent := put pulses ++ [BusSym.stop] } }.i2cSample
  else s

def execBusRecoveryDone (pulses : Fin 10) (s : State) : Host.Outcome State Fault Refusal := .next (s.i2cRecovered pulses.val)

/-- The I2C block's software reset. -/
def State.i2cReset (s : State) : State := { s.dropRange 0x70000 0x70100 with i2c := I2cSt.reset }

end Sys2Proof.Machine
end

