-- ==== Sys2Proof/Machine/Upsets.lean ====
section
/-! DEFINITION. Upsets of stored words: the memories with their scrubber, and the words on the data path (R501, R503, R504, R513, R534). -/
namespace Sys2Proof.Machine

/-! ### Scrubbing (R501 to R504) -/

/-- The model address of the service core's code memory (notes/assumptions/5.md). -/
def svcCode : Nat := 0x10000000000

/-- What the scrubber does about an uncorrectable word of a memory. -/
inductive ScrubKind where
  | keep | fret (unit interp : Nat) (active : Bool) | params | reload
  deriving DecidableEq, Repr

/-- R503, R504: a memory that the scrubber reads: block class, SOURCE, UNIT, and what an uncorrectable word does. -/
structure ScrubMem where
  cls  : Nat
  src  : Nat
  unit : Nat
  kind : ScrubKind
  deriving DecidableEq, Repr

/-- A word of the fret tables of unit `u`, at offset `o` from the first active table; shadow tables begin at `sh`. -/
def fretWord (u cls o sh : Nat) : Option ScrubMem :=
  if o < 0x1200 then some ⟨cls, 3, unitOf u, .fret u (o / 0x240) true⟩
  else if sh ≤ o ∧ o < sh + 0x1200 then some ⟨cls, 3, unitOf u, .fret u ((o - sh) / 0x240) false⟩
  else none

/-- R503: the memory a word lies in. -/
def scrubMem (a : Nat) : Option ScrubMem :=
  if 0x40000000 ≤ a ∧ a < 0x44000000 then
    let n := (a - 0x40000000) / 0x10000
    let o := a % 0x10000
    if 0x8000 ≤ o ∧ o < 0xC000 then some ⟨0, 4, n, .keep⟩
    else if 0xC500 ≤ o ∧ o < 0xC600 then some ⟨1, 4, n, .params⟩
    else if 0xD400 ≤ o then fretWord n 1 (o - 0xD400) 0x1400
    else none
  else if condCode 0 ≤ a ∧ a < condCode 2 then some ⟨2, 11, (a - condCode 0) / 0x100000, .keep⟩
  else if svcCode ≤ a then some ⟨5, 19, 0, .keep⟩
  else if 0x41000 ≤ a ∧ a < 0x44000 then fretWord edgeUnit 6 (a - 0x41000) 0x1800
  else if 0x50040 ≤ a ∧ a < 0x50058 then some ⟨6, 5, (a - 0x50040) / 8, .reload⟩
  else if 0x50400 ≤ a ∧ a < 0x504C0 then some ⟨6, 5, (a - 0x50400) / 0x40, .reload⟩
  else if (0x120C00 ≤ a ∧ a < 0x120C90) ∨ (0x1A0C00 ≤ a ∧ a < 0x1A0C90) then some ⟨2, 6, (a - 0x100000) / 0x80000, .reload⟩
  else if coefMem 0 ≤ a ∧ a < coefMem 8 then some ⟨6, 14, 0, .reload⟩
  else none

/-- R503: an uncorrectable word of a fret table: the nominal table goes to the shadow copy, and, for the active copy, is
committed at the next free instant.  No entry is logged for the AGE that it sets (R102). -/
def State.fretUncorr (s : State) (u i : Nat) (active : Bool) : State :=
  let h := shdAddr u i 0
  let s1 := s.setInterp u i { s.interp u i with shd := [], nominalPending := active || (s.interp u i).nominalPending }
  let s2 := { s1 with ecc := SMap.keep s1.ecc (fun a => !(decide (h ≤ a) && decide (a < h + 0x240))) }
  if active then s2 else (s2.put (fAge u i) 0xFFFFFF).putFbit (fStale u) i true

/-- R501, R503: the scrubber reads a word; `found` is what the read finds beyond the error the word is known to hold: 0
nothing, 1 a single-bit error, 2 an uncorrectable one. -/
def State.scrub (s : State) (a found : Nat) : State :=
  match scrubMem a with
  | none => s
  | some m =>
    if !s.dom (if a < 2 ^ 32 then addrDom a else if m.src = 11 then 19 + m.unit else if m.src = 14 then 34 else 1) then s
    else
      match max found (s.eccAt a) with
      | 0 => s
      | 1 => (s.putEcc a 0).seu m.cls
      | _ =>
        let e : Err := { sev := 2, src := m.src, code := 1, unit := m.unit, info := a / 4 }
        match m.kind with
        | .keep => (s.putEcc a 2).err e
        | .params => (s.putEcc a 2).err e
        | .fret u i act => ((s.putEcc a 2).err { e with sev := 1 }).fretUncorr u i act
        | .reload => ((s.dropRange a (a + 4)).putEcc a 0).err e

/-- R501: a memory under SECDED that the scrubber does not read: the data memories of the cores, and SEC_STAGE. -/
def unscrubbed (a : Nat) : Bool :=
  (decide (0x40000000 ≤ a) && decide (a < 0x44000000) && decide (a % 0x10000 < 0x8000))
    || (decide (condData 0 ≤ a) && decide (a < condData 0 + 0x20000)) || (decide (condData 1 ≤ a) && decide (a < condData 1 + 0x20000))
    || (decide (0x94000 ≤ a) && decide (a < 0xA0000))

/-- R501: an upset of a word that the scrubber does not read stays until an access finds it. -/
def State.memUpset (s : State) (a found : Nat) : State :=
  if (scrubMem a).isSome then s.scrub a found
  else if unscrubbed a && s.dom (if a < 2 ^ 32 then addrDom a else if a < condData 1 then 19 else 20) then s.putEcc a (max found (s.eccAt a))
  else s

/-! ### Words on the data path (R501, R513, R534) -/

/-- One bit of a word, or of its parity bits, reversed. -/
def flipWord (bit : Nat) (w : Word64) : Word64 := if bit < 64 then w ^^^ BitVec.ofNat 64 (2 ^ bit) else w
def flipParity (bit : Nat) (p : BitVec 2) : BitVec 2 := if bit < 64 then p else p ^^^ BitVec.ofNat 2 (2 ^ (bit - 64))
def HqWord.flip (h : HqWord) (bit : Nat) : HqWord := { h with word := flipWord bit h.word, parity := flipParity bit h.parity }
def MonEntry.flip (e : MonEntry) (bit : Nat) : MonEntry := { e with word := flipWord bit e.word, parity := flipParity bit e.parity }

/-- Entry `i` of a list changed. -/
def changeAt {α : Type} (f : α → α) (i : Nat) (l : List α) : List α :=
  match l[i]? with
  | some x => l.set i (f x)
  | none => l

/-- R501: word `w` of some words takes an error: a single-bit one will be corrected, the value under an uncorrectable one is free. -/
def hitWords (ws : List Word64) (w e fresh : Nat) : List Word64 := if 2 ≤ e then changeAt (fun _ => BitVec.ofNat 64 fresh) w ws else ws
def hitBytes (bs : List Byte) (w e fresh : Nat) : List Byte :=
  if 2 ≤ e then bs.take (8 * w) ++ (leBytes 8 fresh ++ bs.drop (8 * w + 8)).take (bs.length - 8 * w) else bs

def OutEntry.hit (x : OutEntry) (w e fresh : Nat) : OutEntry :=
  if w < x.words.length then { x with words := hitWords x.words w e fresh, ecc := max x.ecc e } else x
def MergeItem.hit (x : MergeItem) (w e fresh : Nat) : MergeItem :=
  if w < x.words.length then { x with words := hitWords x.words w e fresh, ecc := max x.ecc e } else x
def Block.hit (x : Block) (w e fresh : Nat) : Block :=
  if w < x.words.length then { x with words := hitWords x.words w e fresh, ecc := max x.ecc e } else x
def Staged.hit (x : Staged) (w e fresh : Nat) : Staged :=
  if 8 * w < x.bytes.length then { x with bytes := hitBytes x.bytes w e fresh, ecc := max x.ecc e } else x
def DrainBlk.hit (x : DrainBlk) (w e fresh : Nat) : DrainBlk :=
  if 8 * w < x.bytes.length then { x with bytes := hitBytes x.bytes w e fresh, ecc := max x.ecc e } else x
def TxSt.hit (v : TxSt) (w e fresh : Nat) : TxSt :=
  if w < v.payload.length then
    { v with payload := if 2 ≤ e then changeAt (fun x => (x.1, BitVec.ofNat 64 fresh)) w v.payload else v.payload,
             ecc := if e = 1 then w + 1 else v.ecc }
  else v

/-- R501, R534: an upset of a word on the data path; `e` is 1 for a single-bit error, 2 for an uncorrectable one. -/
def State.pathUpset (s : State) (x : Upset) (e : Nat) : State :=
  let f := s.fresh 64
  let a := s.spend
  match x with
  | .word _ => s
  | .hit n i bit => s.setRegion n { s.region n with hq := changeAt (·.flip bit) i (s.region n).hq }
  | .result i bit => { s with mon := { s.mon with queue := changeAt (·.flip bit) i s.mon.queue } }
  | .output c i w => a.setCore c { a.core c with outq := changeAt (·.hit w e f) i (a.core c).outq }
  | .trunk src i w => { a with merge := SMap.set a.merge src (changeAt (·.hit w e f) i (SMap.get a.merge src [])) [] }
  | .staging k q i w =>
    let v := a.stream k q
    a.setStream k q (if i = 0 then { v with block := v.block.map (·.hit w e f) } else { v with wait := changeAt (·.hit w e f) (i - 1) v.wait })
  | .queue k g i w =>
    let v := a.keel k
    if (SMap.get v.queues g []).isEmpty then a
    else a.setKeel k { v with queues := SMap.ins v.queues g (changeAt (·.hit w e f) i (SMap.get v.queues g [])) }
  | .brick k i w => a.setSpill k { a.spill k with staged := changeAt (·.hit w e f) i (a.spill k).staged }
  | .drain k g i w =>
    let v := a.spill k
    if (SMap.get v.drained g []).isEmpty then a
    else a.setSpill k { v with drained := SMap.ins v.drained g (changeAt (·.hit w e f) i (SMap.get v.drained g [])) }
  | .lane i w => a.setTx i ((a.tx i).hit w e f)

/-- R501, R503, R534: the scrubber reads a word of a memory, and an upset reaches a word (notes/assumptions/101.md); `found` is 0 for no
new error. -/
def State.scrubRow (s : State) (x : Upset) (found : Nat) : State :=
  match x with
  | .word a => s.memUpset (a / 4 * 4) found
  | _ => if found = 0 then s else s.pathUpset x found

def execScrub (addr : Upset) (found : Fin 3) (s : State) : Host.Outcome State Fault Refusal := .next (s.scrubRow addr found.val)

end Sys2Proof.Machine
end

