-- ==== Sys2Proof/Machine/LifeLog.lean ====
section
/-! DEFINITION. The error log's commands, recovery periods, and the life log (R505 to R520). -/
namespace Sys2Proof.Machine

/-! ### The error log's commands (R510, R512) -/

/-- R507, R510: the words of an entry are written to the slot that a new entry takes. -/
def State.errFill (s : State) (ws : List Nat) : State :=
  let w := fun (j : Nat) => ws.getD j 0
  match s.errSlot (bits (w 0) 14 2) with
  | none => s
  | some i =>
    let s1 := (((s.put (Reg.EL_ENTRY0_SEQ i) (bits (w 0) 16 16)).put (Reg.EL_ENTRY0_SEV i) (bits (w 0) 14 2)).put
      (Reg.EL_ENTRY0_SOURCE i) (bits (w 0) 8 6)).put (Reg.EL_ENTRY0_CODE i) (bits (w 0) 0 8)
    let s2 := ((s1.put (Reg.EL_ENTRY1_UNIT i) (bits (w 1) 22 10)).put (Reg.EL_ENTRY1_INFO i) (bits (w 1) 0 22)).put
      (Reg.EL_ENTRY2_SECS i) (w 2)
    let s3 := ((s2.put (Reg.EL_ENTRY3_NEST i) (bits (w 3) 31 1)).put (Reg.EL_ENTRY3_ESC i) (bits (w 3) 30 1)).put
      (Reg.EL_ENTRY3_NS i) (bits (w 3) 0 30)
    let s4 := { s3 with errOrder := s3.errOrder.filter (· != i) ++ [i] }
    s4.put Reg.EL_STAT_COUNT s4.errOrder.length

/-- R510: EL_CTRL.CLR empties every slot; the entries of this cycle are written after the clear.  What a master has latched of
an entry stays (R466). -/
def State.errClear (s : State) : State :=
  let s1 := { (s.dropRange 0xA0100 0xA0300).put Reg.EL_STAT_COUNT 0 with errOrder := [], latchHi := s.latchHi }
  s.cycNow.errs.foldl State.errFill s1

/-- R510: a read of word 0 of an entry latches words 1 to 3 for the reading master. -/
def State.errLatch (s : State) (m i : Nat) : State :=
  let a := 0xA0100 + 0x10 * i
  let w1 := s.get (Reg.EL_ENTRY1_UNIT i) * 2 ^ 22 + s.get (Reg.EL_ENTRY1_INFO i)
  let w2 := s.get (Reg.EL_ENTRY2_SECS i)
  let w3 := s.get (Reg.EL_ENTRY3_NEST i) * 2 ^ 31 + s.get (Reg.EL_ENTRY3_ESC i) * 2 ^ 30 + s.get (Reg.EL_ENTRY3_NS i)
  let l := SMap.ins (SMap.ins s.latchHi (m * 2 ^ 32 + a + 4) w1) (m * 2 ^ 32 + a + 8) w2
  { s with latchHi := SMap.ins l (m * 2 ^ 32 + a + 12) w3 }

/-- R512: a recovery period, WIN ms from the completion of a step, ends without a failure. -/
def State.recoveryEnd (s : State) (b : Nat) : State :=
  if (s.escOf b).busy || (s.escOf b).step == 0 then s
  else (s.advFrom (s.escOf b).doneAt (1250000 * max 1 (s.get Reg.EL_ESC_WIN))).setEsc b EscSt.reset

def execRecoveryPeriodEnd (b : Fin 1027) (s : State) : Host.Outcome State Fault Refusal := .next (s.recoveryEnd b.val)

/-! ### Samples (R514 to R516) -/

/-- R524: the nominal value of a sense point in µV. -/
def nominalUv (p : Nat) : Nat :=
  match p with
  | 0 => 800000
  | 1 => 750000
  | 3 => 1200000
  | 6 => 1200000
  | 8 => 500000
  | 9 => 1800000
  | 10 => 1800000
  | 11 => 3300000
  | _ => 900000

/-- The latest value of a channel, if it counts for a sample. -/
def State.lastGood (s : State) (tag : Nat) : Option Int :=
  if s.on (Reg.MON_LAST_VALID tag) && !s.on (Reg.MON_LAST_OOR tag) then some (signed 24 (s.get (Reg.MON_LAST_VALUE tag))) else none

/-- R514: the bins of a temperature and of a supply's deviation. -/
def tempBin (t : Int) : Nat := (min 31 (max 0 ((t + 40000) / 5000))).toNat
def supplyBin (p : Nat) (v : Int) : Nat := (min 15 (max 0 ((v - nominalUv p) * 100 / nominalUv p + 8))).toNat

/-- R516: the temperature sample. -/
def State.tempSample (s : State) : State :=
  match (List.range 8).filterMap s.lastGood with
  | [] => s
  | x :: r =>
    let t := r.foldl max x
    let s1 := s.lifeAdd (0x200 + 4 * tempBin t) 1
    let newer := match s1.life.maxTemp with
      | some (u, _) => decide (u < t)
      | none => true
    if newer then { s1 with life := { s1.life with maxTemp := some (t, s1.lcSec % 2 ^ 32) } } else s1

/-- R516: one second passes: state time, and in STANDBY, ARMED and ACQUIRE one sample of each histogram. -/
def State.histSample (s : State) : State :=
  let p := s.pwr
  if p < 1 ∨ p > 4 then s
  else
    let s1 := s.lifeAdd (0x8 + 4 * (p - 1)) 1
    if p = 1 then s1
    else (List.range 12).foldl (fun a i =>
      match a.lastGood (24 + i) with
      | some v => a.lifeAdd (0x280 + 64 * i + 4 * supplyBin i v) 1
      | none => a) s1.tempSample

def execHistogramSample (s : State) : Host.Outcome State Fault Refusal := .next s.histSample

/-! ### Commits (R517, R518) -/

/-- R518: the hold-up check: energy `e` in µJ, VHOLD in µV, C in µF (option bytes 8 and 9). -/
def State.holdupC (s : State) : Nat := s.optByte 8 + 256 * s.optByte 9
def State.holdupOk (s : State) (e uv : Nat) : Bool :=
  s.dom 34 && decide (s.holdupC ≠ 0) && decide (s.holdupC * uv ^ 2 ≥ s.holdupC * 2500000 ^ 2 + 2400000000000 * e)

/-- R431, R518: a check with its conversion: HPASS and VHOLD; a slot in progress goes on 5 µs later. -/
def State.holdup (s : State) (e uv : Nat) : Bool × State :=
  let ok := s.holdupOk e uv
  let s1 := s.put Reg.LL_STAT_HPASS (b2n ok)
  (ok, if s.dom 34 then
    { s1.put Reg.LL_STAT_VHOLD (uv / 1000) with mon := { s1.mon with at0 := s1.mon.at0 + convTicks } } else s1)

/-- A hold-up check is asked for. -/
def State.askCheck (s : State) (i : Nat) : State := { s with checks := s.checks ++ [i] }

/-- R517: a commit is asked for and waits for its check. -/
def State.lifeCommit (s : State) : State :=
  if !s.dom 1 || s.on Reg.LL_STAT_BUSY || s.checks.contains 0 then s
  else ({ s with life := { s.life with notable := false } }.put Reg.LL_STAT_PEND 1).askCheck 0

def execLifeLogCommit (s : State) : Host.Outcome State Fault Refusal := .next s.lifeCommit

/-- R517: LL_CTRL.COMMIT. -/
def State.commitRequest (s : State) : State := (s.put Reg.LL_CTRL_COMMIT 1).lifeCommit

/-- R518: a deferred commit retries its check. -/
def State.commitRetry (s : State) : State :=
  if s.on Reg.LL_STAT_PEND && !s.on Reg.LL_STAT_BUSY then s.lifeCommit else s

def execDeferredCommitRetry (s : State) : Host.Outcome State Fault Refusal := .next s.commitRetry

/-- R514: hit words in whole units of 2²⁰ join the deltas. -/
def State.hitDeltas (s : State) : State :=
  (List.range 8).foldl (fun a st =>
    let n := SMap.get a.hitWords st 0
    if n < 2 ^ 20 then a
    else { a.lifeAdd (0x130 + 8 * st) (n / 2 ^ 20) with hitWords := SMap.set a.hitWords st (n % 2 ^ 20) 0 }) s

/-- R517, R518: the verdict of a commit's check: it captures the deltas, or is deferred. -/
def State.commitChecked' (s : State) (ok : Bool) : State :=
  if ok then
    let s1 := s.hitDeltas
    { s1.put Reg.LL_STAT_BUSY 1 with
      life := { s1.life with taken := some (s1.life.delta, s1.life.high, s1.life.maxTemp), delta := [], high := [], maxTemp := none } }
  else
    let s1 := ((s.lifeEvent 9).put Reg.LL_STAT_PEND 1).put Reg.LL_CTRL_COMMIT 0
    if s.metWrote Reg.LL_CTRL_COMMIT = 0 then s1 else s1.commitRequest

/-- R514: the width in bytes of the counter at an offset. -/
def lifeWidth (off : Nat) : Nat := if (0x60 ≤ off ∧ off < 0xA0) ∨ (0x130 ≤ off ∧ off < 0x170) then 8 else 4

/-- A counter of an image advanced, saturating. -/
def State.imageAdd (s : State) (base : Nat) (e : Nat × Nat) : State :=
  let w := lifeWidth e.1
  s.writeLe (base + e.1) w (satAdd (8 * w) (s.readLe (base + e.1) w) e.2)

/-- An image copied from one half to the other. -/
def State.imageCopy (s : State) (h g : Nat) : State :=
  let old := SMap.keep s.mem (fun a => decide (lifeHalf h ≤ a) && decide (a < lifeHalf h + 0x8000))
  old.foldl (fun a e => a.writeByte (e.1 - lifeHalf h + lifeHalf g) e.2) (s.dropMem (lifeHalf g) (lifeHalf g + 0x8000))

/-- R514: the highest temperature joins an image that has sampled none, or none so high. -/
def State.imageTemp (s : State) (base : Nat) : Option (Int × Nat) → State
  | none => s
  | some (t, sec) =>
    let none' := (List.range 32).all (fun b => s.readLe (base + 0x200 + 4 * b) 4 == 0)
    if none' || decide (signed 32 (s.readLe (base + 0x58) 4) < t) then
      (s.writeLe (base + 0x58) 4 (unsigned 32 t)).writeLe (base + 0x5C) 4 sec
    else s

/-- R514: the last eight high-severity entries, newest first. -/
def State.imageHigh (s : State) (base : Nat) (high : List (List Nat)) : State :=
  let old := (List.range 8).map (fun k => (List.range 4).map (fun j => s.readLe (base + 0x580 + 16 * k + 4 * j) 4))
  let new := (high ++ old).take 8
  s.writeBytes (base + 0x580) (new.flatMap (fun ws => ws.flatMap (leBytes 4)))

/-- R517: the image is written and verified in the other half; the captured deltas clear.  A write of LL_CTRL.COMMIT that
meets the end asks anew (R12). -/
def State.commitDone (s : State) : State :=
  match s.life.taken with
  | none => s
  | some (delta, high, temp) =>
    if !s.on Reg.LL_STAT_BUSY then s
    else
      let h := s.get Reg.LL_STAT_HALF
      let g := 1 - h
      let b := lifeHalf g
      let s1 := s.imageCopy h g
      let s2 := s1.imageTemp b temp
      let s3 := (delta.foldl (fun a e => a.imageAdd b e) s2).imageHigh b high
      let s4 := (s3.writeLe b 4 0x4C494645).writeLe (b + 4) 4 (s3.readLe (b + 4) 4 + 1)
      let s5 := s4.writeLe (b + 0x7FFC) 4 (crc32c (s4.readBytes b 0x7FFC))
      let s6 := (((s5.put Reg.LL_STAT_HALF g).put Reg.LL_STAT_BUSY 0).put Reg.LL_STAT_PEND 0).put Reg.LL_CTRL_COMMIT 0
      let s7 := { s6 with life := { s6.life with taken := none } }
      if s.metWrote Reg.LL_CTRL_COMMIT = 0 then s7 else s7.commitRequest

def execLifeLogCommitDone (s : State) : Host.Outcome State Fault Refusal := .next s.commitDone

/-- R517: a commit cut short: what it captured stays in retention. -/
def State.commitCut (s : State) : State :=
  match s.life.taken with
  | none => s
  | some (delta, high, temp) =>
    let l := s.life
    let t := match l.maxTemp, temp with
      | some (t, x), some (u, y) => if t > u then some (t, x) else some (u, y)
      | some x, none => some x
      | none, y => y
    let d := delta.foldl (fun a e => SMap.set a e.1 (SMap.get a e.1 0 + e.2) 0) l.delta
    { s with life := { l with taken := none, high := (l.high ++ high).take 8, delta := d, maxTemp := t } }

/-- R516: at boot step 5: a half of the image is good; the later of two (R291 compares modulo 2³²). -/
def State.halfGood (s : State) (h : Nat) : Bool :=
  s.readLe (lifeHalf h) 4 == 0x4C494645 && s.readLe (lifeHalf h + 0x7FFC) 4 == crc32c (s.readBytes (lifeHalf h) 0x7FFC)
def State.lifeBoot (s : State) : State :=
  let g0 := s.halfGood 0
  let g1 := s.halfGood 1
  let q := fun (h : Nat) => s.readLe (lifeHalf h + 4) 4
  if g0 || g1 then
    let one := g1 && (!g0 || ((q 1 + 2 ^ 32 - q 0) % 2 ^ 32 < 2 ^ 31 && q 1 != q 0))
    (s.put Reg.LL_STAT_HALF (b2n one)).put Reg.LL_STAT_BAD 0
  else
    ((((s.dropMem (lifeHalf 0) (lifeHalf 0 + 0x8000)).put Reg.LL_STAT_HALF 0).hwSet Reg.LL_STAT_BAD 1).lifeEvent 15).errFree
      { sev := 2, src := 20, code := 6, unit := 0 }

end Sys2Proof.Machine
end

