-- ==== Sys2Proof/Machine/Facility.lean ====
section
/-! DEFINITION. The debug matrix (R487, R488): which facilities are available, and what their loss does. -/
namespace Sys2Proof.Machine

/-- R487: availability of a facility in a lifecycle: 0 N, 1 Y, 2 S, 3 T, 4 TS. -/
def facCode (lc f : Nat) : Nat :=
  match f with
  | 0 => 1
  | 1 => if lc = 2 then 4 else 2
  | 2 => if lc ≤ 1 then 1 else if lc = 4 then 0 else 3
  | 3 => 1
  | 4 => if lc = 4 then 0 else 1
  | 5 => if lc ≤ 1 then 1 else if lc = 4 then 0 else 3
  | 6 => if lc = 2 ∨ lc = 4 then 0 else 1
  | _ => 0

/-- R487: facility `f` is available now. -/
def State.fac (s : State) (f : Nat) : Bool :=
  (s.pwr == 2 || s.armed) && s.dom 1 &&
    (match facCode s.lc f with
     | 0 => false
     | 1 => true
     | 2 => s.pwr == 2
     | 3 => s.fbit Reg.SEC_STAT_GRANT f
     | _ => s.pwr == 2 && s.fbit Reg.SEC_STAT_GRANT f)

/-- R486: the facilities that a token can grant in a lifecycle. -/
def grantable (lc : Nat) : Nat := sumOf ((List.range 7).map (fun f => if facCode lc f ≥ 3 then 2 ^ f else 0))

/-- R489: the facility of a JTAG instruction. -/
def jtagFac (ir : Nat) : Nat := if ir = 0 ∨ (3 ≤ ir ∧ ir ≤ 6) then 1 else if ir = 0x10 then 2 else 0

/-- R493: a debug halt of a core begins; its watchdog stands at the count so far. -/
def State.debugHalt (s : State) (c : Nat) : State :=
  let k := s.core c
  if k.dbgHalt then s
  else s.setCore c { k with dbgHalt := true, wdStart := if s.wdRuns c then s.time.tick - k.wdStart else k.wdStart }

/-- R493: a debug-halted core resumes at its PC; a breakpoint there is passed over once. -/
def State.debugRun (s : State) (c : Nat) : State :=
  let k := s.core c
  if k.dbgHalt then
    s.setCore c { k with dbgHalt := false, brkPass := true, stepping := none,
                         wdStart := if s.on (Reg.WDOG_EN c) then s.time.tick - k.wdStart else k.wdStart }
  else s

/-- R488: every debug-halted engine resumes and every breakpoint is cleared. -/
def State.debugEnd (s : State) : State :=
  let cs := (s.cores.filter (fun e => e.2.dbgHalt || !e.2.brks.isEmpty)).map (·.1)
  let s1 := cs.foldl (fun a c => let b := a.debugRun c; b.setCore c { b.core c with brks := [], brkPass := false }) s
  { s1 with sec := { s1.sec with halted := false } }

/-- R488: the monitor level drops to the highest still permitted. -/
def State.monLevel (s : State) : Nat :=
  let l := s.get Reg.SEC_STAT_MLVL
  if l ≥ 2 && !s.fac 5 then (if s.fac 4 then 1 else 0) else if l == 1 && !s.fac 4 then 0 else l

/-- R488: what the loss of facilities does on the tick on which a power transition, a LOCK, a reset or a lifecycle change
takes them away. -/
def State.facLoss (s : State) : State :=
  let s1 := if s.fac (jtagFac (s.get Reg.JTAG_STAT_IR)) then s else s.put Reg.JTAG_STAT_IR 0xFF
  let s2 := if s1.fac 2 then s1 else s1.debugEnd
  s2.put Reg.SEC_STAT_MLVL s2.monLevel

end Sys2Proof.Machine
end

