-- ==== Sys2Proof/Machine/Power.lean ====
section
/-! DEFINITION. Power domains and states (R440 to R451, R458 to R461): what is on, what a domain's power-up and cut do,
latch-up, block resets, and the transitions between power states. -/
namespace Sys2Proof.Machine

/-! ### Which domains are on (R441) -/

/-- R441, R444, R445: the domains of ARMED are on, or are being powered for it. -/
def State.armPower (s : State) : Bool := (s.armed && s.pw.stage != 4) || s.pw.stage == 1 || s.pw.stage == 2

/-- The domain is one of ARMED's own: ANA, TXQ, RXQ. -/
def domArm (d : Nat) : Bool := (3 ≤ d && d ≤ 10) || (21 ≤ d && d ≤ 30)
/-- MEM0 and MEM1; the keels. -/
def domMem (d : Nat) : Bool := d == 31 || d == 32
def domIsKeel (d : Nat) : Bool := d == 19 || d == 20

/-- R441, R454: the domain is on in the present state (in a boot, from its step; CLK and SVC power up within steps 4 and 5). -/
def State.allowed (s : State) (d : Nat) : Bool :=
  if d = 0 then s.pwr != 0
  else if d < 3 then s.domEn d && (s.pwr == 2 || s.armed || (s.pwr == 5 && decide (7 - d ≤ s.pw.boot)))
  else if domArm d then s.domEn d && s.armPower
  else if domMem d then
    s.domEn d && (s.armPower || (s.pwr == 2 && s.on Reg.MC_CFG_SRSTBY && s.on Reg.MC_CFG_EN))
  else s.domEn d && (s.pwr == 2 || s.armed || (s.pwr == 5 && decide ((if domIsKeel d then 7 else 8) ≤ s.pw.boot)))

/-- The domain is to be powered and has not started. -/
def State.wanting (s : State) (d : Nat) : Bool :=
  s.allowed d && !s.dom d && !s.pw.starting.contains d && !s.pw.off.contains d

/-- Every domain of a kind that the state allows is at power-good, or waits for its power after a cut. -/
def State.settled (s : State) (p : Nat → Bool) : Bool :=
  (List.range 36).all (fun d => !p d || s.dom d || s.pw.off.contains d || !s.allowed d)

/-! ### Slots, lanes and units of a domain -/

/-- R341, R343: a TX slot at its reset: the logical lane that LMAP gives it, the default candidate; a host state that falls to UNKNOWN
fails a commit in its checks (R241). -/
def State.slotReset (s : State) (i : Nat) : State :=
  let s0 := (if s.hostState i = hUNKNOWN then s else s.commitChanged).msgsLost i
  let s1 := (s0.setTx i TxSt.reset).dropRange (0x301000 + 0x20 * i) (0x301020 + 0x20 * i)
  let l := ((List.range 32).find? (fun l => s1.get (Reg.LMAP_SLOT l) == i)).getD 63
  let c := s1.txDefault i
  (((s1.put (Reg.LN_TXSTAT_LOGL i) l).put (Reg.LN_TXSTAT_SUB i) (b2n (decide (i ≥ 32 ∧ l < 32)))).put
    (Reg.LN_TXCTRL_CAND i) c).put (Reg.LN_TXSTAT_CSEL i) c

/-- An RX lane at its reset. -/
def State.rxReset (s : State) (j : Nat) : State := ((s.rxLeft j).setRx j RxSt.reset).dropRange (0x302000 + 0x20 * j) (0x302020 + 0x20 * j)

/-- R343: the lane block's global and group registers at their reset, with the board table loaded again (R332); the group
membership that the lane mux took at the last commit stays (R327, notes/assumptions/90.md). -/
def State.laneReset (s : State) : State :=
  let s1 := (({ s with lmapDue := [], subDue := [] }.dropRange 0x300000 0x301000).dropRange 0x302100 0x302104).dropRange
    0x303000 0x304000
  let s2 := s1.laneTableLoad (s1.optByte 4)
  (List.range 36).foldl (fun a i =>
    let l := ((List.range 32).find? (fun l => a.get (Reg.LMAP_SLOT l) == i)).getD 63
    (a.put (Reg.LN_TXSTAT_LOGL i) l).put (Reg.LN_TXSTAT_SUB i) (b2n (decide (i ≥ 32 ∧ l < 32)))) s2

/-- R297, R316: the memory controller leaves READY: blocks held are discarded, the spill figures become 0. -/
def State.mcLose (s : State) : State :=
  { s.spillGone.mcStop with dram := [] }

/-- The waveform digitiser and trigger unit at their reset; a gap in progress stays open (R235). -/
def State.waveReset (s : State) : State :=
  let s1 := s.waveStop.dropRange 0x50000 0x60000
  { s1 with trgs := [], firings := [], units := [], rreqs := [],
            wave := { WaveSt.reset with gapAt := s1.wave.gapAt, gapQ := s1.wave.gapQ, next := s1.wave.next } }

/-- The edge unit at its reset: measurements and conversions are abandoned (R118); in ARMED and ACQUIRE background
calibration goes on (R100). -/
def State.edgeReset (s : State) : State :=
  let s1 := { s.dropRange 0x40000 0x50000 with tins := [], edgeTags := [], edgeStamps := [], interps := SMap.keep s.interps (fun x => x < 8192) }
  if s1.armed && s1.dom 35 then s1.calBackground edgeUnit else s1

/-- R483: a LOAD loses the targets whose domain is cut. -/
def State.loadLoses (s : State) (p : Nat → Bool) : State :=
  match s.sec.op with
  | some (op, arg, ts, lost, res) =>
    match ts.find? p with
    | some t => { s with sec := { s.sec with op := some (op, arg, ts.filter (fun x => !p x), some ((lost.map (min t)).getD t), res) } }
    | none => s
  | none => s

/-! ### Cuts (R449, R450) -/

/-- R450, R119: DIGs goes off: bias off, and nothing of the stripe is left, so that no word of it is pending (R64); the gap marks
are due when it is back. -/
def State.digCut (s : State) (st : Nat) : State :=
  let mine := fun (n : Nat) => decide (n / 128 = st ∧ n < 1024)
  let s1 := (s.biasRemove st).loadLoses mine
  let s2 := ((s1.dropRegs (fun key => keyDom key == domDig st)).put (Reg.CFG_STAT_PENDING st) 0).dropMem
    (reWindow (128 * st)) (reWindow (128 * st + 128))
  { s2 with
    cores := SMap.keep s2.cores (fun c => !mine c), regions := (List.range 128).foldl (fun m j =>
      SMap.set m (st * 128 + j) { RegionSt.reset with markSeen := s2.marks.length } RegionSt.reset)
      (SMap.keep s2.regions (fun n => !mine n)),
    interps := SMap.keep s2.interps (fun x => x / 1024 != st), libs := SMap.keep s2.libs (fun x => x / 512 != st),
    libPops := SMap.keep s2.libPops (fun c => !mine c), hits := SMap.keep s2.hits (fun p => p / 16384 != st),
    esc := SMap.keep s2.esc (fun c => !mine c), errOpen := s2.errOpen.filter (fun b => !mine (b % 4096)),
    quiesce := s2.quiesce.filter (fun q => !mine q.block || q.why == 0), rreqs := s2.rreqs.filter (fun e => !mine e.1),
    merge := s2.merge.filterMap (fun e =>
      if 32 ≤ e.1 then some e
      else
        let r := e.2.filter (fun m => m.origin / 128 != st)
        if r.isEmpty then none else some (e.1, r)),
    ecc := SMap.keep s2.ecc (fun a => !(decide (reWindow (128 * st) ≤ a) && decide (a < reWindow (128 * st + 128)))),
    memGen := (s2.newCode ((List.range 128).map (st * 128 + ·))).memGen, pw := { s2.pw with dark := if s2.pw.dark.contains st then s2.pw.dark else s2.pw.dark ++ [st] } }

/-- R71: ANAs goes off: bias off, the pixel-tier latches hold nothing; a test-pulse train goes on (R73). -/
def State.anaCut (s : State) (st : Nat) : State :=
  let s1 := s.biasRemove st
  { s1 with latches := SMap.keep s1.latches (fun p => p / 16384 != st), injs := SMap.keep s1.injs (fun p => p / 16384 != st) }

/-- R449: what goes with a domain that goes off; `latch` where a latch-up cut it, which the lane mux takes as DOWN. -/
def State.domLoss (s : State) (d : Nat) (latch : Bool) : State :=
  if d = 2 then { s.pllUnlock with time := { s.time with run := false } }
  else if 3 ≤ d ∧ d ≤ 10 then s.anaCut (d - 3)
  else if 11 ≤ d ∧ d ≤ 18 then s.digCut (d - 11)
  else if d = 19 ∨ d = 20 then (s.loadLoses (· == d - 19 + 1024)).keelCut (d - 19)
  else if 21 ≤ d ∧ d ≤ 29 then
    (List.range 4).foldl (fun a j =>
      let i := 4 * (d - 21) + j
      (if latch && a.on (Reg.LN_TXCTRL_EN i) && a.hostState i != hDOWN then a.slotDown i else a).slotReset i) s
  else if d = 30 then (List.range 4).foldl (fun a j => a.rxReset j) s
  else if domMem d then s.mcLose
  else if d = 33 then s.waveReset
  else if d = 34 then s.monReset
  else if d = 35 then s.edgeReset
  else s

/-- A domain goes off; of a keel's the arbiter is told first (R406, R449). -/
def State.cutDomain (s0 : State) (d : Nat) (latch : Bool) : State :=
  let s := if d = 33 ∧ s0.dom 33 then s0.waveStop
    else if (d = 19 ∨ d = 20) ∧ s0.dom d then s0.arbInput (d - 19) 3 else s0
  let s1 := { s.putFbit Reg.PR_DOM_PG_PG d false with
              pw := { s.pw with starting := s.pw.starting.filter (· != d) },
              quiesce := s.quiesce.filter (fun q => !(q.why == 2 && q.dom == d)) }
  if s.dom d then s1.domLoss d latch else s1

/-! ### Power-up (R442, R450) -/

/-- R450: the gap marks of a region that comes back, in the streams of its mask. -/
def State.digMarks (s : State) (n start : Nat) : State :=
  match s.active? with
  | none => s
  | some k =>
    let mask := dget (s.inForce k) (Reg.BR_MASK_MASK 0 n)
    s.markAll k (fun q => mask.testBit q) (gapWords 0 false n start s.now 0)

/-- R132: the cores of a range with AUTO = 1 start. -/
def State.autoStart (s : State) (cs : List Nat) : State :=
  cs.foldl (fun a c => if a.on (Reg.CORE_CTRL_AUTO c) && a.coreState c == cHALTED && a.dom (domDig (stripeOf c)) && a.mayStart c
    then a.coreRun c else a) s

/-- R450: DIGs comes back in ARMED or ACQUIRE: marks, bias, quick calibration, cores; during the ascent to ARMED, bias (R69);
in every state its registers are at their reset values. -/
def State.digUp (s : State) (st : Nat) : State :=
  let rs := (List.range 128).map (fun j => st * 128 + j)
  let s1 := { s with pw := { s.pw with dark := s.pw.dark.filter (· != st) } }
  if s.armed then
    let s2 := if s.pw.dark.contains st then rs.foldl (fun a n => a.digMarks n (SMap.get s.pw.safe n 0)) s1 else s1
    let s3 := if s2.dom (domAna st) then s2.biasStart st else s2
    (rs.foldl (fun a n => a.calStart n) s3).autoStart rs
  else
    if s1.armPower && s1.dom (domAna st) then s1.biasStart st else s1

/-- R442, R444: a domain has reached power-good. -/
def State.poweredUp (s : State) (d : Nat) : State :=
  if 3 ≤ d ∧ d ≤ 10 then (if s.armPower && s.dom (domDig (d - 3)) then s.biasStart (d - 3) else s)
  else if 11 ≤ d ∧ d ≤ 18 then s.digUp (d - 11)
  else if d = 19 ∨ d = 20 then s.keelPowered (d - 19)
  else if 21 ≤ d ∧ d ≤ 29 then (List.range 4).foldl (fun a j => a.slotReset (4 * (d - 21) + j)) s
  else if domMem d then (if s.on Reg.MC_CFG_EN && s.mc.step == 0 then s.mcStart else s)
  else if d = 33 then s.waveStart
  else if d = 35 then (if s.armed then s.calStart edgeUnit else s)
  else s

/-- R448: a domain that a latch-up had cut is powered again from now. -/
def State.rearm (s : State) (d : Nat) : State :=
  let again := match SMap.find? s.pw.again d, s.clock? with
    | some _, some t => SMap.ins s.pw.again d (.since t)
    | some _, none => SMap.ins s.pw.again d .loose
    | none, _ => s.pw.again
  { s with pw := { s.pw with again := again } }

/-- R442, R448: a domain starts. -/
def State.startDom (s : State) (d : Nat) : State :=
  let s1 := s.rearm d
  { s1 with pw := { s1.pw with starting := s1.pw.starting ++ [d] } }

/-- R442: a domain starts: the lowest that waits. -/
def State.domainUp (s : State) (d : Nat) : State :=
  if s.wanting d && (List.range d).all (fun x => !s.wanting x) then s.startDom d else s

/-- R442: a domain that started reaches power-good. -/
def State.domainGood (s : State) (d : Nat) : State :=
  if s.pw.starting.contains d then
    ({ s with pw := { s.pw with starting := s.pw.starting.filter (· != d) } }.putFbit Reg.PR_DOM_PG_PG d true).poweredUp d
  else s

/-- R448, R526: a domain stays off. -/
def State.domainFailed (s : State) (d : Nat) : State :=
  (((s.hwSetBit Reg.PR_DOM_FAIL_FAIL d).errFree { sev := 3, src := 12, code := 0x0B, unit := d }).lifeEvent 13).notable

/-- R526: a domain that started is not at power-good in time. -/
def State.domainFail (s : State) (d : Nat) : State :=
  if s.pw.starting.contains d then (s.cutDomain d false).domainFailed d else s

def execDomainPowerUp (d : Fin 36) (s : State) : Host.Outcome State Fault Refusal := .next (s.domainUp d.val)
def execDomainPowerGood (d : Fin 36) (s : State) : Host.Outcome State Fault Refusal := .next (s.domainGood d.val)
def execDomainPowerFail (d : Fin 36) (s : State) : Host.Outcome State Fault Refusal := .next (s.domainFail d.val)

/-! ### Quiesce and block reset (R442, R458 to R460) -/

/-- R458: the codes that name a block. -/
def blockCode (b : Nat) : Bool :=
  b < 0x402 || (0x410 ≤ b && b ≤ 0x433) || (0x440 ≤ b && b ≤ 0x443) || b == 0x450 || (0x460 ≤ b && b ≤ 0x468)

/-- R440, R458: the blocks of a domain. -/
def domBlocks (d : Nat) : List Nat :=
  if 11 ≤ d ∧ d ≤ 18 then (List.range 128).map (fun j => (d - 11) * 128 + j)
  else if d = 19 ∨ d = 20 then [0x400 + (d - 19)]
  else if 21 ≤ d ∧ d ≤ 29 then (List.range 4).map (fun j => 0x410 + 4 * (d - 21) + j)
  else if d = 30 then [0x440, 0x441, 0x442, 0x443]
  else if domMem d then [0x460]
  else if d = 33 then [0x461] else if d = 34 then [0x463] else if d = 35 then [0x462] else []

/-- R316: the spill store holds nothing. -/
def State.spillEmpty (s : State) : Bool :=
  match s.spillKeel? with
  | some k => s.on (Reg.SPL_STAT_EMPTY k)
  | none => true

/-- R460: what a block's acknowledgement waits for, as far as the state shows it. -/
def State.blockAcks (s : State) (b : Nat) : Bool :=
  if b < 1024 then s.coreAcks b
  else if 0x410 ≤ b ∧ b ≤ 0x433 then (s.tx (b - 0x410)).payload.isEmpty
  else if b = 0x450 then (List.range 36).all (fun i => (s.tx i).payload.isEmpty)
  else if b = 0x460 then s.spillEmpty
  else if b = 0x462 then s.edgeTags.isEmpty && s.edgeStamps.isEmpty
  else true

/-- R460: the block is at something whose end (a conversion boundary, a byte, a character, a message on its way through) the state does not
show, so that its acknowledgement is a command: a slot in progress, an I2C command or recovery, a line on the UART or to it, a tether
port on the ring. -/
def State.blockBusy (s : State) (b : Nat) : Bool :=
  if b = 0x463 then s.mon.rslot.isSome || s.mon.islot.isSome
  else if b = 0x464 then s.i2c.phase == 1 || s.i2c.phase == 2
  else if b = 0x465 then !s.uart.line.isEmpty || !s.uart.lines.isEmpty || s.uart.secWait
  else if b = 0x466 ∨ b = 0x467 then (s.port (b - 0x466)).inserted
  else false

/-- R460: blocks that acknowledge at once. -/
def State.acksAtOnce (s : State) (b : Nat) : Bool := !s.blockBusy b && s.blockAcks b

/-- R391: a tether port at its reset. -/
def State.portReset (s : State) (p : Nat) : State :=
  let s1 := s.setPort p PortSt.reset
  (s1.dropRange (0x80000 + 0x20 * p) (0x80020 + 0x20 * p)).put (Reg.TH_CTRL_POS p) s.ringPos

/-- R345, R346, R365: the time unit at its reset, its option byte in REFSEL; TB_COUNT and the local clock go on. -/
def State.timeReset (s : State) : State :=
  let s1 := s.dropRange 0x30000 0x40000
  let r := refselOf (s1.optByte 3 % 4)
  ({ s1 with servo := ⟨[], [], 0, 0, 0, [], none, 0, 0, 0, none, none, none, false, 0, 0, [], 0, []⟩ }.put Reg.TU_CTRL_REFSEL
    (s1.optByte 3 % 4)).put Reg.TU_STAT_ACTIVE r

/-- R494: the UART's registers at their reset, RATE from its option byte. -/
def State.uartReset (s : State) : State :=
  { (s.dropRange 0x70100 0x70200).put Reg.UART_CFG_RATE (if s.optByte 7 ≤ 5 then s.optByte 7 else 0) with
    uart := { s.uart with line := [], spoilt := 0, cr := 0, lines := [] } }

/-- R459: a block is reset, with what it owns. -/
def State.blockReset (s : State) (b : Nat) (alive timedOut : Bool) : State :=
  if b < 1024 then s.coreBlockReset b alive timedOut
  else if b = 0x400 ∨ b = 0x401 then s.standbyReset (b - 0x400)
  else if 0x410 ≤ b ∧ b ≤ 0x433 then s.slotReset (b - 0x410)
  else if 0x440 ≤ b ∧ b ≤ 0x443 then s.rxReset (b - 0x440)
  else if b = 0x450 then s.laneReset
  else if b = 0x460 then s.mcLose.dropRange 0x380000 0x390000 |>.spillFigures
  else if b = 0x461 then s.waveReset
  else if b = 0x462 then s.edgeReset
  else if b = 0x463 then s.monReset
  else if b = 0x464 then s.i2cReset
  else if b = 0x465 then s.uartReset
  else if b = 0x466 ∨ b = 0x467 then s.portReset (b - 0x466)
  else if b = 0x468 then s.timeReset
  else s

/-- R459, R508: the entry of a quiesce that timed out. -/
def State.quiesceLate (s : State) (b : Nat) : State := s.err { sev := 1, src := 12, code := 0x0C, unit := 0, info := b }

/-- R442, R459, R511: a block has acknowledged, or its time is over. -/
def State.quiesceEnd (s : State) (q : QuiesceSt) (late : Bool) : State :=
  let s1 := { s with quiesce := s.quiesce.filter (· != q) }
  if q.why = 0 then
    let s2 := s1.blockReset q.block q.alive late
    let s3 := ((s2.put Reg.PR_SRST_STAT_BUSY 0).hwSet Reg.PR_SRST_STAT_DONE 1).put Reg.PR_SRST_STAT_TMO (b2n late)
    if !late then s3
    else if q.block < 1024 then (s3.quiesceLate q.block).escFail q.block
    else s3.quiesceLate q.block
  else if q.why = 1 then
    let s2 := s1.blockReset q.block q.alive late
    if late then (s2.quiesceLate q.block).escNext q.block else s2.escDone q.block
  else if s1.quiesce.any (fun x => x.why == 2 && x.dom == q.dom) then s1
  else s1.cutDomain q.dom false

/-- R459, R460: a block is asked to quiesce. -/
def State.askOnly (s : State) (b why d : Nat) : State :=
  let alive := decide (b < 1024) && s.coreAlive b
  let s1 := if alive then s.closeServed b else s
  { s1 with quiesce := s1.quiesce ++ [⟨b, why, d, alive, s.clock?⟩] }

/-- R460: a block that was asked acknowledges at once, where the rule says so. -/
def State.ackNow (s : State) (b why d : Nat) : State :=
  match s.quiesce.find? (fun q => q.block == b && q.why == why && q.dom == d) with
  | some q => if s.acksAtOnce b then s.quiesceEnd q false else s
  | none => s

/-- R459, R460: a block is asked to quiesce, and answers at once where R460 says so. -/
def State.askBlock (s : State) (b why d : Nat) : State := (s.askOnly b why d).ackNow b why d

/-- The first request to a block. -/
def State.asked (s : State) (b : Nat) : Option QuiesceSt := s.quiesce.find? (fun q => q.block == b)

/-- R460: a block acknowledges. -/
def State.quiesceAck (s : State) (b : Nat) : State :=
  match s.asked b with
  | some q => if s.blockAcks b then s.quiesceEnd q false else s
  | none => s

/-- R459: PR_QTMO has passed. -/
def State.quiesceTimeout (s : State) (b : Nat) : State :=
  match s.asked b with
  | some q => (s.advFrom q.asked (1250 * max 1 (s.get Reg.PR_QTMO_US))).quiesceEnd q true
  | none => s

def execQuiesceAcknowledge (block : Fin 1129) (s : State) : Host.Outcome State Fault Refusal := .next (s.quiesceAck block.val)
def execQuiesceTimeout (block : Fin 1129) (s : State) : Host.Outcome State Fault Refusal := .next (s.quiesceTimeout block.val)

/-- R458, R459: a write of PR_SRST. -/
def State.srstWrite (s : State) (v : Nat) : State × Status :=
  let b := bits v 0 11
  if !v.testBit 31 then (s.put Reg.PR_SRST_BLOCK b, .ok)
  else if s.on Reg.PR_SRST_STAT_BUSY || !blockCode b || ((b == 0x400 || b == 0x401) && s.active? == some (b - 0x400)) then (s, .prot)
  else ((((s.put Reg.PR_SRST_BLOCK b).put Reg.PR_SRST_STAT_BUSY 1).put Reg.PR_SRST_STAT_BLOCK b).askBlock b 0 0, .ok)

/-- R442: a write of PR_DOM_EN (36 bits): every block of the domains turned off is asked to quiesce, and a domain is cut when all of
its blocks have acknowledged; the keel that holds the grant may not be turned off. -/
def State.domEnWrite (s : State) (v : Nat) : State × Status :=
  let falls := (List.range 36).filter (fun d => decide (3 ≤ d) && s.fbit Reg.PR_DOM_EN_EN (d - 3) && !v.testBit d)
  if falls.any (fun d => domIsKeel d && s.active? == some (d - 19)) then (s, .prot)
  else
    let s1 := s.put Reg.PR_DOM_EN_EN (v / 8 % 2 ^ 33)
    let s2 := { s1 with quiesce := s1.quiesce.filter (fun q => !(q.why == 2 && v.testBit q.dom)) }
    let asks : State → Nat → Bool := fun a d => a.dom d && !(domBlocks d).isEmpty
    let s3 := falls.foldl (fun a d => if asks a d then (domBlocks d).foldl (fun b x => b.askOnly x 2 d) a else a.cutDomain d false) s2
    (falls.foldl (fun a d => if asks a d then (domBlocks d).foldl (fun b x => b.ackNow x 2 d) a else a) s3, .ok)

/-- R441, R296: a write of MC_CFG can turn the memory domains off in STANDBY. -/
def State.memPower (s : State) : State :=
  [31, 32].foldl (fun a d => if (a.dom d || a.pw.starting.contains d) && !a.allowed d then a.cutDomain d false else a) s

/-- R453: the device watchdog counts from now. -/
def State.dwRestart (s : State) : State := { s with pw := { s.pw with dwAt := s.clock? } }
/-- R453: a write of PR_DWDOG: an EN that rises starts the count. -/
def State.dwWrite (s : State) (v : Nat) : State :=
  let s1 := if v.testBit 31 && !s.on Reg.PR_DWDOG_EN then s.dwRestart else s
  (s1.put Reg.PR_DWDOG_EN (bits v 31 1)).put Reg.PR_DWDOG_PERIOD (bits v 0 16)

/-! ### Latch-up (R447, R448) -/

/-- R446: the state is the target: BUSY falls. -/
def State.busyFall (s : State) : State := if s.on Reg.PR_STATE_BUSY then (s.put Reg.PR_STATE_BUSY 0).irq 7 else s

/-- R448: a cut comes less than 1 s after the domain was powered again after another; `soon` says so where ticks do not tell. -/
def State.cutSoon (s : State) (d : Nat) (soon : Bool) : Bool :=
  match SMap.find? s.pw.again d, s.clock? with
  | some (.since t), some now => decide (now < t + 1250000000)
  | some .cut, _ => false
  | some _, _ => soon
  | none, _ => false

/-- R447, R448: a domain other than AON is cut. -/
def State.latchUp (s0 : State) (d : Nat) (soon0 : Bool) : State :=
  if !s0.dom d && !s0.pw.starting.contains d then s0
  else
    let soon := s0.cutSoon d soon0
    let s := { s0 with pw := { s0.pw with again := SMap.ins s0.pw.again d .cut } }
    let s1 := ((s.cutDomain d true).put Reg.PR_LU_LAST_DOMAIN d).put Reg.PR_LU_LAST_TICK s.now
    let s2 := (((s1.irq 3).lifeAdd (0xA0 + 4 * d) 1).notable).errFree { sev := 2, src := 12, code := 0x0B, unit := d }
    if soon then s2.domainFailed d else { s2 with pw := { s2.pw with off := s2.pw.off ++ [d] } }

/-- R451: a supply sense point `p` stays `below` (in 0.1 % of nominal) for `ns`: a droop event where that is more than THR, for
2 µs. -/
def State.droop (s : State) (p below ns : Nat) : State :=
  if !s.dom 0 || below ≤ s.get Reg.PR_DROOP_THR || ns < 2000 then s
  else
    let s1 := if s.on Reg.MON_ICTRL_DREN then s.injRequest else s
    (s1.irq 6).errFree { sev := 1, src := 12, code := 0x0B, unit := p }

def execDroop (x : SenseDip) (s : State) : Host.Outcome State Fault Refusal := .next (s.droop x.point.val x.below x.ns)

/-! ### Transitions (R443 to R446) -/

/-- R444: a power target as its code orders: 1 KEEP, 2 STANDBY, 3 ARMED, 4 ACQUIRE. -/
def State.target (s : State) : Nat := s.get Reg.PR_STATE_TARGET

/-- R443, R446: where no stage runs, the controller turns to its target: it has arrived, or the next stage begins. -/
def State.proceed (s : State) : State :=
  if s.pw.boot ≠ 0 ∨ s.pw.stage ≠ 0 then s
  else if s.pwr = s.target then s.busyFall
  else if s.pwr = 2 ∧ s.target ≥ 3 then { s with pw := { s.pw with stage := 1 } }
  else if s.pwr = 2 ∧ s.target = 1 then { s.lifeCommit with pw := { s.pw with stage := 5 } }
  else s

/-- R443, R444: a write of PR_STATE.TARGET. -/
def State.targetWrite (s : State) (t : Nat) : State × Status :=
  if t = 0 ∨ 4 < t then (s, .prot)
  else if t ≥ 3 ∧ s.active?.isNone then (s.put Reg.PR_STATE_REFUSE 1, .prot)
  else if t ≥ 3 ∧ ¬ s.refselOk (s.get Reg.TU_CTRL_REFSEL) then (s.put Reg.PR_STATE_REFUSE 2, .prot)
  else
    let s1 := s.put Reg.PR_STATE_TARGET t
    (if s1.pwr = t ∧ ¬ s1.on Reg.PR_STATE_BUSY then s1 else (s1.put Reg.PR_STATE_BUSY 1).proceed, .ok)

/-- R541: what was timed from a tick before a stop of the time base is from now on timed by the commands alone. -/
def State.loosen (s : State) : State :=
  let again := s.pw.again.map (fun e => match e.2 with
    | .since _ => (e.1, Rearm.loose)
    | x => (e.1, x))
  { s with
    leaseLoose := true, ports := s.ports.map (fun e => (e.1, { e.2 with nonceAt := none })), esc := s.esc.map (fun e => (e.1, { e.2 with doneAt := none })),
    quiesce := s.quiesce.map (fun q => { q with asked := none }), pw := { s.pw with again := again, dwAt := none } }

/-- R444, step 4: the domains are at power-good: the time base starts, and with it the time transfer (R356, R367). -/
def State.timeBaseStart (s : State) : State :=
  if s.pw.stage = 1 ∧ s.settled (fun d => domArm d || domMem d) ∧ s.dom 2 then
    let s1 := { s.loosen with pw := { s.loosen.pw with stage := 2 }, time := { s.time with run := true } }
    s1.servoRestart
  else s

/-- R444, step 5: every enabled stripe has BIAS = 3. -/
def State.allBiased (s : State) : Bool :=
  (List.range 8).all (fun st => !(s.dom (domAna st) && s.dom (domDig st)) || s.get (Reg.STRIPE_STATE_BIAS st) == 3)

/-- R444, step 5, R101, R132: ARMED. -/
def State.armedEntry (s : State) : State :=
  if s.pw.stage = 2 ∧ s.on Reg.TU_STAT_PLLLOCK ∧ s.allBiased then
    let s1 := { s.put Reg.PR_STATE_STATE 3 with pw := { s.pw with stage := 0 } }
    let s2 := (List.range 1024).foldl (fun a n => if a.dom (domDig (stripeOf n)) then a.calStart n else a) s1
    let s3 := if s2.dom 35 then s2.calStart edgeUnit else s2
    ((s3.autoStart (List.range 1024)).waveStart.facLoss).proceed
  else s

/-- R443: ARMED becomes ACQUIRE on the next tick. -/
def State.acquireEntry (s : State) : State :=
  if s.pwr = 3 ∧ s.target = 4 ∧ s.on Reg.PR_STATE_BUSY ∧ s.pw.stage = 0 ∧ s.time.run then
    ((s.adv (s.time.tick + 1)).put Reg.PR_STATE_STATE 4).proceed
  else s

/-- R101, R108: ARMED is entered from ACQUIRE: quick calibration runs again. -/
def State.calEntry (s : State) : State :=
  (List.range 1025).foldl (fun a u => if a.dom (unitDom u) then a.calAgain u else a) s

/-- R443, R132: ACQUIRE becomes ARMED on the next tick; every OPEN stream enters CLOSING, in a fail-over in the keel that will take the
grant; cores with AUTO = 1 start. -/
def State.acquireExit (s : State) : State :=
  if s.pwr = 4 ∧ s.target ≤ 3 ∧ s.time.run then
    let s1 := (s.adv (s.time.tick + 1)).put Reg.PR_STATE_STATE 3
    (((match s1.spillKeel? with
      | some k => s1.closeAll k s1.time.tick
      | none => s1).pinsFall).calEntry.autoStart (List.range 1024)).proceed
  else s

/-- R445, step 1: the decision tick: every stream is CLOSED, in a fail-over of the keel that will take the grant. -/
def State.standbyDescent (s : State) : State :=
  let quiet : Bool := match s.spillKeel? with
    | some k => (s.liveStreams k).isEmpty
    | none => true
  if s.pwr = 3 ∧ s.target ≤ 2 ∧ s.pw.stage = 0 ∧ s.on Reg.PR_STATE_BUSY ∧ quiet then
    let s1 := { s with descent := some s.time.tick, pw := { s.pw with stage := 3 } }
    (List.range 1024).foldl (fun a c => if a.coreAlive c then a.closeServed c else a) s1
  else s

/-- R152: the queued hit words of a region are discarded. -/
def State.hqDiscard (s : State) (n : Nat) : State :=
  (s.setRegion n { s.region n with hq := [] }).put (Reg.HQ_STAT_OCC n) 0

/-- R152: a core that has not quiesced in time: its queued hit words and what it still emits are discarded under a gap, and it is
HALTED. -/
def State.coreAbandon (s : State) (c : Nat) : State :=
  let s1 := s.gapAll c s.time.tick
  let s2 := (s1.served c).foldl (fun a n => (a.libStop n).hqDiscard n) s1
  (s2.setCore c { s2.core c with emits := [] }).coreHalt c

/-- R152: the hit words of regions whose core was HALTED are discarded under a gap at the end of the quiesce
(notes/assumptions/86.md). -/
def State.hqAbandon (s : State) : State :=
  (List.range 1024).foldl (fun a n =>
    if (a.region n).hq.isEmpty || !a.dom (domDig (stripeOf n)) then a else (a.gap n a.time.tick).hqDiscard n) s

/-- R445, steps 2 to 4: every block has acknowledged, or PR_QTMO has passed: abandonment, bias off, time base, queues empty (R294),
cuts. -/
def State.quiesceDone (s : State) : State :=
  if s.pw.stage ≠ 3 then s
  else
    let run := (List.range 1024).filter (fun c => s.coreAlive c && s.dom (domDig (stripeOf c)))
    let late := run ++ (if s.spillEmpty then [] else [0x460])
    let s1 := match late with
      | [] => s
      | b :: _ =>
        let a := s.adv (if s.time.run then s.descent.getD s.time.tick + 1250 * max 1 (s.get Reg.PR_QTMO_US) else 0)
        let a1 := run.foldl (fun (x : State) c => x.coreAbandon c) a
        (if s.spillEmpty then a1 else a1.spillGone).quiesceLate b
    let s2 := s1.hqAbandon.adv (if s1.time.run then s1.time.tick + 1 else 0)
    let s3 := (List.range 8).foldl (fun a st => a.biasRemove st) s2
    let s4 := ((List.range 1025).foldl (fun (a : State) u => if a.dom (if u < 1024 then domDig (stripeOf u) else 35) then a.calStop u else a) s3).waveLeave
    let s5 := if s4.on Reg.TU_CTRL_HOLDON then s4
      else { s4.put Reg.TU_STAT_PLLLOCK 0 with time := { s4.time with run := false } }
    let s6 := { s5 with pw := { s5.pw with stage := 4 } }
    let s7 := match s6.spillKeel? with
      | some k => s6.queuesDrop k
      | none => s6
    let cuts := (List.range 36).filter (fun d => (s7.dom d || s7.pw.starting.contains d) && (domArm d || (domMem d && !(s7.on Reg.MC_CFG_SRSTBY && s7.on Reg.MC_CFG_EN))))
    cuts.foldl (fun a d => a.cutDomain d false) s7

/-- R445, step 5: STANDBY. -/
def State.standbyEntry (s : State) : State :=
  if s.pw.stage = 4 then
    ((({ s.put Reg.PR_STATE_STATE 2 with descent := none, pw := { s.pw with stage := 0 } }).pinsFall).facLoss).proceed
  else s

def execTimeBaseStart (s : State) : Host.Outcome State Fault Refusal := .next s.timeBaseStart
def execArmedEntry (s : State) : Host.Outcome State Fault Refusal := .next s.armedEntry
def execAcquireEntry (s : State) : Host.Outcome State Fault Refusal := .next s.acquireEntry
def execAcquireExit (s : State) : Host.Outcome State Fault Refusal := .next s.acquireExit
def execStandbyDescent (s : State) : Host.Outcome State Fault Refusal := .next s.standbyDescent
def execQuiesceDone (s : State) : Host.Outcome State Fault Refusal := .next s.quiesceDone
def execStandbyEntry (s : State) : Host.Outcome State Fault Refusal := .next s.standbyEntry

end Sys2Proof.Machine
end

