-- ==== Sys2Proof/Machine/Boot.lean ====
section
/-! DEFINITION. Resets and boot (R443, R449, R452 to R457, R469), option bytes, KEEP and OFF. -/
namespace Sys2Proof.Machine

/-! ### What a reset leaves (R452, R469) -/

/-- A model address in MRAM or another store that no reset clears. -/
def lasting (a : Nat) : Bool :=
  (decide (imageSlot 0 ≤ a) && decide (a < laneTable)) || (decide (lifeHalf 0 ≤ a) && decide (a < svcCode))

/-- R442, R452, R469, R500: a register field is reached: `r` is 0 for the cut of every domain but AON, 1 for a reset of
RESET_N reach, 2 for a brown-out, 3 for POR. -/
def reached (r key : Nat) : Bool :=
  match keyReach key with
  | .keep => r == 3 && (keyDom key == 19 || keyDom key == 20)
  | .porOnly => r == 3
  | .por => decide (2 ≤ r)
  | .resetN => decide (1 ≤ r) || keyDom key != 0

/-- R316, R408, R517: before anything is lost: the entries of the blocks in the spill store, the retention records of the keel
that holds the grant (or is about to take it), the fall of the grant (no fail-over and no restart, R395), the deltas of a commit in progress, and a slot write cut short, whose magic is gone (R482). -/
def State.closeDown (s : State) : State :=
  let s0 := match s.spillKeel? with
    | some k => s.spillLog k
    | none => s
  let s1 := match s0.active?, s0.failover with
    | some k, _ => (s0.retainAll k s0.time.tick).grantDrop
    | none, some (d, k, _) => if s0.get Reg.ARB_STAT_PHASE == 1 then s0.retainAll k d else s0
    | none, none => s0
  let s2 := match s1.sec.op with
    | some (0, arg, _) => s1.writeLe (imageSlot (arg % 8)) 4 0
    | _ => s1
  (((s2.put Reg.ARB_STAT_PHASE 0).put Reg.ARB_STAT_RDY_A 0).put Reg.ARB_STAT_RDY_B 0).commitCut

/-- R452: the state after a reset or a cut of reach `r`: what is not named stays only if it lies in AON retention, in
antifuse or in MRAM, or is the model's own. -/
def State.bare (s : State) (r : Nat) : State :=
  let a := s.closeDown
  let pw : PwrSt := { State.reset.pw with optStat := a.pw.optStat, unlocked := a.pw.unlocked && r != 3, cold := decide (2 ≤ r) }
  let pw := { pw with boot := 0, again := if r = 3 then [] else a.pw.again, bor := a.pw.bor && r != 3 }
  { State.reset with
    pending := a.pending, keels := if r = 3 then [] else ((a.keelGone 0).keelGone 1).keels, regs := SMap.keep a.regs (fun key => !reached r key),
    mem := a.mem.filter (fun c => lasting c.1), memGen := (a.newCode (List.range 1026)).memGen,
    ecc := SMap.keep a.ecc lasting, freeCtr := a.freeCtr, lastStatus := a.lastStatus, lastData := a.lastData,
    time := if r = 3 then State.reset.time else { a.time with run := false },
    errOrder := if r ≥ 2 then [] else a.errOrder,
    life := if r = 3 then State.reset.life else a.life, hitWords := if r = 3 then [] else a.hitWords,
    retain := if r = 3 then [] else a.retain, pins := if r = 3 then [] else a.pinsLow.pins, sent := a.sent, opts := a.opts, claimKey := a.claimKey,
    sec := { a.sec with op := none, halted := false, booted := 0, svn := 0 },
    uart := { State.reset.uart with printed := a.uart.printed },
    quiesce := if r ≥ 2 then [] else a.quiesce.filter (fun q => q.why == 0),
    pw := pw }

/-- R476, R486: SEC_NONCE is renewed. -/
def State.renewNonce (s : State) : State :=
  if s.on Reg.SEC_STAT_RNGFAIL then s
  else (List.range 4).foldl (fun a i => (a.put (Reg.SEC_NONCE_W i) (a.fresh 32)).spend) s

/-- R443, R452, R454: a reset of reach `r` with its bit of PR_RST_CAUSE: the boot begins, from KEEP at step 4. -/
def State.resetTo (s : State) (r cause : Nat) : State :=
  let keep := s.pwr == 1 && r == 1
  let s1 := s.bare r
  let s2 := ((s1.put Reg.PR_DOM_PG_PG 1).put Reg.PR_STATE_STATE 5).put Reg.PR_STATE_BUSY 1
  let s3 := { s2 with pw := { s2.pw with inReset := true, boot := if keep then 4 else if r = 3 then 2 else 3 } }
  let s4 := if keep then s3.put Reg.PR_STATE_TARGET 2 else s3
  let s5 := match cause with
    | 0 => s4.hwSet Reg.PR_RST_CAUSE_POR 1
    | 1 => s4.hwSet Reg.PR_RST_CAUSE_BOR 1
    | 2 => s4.hwSet Reg.PR_RST_CAUSE_RESETN 1
    | 3 => s4.hwSet Reg.PR_RST_CAUSE_TETHER 1
    | 4 => s4.hwSet Reg.PR_RST_CAUSE_DWDOG 1
    | _ => s4.hwSet Reg.PR_RST_CAUSE_CUT 1
  let s6 := if r = 3 then (s5.put Reg.SEC_STAT_LC 0).lifeEvent 0 else if r = 2 then (s5.lifeEvent 1).notable else s5.lifeEvent 2
  s6.renewNonce

/-- R452: the resets apply while AON is powered. -/
def State.resetN (s : State) (cause : Nat) : State := if s.dom 0 then s.resetTo 1 cause else s

def execPowerOnReset (s : State) : Host.Outcome State Fault Refusal := .next (s.resetTo 3 0)

/-- R453: the device watchdog reaches its period, PERIOD × 10 ms, in STANDBY, ARMED or ACQUIRE. -/
def State.deviceWatchdog (s : State) : State :=
  if s.on Reg.PR_DWDOG_EN && (s.pwr == 2 || s.armed) then
    (s.advFrom s.pw.dwAt (12500000 * max 1 (s.get Reg.PR_DWDOG_PERIOD))).resetN 4
  else s

def execDeviceWatchdog (s : State) : Host.Outcome State Fault Refusal := .next s.deviceWatchdog

/-- R505 to R519: the registers of the error log. -/
def isErrLog (key : Nat) : Bool := decide (8 * 0xA0000 ≤ key) && decide (key < 8 * 0xA0300)

/-- R443, R520: the supply is removed: OFF, in which nothing lasts but MRAM and antifuse, and, until a POR, the error log. -/
def State.supplyOff (s : State) : State :=
  let b := s.bare 3
  let s1 := { b with regs := List.foldl (fun (m : SMap Nat) (e : Nat × Nat) => SMap.ins m e.1 e.2) b.regs (SMap.keep s.closeDown.regs isErrLog), errOrder := s.closeDown.errOrder }
  ((((s1.put Reg.PR_DOM_PG_PG 0).put Reg.PR_STATE_STATE 0).put Reg.PR_STATE_BUSY 0).put Reg.PR_RST_CAUSE_POR 0).put Reg.SEC_STAT_LC 0

/-- R452, R520: the RESET_N pin; in OFF, where the supply has returned before a POR (notes/assumptions/103.md), the device boots and
senses its lifecycle again, with the error log as it was. -/
def State.resetPin (s : State) : State :=
  if s.pwr = 0 ∧ ¬ s.pw.off.contains 0 then
    let s1 := s.resetTo 1 2
    { s1 with pw := { s1.pw with boot := 2 } }
  else s.resetN 2

def execResetNPin (s : State) : Host.Outcome State Fault Refusal := .next s.resetPin

def execSupplyRemoved (s : State) : Host.Outcome State Fault Refusal := .next s.supplyOff

/-! ### Latch-up of any domain (R447, R449) -/

/-- R447, R449: a domain is cut; AON takes the whole device with it for 1 ms. -/
def State.latchUpAny (s : State) (d : Nat) (soon : Bool) : State :=
  if d = 0 then
    (if s.dom 0 then (let s1 := s.supplyOff; { s1 with pw := { s1.pw with off := [0] } }) else s)
  else s.latchUp d soon

/-- R447, R449: 1 ms after a cut: AON brings a POR, SVC and CLK a reset of the device; other domains are powered again if R441 allows
it. -/
def State.repower (s : State) (d : Nat) : State :=
  if !s.pw.off.contains d then s
  else
    let s1 := { s with pw := { s.pw with off := s.pw.off.filter (· != d) } }
    if d = 0 then s1.resetTo 3 0
    else if d = 1 ∨ d = 2 then s1.resetN 5
    else if s1.wanting d then s1.startDom d
    else s1

def execLatchUp (d : Fin 36) (soon : Bool) (s : State) : Host.Outcome State Fault Refusal := .next (s.latchUpAny d.val soon)
def execLatchUpRepower (d : Fin 36) (s : State) : Host.Outcome State Fault Refusal := .next (s.repower d.val)

/-! ### KEEP (R374, R443) -/

/-- R443: the life-log commit is over: every domain but AON is cut, and the state is KEEP.  The analogue registers lie in AON
(R65), so what they have under way waits there (R541), while no word is pending any more (R64).  RNGFAIL, UNSIGNED
and the grants last until a reset (R476, R481, R486). -/
def State.keepEntry (s : State) : State :=
  if s.pw.stage = 5 ∧ ¬ s.on Reg.LL_STAT_BUSY ∧ ¬ s.checks.contains 0 then
    let s1 := { (s.bare 0).put Reg.PR_DOM_PG_PG 1 with
                trains := s.trains, thrMove := s.thrMove, fsumDue := s.fsumDue, fsumSel := s.fsumSel }
    let s2 := (List.range 8).foldl (fun a st => a.put (Reg.CFG_STAT_PENDING st) 0) s1
    (([Reg.SEC_STAT_RNGFAIL, Reg.SEC_STAT_UNSIGNED, Reg.SEC_STAT_GRANT].foldl (fun (a : State) f => a.put f (s.get f)) s2).put Reg.PR_STATE_STATE 1).proceed
  else s

def execKeepEntry (s : State) : Host.Outcome State Fault Refusal := .next s.keepEntry

/-- R374, R443: a wake heard on port `p` in KEEP. -/
def State.wakeUp (s : State) (p chars : Nat) : State :=
  if s.pwr = 1 ∧ 320 ≤ chars ∧ s.fbit Reg.AON_WAKE_WAKE_EN p then
    let s1 := (((s.hwSetBit Reg.AON_WAKE_SRC p).put Reg.PR_STATE_STATE 5).put Reg.PR_STATE_BUSY 1).put Reg.PR_STATE_TARGET 2
    { s1 with pw := { s1.pw with boot := 4, cold := false } }
  else s

def execWake (x : WakeRun) (s : State) : Host.Outcome State Fault Refusal := .next (s.wakeUp x.port.val x.chars)

/-! ### Option bytes (R455 to R457) -/

/-- R456: a copy of the option bytes is good. -/
def State.optGood (s : State) (c : Nat) : Bool :=
  s.readLe (optCopy c + 64) 4 == crc32c (s.readBytes (optCopy c) 64) && s.readLe (optCopy c) 1 == 1

/-- R455: the option bytes in use. -/
def State.setOpts (s : State) (bs : List Byte) : State :=
  let put := fun (m : SMap Nat) (i : Nat) => SMap.set m i (bs.getD i 0).toNat (optSafeWord (i / 4) / 256 ^ (i % 4) % 256)
  { s with opts := (List.range 64).foldl put [] }

/-- R455: the safe defaults. -/
def safeBytes : List Byte := (List.range 16).flatMap (fun i => leBytes 4 (optSafeWord i))

/-- R455, R456, R469: boot step 3: the option bytes are loaded; with the power-up state KEEP the device enters KEEP. -/
def State.optionLoad (s : State) : State :=
  if s.pw.boot ≠ 3 then s
  else
    let g0 := s.optGood 0
    let g1 := s.optGood 1
    let used := if g0 then 0 else if g1 then 1 else 2
    let s1 := s.setOpts (if used = 2 then safeBytes else s.readBytes (optCopy used) 64)
    let v := s1.optByte 13
    let s2 := (s1.put Reg.PR_DWDOG_EN (b2n (decide (v ≠ 0)))).put Reg.PR_DWDOG_PERIOD v
    let s3 := if s2.pw.cold then s2.put Reg.ARB_CTRL_PREF (s2.optByte 14 % 2) else s2
    let o := b2n (!g0) * 2 ^ 31 + b2n (!g1) * 2 ^ 30 + b2n (used == 2) * 2 ^ 29 + used
    let s4 := { s3 with pw := { s3.pw with inReset := false, boot := 4, optStat := o } }
    let s5 := if used = 2 then (s4.errFree { sev := 2, src := 13, code := 6, unit := 0 }).lifeEvent 14 else s4
    if s5.optByte 12 = 1 then
      ({ (s5.put Reg.PR_STATE_TARGET 1).put Reg.PR_STATE_STATE 1 with pw := { s5.pw with boot := 0 } }).proceed
    else s5.put Reg.PR_STATE_TARGET 2

/-- R454, R455: boot step 5: the registers of SVC and CLK take their option values. -/
def State.optRegs (s : State) : State :=
  let o := s.pw.optStat
  let s1 := (List.range 16).foldl (fun a i => a.put (Reg.OPT_BUF_W i)
    (ofLeBytes ((List.range 4).map (fun j => BitVec.ofNat 8 (a.optByte (4 * i + j)))))) s
  let s2 := (((s1.put Reg.OPT_STAT_C0BAD (bits o 31 1)).put Reg.OPT_STAT_C1BAD (bits o 30 1)).put Reg.OPT_STAT_DEFAULT
    (bits o 29 1)).put Reg.OPT_STAT_USED (bits o 0 2)
  let s3 := (s2.put (Reg.TH_CTRL_POS 0) s2.ringPos).put (Reg.TH_CTRL_POS 1) s2.ringPos
  let s4 := s3.put Reg.OWN_CFG_LEASE (s3.optByte 10 + 256 * s3.optByte 11)
  let s5 := if s4.optByte 2 ≥ 128 then s4.own (s4.optByte 2 % 4) else s4
  (s5.timeReset).uartReset

/-- R457: OPT_CTRL.PROG: the hold-up check first. -/
def State.progWrite (s : State) : State :=
  if s.on Reg.OPT_CTRL_PROG then s else (s.put Reg.OPT_CTRL_PROG 1).askCheck 1

/-- R457: the check's verdict on option programming; a write of PROG that meets the end of one asks anew (R12). -/
def State.progChecked (s : State) (ok : Bool) : State :=
  if ok then s
  else
    let s1 := (s.put Reg.OPT_CTRL_PROG 0).hwSet Reg.OPT_STAT_PERR 1
    if s.metWrote Reg.OPT_CTRL_PROG = 0 then s1 else s1.progWrite

/-- R457: a copy that does not verify holds values that the spec leaves open. -/
def State.putCopy (s : State) (c : Nat) (good : Bool) : State :=
  let bs := (List.range 16).flatMap (fun i => leBytes 4 (s.get (Reg.OPT_BUF_W i)))
  if good then (s.writeBytes (optCopy c) bs).writeLe (optCopy c + 64) 4 (crc32c bs)
  else (s.writeLe (optCopy c) 68 (s.fresh 544)).spend

/-- R457: the programming ends: both copies, or, where copy 0 does not verify, that one alone. -/
def State.progDone (s : State) (good0 good1 : Bool) : State :=
  if s.on Reg.OPT_CTRL_PROG && !s.checks.contains 1 then
    let s1 := s.putCopy 0 good0
    let s2 := if good0 then s1.putCopy 1 good1 else s1
    let s3 := (s2.put Reg.OPT_CTRL_PROG 0).hwSet Reg.OPT_STAT_PERR (b2n !(good0 && good1))
    if s.metWrote Reg.OPT_CTRL_PROG = 0 then s3 else s3.progWrite
  else s

def execOptionLoad (s : State) : Host.Outcome State Fault Refusal := .next s.optionLoad
def execOptionProgramDone (good0 good1 : Bool) (s : State) : Host.Outcome State Fault Refusal := .next (s.progDone good0 good1)

/-! ### Boot steps (R454), but for step 5 (Security.lean) -/

def State.bootAt (s : State) (n : Nat) : State := { s with pw := { s.pw with inReset := false, boot := n } }

/-- The lifecycle code of the antifuse flags (R472): the highest flag set. -/
def lcOfFlags (f : Nat) : Nat :=
  if f.testBit 3 then 4 else if f.testBit 2 then 3 else if f.testBit 1 then 2 else if f.testBit 0 then 1 else 0

/-- Step 2, R452: at POR the lifecycle is sensed from antifuse. -/
def State.lifecycleSense (s : State) : State :=
  if s.pw.boot = 2 then (s.put Reg.SEC_STAT_LC (lcOfFlags s.sec.flags)).bootAt 3 else s

/-- Step 4; R448. -/
def State.clockUp (s : State) : State :=
  if s.pw.boot = 4 then ((s.rearm 2).putFbit Reg.PR_DOM_PG_PG 2 true).bootAt 5 else s

/-- Step 6: the keels may power up. -/
def State.keelsUp (s : State) : State := if s.pw.boot = 6 then s.bootAt 7 else s

/-- Step 7: the keels are at power-good; the digital domains may power up. -/
def State.digitalUp (s : State) : State := if s.pw.boot = 7 ∧ s.settled domIsKeel then s.bootAt 8 else s

/-- Step 8: they are at power-good; the board table. -/
def State.tableUp (s : State) : State :=
  if s.pw.boot = 8 ∧ s.settled (fun d => (11 ≤ d && d ≤ 20) || 33 ≤ d) then ((s.laneTableLoad (s.optByte 4)).laneDefaults).bootAt 9 else s

/-- Step 9, R446, R517: the self-tests are complete: STANDBY, BUSY falls at the end of the boot, the first boot after a brown-out
starts a commit of the life log, and the controller turns to a target written meanwhile. -/
def State.bootDone (s : State) : State :=
  let testing : Bool := [0, 1].any (fun k => s.dom (domKeel k) && ((s.keel k).held || (s.keel k).testing.isSome))
  if s.pw.boot = 9 ∧ !testing then
    let s0 := ((s.put Reg.PR_STATE_STATE 2).bootAt 0).busyFall
    let s1 := if s0.pw.bor then { s0 with pw := { s0.pw with bor := false } }.lifeCommit else s0
    if s1.target = 2 then s1 else (s1.put Reg.PR_STATE_BUSY 1).proceed
  else s

def execLifecycleSense (s : State) : Host.Outcome State Fault Refusal := .next s.lifecycleSense
def execClockPowerUp (s : State) : Host.Outcome State Fault Refusal := .next s.clockUp
def execKeelPowerUp (s : State) : Host.Outcome State Fault Refusal := .next s.keelsUp
def execDigitalPowerUp (s : State) : Host.Outcome State Fault Refusal := .next s.digitalUp
def execLaneTableLoad (s : State) : Host.Outcome State Fault Refusal := .next s.tableUp
def execBootComplete (s : State) : Host.Outcome State Fault Refusal := .next s.bootDone

end Sys2Proof.Machine
end

