-- ==== Sys2Proof/Machine/Security.lean ====
section
/-! DEFINITION. Security (R471 to R488): containers, tokens, the SEC_CMD operations, the hold-up checks, boot step 5. -/
namespace Sys2Proof.Machine

/-! ### Byte strings -/

/-- R471, R477: the bytes of a SHA-256 digest, in order. -/
def shaBytes (bs : List Byte) : List Byte := leBytes 32 (Config.sha256 bs).toNat
/-- A 64-byte string as the functions of Config take it, and back. -/
def big512 (bs : List Byte) : BitVec 512 := BitVec.ofNat 512 (ofLeBytes bs)

/-- The bytes of a run of 32-bit registers. -/
def State.regBytes (s : State) (f : Nat → Field) (n : Nat) : List Byte := (List.range n).flatMap (fun i => leBytes 4 (s.get (f i)))
/-- Registers take the bytes of a string. -/
def State.putBytes (s : State) (f : Nat → Field) (bs : List Byte) (n : Nat) : State :=
  (List.range n).foldl (fun a i => a.put (f i) (ofLeBytes ((bs.drop (4 * i)).take 4))) s

/-- SEC_STAGE (R500). -/
def secStage : Nat := 0x94000
def State.stage (s : State) (o n : Nat) : List Byte := s.readBytes (secStage + o) n

/-! ### Containers (R479 to R481) -/

/-- R479: the fields of a container's header. -/
structure Container where
  kind   : Nat
  svn    : Nat
  bind   : Nat
  target : Nat
  entry  : Nat
  vec    : Nat
  clen   : Nat
  dlen   : Nat
  blen   : Nat
  body   : List Byte
  deriving DecidableEq, Repr

/-- R285, R479: the unpacked bytes of a body: blocks of stream 0, BSEQ consecutive. -/
def unpackImage : Nat → Nat → List Byte → Option (List Byte)
  | _, _, [] => some []
  | 0, _, _ => none
  | n + 1, bseq, bs =>
    let len := 16 + pad8 (bits (fieldOf bs 4 4) 0 13)
    let b := bs.take len
    if fieldOf bs 0 4 / 2 ^ 26 ≠ 0 ∨ fieldOf bs 8 4 ≠ bseq then none
    else
      match unpackBlock b, unpackImage n (bseq + 1) (bs.drop len) with
      | some ws, some rest => some (ws.flatMap (fun w => leBytes 8 w.toNat) ++ rest)
      | _, _ => none

/-- R480: the limits of a KIND. -/
def sizesOk (kind clen dlen target : Nat) : Bool :=
  clen % 4 == 0 &&
    (match kind with
     | 0 => clen + dlen ≤ 131072 && target == 0
     | 1 => clen ≤ 16384 && dlen ≤ 32768
     | 2 => clen ≤ 262144 && dlen ≤ 131072
     | _ => clen == 1292 && dlen == 0)

/-- R481, checks 1 to 3, on `total` bytes: the container, its body unpacked (to a whole number of words). -/
def parseContainer (bs : List Byte) (total : Nat) : Option Container :=
  let kind := fieldOf bs 5 1
  let clen := fieldOf bs 28 4
  let dlen := fieldOf bs 32 4
  let blen := fieldOf bs 36 4
  let target := fieldOf bs 16 8
  if fieldOf bs 0 4 ≠ 0x4E435847 ∨ fieldOf bs 4 1 ≠ 1 ∨ 3 < kind then none
  else if ¬ sizesOk kind clen dlen target ∨ total ≠ 168 + blen ∨ 49152 < total then none
  else
    match unpackImage (blen / 16 + 1) 0 ((bs.drop 104).take blen) with
    | some body =>
      if body.length = pad8 (clen + dlen) then
        some ⟨kind, fieldOf bs 6 2, fieldOf bs 8 8, target, fieldOf bs 24 2, fieldOf bs 26 2, clen, dlen, blen, body⟩
      else none
    | none => none

/-- R481: the results. -/
def resOK : Nat := 0
def resFORMAT : Nat := 1
def resTARGET : Nat := 6
def resLIFECYCLE : Nat := 7
def resHOLDUP : Nat := 8
def resNVM : Nat := 9
def resTOKEN : Nat := 10
def resRNG : Nat := 11

/-- R481: the first of checks 4 to 6, or 7, that fails. -/
def State.signFail (s : State) (bs : List Byte) (c : Container) (sealed : Bool) : Nat :=
  let pub := (bs.drop 40).take 64
  let n := 104 + c.blen
  if shaBytes pub ≠ s.regBytes Reg.SEC_ROOTH_W 8 then 2
  else if ¬ Config.ecdsaVerify (big512 pub) (bs.take n) (big512 ((bs.drop n).take 64)) then 3
  else if c.bind ≠ 0 ∧ c.bind ≠ s.get Reg.SEC_DEVID_ID then 4
  else if sealed ∧ c.svn < s.get Reg.SEC_MINSVN_N then 5
  else 0

/-- R481: the verdict on a container under the rules of a lifecycle: its result, and the container unless it is refused.
A result other than OK beside a container is a warning. -/
def State.checkContainer (s : State) (bs : List Byte) (total lc : Nat) : Nat × Option Container :=
  if lc = 4 then (resLIFECYCLE, none)
  else
    match parseContainer bs total with
    | none => (resFORMAT, none)
    | some c =>
      if lc = 0 then (resOK, some c)
      else
        let r := s.signFail bs c (decide (lc = 2))
        (r, if r ≠ 0 ∧ lc = 2 then none else some c)

/-- The bytes of an image slot, with the size its header gives. -/
def State.slotBytes (s : State) (i : Nat) : List Byte :=
  s.readBytes (imageSlot i) (min 49152 (168 + s.readLe (imageSlot i + 36) 4))

/-- R481: the verdict on an image slot. -/
def State.checkSlot (s : State) (i lc : Nat) : Nat × Option Container :=
  s.checkContainer (s.slotBytes i) (168 + s.readLe (imageSlot i + 36) 4) lc

/-! ### Results -/

/-- R499: the monitor's SEC answers once BUSY clears: SEC_RES. -/
def State.secAnswer (s : State) : State :=
  if s.uart.secWait then
    let v := s.get Reg.SEC_RES_CODE * 2 ^ 24 + s.get Reg.SEC_RES_WARN * 2 ^ 23 + s.get Reg.SEC_RES_DETAIL
    { s with uart := { s.uart with secWait := false } }.printLine (okLine [hexOf 8 v])
  else s

/-- SEC_RES and the end of BUSY; a warning of R481 stays in WARN where the operation fails later.  DETAIL has a stated value for TARGET only, and for OK the model's 0; for the others it is
free (notes/assumptions/34.md). -/
def State.secEnd (s : State) (code : Nat) (warn : Bool) (detail : Nat) : State :=
  let free := code != resOK && code != resTARGET
  let d := if free then s.fresh 16 else detail
  let s1 := ((s.put Reg.SEC_RES_CODE code).put Reg.SEC_RES_WARN (b2n warn)).put Reg.SEC_RES_DETAIL d
  let s2 := { s1.put Reg.SEC_STAT_BUSY 0 with sec := { s1.sec with op := none } }
  (if free then s2.spend else s2).secAnswer

/-- R481: an accepted container's result: OK, or the first warning, which is kept in UNSIGNED until a reset. -/
def State.secAccept (s : State) (res : Nat) : State :=
  if res = 0 then s.secEnd 0 false 0 else (s.put Reg.SEC_STAT_UNSIGNED 1).secEnd res true 0

/-- An operation that goes on: BUSY. -/
def State.secBusy (s : State) (op arg : Nat) (ts : List Nat) (res : Nat) : State :=
  { s.put Reg.SEC_STAT_BUSY 1 with sec := { s.sec with op := some (op, arg, ts, none, res) } }

/-! ### PROGRAM, ERASE, LOAD (R482, R483) -/

/-- R482: PROGRAM of SEC_LEN bytes of SEC_STAGE; the operation keeps the slot with 8 times the length. -/
def State.secProgram (s : State) (slot : Nat) : State :=
  let n := s.get Reg.SEC_LEN_LEN
  match s.checkContainer (s.stage 0 (min 49152 n)) n s.lc with
  | (r, some _) => (s.putIf (r != 0) Reg.SEC_STAT_UNSIGNED 1).secBusy 0 (slot + 8 * n) [] r
  | (r, none) => s.secEnd r false 0

/-- R482: the slot is written and read back; a readback that differs is reported as NVM. -/
def State.programDone (s : State) (good : Bool) : State :=
  match s.sec.op with
  | some (0, arg, _, _, r) =>
    let slot := arg % 8
    let n := min 49152 (arg / 8)
    let s1 := (s.dropMem (imageSlot slot) (imageSlot slot + 49152)).writeBytes (imageSlot slot) (s.stage 0 n)
    if good then s1.secAccept r else (s1.writeLe (imageSlot slot) 4 0).secEnd resNVM (r != 0) 0
  | _ => s

def execProgramComplete (good : Bool) (s : State) : Host.Outcome State Fault Refusal := .next (s.programDone good)

/-- R482: ERASE. -/
def State.secErase (s : State) (slot : Nat) : State :=
  if s.lc = 4 then s.secEnd resLIFECYCLE false 0 else (s.dropMem (imageSlot slot) (imageSlot slot + 49152)).secEnd resOK false 0

/-- R480: the targets of a container: cores, or conductors as cores 1,024 and 1,025. -/
def targetsOf (c : Container) : List Nat :=
  if c.kind = 1 then
    (List.range 1024).filter (fun n =>
      match bits c.target 62 2 with
      | 0 => true
      | 1 => c.target.testBit (n / 128)
      | 2 => decide (bits c.target 16 10 ≤ n) && decide (n ≤ bits c.target 0 10)
      | _ => n == bits c.target 0 10)
  else if c.kind = 2 then (if c.target.testBit 0 then [1024] else []) ++ (if c.target.testBit 1 then [1025] else [])
  else []

/-- R483: a target is HALTED. -/
def State.targetReady (s : State) (t : Nat) : Bool :=
  if t < 1024 then s.dom (domDig (stripeOf t)) && s.coreState t == cHALTED
  else s.dom (domKeel (t - 1024)) && s.condState (t - 1024) == cdHALTED

/-- R483: DETAIL of TARGET names the core or the keel. -/
def targetDetail (t : Nat) : Nat := if t < 1024 then t else t - 1024

/-- VALID of a target. -/
def targetValid (t : Nat) : Field := if t < 1024 then Reg.CORE_CTRL_VALID t else Reg.CD_CTRL_VALID (t - 1024)

/-- R483, steps 1 to 4: the checks, and the lock of the targets. -/
def State.secLoad (s : State) (slot : Nat) : State :=
  match s.checkSlot slot s.lc with
  | (r, none) => s.secEnd r false 0
  | (r, some c) =>
    let s1 := s.putIf (r != 0) Reg.SEC_STAT_UNSIGNED 1
    if c.kind = 0 then s1.secEnd resFORMAT (r != 0) 0
    else
      let ts := targetsOf c
      match ts.find? (fun t => !s.targetReady t) with
      | some t => s1.secEnd resTARGET (r != 0) (targetDetail t)
      | none => (ts.foldl (fun a t => a.put (targetValid t) 0) s1).secBusy 2 slot ts r

/-- R483: code writes and GO of a target are rejected while its image is loaded. -/
def State.imageLoads (s : State) (t : Nat) : Bool :=
  match s.sec.op with
  | some (2, _, ts, _, _) => ts.contains t
  | _ => false

/-- A memory area takes bytes, zeros beyond them, with good check bits. -/
def State.fill (s : State) (base size : Nat) (bs : List Byte) : State :=
  let s1 := { s.dropMem base (base + size) with ecc := SMap.keep s.ecc (fun a => !(decide (base ≤ a) && decide (a < base + size))) }
  s1.writeBytes base (bs ++ List.replicate (size - bs.length) 0)

/-- R483, step 5 and 6 for one target. -/
def State.loadTarget (s : State) (c : Container) (t : Nat) : State :=
  let code := c.body.take c.clen
  let data := (c.body.drop c.clen).take c.dlen
  if t < 1024 then
    let s1 := ((s.fill (reWindow t + 0x8000) 0x4000 code).fill (reWindow t) 0x8000 data).hwPut (Reg.ENTRY_IDX t) (c.entry % 4096)
    (s1.hwPut (Reg.EXC_VEC_IDX t) (c.vec % 4096)).hwPut (Reg.CORE_CTRL_VALID t) 1
  else
    let k := t - 1024
    let s1 := ((s.fill (condCode k) 0x40000 code).fill (condData k) 0x20000 data).hwPut (Reg.CD_ENTRY_IDX k) c.entry
    (s1.hwPut (Reg.CD_VEC_IDX k) c.vec).hwPut (Reg.CD_CTRL_VALID k) 1

/-- R483, steps 5 and 6. -/
def State.loadDone (s : State) : State :=
  match s.sec.op with
  | some (2, slot, ts, lost, r) =>
    match parseContainer (s.slotBytes slot) (168 + s.readLe (imageSlot slot + 36) 4) with
    | none => s.secEnd resFORMAT (r != 0) 0
    | some c =>
      let s1 := if c.kind = 3 then s.fill (boardTable (c.target % 256)) 0x800 (c.body.take c.clen)
        else ts.foldl (fun a t => a.loadTarget c t) s
      match lost with
      | some t => s1.secEnd resTARGET (r != 0) (targetDetail t)
      | none => s1.secAccept r
  | _ => s

def execLoadComplete (s : State) : Host.Outcome State Fault Refusal := .next s.loadDone

/-! ### Tokens (R485, R486) -/

/-- R486: a token of a kind is accepted. -/
def State.tokenOk (s : State) (kind : Nat) (t : List Byte) : Bool :=
  let pub := (t.drop 36).take 64
  fieldOf t 0 4 == 0x4E4B5444 && fieldOf t 4 1 == 1 && fieldOf t 5 1 == kind && fieldOf t 8 8 == s.get Reg.SEC_DEVID_ID
    && decide ((t.drop 16).take 16 = s.regBytes Reg.SEC_NONCE_W 4) && fieldOf t 34 1 == s.lc
    && decide (shaBytes pub = s.regBytes Reg.SEC_ROOTH_W 8)
    && Config.ecdsaVerify (big512 pub) (t.take 100) (big512 ((t.drop 100).take 64))

/-- R486: UNLOCK with a token. -/
def State.secUnlock (s : State) (t : List Byte) : State :=
  if s.lc ≠ 2 ∧ s.lc ≠ 3 then (s.renewNonce).secEnd resLIFECYCLE false 0
  else if s.tokenOk 0 t then
    (((s.put Reg.SEC_STAT_GRANT (fieldOf t 32 2 &&& grantable s.lc)).facLoss).renewNonce).secEnd resOK false 0
  else (s.renewNonce).secEnd resTOKEN false 0

/-- R486: LOCK. -/
def State.secLock (s : State) : State := ((s.put Reg.SEC_STAT_GRANT 0).facLoss).secEnd resOK false 0

/-! ### Lifecycle (R473, R474) -/

/-- R474: VOID and RETURN zeroise. -/
def State.zeroise (s : State) : State :=
  let s1 := { s with claimKey := 0, sec := { s.sec with zpend := false } }
  let s2 := if s.lc = 4 then
      (List.range 8).foldl (fun a i => a.dropMem (imageSlot i) (imageSlot i + 49152)) { s1 with sec := { s1.sec with idKey := 0 } }
    else s1
  s2.put Reg.SEC_STAT_ZPEND 0

/-- R473, R474: a transition starts: it waits for its hold-up check. -/
def State.secTransition (s : State) (op : Nat) : State := (s.secBusy op 0 [] 0).askCheck 2

/-- R473: PROVISION's keys: the root hash and the claim key from SEC_STAGE, an identity key pair from the random source. -/
def State.provision (s : State) : State :=
  let k := s.fresh 256
  let s1 := s.spend.putBytes Reg.SEC_ROOTH_W (s.stage 0 32) 8
  let s2 := { s1 with claimKey := ofLeBytes (s.stage 32 32), sec := { s1.sec with idKey := k } }
  s2.putBytes Reg.SEC_IDPUB_W (leBytes 64 (Config.ecdsaPublic (BitVec.ofNat 256 k)).toNat) 16

/-- R473, R474, R476: the check's verdict on a transition: the burn (by the cells it leaves set) and the zeroisation. -/
def State.transitionChecked (s : State) (ok : Bool) (cells : Nat) (zeroised : Bool) : State :=
  match s.sec.op with
  | some (op, _, _, _, _) =>
    if !ok then s.secEnd resHOLDUP false 0
    else if op == 3 && s.on Reg.SEC_STAT_RNGFAIL then s.secEnd resRNG false 0
    else if cells < 2 then s.secEnd resNVM false 0
    else
      let s1 := if op = 3 then s.provision else s
      let f := setBit s1.sec.flags (op - 3)
      let s2 := { s1 with sec := { s1.sec with flags := f } }
      let s3 := ((s2.put Reg.SEC_STAT_LC (lcOfFlags f)).put Reg.SEC_STAT_GRANT 0).facLoss
      let s4 := if op = 5 ∨ op = 6 then
          (if zeroised then s3.zeroise else { s3.put Reg.SEC_STAT_ZPEND 1 with sec := { s3.sec with zpend := true } })
        else s3
      s4.secEnd resOK false 0
  | none => s

/-- R431, R518: the VHOLD conversion of the oldest hold-up check, and what it lets happen.  `cells` are the cells that a
lifecycle burn leaves set, `zeroised` whether its zeroisation completed. -/
def State.holdupDone (s : State) (uv cells : Nat) (zeroised : Bool) : State :=
  match s.checks with
  | [] => s
  | c :: rest =>
    let r := { s with checks := rest }.holdup (if c = 0 then 2400 else if c = 1 then 600 else 1000) uv
    if c = 0 then r.2.commitChecked' r.1 else if c = 1 then r.2.progChecked r.1 else r.2.transitionChecked r.1 cells zeroised

def execHoldupCheck (uv : BitVec 24) (cells : Fin 4) (zeroised : Bool) (s : State) : Host.Outcome State Fault Refusal :=
  .next (s.holdupDone uv.toNat cells.val zeroised)

/-- R527: the MRAM writes in progress complete: a life-log commit, option programming past its check, an image slot, a board table
(the LOAD that has no core for a target). -/
def State.mramEnd (s : State) : State :=
  let s1 := (s.commitDone).progDone true true
  match s1.sec.op with
  | some (0, _) => s1.programDone true
  | some (2, _, [], _) => s1.loadDone
  | _ => s1

/-- R451, R527: a brown-out: AON and SVC run from VHOLD until the MRAM writes in progress have completed, and the reset follows. -/
def State.brownOut (s : State) : State :=
  let s1 := s.mramEnd.resetTo 2 1
  { s1 with pw := { s1.pw with bor := true } }

def execBrownOut (s : State) : Host.Outcome State Fault Refusal := .next (if s.dom 0 then s.brownOut else s)

/-! ### SEC_CMD (R500) -/

/-- R477, R478: ATTEST. -/
def State.attest (s : State) : State :=
  let m := s.stage 0 16 ++ leBytes 8 (s.get Reg.SEC_DEVID_ID) ++ [BitVec.ofNat 8 s.lc, BitVec.ofNat 8 (s.get Reg.SEC_MINSVN_N)]
    ++ leBytes 32 s.sec.booted
  (s.writeLe secStage 64 (Config.ecdsaSign (BitVec.ofNat 256 s.sec.idKey) m).toNat).secEnd resOK false 0

/-- R475, R500: RAISE_SVN to ARG, at most 32 and at most the booted container's SVN. -/
def State.raiseSvn (s : State) (arg : Nat) : State :=
  (s.put Reg.SEC_MINSVN_N (max (s.get Reg.SEC_MINSVN_N) (min arg (min 32 s.sec.svn)))).secEnd resOK false 0

/-- R500: the lifecycles that allow an operation, by code. -/
def opAllowed (op lc : Nat) : Bool :=
  match op with
  | 3 => lc == 0
  | 4 => lc == 1
  | 5 => lc == 2
  | 7 => lc == 1
  | 8 => lc == 1 || lc == 2
  | 9 => lc == 2 || lc == 3
  | 10 => true
  | 11 => lc == 1 || lc == 2 || lc == 3
  | _ => lc != 4

/-- R473 to R486: an operation starts.  A slot is named by the low three bits of ARG (notes/assumptions/34.md).  A refused UNLOCK or
RETURN renews SEC_NONCE too (R486). -/
def State.secStart (s : State) (op arg : Nat) : State :=
  if !opAllowed op s.lc then (if op = 5 ∨ op = 9 then s.renewNonce else s).secEnd resLIFECYCLE false 0
  else
    match op with
    | 0 => s.secProgram (arg % 8)
    | 1 => s.secErase (arg % 8)
    | 2 => s.secLoad (arg % 8)
    | 3 => if s.on Reg.SEC_STAT_RNGFAIL then s.secEnd resRNG false 0 else s.secTransition 3
    | 4 =>
      match s.checkSlot (s.optByte 6 % 4) 2 with
      | (_, some _) => s.secTransition 4
      | (r, none) => s.secEnd r false 0
    | 5 => if s.tokenOk 1 (s.stage 0 164) then (s.renewNonce).secTransition 5 else (s.renewNonce).secEnd resTOKEN false 0
    | 6 => s.secTransition 6
    | 7 => { s with claimKey := ofLeBytes (s.stage 0 32) }.secEnd resOK false 0
    | 8 => s.raiseSvn arg
    | 9 => s.secUnlock (s.stage 0 164)
    | 10 => s.secLock
    | _ => s.attest

/-- R493, R500: a write of SEC_CMD by master `m`; conductors may not, and the service core does not respond while it is
debug-halted. -/
def State.secWrite (s : State) (m v : Nat) : State × Status :=
  let op := bits v 16 4
  if 5 ≤ m ∨ s.on Reg.SEC_STAT_BUSY ∨ 12 ≤ op then (s, .prot)
  else
    let s1 := (s.put Reg.SEC_CMD_OP op).put Reg.SEC_CMD_ARG (bits v 0 16)
    (if v.testBit 31 ∧ ¬ s.sec.halted then s1.secStart op (bits v 0 16) else s1, .ok)

/-- R476: the random source's health test fails; a PROVISION that still waits for its check then ends with RNG. -/
def State.healthFail (s : State) : State := if s.dom 1 then s.put Reg.SEC_STAT_RNGFAIL 1 else s

def execHealthTestFail (s : State) : Host.Outcome State Fault Refusal := .next s.healthFail

/-! ### Boot step 5 (R454, R474, R484) -/

/-- R484: the container of a slot runs: its code, its digest and SVN. -/
def State.runImage (s : State) (slot res : Nat) (c : Container) : State :=
  let s1 := (s.dropMem svcCode (svcCode + 0x20000)).writeBytes svcCode (c.body.take (c.clen + c.dlen))
  let s2 := { s1 with sec := { s1.sec with booted := (Config.sha256 (s.slotBytes slot)).toNat, svn := c.svn } }
  if res = 0 then s2
  else ((s2.put Reg.SEC_STAT_UNSIGNED 1).put Reg.SEC_RES_CODE res).put Reg.SEC_RES_WARN 1

/-- R484: the verdict on a boot slot: only KIND 0 boots. -/
def State.bootSlot (s : State) (slot : Nat) : Option (Nat × Container) :=
  match s.checkSlot slot s.lc with
  | (r, some c) => if c.kind = 0 then some (r, c) else none
  | _ => none

/-- R484: the boot slot, else its neighbour, else the ROM alone. -/
def State.bootImage (s : State) : State :=
  let b := s.optByte 6 % 4
  match s.bootSlot b with
  | some (r, c) => s.runImage b r c
  | none =>
    match s.bootSlot (b ^^^ 1) with
    | some (r, c) => s.runImage (b ^^^ 1) r c
    | none => (s.put Reg.SEC_STAT_RECOV 1).errFree { sev := 3, src := 16, code := 6, unit := 0 }

/-- R454, step 5: SVC powers up, its registers take their option values, the life-log image is found, a zeroisation is
completed, and the boot container runs. -/
def State.serviceUp (s : State) : State :=
  if s.pw.boot ≠ 5 then s
  else
    let s1 := (((s.rearm 1).putFbit Reg.PR_DOM_PG_PG 1 true).optRegs).lifeBoot
    let s2 := if s1.sec.zpend then s1.zeroise else s1
    (s2.bootImage).bootAt 6

def execBootImage (s : State) : Host.Outcome State Fault Refusal := .next s.serviceUp

end Sys2Proof.Machine
end

