-- ==== Sys2Proof/Machine/Access.lean ====
section
/-! DEFINITION. Reads and writes of the address map (R9 to R14, R43 to R46, R122, R256, R381, R402, R414, R461, R466, R468,
R538 to R540).  A master is 0 to 3 for the control ports, 4 for the service core, 5 and 6 for the conductors of keels A
and B.  A word that must wait answers `none` (R414, R461; notes/assumptions/35.md). -/
namespace Sys2Proof.Machine

/-! ### Where an address leads -/

/-- Where an access leads: to a word of the physical map, to a failure, or nowhere yet. -/
inductive Route where
  | word (x : Nat)
  | fail (st : Status)
  | held
  deriving DecidableEq, Repr

/-- R43: the ranges of the map, numbered; `none` outside every range. -/
def rangeOf (a : Nat) : Option Nat :=
  if a < 0xB0000 then some (a / 0x10000)
  else if 0x100000 ≤ a ∧ a < 0x400000 then some (0x100 + a / 0x80000)
  else if 0x40000000 ≤ a ∧ a < 0x44000000 then some 0x200
  else if 0x50000000 ≤ a ∧ a < 0x54000000 then some 0x201
  else none

/-- R121, R458: the block of a word whose accesses wait while its reset runs; keels follow R414, and the reset of a core leaves the
words of its region (from 0xC100 of a window). -/
def blockOf (x : Nat) : Option Nat :=
  if 0x40000000 ≤ x then if x % 0x10000 < 0xC100 then some ((x - 0x40000000) / 0x10000) else none
  else if 0x301000 ≤ x ∧ x < 0x301480 then some (0x410 + (x - 0x301000) / 0x20)
  else if 0x302000 ≤ x ∧ x < 0x302080 then some (0x440 + (x - 0x302000) / 0x20)
  else if 0x300000 ≤ x ∧ x < 0x380000 then some 0x450
  else if 0x380000 ≤ x then some 0x460
  else if 0x50000 ≤ x ∧ x < 0x60000 then some 0x461
  else if 0x40000 ≤ x ∧ x < 0x50000 then some 0x462
  else if 0x60000 ≤ x ∧ x < 0x70000 then some 0x463
  else if 0x70000 ≤ x ∧ x < 0x70100 then some 0x464
  else if 0x70100 ≤ x ∧ x < 0x70200 then some 0x465
  else if 0x80000 ≤ x ∧ x < 0x80020 then some 0x466
  else if 0x80020 ≤ x ∧ x < 0x80040 then some 0x467
  else if 0x30000 ≤ x ∧ x < 0x40000 then some 0x468
  else none

/-- R461: the word lies in a block that is being reset. -/
def State.inReset (s : State) (x : Nat) : Bool := s.quiesce.any (fun q => q.why ≤ 1 && some q.block == blockOf x)

/-- R414, R461, R468: a word of the physical map: its domain is on, its block is not being reset, its keel is not in reset
or under self-test. -/
def State.physical (s : State) (x : Nat) : Route :=
  if !s.dom (addrDom x) then .fail .domainOff
  else if 0x100000 ≤ x ∧ x < 0x200000 ∧ s.role ((x - 0x100000) / 0x80000) ≥ rRESET then .fail .timeout
  else if s.inReset x then .held
  else .word x

/-- R46, R381, R414: a word of a role window, with the epoch that the access carries (an access of an internal master
carries none and is not checked; notes/assumptions/36.md); reads are not checked (notes/assumptions/48.md). -/
def State.byRole (s : State) (epoch : Option Nat) (write : Bool) (a : Nat) : Route :=
  if s.get Reg.ARB_STAT_PHASE == 1 then .held
  else if write && epoch.any (· != s.get Reg.ARB_STAT_EPOCH) then .fail .roleStale
  else
    match s.active? with
    | none => .fail .timeout
    | some k => s.physical (0x100000 + 0x80000 * (if a < 0x280000 then k else 1 - k) + a % 0x80000)

/-- R45, R122, R150: a word of a logical window: core entries at the serving core, region entries at the region; a write
with another adoption epoch is stale. -/
def State.byRegion (s : State) (epoch : Option Nat) (write : Bool) (a : Nat) : Route :=
  let n := (a - 0x50000000) / 0x10000
  let o := a % 0x10000
  match s.physical (reWindow (if o < 0xC100 then s.servedBy n else n) + o) with
  | .word x => if write && epoch.any (· != s.get (Reg.ADOPT_STAT_EPOCH n)) then .fail .adoptStale else .word x
  | r => r

/-- R43 to R46, R540: where a byte address leads. -/
def State.route (s : State) (epoch : Option Nat) (write : Bool) (a : Nat) : Route :=
  if a % 4 ≠ 0 ∨ (rangeOf a).isNone then .fail .badAddress
  else if 0x200000 ≤ a ∧ a < 0x300000 then s.byRole epoch write a
  else if 0x50000000 ≤ a then s.byRegion epoch write a
  else s.physical a

/-! ### Memories behind the map -/

/-- A word of the map that is memory: an array of bytes, a fret table's word, the life-log image, nothing. -/
inductive MemWord where
  | bytes (addr : Nat)
  | table (unit interp word : Nat) (active : Bool)
  | image (addr : Nat)
  deriving DecidableEq, Repr

/-- R122, R107, R117, R398, R500, R519: the memory that a word of the map shows. -/
def State.memWord (s : State) (x : Nat) : Option MemWord :=
  let o := x % 0x10000
  if 0x40000000 ≤ x then
    let n := (x - 0x40000000) / 0x10000
    if o < 0xC000 then some (.bytes x)
    else if 0xD400 ≤ o ∧ o < 0xE600 then some (.table n ((o - 0xD400) / 0x240) ((o - 0xD400) % 0x240 / 4) true)
    else if 0xE800 ≤ o ∧ o < 0xFA00 then some (.table n ((o - 0xE800) / 0x240) ((o - 0xE800) % 0x240 / 4) false)
    else none
  else if 0x41000 ≤ x ∧ x < 0x42200 then some (.table edgeUnit ((x - 0x41000) / 0x240) ((x - 0x41000) % 0x240 / 4) true)
  else if 0x42800 ≤ x ∧ x < 0x43A00 then some (.table edgeUnit ((x - 0x42800) / 0x240) ((x - 0x42800) % 0x240 / 4) false)
  else if secStage ≤ x ∧ x < 0xA0000 then some (.bytes x)
  else if 0xA8000 ≤ x ∧ x < 0xB0000 then some (.image (lifeHalf (s.get Reg.LL_STAT_HALF) + (x - 0xA8000)))
  else if 0x100000 ≤ x ∧ x < 0x200000 ∧ 0x60000 ≤ x % 0x80000 ∧ x % 0x80000 < 0x70000 then
    let k := (x - 0x100000) / 0x80000
    some (.bytes (condCode k + 0x10000 * s.get (Reg.CD_CTRL_CPAGE k) + x % 0x10000))
  else none

/-- The word that a memory shows. -/
def State.memValue (s : State) : MemWord → Nat
  | .bytes a => s.readLe a 4
  | .table u i j act => tabWord (if act then (s.interp u i).act else (s.interp u i).shd) j
  | .image a => s.readLe a 4

/-- R501: the address under which a word's error is kept. -/
def MemWord.eccAddr : MemWord → Nat
  | .bytes a => a
  | .table u i j act => if act then actAddr u i j else shdAddr u i j
  | .image a => a

/-- R503, R504: the block class of a word's memory. -/
def memClass (a : Nat) : Nat :=
  if 0x40000000 ≤ a ∧ a < 0x44000000 ∧ a % 0x10000 < 0xC000 then 0
  else if condCode 0 ≤ a ∧ a < imageSlot 0 then 2
  else match scrubMem a with
    | some m => m.cls
    | none => 5

/-- The core whose memory a word is, for ECC_STAT. -/
def State.eccNote (s : State) (a : Nat) (unc : Bool) : State :=
  if 0x40000000 ≤ a ∧ a < 0x44000000 ∧ a % 0x10000 < 0xC000 then
    let c := (a - 0x40000000) / 0x10000
    if unc then s.hwSet (Reg.ECC_STAT_UNC c) 1 else s.bump (Reg.ECC_STAT_CORR c) 1
  else s

/-- R501: a read of a protected word: a single-bit error is corrected and counted; an uncorrectable one is told. -/
def State.eccRead (s : State) (a : Nat) : State × Bool :=
  match s.eccAt a with
  | 0 => (s, false)
  | 1 => (((s.putEcc a 0).seu (memClass a)).eccNote a false, false)
  | _ => (s.eccNote a true, true)

/-! ### Reads -/

/-- R256, R315, R387, R399: a field as a read shows it: a declaration register with VIEW = 1 shows the value in force; the age
of a group's oldest block, the lease that is left and the condition of CD_EVT bit 0 are taken now. -/
def State.shown (s : State) (f : Field) : Nat :=
  let a := f.key / 8
  if f.acc = .wo then 0
  else if f = Reg.OWN_STAT_LEFT then s.leaseLeft
  else if 0x120000 ≤ a ∧ a < 0x200000 then
    let k := (a - 0x100000) / 0x80000
    let o := a % 0x80000
    if 0x20000 ≤ o ∧ o < 0x28000 ∧ declKey (toKeelA k f.key) ∧ s.on (Reg.BR_CTRL_VIEW k) then
      dget (s.inForce k) { f with key := toKeelA k f.key }
    else if 0x40100 ≤ o ∧ o < 0x40200 ∧ o % 0x10 = 4 then
      (match s.active? == some k, (s.keel k).mirror with
       | false, some m => s.ageOf (SMap.find? m.ages ((o - 0x40100) / 0x10))
       | _, _ => s.spillAge k ((o - 0x40100) / 0x10))
    else if o = 0x50020 then putBit (s.get f) 0 (!(s.core (1024 + k)).inq.isEmpty)
    else s.get f
  else s.get f

/-- R9, R13: the value of a register whose low word lies at `base`. -/
def State.regValue (s : State) (base : Nat) (fs : List Field) : Nat :=
  sumOf (fs.map (fun f => s.shown f % 2 ^ f.width * 2 ^ (f.key - 8 * base)))

/-- The key of a latched word of a master. -/
def latchKey (m a : Nat) : Nat := m * 2 ^ 32 + a

/-- R466, R510: a word of a register: a low word latches its high word, a high word shows the latch; word 0 of an error
entry latches the others. -/
def State.regRead (s : State) (m x : Nat) : State × Status × Nat :=
  match regAt x with
  | none => (s, .badAddress, 0)
  | some (fs, base, words) =>
    let v := if base = 0x80084 then s.regValue base fs / 2 ^ 16 * 2 ^ 16 + s.leaseShown m else s.regValue base fs
    if words = 2 then
      if x = base then ({ s with latchHi := SMap.ins s.latchHi (latchKey m (base + 4)) (v / 2 ^ 32) }, .ok, v % 2 ^ 32)
      else (s, .ok, (SMap.find? s.latchHi (latchKey m x)).getD (v / 2 ^ 32))
    else if 0xA0100 ≤ x ∧ x < 0xA0300 then
      if x % 16 = 0 then (s.errLatch m ((x - 0xA0100) / 16), .ok, v)
      else (s, .ok, (SMap.find? s.latchHi (latchKey m x)).getD v)
    else (s, .ok, v)

/-- R436: the monitor queue's words, by master. -/
def State.monRead (s : State) (m x : Nat) : State × Status × Nat :=
  let l := SMap.get s.mon.latches m (0, 0)
  if x = 0x60108 then (let r := s.monPop m; (r.2, .ok, r.1))
  else if x = 0x6010C then (s, .ok, l.1)
  else if x = 0x60110 then (s, .ok, l.2 % 2 ^ 32)
  else (s, .ok, l.2 / 2 ^ 32)

/-- R10 to R14, R124, R379, R501: a word of the physical map read by master `m`. -/
def State.wordRead (s : State) (m x : Nat) : State × Status × Nat :=
  match s.memWord x with
  | some w =>
    let r := s.eccRead w.eccAddr
    if r.2 then (r.1, .ecc, 0) else (r.1, .ok, r.1.memValue w)
  | none =>
    if 0x60108 ≤ x ∧ x < 0x60118 then s.monRead m x
    else if (scrubMem x).isSome then
      let r := s.eccRead x
      if r.2 then (r.1, .ecc, 0) else r.1.regRead m x
    else s.regRead m x

/-- R43, R44, R379: a 32-bit read by master `m`; none while it must wait. -/
def State.busRead (s : State) (m : Nat) (epoch : Option Nat) (a : Nat) : Option (State × Status × Nat) :=
  match s.route epoch false a with
  | .held => none
  | .fail st => some (s, st, 0)
  | .word x => some (s.wordRead m x)

/-! ### Writes by access code (R10, R539) -/

/-- R10, R538: a field after a write of `v` to it. -/
def Field.written (f : Field) (old v : Nat) : Nat :=
  match f.acc with
  | .rw => v
  | .rwl => v
  | .rwo => v
  | .ro => old
  | .wo => old
  | .w1c => old - (old &&& v)
  | .w1s => old ||| v

/-- The part of a register's value that a field is. -/
def Field.part (f : Field) (base v : Nat) : Nat := bits v (f.key - 8 * base) f.width

/-- R11: the bits of the written part that act: a bit of a W1C field that the hardware has set in this cycle is not cleared. -/
def State.acting (s : State) (f : Field) (v : Nat) : Nat := if f.acc = .w1c then v - (v &&& s.metSets f) else v

/-- Every field of a register written as its access code says. -/
def State.putFields (s : State) (base v : Nat) (fs : List Field) : State :=
  fs.foldl (fun a f => if f.acc = .ro ∨ f.acc = .wo then a
    else a.put f (f.written (a.get f) (a.acting f (f.part base v)))) s

/-- R10, R472: RWL fields are locked in SEALED and VOID. -/
def State.locked (s : State) : Bool := s.lc == 2 || s.lc == 4

/-- R539: a write that would change a locked RWL field. -/
def State.rwlRefused (s : State) (base v : Nat) (fs : List Field) : Bool :=
  s.locked && fs.any (fun f => f.acc == .rwl && f.part base v != s.get f)

/-- The register at an address written by access code alone. -/
def State.generic (s : State) (x v : Nat) : State :=
  match regAt x with
  | some (fs, base, _) => s.putFields base v fs
  | none => s

/-! ### Writes with an effect of their own -/

/-- R124, R151, R398: a write to code memory of core `c` (1,024 and 1,025 the conductors). -/
def State.codeWrite (s : State) (c a v : Nat) : State × Status :=
  let halted : Bool := if c < 1024 then s.coreState c == cHALTED else s.condState (c - 1024) == cdHALTED
  if s.locked || s.imageLoads c || !halted then (s, .prot)
  else (((s.writeLe a 4 v).putEcc a 0).hwPut (targetValid c) 0, .ok)

/-- R65 to R77: the stripe registers. -/
def State.stripeWrite (s : State) (x v : Nat) : Option (State × Status) :=
  let st := (x - 0x28000) / 0x100
  if x = 0x28800 then some (s.anaWrite v)
  else if x = 0x28804 then some (s.fsumRequest v)
  else if 0x28800 ≤ x then none
  else match x % 0x100 with
    | 0 => some (s.thrWrite st (bits v 0 10), .ok)
    | 8 => some (s.tpWrite st v)
    | 12 => some (s.putIf (v.testBit 31) (Reg.CFG_STAT_REPAIRS st) 0, .ok)
    | _ => none

/-- R132, R539: CORE_CTRL of core `c`. -/
def State.coreCtrlWrite (s : State) (c v : Nat) : State × Status :=
  if v.testBit 0 && s.imageLoads c then (s, .prot)
  else
    let s1 := ((s.put (Reg.CORE_CTRL_AUTO c) (bits v 4 1)).put (Reg.CORE_CTRL_LEVEL c) (bits v 3 1)).put
      (Reg.CORE_CTRL_VALID c) (bits v 2 1)
    let s2 := if v.testBit 1 then s1.haltWrite c else s1
    (if v.testBit 0 then s2.goWrite c else s2, .ok)

/-- R107: FCAL_CTRL of region `n`. -/
def State.fcalCtrlWrite (s : State) (n v : Nat) : State :=
  let s1 := ((s.fcalWrite n (bits v 0 1) (bits v 2 1) (bits v 16 16) (bits v 8 8)).put (Reg.FCAL_CTRL_PIN n) (bits v 4 3)).put
    (Reg.FCAL_CTRL_PINEN n) (bits v 3 1)
  if v.testBit 7 then s1.busyClear n else s1

/-- R117: EDGE_CTRL. -/
def State.edgeCtrlWrite (s : State) (v : Nat) : State :=
  let s1 := s.fcalWrite edgeUnit (bits v 0 1) (bits v 1 1) (bits v 16 16) (bits v 8 8)
  if v.testBit 4 then (List.range 4).foldl (fun a i => (a.put (Reg.TIN_STAT_BUSY i) 0).put (Reg.TIN_STAT_RESTART i) 0) s1 else s1

/-- R122, R145: the registers of a region engine's window at offset `o`. -/
def State.engineWrite (s : State) (n o v : Nat) (forBuddy : Bool) : Option (State × Status) :=
  if 0xC400 ≤ o ∧ o < 0xC500 then some (s.cfgWrite n ((o - 0xC400) / 4) v, .ok)
  else match o with
    | 0xC000 => some (s.coreCtrlWrite n v)
    | 0xC014 => some (s.wdogWrite n v, .ok)
    | 0xC018 => some (s.kick n, .ok)
    | 0xC020 => some (s.tmrWrite n 0 v, .ok)
    | 0xC028 => some (s.tmrWrite n 1 v, .ok)
    | 0xC050 => some (s.mboxPost n forBuddy (BitVec.ofNat 64 v))
    | 0xC080 => some (if v.testBit 31 then s.bistStart n else s, .ok)
    | 0xC620 => some (s.adoptWrite n v)
    | 0xD000 => some (s.fcalCtrlWrite n v, .ok)
    | _ => none

/-- R117, R118: the edge unit. -/
def State.edgeWrite (s : State) (x v : Nat) : Option (State × Status) :=
  if x = 0x40000 then some (s.edgeCtrlWrite v, .ok)
  else if 0x40100 ≤ x ∧ x < 0x40180 ∧ x % 0x20 = 0 then some (s.tinCfgWrite ((x - 0x40100) / 0x20) v, .ok)
  else none

/-- R255: DRIFT follows a write of a register that a commit takes but does not check again. -/
def State.drifting (s : State) (x v : Nat) : State := (s.generic x v).bridleDrift

/-- R216, R224, R226, R229, R235: the digitiser and the triggers. -/
def State.waveWrite (s : State) (x v : Nat) : Option (State × Status) :=
  let o := x - 0x50000
  if o = 0 then some (s.waveCtrlWrite v)
  else if (0x40 ≤ o ∧ o < 0x58) ∨ (0x400 ≤ o ∧ o < 0x4C0) then some (if s.corrOk then ((s.generic x v).putEcc x 0, .ok) else (s, .prot))
  else if 0x100 ≤ o ∧ o < 0x200 then
    let w := o % 0x20
    let n := (o - 0x100) / 0x20
    if w = 0x14 then some (s, .ok)
    else if w = 0 ∨ w = 0x10 ∨ w = 0x18 then some ((s.drifting x v).trgTouched n, .ok)
    else some ((s.generic x v).trgTouched n, .ok)
  else if o = 0x200 then some (s.trgCmd v, .ok)
  else if o = 0x204 then some ((s.generic x v).outGate, .ok)
  else if 0x300 ≤ o ∧ o < 0x340 ∧ o % 0x10 ≤ 4 then some (s.drifting x v, .ok)
  else none

/-- R349, R350, R356, R360: TU_CTRL.  Every write names a source in REFSEL: where the DPLL is not on it (an automatic switch, holdover),
it moves (notes/assumptions/39.md). -/
def State.tuCtrlWrite (s : State) (v : Nat) : State × Status :=
  let ref := bits v 0 2
  let moves := ref != s.get Reg.TU_CTRL_REFSEL || refselOf ref != s.srcActive || s.on Reg.TU_STAT_HOLD
  if (v.testBit 30 && !s.setOk) || !s.refselOk ref then (s, .prot)
  else
    let stops := s.on Reg.TU_CTRL_HOLDON && !v.testBit 26 && s.pwr == 2 && s.pw.stage == 0
    let s1 := ((((s.put Reg.TU_CTRL_SERVO_EN (bits v 29 1)).put Reg.TU_CTRL_STEPEN (bits v 28 1)).put Reg.TU_CTRL_AUTOSW
      (bits v 27 1)).put Reg.TU_CTRL_HOLDON (bits v 26 1)).servoEnable
    let s2 := if moves then s1.refselWrite ref else s1
    let s3 := if v.testBit 30 && s2.servo.setAt.isNone then s2.setRequest else s2
    let s4 := if v.testBit 31 && s3.servo.snapAt.isNone then s3.snapRequest else s3
    (if stops then { s4 with time := { s4.time with run := false } } else s4, .ok)

/-- R347, R349 to R366: the time unit. -/
def State.timeWrite (s : State) (x v : Nat) : Option (State × Status) :=
  if x = 0x30000 then some (s.tuCtrlWrite v)
  else if x = 0x3000C then
    some (if !s.on Reg.TU_CTRL_SERVO_EN && decide (3435630240 ≤ v) && decide (v ≤ 3436317434) then (s.generic x v, .ok) else (s, .prot))
  else if x = 0x30040 then some ((s.generic x v).servoEnable, .ok)
  else none

/-- R371, R383, R391: the tether ports. -/
def State.tetherWrite (s : State) (x v : Nat) : Option (State × Status) :=
  if x = 0x80000 then some (s.thEnable 0 (v.testBit 31), .ok)
  else if x = 0x80020 then some (s.thEnable 1 (v.testBit 31), .ok)
  else if x = 0x80200 then some (if v.testBit 31 then s.pwClear else s, .ok)
  else none

/-- R267, R272: ST_CTRL of stream `q` of the keel that holds the grant. -/
def State.streamCtrlWrite (s : State) (k q v : Nat) : State × Status :=
  let op := v.testBit 31
  let cl := v.testBit 30
  if (op && cl) || (op && !s.openOk k q) then (s, .prot)
  else
    let t := s.time.tick + 4
    let s1 := if op then s.setStream k q { s.stream k q with reqO := some t } else s
    let s2 := if cl && s1.stState k q == 1 && (s1.stream k q).reqC.isNone then
      s1.setStream k q { s1.stream k q with reqC := some t } else s1
    (if v.testBit 29 && (s2.stream k q).flushAt.isNone then (s2.put (Reg.ST_CTRL_FLUSH k q) 1).setStream k q { s2.stream k q with flushAt := some t } else s2, .ok)

/-- R401, R418: CD_CTRL; the 8 µs of HBEN start where it rises. -/
def State.condCtrlWrite (s : State) (k v : Nat) : State × Status :=
  let h := if v.testBit 31 then s.condHalt k else (s, .ok)
  if h.2 ≠ .ok then (s, h.2)
  else if v.testBit 30 && s.imageLoads (condCore k) then (s, .prot)
  else
    let s0 := if v.testBit 28 && !h.1.on (Reg.CD_CTRL_HBEN k) then
      h.1.setCore (condCore k) { h.1.core (condCore k) with hbAt := h.1.time.tick } else h.1
    let s1 := ((s0.put (Reg.CD_CTRL_VALID k) (bits v 29 1)).put (Reg.CD_CTRL_HBEN k) (bits v 28 1)).put (Reg.CD_CTRL_CPAGE k)
      (bits v 2 2)
    (if v.testBit 30 then s1.condGo k else s1, .ok)

/-- R244, R245: BR_CTRL. -/
def State.bridleCtrlWrite (s : State) (k v : Nat) : State × Status :=
  if v.testBit 31 then
    if s.active? == some k && !s.on (Reg.BR_STAT_BUSY k) then ((s.put (Reg.BR_CTRL_VIEW k) (bits v 0 1)).commitStart k, .ok)
    else (s, .prot)
  else (s.put (Reg.BR_CTRL_VIEW k) (bits v 0 1), .ok)

/-- R244: a declaration register of a keel whose commit is in progress; either word of it. -/
def State.declShut (s : State) (x : Nat) : Bool :=
  let k := (x - 0x100000) / 0x80000
  let o := (x - 0x100000) % 0x80000
  decide (0x100000 ≤ x) && decide (x < 0x200000) && decide (0x20000 ≤ o) && decide (o < 0x28000)
    && declKey (toKeelA k (8 * x)) && s.on (Reg.BR_STAT_BUSY k)

/-- R244, R293: the registers of a keel that take no write now: the stream registers of one that does not hold the grant, and the
declarations while a commit is in progress. -/
def State.streamShut (s : State) (x : Nat) : Bool :=
  let o := (x - 0x100000) % 0x80000
  decide (0x100000 ≤ x) && decide (x < 0x200000) && decide (0x30000 ≤ o) && decide (o < 0x30B00)
    && s.active? != some ((x - 0x100000) / 0x80000)
def State.wordShut (s : State) (x : Nat) : Bool := s.streamShut x || s.declShut x

/-- R244, R418: the registers of keel `k` at offset `o` of its window. -/
def State.keelWrite (s : State) (k o x v : Nat) : Option (State × Status) :=
  if o = 0x20000 then some (s.bridleCtrlWrite k v)
  else if 0x20C00 ≤ o ∧ o < 0x20C90 then some ((s.generic x v).putEcc x 0, .ok)
  else if 0x30000 ≤ o ∧ o < 0x30800 ∧ o % 0x20 = 0 then some (s.streamCtrlWrite k ((o - 0x30000) / 0x20) v)
  else if 0x30800 ≤ o ∧ o < 0x30900 ∧ o % 0x10 = 0 then
    let g := (o - 0x30800) / 0x10
    let s1 := s.generic x v
    some (s1.queueLevel k g (s1.get (Reg.OQ_STAT_LEVEL k g)), .ok)
  else if o = 0x30900 ∨ o = 0x30910 then some ((s.generic x v).pinsFall, .ok)
  else if o = 0x30908 ∨ o = 0x30918 then some (s.drifting x v, .ok)
  else if o = 0x50004 then some (if v.testBit 31 then s.klTestWrite k else (s, .ok))
  else if o = 0x50010 then some (s.condCtrlWrite k v)
  else if o = 0x50028 then some ((s.generic x v).condTimerSet k, .ok)
  else none

/-- R327, R331, R335, R339, R341: the lanes. -/
def State.laneWrite (s : State) (x v : Nat) : Option (State × Status) :=
  let o := x - 0x300000
  if 0x1000 ≤ o ∧ o < 0x1480 ∧ o % 0x20 = 0 then some (s.txCtrlWrite ((o - 0x1000) / 0x20) v, .ok)
  else if 0x2000 ≤ o ∧ o < 0x2080 ∧ o % 0x20 = 0 then some (s.rxCtrlWrite ((o - 0x2000) / 0x20) v, .ok)
  else if o = 0x2100 then
    some (if (List.range 4).any (fun j => s.on (Reg.LN_RXCTRL_EN j)) then (s, .prot) else (s.generic x v, .ok))
  else if 0x3000 ≤ o ∧ o < 0x3040 then
    some (if s.laneGroupOk ((o - 0x3000) / 4) (bits v 8 3) (bits v 0 5) then (s.generic x v, .ok) else (s, .prot))
  else if 0x3100 ≤ o ∧ o < 0x3180 then
    let l := (o - 0x3100) / 4
    some (if s.lmapOk l (bits v 0 6) then (s.lmapWrite l (bits v 0 6), .ok) else (s, .prot))
  else none

/-- R296, R318: MC_CFG; every write of 1 to EN with the memory domains on starts the sequence; a store in use or a sequence in progress
is lost as by EN = 0 (notes/assumptions/88.md). -/
def State.mcCfgWrite (s : State) (v : Nat) : State × Status :=
  let was := s.on Reg.MC_CFG_EN
  let mask := bits v 0 4
  let changes := bits v 8 3 != s.get Reg.MC_CFG_RATE || bits v 4 2 != s.get Reg.MC_CFG_CAPC || mask != s.get Reg.MC_CFG_CHMASK
  if (was && changes) || !(mask == 1 || mask == 3 || mask == 15) then (s, .prot)
  else
    let s1 := ((((s.put Reg.MC_CFG_EN (bits v 31 1)).put Reg.MC_CFG_SRSTBY (bits v 30 1)).put Reg.MC_CFG_RATE (bits v 8 3)).put
      Reg.MC_CFG_CAPC (bits v 4 2)).put Reg.MC_CFG_CHMASK mask
    let s2 := if v.testBit 31 then
        if s1.mc.step = 0 then s1.mcStart else if s1.memDomsOn then s1.mcLose.mcStart else s1
      else if was && !v.testBit 31 then
        s1.spillGone.mcStop
      else s1
    (s2.memPower, .ok)

/-- R297, R313, R318: the memory controller. -/
def State.memoryWrite (s : State) (x v : Nat) : Option (State × Status) :=
  if x = 0x380000 then some (s.mcCfgWrite v)
  else if x = 0x380008 then some ((s.generic x v).spillFigures, .ok)
  else if x = 0x38001C then some (s.putIf (v.testBit 31) Reg.MC_TAGS_PEAK 0, .ok)
  else none

/-- R424, R428, R433, R436 to R438: the monitor converter and the I2C controller. -/
def State.sensorWrite (s : State) (x v : Nat) : Option (State × Status) :=
  if x = 0x60004 then
    let s1 := s.generic x (v % 2 ^ 30 + v / 2 ^ 31 * 2 ^ 31)
    some (if v.testBit 30 then s1.injRequest else s1, .ok)
  else if (0x60040 ≤ x ∧ x < 0x600D0) then some (if tagOk v then (s.generic x v, .ok) else (s, .prot))
  else if x = 0x60100 then
    let s1 := s.put Reg.MON_QCTRL_EN (bits v 31 1)
    some (if v.testBit 30 then s1.monClear else s1, .ok)
  else if 0x60400 ≤ x ∧ x < 0x60440 ∧ x % 8 = 0 then some (if snsOk ((x - 0x60400) / 8) v then (s.generic x v, .ok) else (s, .prot))
  else if x = 0x70000 then some (s.i2cCtrl v, .ok)
  else if x = 0x70004 then some (s.i2cCmd v)
  else none

/-- R407, R417: ARB_CTRL. -/
def State.arbCtrlWrite (s : State) (v : Nat) : State × Status :=
  let r := s.arbWrite v
  if r.2 = .ok then (r.1.put Reg.ARB_CTRL_PREF (bits v 0 1), .ok) else (s, r.2)

/-- R442, R443, R453, R457, R459, R482, R510, R517: AON, SVC, power, security and the logs. -/
def State.serviceWrite (s : State) (m x v : Nat) : Option (State × Status) :=
  match x with
  | 0x200 => some (s.arbCtrlWrite v)
  | 0x10180 => some (if v.testBit 31 then s.progWrite else s, .ok)
  | 0x20000 => some (s.targetWrite (bits v 8 3))
  | 0x20008 => some (s.domEnWrite v)
  | 0x20030 => some (s.srstWrite v)
  | 0x20040 => some (s.dwWrite v, .ok)
  | 0x20044 => some (s.dwRestart, .ok)
  | 0x90004 => some (s.secWrite m v)
  | 0xA0004 => some (if v.testBit 31 then s.errClear else s, .ok)
  | 0xA0400 => some (if v.testBit 31 then s.commitRequest else s, .ok)
  | _ => none

/-- A write of a register with an effect of its own; `none` where the access codes say it all.  `x` is the register's low
word and `v` its whole value. -/
def State.hooked (s : State) (m x v : Nat) (forBuddy : Bool) : Option (State × Status) :=
  if 0x40000000 ≤ x then s.engineWrite ((x - 0x40000000) / 0x10000) (x % 0x10000) v forBuddy
  else if 0x380000 ≤ x then s.memoryWrite x v
  else if 0x300000 ≤ x then s.laneWrite x v
  else if 0x100000 ≤ x then s.keelWrite ((x - 0x100000) / 0x80000) (x % 0x80000) x v
  else if 0x80000 ≤ x ∧ x < 0x90000 then s.tetherWrite x v
  else if 0x60000 ≤ x ∧ x < 0x80000 then s.sensorWrite x v
  else if 0x50000 ≤ x ∧ x < 0x60000 then s.waveWrite x v
  else if 0x40000 ≤ x ∧ x < 0x50000 then s.edgeWrite x v
  else if 0x30000 ≤ x ∧ x < 0x40000 then s.timeWrite x v
  else if 0x28000 ≤ x ∧ x < 0x30000 then s.stripeWrite x v
  else s.serviceWrite m x v

/-- R10, R538, R539: a whole register written; what it has set is noted for the rest of the cycle. -/
def State.regApply (s : State) (m base v : Nat) (fs : List Field) (forBuddy : Bool) : State × Status :=
  if s.rwlRefused base v fs then (s, .prot)
  else
    match s.hooked m base v forBuddy with
    | some r => if r.2 = .ok then (r.1.noteWrite s base v fs, .ok) else r
    | none => ((s.putFields base v fs).noteWrite s base v fs, .ok)

/-- R466: the fields of a 64-bit register that a write holds until its high word. -/
def holdsLow (fs : List Field) : Bool := fs.any (fun f => f.acc == .rw || f.acc == .rwl || f.acc == .rwo || f.acc == .wo)

/-- R9, R14, R244, R293, R466: a word of a register written: the low word of a writable 64-bit register is held, its high word applies
both; the words of another 64-bit register apply alone. -/
def State.regWrite (s : State) (m x v : Nat) (forBuddy : Bool) : State × Status :=
  match regAt x with
  | none => (s, .badAddress)
  | some (fs, base, words) =>
    if s.wordShut x then (s, .prot)
    else if words = 2 then
      if !holdsLow fs then s.regApply m base (if x = base then v else v * 2 ^ 32) fs forBuddy
      else if x = base then ({ s with heldLo := SMap.ins s.heldLo base v }, .ok)
      else
        let lo := (SMap.find? s.heldLo base).getD (s.regValue base fs % 2 ^ 32)
        ({ s with heldLo := SMap.erase s.heldLo base }).regApply m base (lo + v * 2 ^ 32) fs forBuddy
    else
      let r := s.regApply m x v fs forBuddy
      if r.2 = .ok ∧ (scrubMem x).isSome then (r.1.putEcc x 0, .ok) else r

/-- R104, R124, R500, R501: a word of a memory written. -/
def State.memWrite (s : State) (x v : Nat) : MemWord → State × Status
  | .bytes a =>
    if isCode a then s.codeWrite (if a < 0x44000000 then (a - 0x40000000) / 0x10000 else 1024 + (a - condCode 0) / 0x100000) a v
    else if secStage ≤ x ∧ x < 0xA0000 ∧ s.on Reg.SEC_STAT_BUSY then (s, .prot)
    else ((s.writeLe a 4 v).putEcc a 0, .ok)
  | .table u i j act =>
    if act then (s, .ok)
    else
      let r := s.shadowWrite u i j v
      if r.2 = .ok then (r.1.putEcc (shdAddr u i j) 0, .ok) else r
  | .image _ => (s, .ok)

/-- R402: the requests that a write of ST_CTRL left with stream `q` of keel `k`, in the frame that keel `n` holds. -/
def State.mirrorRequest (s : State) (k n q : Nat) : State :=
  match (s.keel n).mirror with
  | none => s
  | some m =>
    let v := s.stream k q
    let w := { SMap.get m.streams q StreamSt.reset with reqO := v.reqO, reqC := v.reqC, flushAt := v.flushAt }
    let f := (Reg.ST_CTRL_FLUSH n q).key - bitAddr (0x100000 + 0x80000 * n)
    (s.setKeel n { s.keel n with mirror := some { m with streams := SMap.set m.streams q w StreamSt.reset,
                                                         regs := SMap.set m.regs f (s.get (Reg.ST_CTRL_FLUSH k q)) 0 } }).put
      (Reg.ST_CTRL_FLUSH n q) (s.get (Reg.ST_CTRL_FLUSH k q))

/-- R402: a word that keel `k`'s own write has taken, at offset `o` of its window, written to keel `n` as well: what its fields hold, or
for the conductor's registers and ST_CTRL what the write does there. -/
def State.mirrorWord (s : State) (k n o v : Nat) (fs : List Field) : State :=
  if o = 0x50010 then (s.condCtrlWrite n v).1
  else if o = 0x50020 then s.generic (0x100000 + 0x80000 * n + o) v
  else if o = 0x50028 then (s.generic (0x100000 + 0x80000 * n + o) v).condTimerSet n
  else if 0x30000 ≤ o ∧ o < 0x30800 ∧ o % 0x20 = 0 then s.mirrorRequest k n ((o - 0x30000) / 0x20)
  else fs.foldl (fun a f =>
    if f.acc = .rw ∨ f.acc = .rwl then a.put { f with key := fromKeelA n (toKeelA k f.key) } (a.get f) else a) s

/-- R402: what a write of the active keel's registers or of its conductor's code memory did, the standby keel does too. -/
def State.mirrorWrite (s : State) (x v : Nat) : State :=
  match s.active?, s.standby? with
  | some k, some n =>
    if 0x100000 + 0x80000 * k ≤ x ∧ x < 0x180000 + 0x80000 * k then
      let o := x % 0x80000
      if 0x60000 ≤ o then
        (s.codeWrite (condCore n) (condCode n + s.get (Reg.CD_CTRL_CPAGE n) * 0x10000 + (o - 0x60000)) v).1
      else
        match regAt x with
        | some (fs, _, _) => s.mirrorWord k n o v fs
        | none => s
    else s
  | _, _ => s

/-- A word of the physical map written by master `m`. -/
def State.wordWrite (s : State) (m x v : Nat) (forBuddy : Bool) : State × Status :=
  match s.memWord x with
  | some w =>
    let r := s.memWrite x v w
    if r.2 = .ok then (r.1.mirrorWrite x v, .ok) else r
  | none =>
    let r := s.regWrite m x v forBuddy
    if r.2 = .ok then (r.1.mirrorWrite x v, .ok) else r

/-- R145: a message posted through the logical window of `n` to the buddy that serves it carries the region flag. -/
def State.forBuddy (s : State) (a : Nat) : Bool :=
  decide (0x50000000 ≤ a) && s.servedBy ((a - 0x50000000) / 0x10000) != (a - 0x50000000) / 0x10000

/-- R43, R44, R379: a 32-bit write by master `m`; none while it must wait. -/
def State.busWrite (s : State) (m : Nat) (epoch : Option Nat) (a v : Nat) : Option (State × Status) :=
  match s.route epoch true a with
  | .held => none
  | .fail st => some (s, st)
  | .word x => some (s.wordWrite m x (v % 2 ^ 32) (s.forBuddy a))

end Sys2Proof.Machine
end

