-- ==== Sys2Proof/Machine/WriteRows.lean ====
section
/-! DEFINITION. The commands that are one write or one read of a register: each goes through the address map, at the address
and with the word that its row names; the other fields of the word are written with what they hold. -/
namespace Sys2Proof.Machine

/-- R379: a write that was executed leaves its status; one that must wait leaves nothing (notes/assumptions/35.md). -/
def State.wrote (s : State) : Option (State × Status) → State
  | some r => { r.1 with lastStatus := r.2 }
  | none => s

/-- R379: a read that was executed leaves its status and its word. -/
def State.reads (s : State) : Option (State × Status × Nat) → State
  | some r => { r.1 with lastStatus := r.2.1, lastData := [r.2.2] }
  | none => s

/-- R381: the epoch of an access: what a control port's message carries; none for an internal master. -/
def epochOf (m e : Nat) : Option Nat := if m < 4 then some e else none

/-- A write of a row that names its register. -/
def State.writeAt (s : State) (a v : Nat) : State := s.wrote (s.busWrite 0 none a v)

/-- What the RW and RWL fields of a register hold, as a word to write back. -/
def State.heldWord (s : State) (a : Nat) : Nat :=
  match regAt a with
  | some (fs, base, _) =>
    sumOf ((fs.filter (fun f => f.acc == .rw || f.acc == .rwl)).map (fun f => s.get f * 2 ^ (f.key - 8 * base)))
  | none => 0

/-- A field of a register written, the rest of the word as held. -/
def State.fieldAt (s : State) (a lo w v : Nat) : State :=
  let h := s.heldWord a
  s.writeAt a (h - bits h lo w * 2 ^ lo + v * 2 ^ lo)

/-- The window of keel `k` (R43). -/
def keelAddr (k o : Nat) : Nat := 0x100000 + 0x80000 * k + o

/-- R107, R117: FCAL_CTRL of a region or EDGE_CTRL. -/
def fcalAddr (u : Nat) : Nat := if u < 1024 then reWindow u + 0xD000 else 0x40000

/-- R10. -/
def execRegisterWrite (m : Fin 7) (epoch : BitVec 16) (addr v : BitVec 32) (s : State) : Host.Outcome State Fault Refusal :=
  .next (s.wrote (s.busWrite m.val (epochOf m.val epoch.toNat) addr.toNat v.toNat))

/-- R466. -/
def execLowWordRead (m : Fin 7) (addr : BitVec 32) (s : State) : Host.Outcome State Fault Refusal :=
  .next (s.reads (s.busRead m.val none addr.toNat))

/-! ### Pixels and frets -/

def execConfigWordWrite (n : Fin 1024) (j : Fin 64) (v : BitVec 32) (s : State) : Host.Outcome State Fault Refusal :=
  .next (s.writeAt (reWindow n.val + 0xC400 + 4 * j.val) v.toNat)
def execCfgStatClr (st : Fin 8) (s : State) : Host.Outcome State Fault Refusal :=
  .next (s.writeAt (0x2800C + 0x100 * st.val) (2 ^ 31))
def execStripeThrWrite (st : Fin 8) (thr : BitVec 10) (s : State) : Host.Outcome State Fault Refusal :=
  .next (s.writeAt (0x28000 + 0x100 * st.val) thr.toNat)
def execAnaGlobalWrite (v : BitVec 32) (s : State) : Host.Outcome State Fault Refusal := .next (s.writeAt 0x28800 v.toNat)
def execFire (st : Fin 8) (s : State) : Host.Outcome State Fault Refusal :=
  .next (s.fieldAt (0x28008 + 0x100 * st.val) 31 1 1)
def execFsumCommitRequest (s : State) : Host.Outcome State Fault Refusal := .next (s.writeAt 0x28804 1)
def execManualCommit (u : Fin 1025) (i : Fin 8) (s : State) : Host.Outcome State Fault Refusal :=
  .next (s.fieldAt (fcalAddr u.val) (8 + i.val) 1 1)
def execCalibrationModeWrite (u : Fin 1025) (manual : Bool) (s : State) : Host.Outcome State Fault Refusal :=
  .next (s.fieldAt (fcalAddr u.val) 0 1 (b2n manual))
def execAgeLimWrite (u : Fin 1025) (lim : BitVec 16) (s : State) : Host.Outcome State Fault Refusal :=
  .next (s.fieldAt (fcalAddr u.val) 16 16 lim.toNat)
def execBclr (n : Fin 1024) (s : State) : Host.Outcome State Fault Refusal := .next (s.fieldAt (fcalAddr n.val) 7 1 1)
def execShadowTableWrite (u : Fin 1025) (i : Fin 8) (j : Fin 144) (v : BitVec 32) (s : State) :
    Host.Outcome State Fault Refusal :=
  .next (s.writeAt (shdAddr u.val i.val j.val) v.toNat)
def execTinCfgWrite (i : Fin 4) (v : BitVec 32) (s : State) : Host.Outcome State Fault Refusal :=
  .next (s.writeAt (0x40100 + 0x20 * i.val) v.toNat)
def execTinStatClr (s : State) : Host.Outcome State Fault Refusal := .next (s.fieldAt 0x40000 4 1 1)

/-! ### Region engines -/

def execGo (n : Fin 1024) (s : State) : Host.Outcome State Fault Refusal := .next (s.fieldAt (reWindow n.val + 0xC000) 0 1 1)
def execHalt (n : Fin 1024) (s : State) : Host.Outcome State Fault Refusal := .next (s.fieldAt (reWindow n.val + 0xC000) 1 1 1)
def execWdogKick (n : Fin 1024) (s : State) : Host.Outcome State Fault Refusal := .next (s.writeAt (reWindow n.val + 0xC018) 0)
def execCodeMemoryWrite (n : Fin 1024) (j : Fin 4096) (v : BitVec 32) (s : State) : Host.Outcome State Fault Refusal :=
  .next (s.writeAt (reWindow n.val + 0x8000 + 4 * j.val) v.toNat)

/-- R145: the two words of MBOX_IN, through the physical or the logical window. -/
def State.mboxWrite (s : State) (n epoch : Nat) (logical : Bool) (w : Word64) : State :=
  let a := (if logical then 0x50000000 + 0x10000 * n else reWindow n) + 0xC050
  let s1 := s.wrote (s.busWrite 0 (some epoch) a (w.toNat % 2 ^ 32))
  if s1.lastStatus = .ok then s1.wrote (s1.busWrite 0 (some epoch) (a + 4) (w.toNat / 2 ^ 32)) else s1

def execMboxPost (n : Fin 1024) (logical : Bool) (epoch : BitVec 16) (msg : Word64) (s : State) :
    Host.Outcome State Fault Refusal :=
  .next (s.mboxWrite n.val epoch.toNat logical msg)
def execBistStart (n : Fin 1024) (s : State) : Host.Outcome State Fault Refusal :=
  .next (s.writeAt (reWindow n.val + 0xC080) (2 ^ 31))
def execAdoptRequest (n : Fin 1024) (s : State) : Host.Outcome State Fault Refusal :=
  .next (s.fieldAt (reWindow n.val + 0xC620) 0 1 1)
def execReturnRequest (n : Fin 1024) (s : State) : Host.Outcome State Fault Refusal :=
  .next (s.fieldAt (reWindow n.val + 0xC620) 1 1 1)

/-! ### Digitiser and triggers -/

def execWaveEnable (en : Bool) (s : State) : Host.Outcome State Fault Refusal := .next (s.fieldAt 0x50000 4 1 (b2n en))
def execScal (s : State) : Host.Outcome State Fault Refusal := .next (s.fieldAt 0x50000 31 1 1)
def execRetry (s : State) : Host.Outcome State Fault Refusal := .next (s.fieldAt 0x50000 30 1 1)
def execCorrectionSetWrite (slice : Fin 3) (word : Fin 18) (v : BitVec 32) (s : State) : Host.Outcome State Fault Refusal :=
  .next (s.writeAt (if word.val < 2 then 0x50040 + 8 * slice.val + 4 * word.val
    else 0x50400 + 0x40 * slice.val + 4 * (word.val - 2)) v.toNat)
def execTrgCmd (v : BitVec 32) (s : State) : Host.Outcome State Fault Refusal := .next (s.writeAt 0x50200 v.toNat)
def execTriggerConfigWrite (n : Fin 8) (word : Fin 8) (v : BitVec 32) (s : State) : Host.Outcome State Fault Refusal :=
  .next (s.writeAt (0x50100 + 0x20 * n.val + 4 * word.val) v.toNat)

/-! ### Bridle, streams, spill store -/

def execCommit (k : Fin 2) (s : State) : Host.Outcome State Fault Refusal := .next (s.fieldAt (keelAddr k.val 0x20000) 31 1 1)
def execStreamOpenRequest (k : Fin 2) (q : Fin 64) (s : State) : Host.Outcome State Fault Refusal :=
  .next (s.writeAt (keelAddr k.val (0x30000 + 0x20 * q.val)) (2 ^ 31))
def execStreamCloseRequest (k : Fin 2) (q : Fin 64) (s : State) : Host.Outcome State Fault Refusal :=
  .next (s.writeAt (keelAddr k.val (0x30000 + 0x20 * q.val)) (2 ^ 30))
def execFlush (k : Fin 2) (q : Fin 64) (s : State) : Host.Outcome State Fault Refusal :=
  .next (s.writeAt (keelAddr k.val (0x30000 + 0x20 * q.val)) (2 ^ 29))
def execMemoryInit (s : State) : Host.Outcome State Fault Refusal := .next (s.fieldAt 0x380000 31 1 1)

/-! ### Lanes and time -/

/-- R335: RETRAIN with the lane's EN as it is. -/
def execRxRetrain (j : Fin 4) (s : State) : Host.Outcome State Fault Refusal :=
  .next (s.fieldAt (0x302000 + 0x20 * j.val) 30 1 1)
def execLmapWrite (l : Fin 32) (slot : BitVec 6) (s : State) : Host.Outcome State Fault Refusal :=
  .next (s.writeAt (0x303100 + 4 * l.val) slot.toNat)
def execLaneGroupWrite (g : Fin 16) (v : BitVec 32) (s : State) : Host.Outcome State Fault Refusal :=
  .next (s.writeAt (0x303000 + 4 * g.val) v.toNat)
def execSlipWrite (i : Fin 36) (slip : BitVec 10) (s : State) : Host.Outcome State Fault Refusal :=
  .next (s.fieldAt (0x301000 + 0x20 * i.val) 0 10 slip.toNat)
def execTxCtrlWrite (i : Fin 36) (v : BitVec 32) (s : State) : Host.Outcome State Fault Refusal :=
  .next (s.writeAt (0x301000 + 0x20 * i.val) v.toNat)
def execClockSet (s : State) : Host.Outcome State Fault Refusal := .next (s.fieldAt 0x30000 30 1 1)
def execClockSnap (s : State) : Host.Outcome State Fault Refusal := .next (s.fieldAt 0x30000 31 1 1)
def execRefselWrite (src : BitVec 2) (s : State) : Host.Outcome State Fault Refusal := .next (s.fieldAt 0x30000 0 2 src.toNat)

/-! ### Keels -/

def execFailoverCommand (s : State) : Host.Outcome State Fault Refusal := .next (s.fieldAt 0x200 31 1 1)
def execStandbyResetCommand (s : State) : Host.Outcome State Fault Refusal := .next (s.fieldAt 0x200 30 1 1)
def execKeelTestStart (k : Fin 2) (s : State) : Host.Outcome State Fault Refusal :=
  .next (s.writeAt (keelAddr k.val 0x50004) (2 ^ 31))
def execConductorGo (k : Fin 2) (s : State) : Host.Outcome State Fault Refusal :=
  .next (s.fieldAt (keelAddr k.val 0x50010) 30 1 1)
def execConductorHalt (k : Fin 2) (s : State) : Host.Outcome State Fault Refusal :=
  .next (s.fieldAt (keelAddr k.val 0x50010) 31 1 1)
def execConductorCodeWrite (k : Fin 2) (j : Fin 16384) (v : BitVec 32) (s : State) : Host.Outcome State Fault Refusal :=
  .next (s.writeAt (keelAddr k.val (0x60000 + 4 * j.val)) v.toNat)

/-! ### Monitor, sensors, I2C -/

def execMonQueuePop (m : Fin 7) (s : State) : Host.Outcome State Fault Refusal := .next (s.reads (s.busRead m.val none 0x60108))
def execMonQueueClear (s : State) : Host.Outcome State Fault Refusal := .next (s.fieldAt 0x60100 30 1 1)
def execSensorConfigWrite (n : Fin 8) (v : BitVec 32) (s : State) : Host.Outcome State Fault Refusal :=
  .next (s.writeAt (0x60400 + 8 * n.val) v.toNat)

/-- R437, R438: the levels of SCL and SDA that the controller samples; where it waited for SCL and SCL is high, it has sampled
before. -/
def State.busLevels (s : State) (scl sda : Bool) : State :=
  let s1 := { s with i2c := { s.i2c with scl := scl, sda := sda } }
  if s.i2c.phase = 3 ∧ scl then s1.i2cSample else s1

def execI2cCommand (v : BitVec 32) (scl sda : Bool) (s : State) : Host.Outcome State Fault Refusal :=
  .next ((s.busLevels scl sda).writeAt 0x70004 v.toNat)
def execI2cEnable (scl sda : Bool) (s : State) : Host.Outcome State Fault Refusal :=
  .next ((s.busLevels scl sda).fieldAt 0x70000 31 1 1)

/-! ### Power and boot -/

def execTargetWrite (t : BitVec 3) (s : State) : Host.Outcome State Fault Refusal := .next (s.writeAt 0x20000 (0x100 * t.toNat))

/-- R442, R466: both words of PR_DOM_EN. -/
def State.domEnRow (s : State) (v : Nat) : State :=
  (s.writeAt 0x20008 (v % 2 ^ 32)).writeAt 0x2000C (v / 2 ^ 32)

def execDomainEnableWrite (en : BitVec 36) (s : State) : Host.Outcome State Fault Refusal := .next (s.domEnRow en.toNat)
def execDomainFailClear (d : Fin 36) (s : State) : Host.Outcome State Fault Refusal :=
  .next (if d.val < 32 then s.writeAt 0x20018 (2 ^ d.val) else s.writeAt 0x2001C (2 ^ (d.val - 32)))
def execDeviceWatchdogKick (s : State) : Host.Outcome State Fault Refusal := .next (s.writeAt 0x20044 0)
def execProg (s : State) : Host.Outcome State Fault Refusal := .next (s.writeAt 0x10180 (2 ^ 31))
def execSoftwareReset (block : BitVec 11) (s : State) : Host.Outcome State Fault Refusal :=
  .next (s.writeAt 0x20030 (2 ^ 31 + block.toNat))

/-! ### Security (R482, R500) -/

/-- SEC_CMD: GO with an operation and its argument. -/
def State.secRow (s : State) (m op arg : Nat) : State := s.wrote (s.busWrite m none 0x90004 (2 ^ 31 + op * 2 ^ 16 + arg))

def execProgram (m : Fin 7) (arg : BitVec 16) (s : State) : Host.Outcome State Fault Refusal := .next (s.secRow m.val 0 arg.toNat)
def execErase (m : Fin 7) (arg : BitVec 16) (s : State) : Host.Outcome State Fault Refusal := .next (s.secRow m.val 1 arg.toNat)
def execLoad (m : Fin 7) (arg : BitVec 16) (s : State) : Host.Outcome State Fault Refusal := .next (s.secRow m.val 2 arg.toNat)
def execProvision (m : Fin 7) (arg : BitVec 16) (s : State) : Host.Outcome State Fault Refusal := .next (s.secRow m.val 3 arg.toNat)
def execSealPart (m : Fin 7) (arg : BitVec 16) (s : State) : Host.Outcome State Fault Refusal := .next (s.secRow m.val 4 arg.toNat)
def execReturnPart (m : Fin 7) (arg : BitVec 16) (s : State) : Host.Outcome State Fault Refusal := .next (s.secRow m.val 5 arg.toNat)
def execVoidPart (m : Fin 7) (arg : BitVec 16) (s : State) : Host.Outcome State Fault Refusal := .next (s.secRow m.val 6 arg.toNat)
def execSetkey (m : Fin 7) (arg : BitVec 16) (s : State) : Host.Outcome State Fault Refusal := .next (s.secRow m.val 7 arg.toNat)
def execRaiseSvn (m : Fin 7) (arg : BitVec 16) (s : State) : Host.Outcome State Fault Refusal := .next (s.secRow m.val 8 arg.toNat)
def execUnlock (m : Fin 7) (arg : BitVec 16) (s : State) : Host.Outcome State Fault Refusal := .next (s.secRow m.val 9 arg.toNat)
def execLock (m : Fin 7) (arg : BitVec 16) (s : State) : Host.Outcome State Fault Refusal := .next (s.secRow m.val 10 arg.toNat)
def execAttest (m : Fin 7) (arg : BitVec 16) (s : State) : Host.Outcome State Fault Refusal := .next (s.secRow m.val 11 arg.toNat)

/-! ### Error log and life log -/

def execErrorLogClear (s : State) : Host.Outcome State Fault Refusal := .next (s.writeAt 0xA0004 (2 ^ 31))
def execErrorEntryRead (m : Fin 7) (i : Fin 32) (s : State) : Host.Outcome State Fault Refusal :=
  .next (s.reads (s.busRead m.val none (0xA0100 + 0x10 * i.val)))
def execCommitRequest (s : State) : Host.Outcome State Fault Refusal := .next (s.writeAt 0xA0400 (2 ^ 31))

end Sys2Proof.Machine
end

