-- ==== Sys2Proof/Machine/Insn.lean ====
section
/-! DEFINITION. What BZX instructions are made of (R153 to R166, R175, R176, R178): registers and poison, words and
illegal encodings, timing, exceptions and interrupts, loads and stores, fetch and issue. -/
namespace Sys2Proof.Machine

/-! ### Words (R154, R159) -/

/-- R format. -/
def wordR (op rd ra rb fn : Nat) : Nat := op * 2 ^ 26 + rd * 2 ^ 21 + ra * 2 ^ 16 + rb * 2 ^ 11 + fn
/-- I format; also B and J formats, whose fields lie in the same places. -/
def wordI (op rd ra imm : Nat) : Nat := op * 2 ^ 26 + rd * 2 ^ 21 + ra * 2 ^ 16 + imm
/-- F format: pos, len − 1, low bits. -/
def wordF (op rd ra pos len1 low : Nat) : Nat := op * 2 ^ 26 + rd * 2 ^ 21 + ra * 2 ^ 16 + pos * 2 ^ 10 + len1 * 2 ^ 4 + low

def wOp (w : Nat) : Nat := bits w 26 6
def wRd (w : Nat) : Nat := bits w 21 5
def wRa (w : Nat) : Nat := bits w 16 5
def wRb (w : Nat) : Nat := bits w 11 5
def wFn (w : Nat) : Nat := bits w 0 11
def wImm (w : Nat) : Nat := bits w 0 16

/-- simm: the sign-extended immediate as a 64-bit number. -/
def simm (imm : Nat) : Nat := unsigned 64 (signed 16 imm)

/-- A conductor's core number. -/
def isCond (c : Nat) : Bool := decide (1024 ≤ c)
/-- R154, R396: instructions of a core's code memory. -/
def codeSize (c : Nat) : Nat := if c < 1024 then 4096 else 65536
/-- The code and data memory of a core (notes/assumptions/5.md). -/
def codeAddr (c i : Nat) : Nat := (if c < 1024 then reWindow c + 0x8000 else condCode (c - 1024)) + 4 * (i % codeSize c)
def dataBase (c : Nat) : Nat := if c < 1024 then reWindow c else condData (c - 1024)
def dataSize (c : Nat) : Nat := if c < 1024 then 0x8000 else 0x20000

/-! ### Illegal encodings (R155, R160, R167 to R179) -/

/-- R155: a register field names a register. -/
def regOk (r : Nat) : Bool := decide (r < 20)
/-- R171: HPOP names an h register. -/
def hregOk (r : Nat) : Bool := decide (16 ≤ r) && decide (r < 20)

/-- R167, R171: opcode 0x00. -/
def legalAlu (w : Nat) : Bool :=
  let fn := wFn w
  regOk (wRd w) && regOk (wRa w) && regOk (wRb w) && (decide (fn ≤ 0x11)) && (decide (fn < 14) || decide (16 ≤ fn) || wRb w == 0)

/-- R167: EXT, EXTS and DEP. -/
def legalField (w : Nat) : Bool :=
  regOk (wRd w) && regOk (wRa w) && bits w 0 4 == 0 && decide (bits w 10 6 + (bits w 4 6 + 1) ≤ 64)

/-- R158: the internal registers of a core; those marked "Conductor only" count as not listed on an RE (DEDUCED,
notes/assumptions/98.md). -/
def csrListed (c n : Nat) : Bool := decide (n ≤ 9) || ((n == 0x10 || n == 0x11) && isCond c)

/-- R177: opcode 0x3E. -/
def legalSystem (c w : Nat) : Bool :=
  let imm := wImm w
  wRd w == 0 && wRa w == 0 &&
    (decide (imm ≤ 1) || (imm == 2 && !isCond c) || (imm % 256 == 3 && decide (imm / 256 ≤ 3) && !isCond c) || imm % 256 == 4)

/-- R179: opcode 0x3F. -/
def legalExt (w : Nat) : Bool :=
  regOk (wRd w) && regOk (wRa w) && regOk (wRb w) &&
    match wFn w with
    | 0 => true
    | 1 => wRd w == 0
    | 2 => wRd w == 0 && wRa w == 0 && wRb w == 0
    | 3 => true
    | 4 => wRd w == 0 && wRa w == 0 && wRb w == 0
    | 5 => true
    | 6 => wRa w == 0 && wRb w == 0
    | _ => false

/-- R179: the word of a conductor extension with the register fields 0 that its row does not use: rb of BUSR, ra and rb of CRECV. -/
def wCanon (w : Nat) : Nat :=
  if wOp w = 0x3F ∧ wFn w = 0 then wordR 0x3F (wRd w) (wRa w) 0 0
  else if wOp w = 0x3F ∧ wFn w = 3 then wordR 0x3F (wRd w) 0 0 3
  else w

/-- R160: the encodings that a core executes; every other raises ILLEGAL.  A field that no table uses or marks counts as marked 0
(imm[15:8] of ECLR, ra of HPOP, rd and ra of the system group), but for the rb field of DBNZ, which any register number fills
(DEDUCED, notes/assumptions/98.md). -/
def legal (c w : Nat) : Bool :=
  let re := !isCond c
  let two := regOk (wRd w) && regOk (wRa w)
  match wOp w with
  | 0x00 => legalAlu w
  | 0x01 | 0x02 | 0x03 | 0x04 => two
  | 0x05 => two && decide (wImm w / 2 ^ 14 < 3) && bits w 6 8 == 0
  | 0x06 => regOk (wRd w) && wRa w == 0
  | 0x07 => regOk (wRd w) && decide (wRa w < 4)
  | 0x08 | 0x09 | 0x0A => legalField w
  | 0x10 | 0x11 | 0x12 | 0x13 | 0x14 | 0x15 | 0x16 | 0x17 => two
  | 0x18 => two && regOk (wRb w) && decide (wFn w ≤ 1)
  | 0x20 | 0x21 | 0x22 | 0x23 | 0x24 | 0x25 => two
  | 0x26 => bits w 24 1 == 0 && wRa w == 0
  | 0x27 => two
  | 0x28 => regOk (wRd w) && wRa w == 0 && (isCond c || decide (wImm w < 4096))
  | 0x29 => two && wRb w == 0 && wFn w == 0
  | 0x30 => re && hregOk (wRd w) && wRa w == 0 && decide (wImm w ≤ 1)
  | 0x31 => re && regOk (wRd w) && wRa w == 0 && wImm w == 0
  | 0x32 => two && wRb w == 0 && wFn w == 0
  | 0x33 => two && regOk (wRb w) && wFn w == 0
  | 0x34 => regOk (wRd w) && wRa w == 0 && wImm w == 0
  | 0x35 => re && regOk (wRd w) && wRa w == 0 && decide (wImm w < 128)
  | 0x36 => re && regOk (wRd w) && wRa w == 0 && decide (wImm w < 256)
  | 0x37 => re && wRd w == 0 && wRa w == 0 && decide (wImm w < 256)
  | 0x38 | 0x39 | 0x3A => re && regOk (wRd w) && wRa w == 0 && wImm w == 0
  | 0x3B => re && wRd w == 0 && wRa w == 0 && decide (wImm w ≤ 2)
  | 0x3C | 0x3D => regOk (wRd w) && wRa w == 0 && decide (wImm w < 4096) && csrListed c (wImm w)
  | 0x3E => legalSystem c w
  | 0x3F => isCond c && legalExt w
  | _ => false

/-! ### Registers, poison, flags (R155 to R157) -/

/-- R155: a register; g0 reads 0. -/
def CoreSt.reg (k : CoreSt) (r : Nat) : Nat := if r = 0 then 0 else (SMap.get k.g r 0).toNat
/-- R156: the poison tag of a register. -/
def CoreSt.tag (k : CoreSt) (r : Nat) : Bool := decide (16 ≤ r) && k.tags.testBit (r - 16)
/-- R156: a register written with its tag; a write to g0 is discarded. -/
def CoreSt.setReg (k : CoreSt) (r v : Nat) (t : Bool) : CoreSt :=
  if r = 0 then k
  else { k with g := SMap.set k.g r (BitVec.ofNat 64 v) 0, tags := if 16 ≤ r then putBit k.tags (r - 16) t else k.tags }
/-- R156: the OR of the tags that an instruction reads. -/
def CoreSt.tagsOf (k : CoreSt) (rs : List Nat) : Bool := rs.any (fun r => k.tag r)
/-- R156: reading poisoned registers sets P. -/
def CoreSt.taint (k : CoreSt) (rs : List Nat) : CoreSt := { k with flags := { k.flags with p := k.flags.p || k.tagsOf rs } }

/-- R157: FLAGS as a number and from one. -/
def Flags.toNat (f : Flags) : Nat :=
  b2n f.z + 2 * b2n f.n + 4 * b2n f.c + 8 * b2n f.v + 16 * b2n f.p + 32 * b2n f.e + 64 * b2n f.f + 128 * b2n f.r
def Flags.ofNat (v : Nat) : Flags :=
  ⟨v.testBit 0, v.testBit 1, v.testBit 2, v.testBit 3, v.testBit 4, v.testBit 5, v.testBit 6, v.testBit 7⟩
/-- R157: Z and N of a result. -/
def Flags.zn (f : Flags) (v : Nat) : Flags := { f with z := decide (v = 0), n := v.testBit 63 }

/-! ### Timing (R161) -/

/-- R161: the cycle an instruction issues on: not before its sources are there. -/
def CoreSt.issueAt (k : CoreSt) (srcs : List Nat) : Nat := maxOf k.cycle (srcs.map (fun r => SMap.get k.avail r 0))
/-- R161: an instruction of `cost` cycles issues; its result is there `lat` cycles after. -/
def CoreSt.timed (k : CoreSt) (srcs : List Nat) (dst : Option Nat) (cost lat : Nat) : CoreSt :=
  let t := k.issueAt srcs
  let left := SMap.keep (k.avail.filter (fun e => decide (t + cost < e.2))) (fun r => decide (some r ≠ dst))
  { k with cycle := (t + cost) % 2 ^ 64,
           avail := match dst with
             | some r => if cost < lat ∧ r ≠ 0 then SMap.ins left r (t + lat) else left
             | none => left }

/-! ### Ends of an instruction -/

/-- What an instruction that ends normally leaves: its result and the tag of R156, its flags, its cycles, the PC. -/
def CoreSt.finish (k : CoreSt) (srcs : List Nat) (dst : Option (Nat × Nat)) (fl : Flags → Flags) (cost lat pc : Nat) : CoreSt :=
  let k1 := (k.timed srcs (dst.map (·.1)) cost lat).taint srcs
  let k2 := match dst with
    | some (r, v) => k1.setReg r v (k.tagsOf srcs)
    | none => k1
  { k2 with flags := fl k1.flags, pc := pc }

/-- R154: the index after the PC. -/
def State.pcNext (s : State) (c : Nat) : Nat := ((s.core c).pc + 1) % codeSize c

/-- An instruction that goes on to the next index. -/
def State.done (s : State) (c : Nat) (srcs : List Nat) (dst : Option (Nat × Nat)) (fl : Flags → Flags) (cost lat : Nat) :
    State :=
  s.setCore c ((s.core c).finish srcs dst fl cost lat (s.pcNext c))

/-- A computation in registers with its flags. -/
def State.result (s : State) (c : Nat) (srcs : List Nat) (rd v : Nat) (fl : Flags → Flags) : State :=
  s.done c srcs (some (rd, v % 2 ^ 64)) fl 1 1

/-- The value of a register of a core. -/
def State.rg (s : State) (c r : Nat) : Nat := (s.core c).reg r

/-! ### Exceptions (R141, R176, R178) -/


/-- R141: the exception registers of an RE; a conductor has none in its keel (R418). -/
def State.excRegs (s : State) (c code ofs : Nat) : State :=
  if isCond c then s
  else (((s.put (Reg.EXC_CAUSE_CODE c) code).put (Reg.EXC_PC_IDX c) (s.core c).pc).put (Reg.EXC_ADDR_OFS c) ofs).put
    (Reg.CORE_STAT_EXC c) code

/-- R175, R178: the handler's index. -/
def State.vector (s : State) (c : Nat) : Nat :=
  if isCond c then s.get (Reg.CD_VEC_IDX (c - 1024)) else s.get (Reg.EXC_VEC_IDX c)

/-- R175, R176: EPC, EFLAGS, IN_HANDLER and ICTL bit 2, and the jump to the handler, 3 cycles. -/
def CoreSt.enter (k : CoreSt) (epc vec : Nat) (irq : Bool) : CoreSt :=
  { k with epc := epc % 65536, eflags := k.flags, inHandler := true, byIrq := irq, pc := vec, cycle := (k.cycle + 3) % 2 ^ 64 }

/-- R141, R511: a nested exception resets the core. -/
def State.nested (s : State) (c : Nat) : State :=
  if isCond c then
    (s.err { sev := 2, src := 11, code := 0x05, unit := c - 1024, info := (s.core c).pc, openKey := some (s.condKey (c - 1024)) }).condFail
      (c - 1024)
  else s.coreNested c

/-- R176: exception `code` of the instruction at the PC; EXC_ADDR takes `ofs`. -/
def State.except (s : State) (c code ofs : Nat) : State :=
  let s1 := s.excRegs c code ofs
  let k := s1.core c
  if k.inHandler then s1.nested c else s1.setCore c (k.enter (k.pc + 1) (s.vector c) false)

/-- R176: an exception without a data address: EXC_ADDR is written with a value the spec does not give. -/
def State.exceptFree (s : State) (c code : Nat) : State := s.spend.except c code (s.fresh 16)

/-- R141, R511: an uncorrectable word at model address `a` that an instruction met; in the memory of the active keel's
conductor it is also a failure of that conductor. -/
def State.eccTrap (s : State) (c code a ofs : Nat) : State :=
  if isCond c then
    let e : Err := { sev := 2, src := 11, code := 0x01, unit := c - 1024, info := a / 4 }
    if s.active? == some (c - 1024) then (s.err { e with openKey := some (s.condKey (c - 1024)) }).condFail (c - 1024)
    else (s.err e).except c code ofs
  else (s.err { sev := 2, src := 4, code := 0x01, unit := c, info := a / 4 }).except c code ofs

/-- R161: an instruction that raises an exception in its execution has waited for its sources. -/
def CoreSt.stall (k : CoreSt) (srcs : List Nat) : CoreSt := { k with cycle := k.issueAt srcs % 2 ^ 64 }
def State.stalled (s : State) (c : Nat) (srcs : List Nat) : State := s.setCore c ((s.core c).stall srcs)

/-- R156, R157: P set by what the instruction reads, before an exception that it raises in its execution. -/
def State.tainted (s : State) (c : Nat) (srcs : List Nat) : State := s.setCore c (((s.core c).stall srcs).taint srcs)

/-! ### Interrupts (R175, R399) -/

/-- R399: CD_EVT, with the condition of bit 0. -/
def State.condPend (s : State) (k : Nat) : Nat :=
  putBit (s.get (Reg.CD_EVT_EVT k)) 0 (!(s.core (1024 + k)).inq.isEmpty)
/-- R174, R399: the pending events that are enabled as interrupts. -/
def State.irqs (s : State) (c : Nat) : Nat :=
  if isCond c then s.condPend (c - 1024) &&& s.get (Reg.CD_EVT_EN_EN (c - 1024)) else s.epend c &&& s.get (Reg.EVT_EN_EN c)
/-- R175: an interrupt is to be taken at the next instruction boundary. -/
def State.irqDue (s : State) (c : Nat) : Bool :=
  (s.core c).ie && !(s.core c).inHandler && s.irqs c != 0

/-- The core executes instructions: running expert code and not held by the debugger. -/
def State.coreLive (s : State) (c : Nat) : Bool :=
  if isCond c then s.condState (c - 1024) == cdRUNNING && s.dom (domKeel (c - 1024))
  else s.coreState c == cRUNNING && s.on (Reg.CORE_CTRL_LEVEL c)
/-- The core is at an instruction boundary: no WAIT, BUSR or BFENCE in progress. -/
def State.atBoundary (s : State) (c : Nat) : Bool :=
  s.coreLive c && (s.core c).waiting.isNone && (s.core c).busr.isNone && !(s.core c).bfence

/-- R175: the interrupt is taken. -/
def State.irqEnter (s : State) (c : Nat) : State :=
  s.setCore c ((s.core c).enter (s.core c).pc (s.vector c) true)
def State.irqTake (s : State) (c : Nat) : State :=
  if s.atBoundary c && !(s.core c).dbgHalt && s.irqDue c then s.irqEnter c else s

def execInterruptEntry (c : Fin 1026) (s : State) : Host.Outcome State Fault Refusal := .next (s.irqTake c.val)

/-! ### Regions (R163) -/

/-- R163: RSEL selects the buddy region. -/
def State.rselBuddy (s : State) (c : Nat) : Bool := (s.core c).rsel == 1 || ((s.core c).rsel == 2 && (s.core c).flags.r)
/-- R163: the selected region, and whether the core serves it. -/
def State.rselRegion (s : State) (c : Nat) : Nat := if s.rselBuddy c then buddy c else c
def State.rselServed (s : State) (c : Nat) : Bool := s.servedBy (s.rselRegion c) == c

/-! ### Loads and stores (R161, R164 to R169, R397, R501) -/

/-- How an access ends: with a value and whether it left data memory, or with an exception (its code). -/
inductive MemRes where
  | ok (s : State) (v : Nat) (slow : Bool)
  | trap (s : State) (code : Nat)
  | ecc (s : State) (addr : Nat)
  deriving DecidableEq, Repr

/-- The word of the physical map that an address of the core reaches (R123, R397); outside data memory. -/
def State.coreWord (s : State) (c a : Nat) : Nat :=
  if isCond c then keelAddr (c - 1024) a
  else if a < 0xC100 then reWindow c + a
  else reWindow (s.rselRegion c) + a

/-- A 64-bit register begins at a word. -/
def is64 (x : Nat) : Bool :=
  match regAt x with
  | some (_, base, words) => words == 2 && base == x
  | none => false
/-- A word is defined. -/
def State.wordThere (s : State) (x : Nat) : Bool := (s.memWord x).isSome || (regAt x).isSome

/-- R164, R397: an access of `n` bytes at `a` (taken down to its alignment) reaches something of that width. -/
def State.reach (s : State) (c a n : Nat) : Bool :=
  let b := a / n * n
  let x := s.coreWord c (b / 4 * 4)
  if a < dataSize c then true
  else if isCond c then decide (0x20000 ≤ a) && decide (a < 0x50100) &&
    (if n = 8 then is64 x else n == 4 && s.wordThere x)
  else if 0x10000 ≤ a ∨ (0x8000 ≤ a ∧ a < 0xC000) then false
  else if 0xC400 ≤ a ∧ !s.rselServed c then false
  else if 0xC400 ≤ a ∧ a < 0xC500 then n == 2 || n == 4
  else if 0xC500 ≤ a ∧ a < 0xC600 then (n == 4 || n == 8) && s.wordThere x
  else if n = 8 then is64 x else n == 4 && s.wordThere x

/-- R164: the exception of an access before it is made; where both apply, either. -/
def State.accessTrap (s : State) (c a n : Nat) : Option (State × Nat) :=
  match decide (a % n ≠ 0), s.reach c a n with
  | true, false => some (s.spend, if s.fresh 1 = 0 then xALIGN else xRANGE)
  | true, true => some (s, xALIGN)
  | false, false => some (s, xRANGE)
  | false, true => none

/-- The master number of a core on the latches of R466. -/
def coreMaster (c : Nat) : Nat := if c < 1024 then 8 + c else 5 + (c - 1024)

/-- R501: the words of data memory under an access are read. -/
def State.dataRead (s : State) (a n : Nat) : State × Bool :=
  let r := s.eccRead a
  if n = 8 then
    let q := r.1.eccRead (a + 4)
    (q.1, r.2 || q.2)
  else r

/-- R168: a load of `n` bytes. -/
def State.load (s : State) (c a n : Nat) : MemRes :=
  match s.accessTrap c a n with
  | some (s1, code) => .trap s1 code
  | none =>
    if a < dataSize c then
      let x := dataBase c + a
      let r := s.dataRead x n
      if r.2 then .ecc r.1 x else .ok r.1 (r.1.readLe x n) false
    else
      let x := s.coreWord c a
      let m := coreMaster c
      let r := s.wordRead m (x / 4 * 4)
      if r.2.1 = .ecc then .ecc r.1 x
      else if n = 8 then
        let q := r.1.wordRead m (x + 4)
        if q.2.1 = .ecc then .ecc q.1 (x + 4) else .ok q.1 (r.2.2 + q.2.2 * 2 ^ 32) true
      else if n = 2 then .ok r.1 (bits r.2.2 (8 * (a % 4)) 16) true
      else .ok r.1 r.2.2 true

/-- R165: the window locations that an RE may store to. -/
def storeOk (a : Nat) : Bool :=
  [0xC010, 0xC018, 0xC020, 0xC024, 0xC028, 0xC02C, 0xC030, 0xC600, 0xC60C, 0xC610, 0xC614, 0xD000].contains a
    || (decide (0xC400 ≤ a) && decide (a < 0xC600)) || (decide (0xD040 ≤ a) && decide (a < 0xD060))

/-- R397: a register of the keel with nothing that a write may change (a reserved word is none, R13). -/
def readOnly (x : Nat) : Bool :=
  match regAt x with
  | some (fs, _, _) => !fs.isEmpty && fs.all (fun f => f.acc == .ro)
  | none => false

/-- R141, R165, R402: a store to a register: what the register's rule makes of it, or CSR_PROT. -/
def State.storeReg (s : State) (c x v : Nat) : MemRes :=
  let r := s.wordWrite (coreMaster c) x v false
  match r.2 with
  | .ok => .ok r.1 0 true
  | _ => .trap r.1 xCSR_PROT

/-- R165: FCAL_CTRL takes bits [7:2] of a core's store. -/
def State.fcalWord (s : State) (x v : Nat) : Nat :=
  let h := s.heldWord x
  h - bits h 2 6 * 4 + bits v 2 6 * 4

/-- R164 to R166: a store outside data memory by an RE. -/
def State.storeWindow (s : State) (c a n v : Nat) : MemRes :=
  let x := s.coreWord c a
  if !storeOk a then .trap s xCSR_PROT
  else if a = 0xC610 ∧ n = 8 then .ok (s.safeTo (s.rselRegion c) (v % 2 ^ 56)) 0 true
  else if a = 0xC610 ∨ a = 0xC614 then
    if a = 0xC610 then .ok { s with heldLo := SMap.ins s.heldLo x (v % 2 ^ 32) } 0 true
    else
      let lo := (SMap.find? s.heldLo (x - 4)).getD (s.get (Reg.SAFE_TICK_TICK (s.rselRegion c)) % 2 ^ 32)
      let s1 := { s with heldLo := SMap.erase s.heldLo (x - 4) }
      .ok (s1.safeTo (s.rselRegion c) ((lo + v % 2 ^ 32 * 2 ^ 32) % 2 ^ 56)) 0 true
  else if n = 2 then .ok (s.cfgWriteHalf (s.rselRegion c) ((a - 0xC400) / 2) (v % 2 ^ 16)) 0 true
  else if a = 0xC500 then
    .ok ([Reg.PB_STAT_SEQ, Reg.PB_STAT_CODE, Reg.PB_STAT_FSLOT, Reg.PB_STAT_MERGE, Reg.PB_STAT_RUN, Reg.PB_STAT_FOOT].foldl
      (fun a f => a.put (f (s.rselRegion c)) ((f (s.rselRegion c)).part x v)) s) 0 true
  else if a = 0xD000 then s.storeReg c x (s.fcalWord x v)
  else if n = 8 then
    match s.storeReg c x (v % 2 ^ 32) with
    | .ok s1 _ _ => s1.storeReg c (x + 4) (v / 2 ^ 32)
    | r => r
  else s.storeReg c x (v % 2 ^ 32)

/-- R397: a store to a register of the conductor's own keel. -/
def State.storeKeel (s : State) (c a n v : Nat) : MemRes :=
  let x := s.coreWord c a
  if readOnly x then .trap s xCSR_PROT
  else if n = 8 then
    match s.storeReg c x (v % 2 ^ 32) with
    | .ok s1 _ _ => s1.storeReg c (x + 4) (v / 2 ^ 32)
    | r => r
  else s.storeReg c x (v % 2 ^ 32)

/-- R168, R501: a store of the low `n` bytes. -/
def State.store (s : State) (c a n v : Nat) : MemRes :=
  match s.accessTrap c a n with
  | some (s1, code) => .trap s1 code
  | none =>
    if a < dataSize c then
      let x := dataBase c + a
      if n ≥ 4 then
        let s1 := (s.writeLe x n v).putEcc x 0
        .ok (if n = 8 then s1.putEcc (x + 4) 0 else s1) 0 false
      else
        let r := s.eccRead x
        if r.2 then .ecc r.1 x else .ok (r.1.writeLe x n v) 0 false
    else if isCond c then s.storeKeel c a n v
    else s.storeWindow c a n v

/-- The exception of an access at address `a`: ALIGN and RANGE leave P as it was, the others follow the register reads. -/
def State.memTrap (s : State) (c code a : Nat) (srcs : List Nat) : State :=
  if code = xCSR_PROT then (s.tainted c srcs).except c code a else (s.stalled c srcs).except c code a

/-! ### Fetch and issue (R154, R159, R175, R493; notes/assumptions/37.md) -/

/-- The word at the PC, where all of it has been loaded. -/
def State.loadedWord (s : State) (c : Nat) : Option Nat :=
  let a := codeAddr c (s.core c).pc
  if (List.range 4).all (fun i => (SMap.find? s.mem (a + i)).isSome) then some (s.readLe a 4) else none

/-- R493: an enabled breakpoint lies on the PC. -/
def State.brkHere (s : State) (c : Nat) : Bool :=
  (s.core c).brks.any (fun b => b % 65536 == (s.core c).pc) && !(s.core c).brkPass && s.fac 2

/-- R141, R493: BREAK: EXC_PC and EXC_CAUSE, and a debug halt. -/
def State.brkHit (s : State) (c : Nat) : State :=
  (if isCond c then s
   else ((s.put (Reg.EXC_CAUSE_CODE c) xBREAK).put (Reg.EXC_PC_IDX c) (s.core c).pc).put (Reg.CORE_STAT_EXC c) xBREAK).debugHalt c

/-- An instruction is fetched: CODE_ECC, ILLEGAL, or its execution. -/
def State.fetch (s : State) (c w : Nat) (run : State → State) : State :=
  let a := codeAddr c (s.core c).pc
  let s0 := s.setCore c { s.core c with brkPass := false }
  let r := s0.eccRead a
  if r.2 then r.1.spend.eccTrap c xCODE_ECC a (r.1.fresh 16)
  else if !legal c w then r.1.exceptFree c xILLEGAL
  else run r.1

/-- The core issues its next instruction now. -/
def State.canIssue (s : State) (c : Nat) : Bool := s.atBoundary c && !(s.core c).dbgHalt && !s.irqDue c

/-- An instruction row: the core executes word `w` if it is what stands at its PC, but for the fields that it does not use (R179).  The table has no row for a word that no
instruction spells: any row finds it there and raises ILLEGAL (R160, notes/assumptions/37.md). -/
def State.issue (s : State) (c w : Nat) (run : State → State) : State :=
  let v := (s.loadedWord c).getD w
  if s.canIssue c && (v == w || wCanon v == w || !legal c v) then
    (if s.brkHere c then s.brkHit c else s.fetch c v run)
  else s

end Sys2Proof.Machine
end

