-- ==== Sys2Proof/Machine/Bzx.lean ====
section
/-! DEFINITION. What each BZX instruction does once it is fetched (R167 to R179). -/
namespace Sys2Proof.Machine

/-! ### Integer, constant and field instructions (R167) -/

/-- A result with Z and N. -/
def State.resultZN (s : State) (c : Nat) (srcs : List Nat) (rd v : Nat) : State :=
  s.result c srcs rd (v % 2 ^ 64) (fun f => f.zn (v % 2 ^ 64))

/-- R157: the flags of a sum and of a difference. -/
def Flags.add (f : Flags) (a b : Nat) : Flags :=
  let r := (a + b) % 2 ^ 64
  { f.zn r with c := decide (2 ^ 64 ≤ a + b), v := decide (signed 64 a + signed 64 b ≠ signed 64 r) }
def Flags.sub (f : Flags) (a b : Nat) : Flags :=
  let r := (a + 2 ^ 64 - b) % 2 ^ 64
  { f.zn r with c := decide (a < b), v := decide (signed 64 a - signed 64 b ≠ signed 64 r) }

def State.opAdd (s : State) (c rd ra rb : Nat) : State :=
  s.result c [ra, rb] rd (s.rg c ra + s.rg c rb) (fun f => f.add (s.rg c ra) (s.rg c rb))
def State.opSub (s : State) (c rd ra rb : Nat) : State :=
  s.result c [ra, rb] rd (s.rg c ra + 2 ^ 64 - s.rg c rb) (fun f => f.sub (s.rg c ra) (s.rg c rb))
def State.opAnd (s : State) (c rd ra rb : Nat) : State := s.resultZN c [ra, rb] rd (s.rg c ra &&& s.rg c rb)
def State.opOr (s : State) (c rd ra rb : Nat) : State := s.resultZN c [ra, rb] rd (s.rg c ra ||| s.rg c rb)
def State.opXor (s : State) (c rd ra rb : Nat) : State := s.resultZN c [ra, rb] rd (s.rg c ra ^^^ s.rg c rb)

/-- The shifts by `n` of 0 to 63. -/
def shl64 (a n : Nat) : Nat := a * 2 ^ (n % 64) % 2 ^ 64
def shr64 (a n : Nat) : Nat := a / 2 ^ (n % 64)
def sar64 (a n : Nat) : Nat := unsigned 64 (signed 64 a / (2 ^ (n % 64) : Nat))

def State.opShl (s : State) (c rd ra rb : Nat) : State := s.resultZN c [ra, rb] rd (shl64 (s.rg c ra) (s.rg c rb))
def State.opShr (s : State) (c rd ra rb : Nat) : State := s.resultZN c [ra, rb] rd (shr64 (s.rg c ra) (s.rg c rb))
def State.opSar (s : State) (c rd ra rb : Nat) : State := s.resultZN c [ra, rb] rd (sar64 (s.rg c ra) (s.rg c rb))

/-- R161: a product is there three cycles after issue. -/
def State.product (s : State) (c rd ra rb v : Nat) : State :=
  s.done c [ra, rb] (some (rd, v % 2 ^ 64)) (fun f => f.zn (v % 2 ^ 64)) 1 3
def State.opMul (s : State) (c rd ra rb : Nat) : State := s.product c rd ra rb (s.rg c ra * s.rg c rb)
def State.opMulhu (s : State) (c rd ra rb : Nat) : State := s.product c rd ra rb (s.rg c ra * s.rg c rb / 2 ^ 64)
def State.opMinu (s : State) (c rd ra rb : Nat) : State := s.resultZN c [ra, rb] rd (min (s.rg c ra) (s.rg c rb))
def State.opMaxu (s : State) (c rd ra rb : Nat) : State := s.resultZN c [ra, rb] rd (max (s.rg c ra) (s.rg c rb))
def State.opSlt (s : State) (c rd ra rb : Nat) : State :=
  s.resultZN c [ra, rb] rd (b2n (decide (signed 64 (s.rg c ra) < signed 64 (s.rg c rb))))
def State.opSltu (s : State) (c rd ra rb : Nat) : State :=
  s.resultZN c [ra, rb] rd (b2n (decide (s.rg c ra < s.rg c rb)))

/-- Leading zeros and 1 bits of a 64-bit number. -/
def clz64 (v : Nat) : Nat := ((List.range 64).findIdx? (fun i => v.testBit (63 - i))).getD 64
def popc64 (v : Nat) : Nat := ((List.range 64).filter (fun i => v.testBit i)).length

def State.opClz (s : State) (c rd ra : Nat) : State := s.resultZN c [ra] rd (clz64 (s.rg c ra))
def State.opPopc (s : State) (c rd ra : Nat) : State := s.resultZN c [ra] rd (popc64 (s.rg c ra))
def State.opAddi (s : State) (c rd ra imm : Nat) : State :=
  s.result c [ra] rd (s.rg c ra + simm imm) (fun f => f.add (s.rg c ra) (simm imm))
def State.opAndi (s : State) (c rd ra imm : Nat) : State := s.resultZN c [ra] rd (s.rg c ra &&& imm)
def State.opOri (s : State) (c rd ra imm : Nat) : State := s.resultZN c [ra] rd (s.rg c ra ||| imm)
def State.opXori (s : State) (c rd ra imm : Nat) : State := s.resultZN c [ra] rd (s.rg c ra ^^^ imm)
def State.opShli (s : State) (c rd ra n : Nat) : State := s.resultZN c [ra] rd (shl64 (s.rg c ra) n)
def State.opShri (s : State) (c rd ra n : Nat) : State := s.resultZN c [ra] rd (shr64 (s.rg c ra) n)
def State.opSari (s : State) (c rd ra n : Nat) : State := s.resultZN c [ra] rd (sar64 (s.rg c ra) n)
def State.opLdi (s : State) (c rd imm : Nat) : State := s.resultZN c [] rd (simm imm)

/-- A field of `len` bits from bit `pos` of `old` replaced by the low bits of `v`. -/
def deposit (old pos len v : Nat) : Nat := old - bits old pos len * 2 ^ pos + v % 2 ^ len * 2 ^ pos

def State.opIns (s : State) (c rd q imm : Nat) : State := s.resultZN c [rd] rd (deposit (s.rg c rd) (16 * q) 16 imm)
def State.opExt (s : State) (c rd ra pos len : Nat) : State := s.resultZN c [ra] rd (bits (s.rg c ra) pos len)
def State.opExts (s : State) (c rd ra pos len : Nat) : State :=
  s.resultZN c [ra] rd (unsigned 64 (signed len (bits (s.rg c ra) pos len)))
def State.opDep (s : State) (c rd ra pos len : Nat) : State :=
  s.resultZN c [rd, ra] rd (deposit (s.rg c rd) pos len (s.rg c ra))

/-! ### Memory and histogram instructions (R168, R169) -/

/-- ra + simm. -/
def State.memAddr (s : State) (c ra imm : Nat) : Nat := (s.rg c ra + simm imm) % 2 ^ 64

/-- R161, R168: a load of `n` bytes. -/
def State.opLoad (s : State) (c rd ra imm n : Nat) : State :=
  let a := s.memAddr c ra imm
  match s.load c a n with
  | .trap s1 code => s1.memTrap c code a [ra]
  | .ecc s1 x => (s1.tainted c [ra]).eccTrap c xDATA_ECC x a
  | .ok s1 v slow => s1.done c [ra] (some (rd, v)) id (if slow then 4 else 1) (if slow then 4 else 2)

/-- R168: a store of the low `n` bytes of rs. -/
def State.opStore (s : State) (c rs ra imm n : Nat) : State :=
  let a := s.memAddr c ra imm
  match s.store c a n (s.rg c rs) with
  | .trap s1 code => s1.memTrap c code a [rs, ra]
  | .ecc s1 x => (s1.tainted c [rs, ra]).eccTrap c xDATA_ECC x a
  | .ok s1 _ slow => s1.done c [rs, ra] none id (if slow then 4 else 1) 1

/-- R164, R169: the exception of an access that reaches only data memory. -/
def State.dataTrap (s : State) (c a n : Nat) : Option (State × Nat) :=
  match decide (a % n ≠ 0), decide (a < dataSize c) with
  | true, false => some (s.spend, if s.fresh 1 = 0 then xALIGN else xRANGE)
  | true, true => some (s, xALIGN)
  | false, false => some (s, xRANGE)
  | false, true => none

/-- R169: HINC of a counter of `n` bytes at ra + n × rb. -/
def State.opHinc (s : State) (c rd ra rb n : Nat) : State :=
  let a := (s.rg c ra + n * s.rg c rb) % 2 ^ 64
  match s.dataTrap c a n with
  | some (s1, code) => s1.memTrap c code a [ra, rb]
  | none =>
    let x := dataBase c + a
    let r := s.eccRead x
    if r.2 then (r.1.tainted c [ra, rb]).eccTrap c xDATA_ECC x a
    else
      let v := r.1.readLe x n
      if v = 2 ^ (8 * n) - 1 then r.1.done c [ra, rb] (some (rd, v)) (fun f => { f with c := true }) 2 2
      else (r.1.writeLe x n (v + 1)).done c [ra, rb] (some (rd, v + 1)) (fun f => { f with c := false }) 2 2

/-! ### Control transfer (R159, R170) -/

/-- PC + 1 + off, modulo the code size. -/
def State.branchTo (s : State) (c off : Nat) : Nat := ((s.core c).pc + 1 + simm off) % codeSize c

/-- A branch with its condition; a poisoned register that it reads sets P by R156, although R170 lets no branch change FLAGS
(DEDUCED, notes/assumptions/98.md). -/
def State.branch (s : State) (c : Nat) (srcs : List Nat) (dst : Option (Nat × Nat)) (taken : Bool) (off : Nat) : State :=
  s.setCore c ((s.core c).finish srcs dst id (if taken then 2 else 1) 1 (if taken then s.branchTo c off else s.pcNext c))

def State.opBeq (s : State) (c ra rb off : Nat) : State :=
  s.branch c [ra, rb] none (decide (s.rg c ra = s.rg c rb)) off
def State.opBne (s : State) (c ra rb off : Nat) : State :=
  s.branch c [ra, rb] none (decide (s.rg c ra ≠ s.rg c rb)) off
def State.opBlt (s : State) (c ra rb off : Nat) : State :=
  s.branch c [ra, rb] none (decide (signed 64 (s.rg c ra) < signed 64 (s.rg c rb))) off
def State.opBge (s : State) (c ra rb off : Nat) : State :=
  s.branch c [ra, rb] none (decide (signed 64 (s.rg c rb) ≤ signed 64 (s.rg c ra))) off
def State.opBltu (s : State) (c ra rb off : Nat) : State :=
  s.branch c [ra, rb] none (decide (s.rg c ra < s.rg c rb)) off
def State.opBgeu (s : State) (c ra rb off : Nat) : State :=
  s.branch c [ra, rb] none (decide (s.rg c rb ≤ s.rg c ra)) off
def State.opBf (s : State) (c cond off : Nat) : State :=
  s.branch c [] none ((s.core c).flags.toNat.testBit (cond % 8) != cond.testBit 4) off
def State.opDbnz (s : State) (c ra off : Nat) : State :=
  let v := (s.rg c ra + 2 ^ 64 - 1) % 2 ^ 64
  s.branch c [ra] (some (ra, v)) (decide ((if ra = 0 then 0 else v) ≠ 0)) off

/-- JAL and JALR: rd = PC + 1, and a jump of 2 cycles. -/
def State.jump (s : State) (c : Nat) (srcs : List Nat) (rd pc : Nat) : State :=
  s.setCore c ((s.core c).finish srcs (some (rd, (s.core c).pc + 1)) id 2 1 (pc % codeSize c))
def State.opJal (s : State) (c rd t : Nat) : State := s.jump c [] rd t
def State.opJalr (s : State) (c rd ra : Nat) : State := s.jump c [ra] rd (s.rg c ra)

/-! ### Hit and time instructions (R171, R172) -/

/-- A pop that found nothing. -/
def State.hpopEmpty (s : State) (c : Nat) : State := s.done c [] none (fun f => { f with e := true }) 1 1

/-- R171: the word popped from a region enters hd with its tag. -/
def State.hpopFrom (s : State) (c hd : Nat) (forBuddy : Bool) : State :=
  match s.popHit (if forBuddy then buddy c else c) with
  | none => s.hpopEmpty c
  | some (h, s1) =>
    let k := (s1.core c).finish [] (some (hd, h.word.toNat))
      (fun f => { f with e := false, r := forBuddy, p := f.p || h.poison }) 1 1 (s1.pcNext c)
    s1.setCore c (k.setReg hd h.word.toNat h.poison)

def State.opHpopS (s : State) (c hd : Nat) : State :=
  if s.rselServed c then s.hpopFrom c hd (s.rselBuddy c) else s.hpopEmpty c

/-- R172: the region that HPOP.a pops. -/
def State.hpopPick (s : State) (c : Nat) : Option Bool :=
  let own := s.servesOwn c && !(s.region c).hq.isEmpty
  let bud := s.servesBuddy c && !(s.region (buddy c)).hq.isEmpty
  if own && bud then some (!(s.core c).lastPop) else if own then some false else if bud then some true else none
def State.opHpopA (s : State) (c hd : Nat) : State :=
  match s.hpopPick c with
  | none => s.hpopEmpty c
  | some b =>
    let s1 := s.hpopFrom c hd b
    s1.setCore c { s1.core c with lastPop := b }

def State.opHcnt (s : State) (c rd : Nat) : State :=
  let v := if s.rselServed c then (s.region (s.rselRegion c)).hq.length else 0
  s.result c [] rd v (fun f => { f with z := decide (v = 0) })

/-- R172: TEXT. -/
def textWord (now c : Nat) : Nat := (now + 2 ^ 56 - (now + 2 ^ 24 - c % 2 ^ 24) % 2 ^ 24) % 2 ^ 56
def State.opText (s : State) (c rd ra : Nat) : State :=
  let v := textWord s.now (bits (s.rg c ra) 19 24)
  s.result c [ra] rd v (fun f => { f with z := decide (v = 0) })

/-- R172: WALK. -/
def State.opWalk (s : State) (c rd ra rb : Nat) : State :=
  let w := s.rg c ra
  let a := (s.rg c rb + 2 * (bits w 0 9 / 8)) % 2 ^ 64
  match s.dataTrap c a 2 with
  | some (s1, code) => s1.memTrap c code a [ra, rb]
  | none =>
    match s.load c a 2 with
    | .trap s1 code => s1.memTrap c code a [ra, rb]
    | .ecc s1 x => (s1.tainted c [ra, rb]).eccTrap c xDATA_ECC x a
    | .ok s1 e _ =>
      let v := unsigned 34 ((bits w 9 34 : Int) - signed 16 e)
      s1.done c [ra, rb] (some (rd, v)) (fun f => { f with z := decide (v = 0) }) 3 3

def State.opTnow (s : State) (c rd : Nat) : State := s.done c [] (some (rd, s.now)) id 2 2
def State.opTsub (s : State) (c rd ra rb : Nat) : State :=
  s.resultZN c [ra, rb] rd (unsigned 64 (signed 34 (s.rg c ra + 2 ^ 64 - s.rg c rb)))

/-- R172: the bin of a time under a descriptor, and V. -/
def binPick (t d : Nat) : Nat × Bool :=
  let x := signed 34 (t + 2 ^ 64 - bits d 0 34)
  let n := if bits d 40 12 = 0 then 4096 else bits d 40 12
  if x < 0 ∨ n ≤ x.toNat / 2 ^ bits d 34 6 then (n, true) else (x.toNat / 2 ^ bits d 34 6, false)
def State.opBin (s : State) (c rd ra rb : Nat) : State :=
  if bits (s.rg c rb) 52 12 ≠ 0 then (s.stalled c [ra, rb]).exceptFree c xILLEGAL
  else
    let b := binPick (s.rg c ra) (s.rg c rb)
    s.result c [ra, rb] rd b.1 (fun f => { f.zn b.1 with v := b.2 })

/-! ### Records, events and messages (R173, R174) -/

/-- R157, R173: F after a SEND that raises an exception: the spec does not give it (notes/assumptions/73.md). -/
def State.freeF (s : State) (c : Nat) : State :=
  (s.setCore c { s.core c with flags := { (s.core c).flags with f := s.fresh 1 = 1 } }).spend

/-- R173: SEND, and SEND.p. -/
def State.opSend (s : State) (c rs k : Nat) (withP : Bool) : State :=
  if !s.sendOpen k then ((s.tainted c [rs]).freeF c).exceptFree c xNO_STREAM
  else if !s.rselServed c || !s.fbit (Reg.STREAM_MASK_MASK (s.rselRegion c)) k then
    ((s.tainted c [rs]).freeF c).exceptFree c xBAD_STREAM
  else
    let v := s.core c
    let full := decide (32 ≤ v.outq.length)
    let poison := v.tag rs || (withP && v.flags.p)
    (s.outPush c ⟨[BitVec.ofNat 64 (v.reg rs)], k, poison, .record, s.rselBuddy c, 0⟩).done c [rs] none
      (fun f => { f with f := full, p := if withP then false else f.p }) 1 1

/-- R174: WAIT begins; it ends at once where an event of its mask is pending. -/
def State.opWait (s : State) (c rd mask : Nat) : State :=
  if s.epend c &&& waitMask mask ≠ 0 then s.done c [] (some (rd, s.epend c)) id 1 1
  else s.setCore c { s.core c with waiting := some (rd, mask) }

/-- R174: the WAIT in progress may end: an event of its mask, or one that is to be taken as an interrupt. -/
def State.waitOver (s : State) (c : Nat) : Bool :=
  match (s.core c).waiting with
  | some (_, mask) => (s.epend c &&& waitMask mask != 0 || s.irqDue c) && (s.wake c).coreLive c
  | none => false

/-- R174: it ends with rd = EPEND.  The clocked cycles of the wait are free (notes/assumptions/40.md). -/
def State.waitFinish (s : State) (c : Nat) : State :=
  match (s.core c).waiting with
  | some (rd, _) =>
    let s1 := s.wake c
    let k := s1.core c
    (s1.setCore c { k with waiting := none, cycle := (k.cycle + s1.fresh 64) % 2 ^ 64 }).spend.done c []
      (some (rd, s.epend c)) id 1 1
  | none => s

/-- R174, R493: the end of a WAIT of a core that the debugger does not hold. -/
def State.waitEnd (s : State) (c : Nat) : State := if s.waitOver c && !(s.core c).dbgHalt then s.waitFinish c else s

/-- R174: ECLR clears latched events; a close request waits for CLACK. -/
def State.opEclr (s : State) (c mask : Nat) : State :=
  let s1 := s.setCore c { s.core c with latched :=
    ([1, 2, 3, 6].filter (fun i => mask.testBit i)).foldl clrBit (s.core c).latched }
  s1.done c [] none id 1 1

/-- R173: MPOP. -/
def State.opMpop (s : State) (c rd : Nat) : State :=
  match (s.core c).evq with
  | [] => s.done c [] none (fun f => { f with e := true }) 1 1
  | w :: r =>
    ((s.setCore c { s.core c with evq := r }).put (Reg.MBOX_STAT_EVQ c) r.length).done c [] (some (rd, w.toNat))
      (fun f => { f with e := false }) 1 1

/-- R144, R173: MSG, about the RSEL region (notes/assumptions/41.md). -/
def State.opMsg (s : State) (c rs : Nat) : State :=
  let full := decide (32 ≤ (s.core c).outq.length)
  let s1 := if full then s else s.outPush c ⟨[BitVec.ofNat 64 (s.rg c rs)], 0, false, .message, s.rselBuddy c, 0⟩
  s1.done c [rs] none (fun f => { f with f := full }) 1 1

/-- R145, R173: MRECV. -/
def State.opMrecv (s : State) (c rd : Nat) : State :=
  match (s.core c).mbox with
  | [] => s.done c [] none (fun f => { f with e := true }) 1 1
  | (w, b) :: r =>
    ((s.setCore c { s.core c with mbox := r }).put (Reg.MBOX_STAT_IN c) r.length).done c [] (some (rd, w.toNat))
      (fun f => { f with e := false, r := b }) 1 1

def State.opRsel (s : State) (c n : Nat) : State := (s.setCore c { s.core c with rsel := n }).done c [] none id 1 1

/-! ### The system group (R158, R176, R177) -/

/-- R158, R178: an internal register as CSRR reads it; a conductor has no region number (a free value). -/
def State.csrGet (s : State) (c n : Nat) : Nat :=
  let k := s.core c
  let re := !isCond c
  match n with
  | 0 => k.flags.toNat
  | 1 => if re then k.rsel else 0
  | 2 => if re then b2n k.closePend + 2 * b2n k.closeBuddy + 4 * b2n k.closeAck else 0
  | 3 => if re then s.epend c else 0
  | 4 => k.cycle
  | 5 => b2n k.ie + 2 * b2n k.inHandler + 4 * b2n k.byIrq
  | 6 => k.eflags.toNat
  | 7 => k.epc
  | 8 => if re then b2n (s.servesOwn c) + 2 * b2n (s.servesBuddy c) else 0
  | 9 => if re then c else s.fresh 10
  | 0x10 => k.bstat
  | _ => k.msrc

/-- R158: an internal register written; `none` where it, or a field that would change, is RO. -/
def CoreSt.csrPut (k : CoreSt) (n v : Nat) : Option CoreSt :=
  match n with
  | 0 => some { k with flags := Flags.ofNat v }
  | 5 =>
    if v.testBit 1 == k.inHandler && v.testBit 2 == k.byIrq then some { k with ie := v.testBit 0 } else none
  | 6 => some { k with eflags := Flags.ofNat v }
  | 7 => some { k with epc := v % 65536 }
  | _ => none

def State.opCsrr (s : State) (c rd n : Nat) : State :=
  let v := s.csrGet c n
  (if n = 9 ∧ isCond c then s.spend else s).done c [] (some (rd, v)) id 1 1

/-- R156, R177: CSRW; of a CSRW of FLAGS from a poisoned register the written P stands (DEDUCED, notes/assumptions/98.md). -/
def State.opCsrw (s : State) (c rs n : Nat) : State :=
  let s1 := s.done c [rs] none id 1 1
  match (s1.core c).csrPut n (s.rg c rs) with
  | some k => s1.setCore c k
  | none => (s.tainted c [rs]).exceptFree c xCSR_PROT

def State.opNop (s : State) (c : Nat) : State := s.done c [] none id 1 1

/-- R176: ERET; outside a handler it is ILLEGAL. -/
def State.opEret (s : State) (c : Nat) : State :=
  let k := s.core c
  if k.inHandler then
    s.setCore c { k with flags := { k.eflags with p := k.eflags.p || k.flags.p }, pc := k.epc % codeSize c, inHandler := false,
                         cycle := (k.cycle + 2) % 2 ^ 64 }
  else s.exceptFree c xILLEGAL

def State.opClack (s : State) (c : Nat) : State := (s.clack c).done c [] none id 1 1
/-- R177: RREQ pulses the line of the RSEL region, also where the core does not serve it (DEDUCED, notes/assumptions/98.md). -/
def State.opRreq (s : State) (c n : Nat) : State := (s.regionRequest (s.rselRegion c) n).done c [] none id 1 1
/-- R176: TRAP; EXC_ADDR[15:8] is free. -/
def State.opTrap (s : State) (c n : Nat) : State := s.spend.except c xTRAP (n + 256 * s.fresh 8)

/-! ### Conductor extensions (R179) -/

/-- R179: BUSR is issued; the conductor blocks. -/
def State.opBusr (s : State) (c rd ra : Nat) : State :=
  let k := s.core c
  let k1 := (k.timed [ra] none 1 1).taint [ra]
  s.setCore c { k1 with busr := some (rd + 32 * b2n (k.tag ra), k.reg ra % 2 ^ 32) }

/-- R179: the response of a BUSR: its data or 0, F, BSTAT; the clocked cycles of the wait are free. -/
def State.busrEnd (s : State) (k rd : Nat) (st : Status) (v : Nat) : State :=
  let c := 1024 + k
  let x := s.core c
  let x1 := x.setReg (rd % 32) (if st = .ok then v else 0) (decide (32 ≤ rd))
  (s.setCore c { x1 with busr := none, bstat := st.code, flags := { x.flags with f := st != .ok }, pc := s.pcNext c,
                         avail := SMap.erase x.avail (rd % 32), cycle := (x.cycle + s.fresh 64) % 2 ^ 64 }).spend

/-- A conductor whose bus traffic goes on: powered and not stopped by lockstep. -/
def State.busAlive (s : State) (k : Nat) : Bool := s.dom (domKeel k) && s.condState k != cdSTOPPED

def State.busrDone (s : State) (k : Nat) : State :=
  match (s.core (1024 + k)).busr with
  | some (rd, a) =>
    if s.busAlive k then
      match s.busRead (5 + k) none a with
      | some (s1, st, v) => s1.busrEnd k rd st v
      | none => s
    else s
  | none => s

/-- R179: BUSW; with 16 writes outstanding it stalls, for clocked cycles that are free (notes/assumptions/40.md). -/
def State.opBusw (s : State) (c ra rb : Nat) : State :=
  let k := s.core c
  if 16 ≤ k.busw.length then (s.setCore c { k with cycle := (k.cycle + s.fresh 64) % 2 ^ 64 }).spend
  else (s.setCore c { k with busw := k.busw ++ [(k.reg ra % 2 ^ 32, k.reg rb % 2 ^ 32)] }).done c [ra, rb] none id 1 1

/-- The oldest BUSW has ended with a status. -/
def State.buswEnd (s : State) (k : Nat) (st : Status) : State :=
  let c := s.core (1024 + k)
  s.setCore (1024 + k) { c with busw := c.busw.tail, buswFail := if c.buswFail = 0 then st.code else c.buswFail }

/-- R179, R414: the oldest BUSW executes. -/
def State.buswDone (s : State) (k : Nat) : State :=
  match (s.core (1024 + k)).busw with
  | [] => s
  | (a, v) :: _ =>
    match s.busWrite (5 + k) none a v with
    | some (s1, st) => s1.buswEnd k st
    | none => s

/-- R179: BFENCE ends: F, and BSTAT where an earlier BUSW failed. -/
def State.fenceEnd (s : State) (c : Nat) : State :=
  let k := s.core c
  (s.setCore c { k with bfence := false, buswFail := 0, bstat := if k.buswFail = 0 then k.bstat else k.buswFail }).done c []
    none (fun f => { f with f := decide (k.buswFail ≠ 0) }) 1 1

def State.opBfence (s : State) (c : Nat) : State :=
  if (s.core c).busw.isEmpty then s.fenceEnd c else s.setCore c { s.core c with bfence := true }

def State.bfenceDone (s : State) (k : Nat) : State :=
  let c := s.core (1024 + k)
  if c.bfence && c.busw.isEmpty && s.busAlive k then
    (s.setCore (1024 + k) { c with cycle := (c.cycle + s.fresh 64) % 2 ^ 64 }).spend.fenceEnd (1024 + k)
  else s

/-- R179, R396: CRECV. -/
def State.opCrecv (s : State) (c rd : Nat) : State :=
  match (s.core c).inq with
  | [] => s.done c [] none (fun f => { f with e := true }) 1 1
  | (w, src) :: r =>
    (s.setCore c { s.core c with inq := r, msrc := src }).done c [] (some (rd, w.toNat)) (fun f => { f with e := false }) 1 1

/-- R179, R401: HBEAT. -/
def State.opHbeat (s : State) (c : Nat) : State :=
  (s.setCore c { s.core c with hbAt := s.time.tick }).done c [] none id 1 1

def State.opCrc32c (s : State) (c rd ra rb : Nat) : State :=
  let v := crc32cReg (s.rg c ra % 2 ^ 32) (leBytes 8 (s.rg c rb))
  s.done c [ra, rb] (some (rd, v)) (fun f => { f with z := decide (v = 0) }) 2 2

def State.opEpoch (s : State) (c rd : Nat) : State :=
  s.done c [] (some (rd, s.get Reg.ARB_STAT_EPOCH + 65536 * b2n (s.active? == some (c - 1024)))) id 1 1

/-! ### Any legal word -/

/-- R167, R171: opcode 0x00. -/
def State.runAlu (s : State) (c rd ra rb fn : Nat) : State :=
  match fn with
  | 0x000 => s.opAdd c rd ra rb
  | 0x001 => s.opSub c rd ra rb
  | 0x002 => s.opAnd c rd ra rb
  | 0x003 => s.opOr c rd ra rb
  | 0x004 => s.opXor c rd ra rb
  | 0x005 => s.opShl c rd ra rb
  | 0x006 => s.opShr c rd ra rb
  | 0x007 => s.opSar c rd ra rb
  | 0x008 => s.opMul c rd ra rb
  | 0x009 => s.opMulhu c rd ra rb
  | 0x00A => s.opMinu c rd ra rb
  | 0x00B => s.opMaxu c rd ra rb
  | 0x00C => s.opSlt c rd ra rb
  | 0x00D => s.opSltu c rd ra rb
  | 0x00E => s.opClz c rd ra
  | 0x00F => s.opPopc c rd ra
  | 0x010 => s.opTsub c rd ra rb
  | _ => s.opBin c rd ra rb

/-- R177: opcode 0x3E. -/
def State.runSystem (s : State) (c imm : Nat) : State :=
  match imm % 256 with
  | 0 => s.opNop c
  | 1 => s.opEret c
  | 2 => s.opClack c
  | 3 => s.opRreq c (imm / 256)
  | _ => s.opTrap c (imm / 256)

/-- R179: opcode 0x3F. -/
def State.runExt (s : State) (c rd ra rb fn : Nat) : State :=
  match fn with
  | 0 => s.opBusr c rd ra
  | 1 => s.opBusw c ra rb
  | 2 => s.opBfence c
  | 3 => s.opCrecv c rd
  | 4 => s.opHbeat c
  | 5 => s.opCrc32c c rd ra rb
  | _ => s.opEpoch c rd

/-- R167: SHLI, SHRI, SARI. -/
def State.runShift (s : State) (c rd ra imm : Nat) : State :=
  match imm / 2 ^ 14 with
  | 0 => s.opShli c rd ra (imm % 64)
  | 1 => s.opShri c rd ra (imm % 64)
  | _ => s.opSari c rd ra (imm % 64)

/-- A legal word executes: what the debugger's DSTEP runs (R493). -/
def State.runWord (s : State) (c w : Nat) : State :=
  let rd := wRd w
  let ra := wRa w
  let rb := wRb w
  let imm := wImm w
  match wOp w with
  | 0x00 => s.runAlu c rd ra rb (wFn w)
  | 0x01 => s.opAddi c rd ra imm
  | 0x02 => s.opAndi c rd ra imm
  | 0x03 => s.opOri c rd ra imm
  | 0x04 => s.opXori c rd ra imm
  | 0x05 => s.runShift c rd ra imm
  | 0x06 => s.opLdi c rd imm
  | 0x07 => s.opIns c rd ra imm
  | 0x08 => s.opExt c rd ra (bits w 10 6) (bits w 4 6 + 1)
  | 0x09 => s.opExts c rd ra (bits w 10 6) (bits w 4 6 + 1)
  | 0x0A => s.opDep c rd ra (bits w 10 6) (bits w 4 6 + 1)
  | 0x10 => s.opLoad c rd ra imm 8
  | 0x11 => s.opLoad c rd ra imm 4
  | 0x12 => s.opLoad c rd ra imm 2
  | 0x13 => s.opLoad c rd ra imm 1
  | 0x14 => s.opStore c rd ra imm 8
  | 0x15 => s.opStore c rd ra imm 4
  | 0x16 => s.opStore c rd ra imm 2
  | 0x17 => s.opStore c rd ra imm 1
  | 0x18 => s.opHinc c rd ra rb (if wFn w = 0 then 2 else 4)
  | 0x20 => s.opBeq c rd ra imm
  | 0x21 => s.opBne c rd ra imm
  | 0x22 => s.opBlt c rd ra imm
  | 0x23 => s.opBge c rd ra imm
  | 0x24 => s.opBltu c rd ra imm
  | 0x25 => s.opBgeu c rd ra imm
  | 0x26 => s.opBf c rd imm
  | 0x27 => s.opDbnz c rd imm
  | 0x28 => s.opJal c rd imm
  | 0x29 => s.opJalr c rd ra
  | 0x30 => if imm = 0 then s.opHpopS c rd else s.opHpopA c rd
  | 0x31 => s.opHcnt c rd
  | 0x32 => s.opText c rd ra
  | 0x33 => s.opWalk c rd ra rb
  | 0x34 => s.opTnow c rd
  | 0x35 => s.opSend c rd (imm % 64) (decide (64 ≤ imm))
  | 0x36 => s.opWait c rd imm
  | 0x37 => s.opEclr c imm
  | 0x38 => s.opMpop c rd
  | 0x39 => s.opMsg c rd
  | 0x3A => s.opMrecv c rd
  | 0x3B => s.opRsel c imm
  | 0x3C => s.opCsrr c rd imm
  | 0x3D => s.opCsrw c rd imm
  | 0x3E => s.runSystem c imm
  | _ => s.runExt c rd ra rb (wFn w)

end Sys2Proof.Machine
end

