-- ==== Sys2Proof/Machine/BzxRows.lean ====
section
/-! DEFINITION. The instruction rows: each spells its word (R159) and executes on core `c` (0 to 1,023 the region engines,
1,024 and 1,025 the conductors of keels A and B) if that core is at an instruction boundary and that word stands at its PC
(notes/assumptions/37.md). -/
namespace Sys2Proof.Machine

/-- R167: ADD. -/
def execAdd (c : Fin 1026) (rd ra rb : BitVec 5) (s : State) : Host.Outcome State Fault Refusal :=
  .next (s.issue c.val (wordR 0x00 rd.toNat ra.toNat rb.toNat 0x000) (fun a => a.opAdd c.val rd.toNat ra.toNat rb.toNat))
/-- R167: SUB. -/
def execSub (c : Fin 1026) (rd ra rb : BitVec 5) (s : State) : Host.Outcome State Fault Refusal :=
  .next (s.issue c.val (wordR 0x00 rd.toNat ra.toNat rb.toNat 0x001) (fun a => a.opSub c.val rd.toNat ra.toNat rb.toNat))
/-- R167: AND. -/
def execAnd (c : Fin 1026) (rd ra rb : BitVec 5) (s : State) : Host.Outcome State Fault Refusal :=
  .next (s.issue c.val (wordR 0x00 rd.toNat ra.toNat rb.toNat 0x002) (fun a => a.opAnd c.val rd.toNat ra.toNat rb.toNat))
/-- R167: OR. -/
def execOr (c : Fin 1026) (rd ra rb : BitVec 5) (s : State) : Host.Outcome State Fault Refusal :=
  .next (s.issue c.val (wordR 0x00 rd.toNat ra.toNat rb.toNat 0x003) (fun a => a.opOr c.val rd.toNat ra.toNat rb.toNat))
/-- R167: XOR. -/
def execXor (c : Fin 1026) (rd ra rb : BitVec 5) (s : State) : Host.Outcome State Fault Refusal :=
  .next (s.issue c.val (wordR 0x00 rd.toNat ra.toNat rb.toNat 0x004) (fun a => a.opXor c.val rd.toNat ra.toNat rb.toNat))
/-- R167: SHL. -/
def execShl (c : Fin 1026) (rd ra rb : BitVec 5) (s : State) : Host.Outcome State Fault Refusal :=
  .next (s.issue c.val (wordR 0x00 rd.toNat ra.toNat rb.toNat 0x005) (fun a => a.opShl c.val rd.toNat ra.toNat rb.toNat))
/-- R167: SHR. -/
def execShr (c : Fin 1026) (rd ra rb : BitVec 5) (s : State) : Host.Outcome State Fault Refusal :=
  .next (s.issue c.val (wordR 0x00 rd.toNat ra.toNat rb.toNat 0x006) (fun a => a.opShr c.val rd.toNat ra.toNat rb.toNat))
/-- R167: SAR. -/
def execSar (c : Fin 1026) (rd ra rb : BitVec 5) (s : State) : Host.Outcome State Fault Refusal :=
  .next (s.issue c.val (wordR 0x00 rd.toNat ra.toNat rb.toNat 0x007) (fun a => a.opSar c.val rd.toNat ra.toNat rb.toNat))
/-- R167: MUL. -/
def execMul (c : Fin 1026) (rd ra rb : BitVec 5) (s : State) : Host.Outcome State Fault Refusal :=
  .next (s.issue c.val (wordR 0x00 rd.toNat ra.toNat rb.toNat 0x008) (fun a => a.opMul c.val rd.toNat ra.toNat rb.toNat))
/-- R167: MULHU. -/
def execMulhu (c : Fin 1026) (rd ra rb : BitVec 5) (s : State) : Host.Outcome State Fault Refusal :=
  .next (s.issue c.val (wordR 0x00 rd.toNat ra.toNat rb.toNat 0x009) (fun a => a.opMulhu c.val rd.toNat ra.toNat rb.toNat))
/-- R167: MINU. -/
def execMinu (c : Fin 1026) (rd ra rb : BitVec 5) (s : State) : Host.Outcome State Fault Refusal :=
  .next (s.issue c.val (wordR 0x00 rd.toNat ra.toNat rb.toNat 0x00A) (fun a => a.opMinu c.val rd.toNat ra.toNat rb.toNat))
/-- R167: MAXU. -/
def execMaxu (c : Fin 1026) (rd ra rb : BitVec 5) (s : State) : Host.Outcome State Fault Refusal :=
  .next (s.issue c.val (wordR 0x00 rd.toNat ra.toNat rb.toNat 0x00B) (fun a => a.opMaxu c.val rd.toNat ra.toNat rb.toNat))
/-- R167: SLT. -/
def execSlt (c : Fin 1026) (rd ra rb : BitVec 5) (s : State) : Host.Outcome State Fault Refusal :=
  .next (s.issue c.val (wordR 0x00 rd.toNat ra.toNat rb.toNat 0x00C) (fun a => a.opSlt c.val rd.toNat ra.toNat rb.toNat))
/-- R167: SLTU. -/
def execSltu (c : Fin 1026) (rd ra rb : BitVec 5) (s : State) : Host.Outcome State Fault Refusal :=
  .next (s.issue c.val (wordR 0x00 rd.toNat ra.toNat rb.toNat 0x00D) (fun a => a.opSltu c.val rd.toNat ra.toNat rb.toNat))
/-- R167: CLZ. -/
def execClz (c : Fin 1026) (rd ra rb : BitVec 5) (s : State) : Host.Outcome State Fault Refusal :=
  .next (s.issue c.val (wordR 0x00 rd.toNat ra.toNat rb.toNat 0x00E) (fun a => a.opClz c.val rd.toNat ra.toNat))
/-- R167: POPC. -/
def execPopc (c : Fin 1026) (rd ra rb : BitVec 5) (s : State) : Host.Outcome State Fault Refusal :=
  .next (s.issue c.val (wordR 0x00 rd.toNat ra.toNat rb.toNat 0x00F) (fun a => a.opPopc c.val rd.toNat ra.toNat))
/-- R171: TSUB. -/
def execTsub (c : Fin 1026) (rd ra rb : BitVec 5) (s : State) : Host.Outcome State Fault Refusal :=
  .next (s.issue c.val (wordR 0x00 rd.toNat ra.toNat rb.toNat 0x010) (fun a => a.opTsub c.val rd.toNat ra.toNat rb.toNat))
/-- R171, R172: BIN. -/
def execBin (c : Fin 1026) (rd ra rb : BitVec 5) (s : State) : Host.Outcome State Fault Refusal :=
  .next (s.issue c.val (wordR 0x00 rd.toNat ra.toNat rb.toNat 0x011) (fun a => a.opBin c.val rd.toNat ra.toNat rb.toNat))
/-- R171, R172: TEXT. -/
def execText (c : Fin 1026) (rd ra rb : BitVec 5) (s : State) : Host.Outcome State Fault Refusal :=
  .next (s.issue c.val (wordR 0x32 rd.toNat ra.toNat rb.toNat 0) (fun a => a.opText c.val rd.toNat ra.toNat))
/-- R171, R172: WALK. -/
def execWalk (c : Fin 1026) (rd ra rb : BitVec 5) (s : State) : Host.Outcome State Fault Refusal :=
  .next (s.issue c.val (wordR 0x33 rd.toNat ra.toNat rb.toNat 0) (fun a => a.opWalk c.val rd.toNat ra.toNat rb.toNat))
/-- R168, R169: HINC.h. -/
def execHincH (c : Fin 1026) (rd ra rb : BitVec 5) (s : State) : Host.Outcome State Fault Refusal :=
  .next (s.issue c.val (wordR 0x18 rd.toNat ra.toNat rb.toNat 0) (fun a => a.opHinc c.val rd.toNat ra.toNat rb.toNat 2))
/-- R168, R169: HINC.w. -/
def execHincW (c : Fin 1026) (rd ra rb : BitVec 5) (s : State) : Host.Outcome State Fault Refusal :=
  .next (s.issue c.val (wordR 0x18 rd.toNat ra.toNat rb.toNat 1) (fun a => a.opHinc c.val rd.toNat ra.toNat rb.toNat 4))
/-- R179: CRC32C. -/
def execCrc32c (c : Fin 1026) (rd ra rb : BitVec 5) (s : State) : Host.Outcome State Fault Refusal :=
  .next (s.issue c.val (wordR 0x3F rd.toNat ra.toNat rb.toNat 0x005) (fun a => a.opCrc32c c.val rd.toNat ra.toNat rb.toNat))
/-- R167: ADDI. -/
def execAddi (c : Fin 1026) (rd ra : BitVec 5) (imm : BitVec 16) (s : State) : Host.Outcome State Fault Refusal :=
  .next (s.issue c.val (wordI 0x01 rd.toNat ra.toNat imm.toNat) (fun a => a.opAddi c.val rd.toNat ra.toNat imm.toNat))
/-- R167: ANDI. -/
def execAndi (c : Fin 1026) (rd ra : BitVec 5) (imm : BitVec 16) (s : State) : Host.Outcome State Fault Refusal :=
  .next (s.issue c.val (wordI 0x02 rd.toNat ra.toNat imm.toNat) (fun a => a.opAndi c.val rd.toNat ra.toNat imm.toNat))
/-- R167: ORI. -/
def execOri (c : Fin 1026) (rd ra : BitVec 5) (imm : BitVec 16) (s : State) : Host.Outcome State Fault Refusal :=
  .next (s.issue c.val (wordI 0x03 rd.toNat ra.toNat imm.toNat) (fun a => a.opOri c.val rd.toNat ra.toNat imm.toNat))
/-- R167: XORI. -/
def execXori (c : Fin 1026) (rd ra : BitVec 5) (imm : BitVec 16) (s : State) : Host.Outcome State Fault Refusal :=
  .next (s.issue c.val (wordI 0x04 rd.toNat ra.toNat imm.toNat) (fun a => a.opXori c.val rd.toNat ra.toNat imm.toNat))
/-- R167: LDI; the ra field is 0. -/
def execLdi (c : Fin 1026) (rd ra : BitVec 5) (imm : BitVec 16) (s : State) : Host.Outcome State Fault Refusal :=
  .next (s.issue c.val (wordI 0x06 rd.toNat ra.toNat imm.toNat) (fun a => a.opLdi c.val rd.toNat imm.toNat))
/-- R167: SHLI; imm[13:6] is 0. -/
def execShli (c : Fin 1026) (rd ra : BitVec 5) (imm : BitVec 14) (s : State) : Host.Outcome State Fault Refusal :=
  .next (s.issue c.val (wordI 0x05 rd.toNat ra.toNat (0 * 2 ^ 14 + imm.toNat)) (fun a => a.opShli c.val rd.toNat ra.toNat (imm.toNat % 64)))
/-- R167: SHRI; imm[13:6] is 0. -/
def execShri (c : Fin 1026) (rd ra : BitVec 5) (imm : BitVec 14) (s : State) : Host.Outcome State Fault Refusal :=
  .next (s.issue c.val (wordI 0x05 rd.toNat ra.toNat (1 * 2 ^ 14 + imm.toNat)) (fun a => a.opShri c.val rd.toNat ra.toNat (imm.toNat % 64)))
/-- R167: SARI; imm[13:6] is 0. -/
def execSari (c : Fin 1026) (rd ra : BitVec 5) (imm : BitVec 14) (s : State) : Host.Outcome State Fault Refusal :=
  .next (s.issue c.val (wordI 0x05 rd.toNat ra.toNat (2 * 2 ^ 14 + imm.toNat)) (fun a => a.opSari c.val rd.toNat ra.toNat (imm.toNat % 64)))
/-- R167: INS; the ra field holds q. -/
def execIns (c : Fin 1026) (rd qf : BitVec 5) (imm : BitVec 16) (s : State) : Host.Outcome State Fault Refusal :=
  .next (s.issue c.val (wordI 0x07 rd.toNat qf.toNat imm.toNat) (fun a => a.opIns c.val rd.toNat qf.toNat imm.toNat))
/-- R167: EXT. -/
def execExt (c : Fin 1026) (rd ra : BitVec 5) (pos len1 : BitVec 6) (low : BitVec 4) (s : State) : Host.Outcome State Fault Refusal :=
  .next (s.issue c.val (wordF 0x08 rd.toNat ra.toNat pos.toNat len1.toNat low.toNat) (fun a => a.opExt c.val rd.toNat ra.toNat pos.toNat (len1.toNat + 1)))
/-- R167: EXTS. -/
def execExts (c : Fin 1026) (rd ra : BitVec 5) (pos len1 : BitVec 6) (low : BitVec 4) (s : State) : Host.Outcome State Fault Refusal :=
  .next (s.issue c.val (wordF 0x09 rd.toNat ra.toNat pos.toNat len1.toNat low.toNat) (fun a => a.opExts c.val rd.toNat ra.toNat pos.toNat (len1.toNat + 1)))
/-- R167: DEP. -/
def execDep (c : Fin 1026) (rd ra : BitVec 5) (pos len1 : BitVec 6) (low : BitVec 4) (s : State) : Host.Outcome State Fault Refusal :=
  .next (s.issue c.val (wordF 0x0A rd.toNat ra.toNat pos.toNat len1.toNat low.toNat) (fun a => a.opDep c.val rd.toNat ra.toNat pos.toNat (len1.toNat + 1)))
/-- R168: LD. -/
def execLd (c : Fin 1026) (rd ra : BitVec 5) (imm : BitVec 16) (s : State) : Host.Outcome State Fault Refusal :=
  .next (s.issue c.val (wordI 0x10 rd.toNat ra.toNat imm.toNat) (fun a => a.opLoad c.val rd.toNat ra.toNat imm.toNat 8))
/-- R168: LW. -/
def execLw (c : Fin 1026) (rd ra : BitVec 5) (imm : BitVec 16) (s : State) : Host.Outcome State Fault Refusal :=
  .next (s.issue c.val (wordI 0x11 rd.toNat ra.toNat imm.toNat) (fun a => a.opLoad c.val rd.toNat ra.toNat imm.toNat 4))
/-- R168: LH. -/
def execLh (c : Fin 1026) (rd ra : BitVec 5) (imm : BitVec 16) (s : State) : Host.Outcome State Fault Refusal :=
  .next (s.issue c.val (wordI 0x12 rd.toNat ra.toNat imm.toNat) (fun a => a.opLoad c.val rd.toNat ra.toNat imm.toNat 2))
/-- R168: LB. -/
def execLb (c : Fin 1026) (rd ra : BitVec 5) (imm : BitVec 16) (s : State) : Host.Outcome State Fault Refusal :=
  .next (s.issue c.val (wordI 0x13 rd.toNat ra.toNat imm.toNat) (fun a => a.opLoad c.val rd.toNat ra.toNat imm.toNat 1))
/-- R168: ST; rs lies in the rd field. -/
def execSt (c : Fin 1026) (rd ra : BitVec 5) (imm : BitVec 16) (s : State) : Host.Outcome State Fault Refusal :=
  .next (s.issue c.val (wordI 0x14 rd.toNat ra.toNat imm.toNat) (fun a => a.opStore c.val rd.toNat ra.toNat imm.toNat 8))
/-- R168: SW; rs lies in the rd field. -/
def execSw (c : Fin 1026) (rd ra : BitVec 5) (imm : BitVec 16) (s : State) : Host.Outcome State Fault Refusal :=
  .next (s.issue c.val (wordI 0x15 rd.toNat ra.toNat imm.toNat) (fun a => a.opStore c.val rd.toNat ra.toNat imm.toNat 4))
/-- R168: SH; rs lies in the rd field. -/
def execSh (c : Fin 1026) (rd ra : BitVec 5) (imm : BitVec 16) (s : State) : Host.Outcome State Fault Refusal :=
  .next (s.issue c.val (wordI 0x16 rd.toNat ra.toNat imm.toNat) (fun a => a.opStore c.val rd.toNat ra.toNat imm.toNat 2))
/-- R168: SB; rs lies in the rd field. -/
def execSb (c : Fin 1026) (rd ra : BitVec 5) (imm : BitVec 16) (s : State) : Host.Outcome State Fault Refusal :=
  .next (s.issue c.val (wordI 0x17 rd.toNat ra.toNat imm.toNat) (fun a => a.opStore c.val rd.toNat ra.toNat imm.toNat 1))
/-- R170: BEQ. -/
def execBeq (c : Fin 1026) (ra rb : BitVec 5) (off : BitVec 16) (s : State) : Host.Outcome State Fault Refusal :=
  .next (s.issue c.val (wordI 0x20 ra.toNat rb.toNat off.toNat) (fun a => a.opBeq c.val ra.toNat rb.toNat off.toNat))
/-- R170: BNE. -/
def execBne (c : Fin 1026) (ra rb : BitVec 5) (off : BitVec 16) (s : State) : Host.Outcome State Fault Refusal :=
  .next (s.issue c.val (wordI 0x21 ra.toNat rb.toNat off.toNat) (fun a => a.opBne c.val ra.toNat rb.toNat off.toNat))
/-- R170: BLT. -/
def execBlt (c : Fin 1026) (ra rb : BitVec 5) (off : BitVec 16) (s : State) : Host.Outcome State Fault Refusal :=
  .next (s.issue c.val (wordI 0x22 ra.toNat rb.toNat off.toNat) (fun a => a.opBlt c.val ra.toNat rb.toNat off.toNat))
/-- R170: BGE. -/
def execBge (c : Fin 1026) (ra rb : BitVec 5) (off : BitVec 16) (s : State) : Host.Outcome State Fault Refusal :=
  .next (s.issue c.val (wordI 0x23 ra.toNat rb.toNat off.toNat) (fun a => a.opBge c.val ra.toNat rb.toNat off.toNat))
/-- R170: BLTU. -/
def execBltu (c : Fin 1026) (ra rb : BitVec 5) (off : BitVec 16) (s : State) : Host.Outcome State Fault Refusal :=
  .next (s.issue c.val (wordI 0x24 ra.toNat rb.toNat off.toNat) (fun a => a.opBltu c.val ra.toNat rb.toNat off.toNat))
/-- R170: BGEU. -/
def execBgeu (c : Fin 1026) (ra rb : BitVec 5) (off : BitVec 16) (s : State) : Host.Outcome State Fault Refusal :=
  .next (s.issue c.val (wordI 0x25 ra.toNat rb.toNat off.toNat) (fun a => a.opBgeu c.val ra.toNat rb.toNat off.toNat))
/-- R170: BF; cond[3] and the rb field are 0. -/
def execBf (c : Fin 1026) (cond rb : BitVec 5) (off : BitVec 16) (s : State) : Host.Outcome State Fault Refusal :=
  .next (s.issue c.val (wordI 0x26 cond.toNat rb.toNat off.toNat) (fun a => a.opBf c.val cond.toNat off.toNat))
/-- R170: DBNZ; `off` holds the low 21 bits of the word: the rb field, which DBNZ does not use, and the offset. -/
def execDbnz (c : Fin 1026) (ra : BitVec 5) (off : BitVec 21) (s : State) : Host.Outcome State Fault Refusal :=
  .next (s.issue c.val (wordI 0x27 ra.toNat (off.toNat / 65536) (off.toNat % 65536))
    (fun a => a.opDbnz c.val ra.toNat (off.toNat % 65536)))
/-- R170: JAL. -/
def execJal (c : Fin 1026) (rd raf : BitVec 5) (target : BitVec 16) (s : State) : Host.Outcome State Fault Refusal :=
  .next (s.issue c.val (wordI 0x28 rd.toNat raf.toNat target.toNat) (fun a => a.opJal c.val rd.toNat target.toNat))
/-- R170: JALR. -/
def execJalr (c : Fin 1026) (rd ra rb : BitVec 5) (s : State) : Host.Outcome State Fault Refusal :=
  .next (s.issue c.val (wordR 0x29 rd.toNat ra.toNat rb.toNat 0) (fun a => a.opJalr c.val rd.toNat ra.toNat))
/-- R171: HPOP.s. -/
def execHpopS (c : Fin 1026) (hd : BitVec 5) (s : State) : Host.Outcome State Fault Refusal :=
  .next (s.issue c.val (wordI 0x30 hd.toNat 0 0) (fun a => a.opHpopS c.val hd.toNat))
/-- R171, R172: HPOP.a. -/
def execHpopA (c : Fin 1026) (hd : BitVec 5) (s : State) : Host.Outcome State Fault Refusal :=
  .next (s.issue c.val (wordI 0x30 hd.toNat 0 1) (fun a => a.opHpopA c.val hd.toNat))
/-- R171: HCNT. -/
def execHcnt (c : Fin 1026) (rd ra : BitVec 5) (imm : BitVec 16) (s : State) : Host.Outcome State Fault Refusal :=
  .next (s.issue c.val (wordI 0x31 rd.toNat ra.toNat imm.toNat) (fun a => a.opHcnt c.val rd.toNat))
/-- R171, R172: TNOW. -/
def execTnow (c : Fin 1026) (rd ra : BitVec 5) (imm : BitVec 16) (s : State) : Host.Outcome State Fault Refusal :=
  .next (s.issue c.val (wordI 0x34 rd.toNat ra.toNat imm.toNat) (fun a => a.opTnow c.val rd.toNat))
/-- R173: SEND. -/
def execSend (c : Fin 1026) (rs ra : BitVec 5) (stream : BitVec 6) (high : BitVec 9) (s : State) : Host.Outcome State Fault Refusal :=
  .next (s.issue c.val (wordI 0x35 rs.toNat ra.toNat (high.toNat * 128 + 0 + stream.toNat)) (fun a => a.opSend c.val rs.toNat stream.toNat false))
/-- R173: SEND.p. -/
def execSendP (c : Fin 1026) (rs ra : BitVec 5) (stream : BitVec 6) (high : BitVec 9) (s : State) : Host.Outcome State Fault Refusal :=
  .next (s.issue c.val (wordI 0x35 rs.toNat ra.toNat (high.toNat * 128 + 64 + stream.toNat)) (fun a => a.opSend c.val rs.toNat stream.toNat true))
/-- R173, R174: WAIT. -/
def execWait (c : Fin 1026) (rd ra : BitVec 5) (imm : BitVec 16) (s : State) : Host.Outcome State Fault Refusal :=
  .next (s.issue c.val (wordI 0x36 rd.toNat ra.toNat imm.toNat) (fun a => a.opWait c.val rd.toNat imm.toNat))
/-- R173, R174: ECLR. -/
def execEclr (c : Fin 1026) (rd ra : BitVec 5) (imm : BitVec 16) (s : State) : Host.Outcome State Fault Refusal :=
  .next (s.issue c.val (wordI 0x37 rd.toNat ra.toNat imm.toNat) (fun a => a.opEclr c.val imm.toNat))
/-- R173: MPOP. -/
def execMpop (c : Fin 1026) (rd ra : BitVec 5) (imm : BitVec 16) (s : State) : Host.Outcome State Fault Refusal :=
  .next (s.issue c.val (wordI 0x38 rd.toNat ra.toNat imm.toNat) (fun a => a.opMpop c.val rd.toNat))
/-- R144, R173: MSG; rs lies in the rd field. -/
def execMsg (c : Fin 1026) (rd ra : BitVec 5) (imm : BitVec 16) (s : State) : Host.Outcome State Fault Refusal :=
  .next (s.issue c.val (wordI 0x39 rd.toNat ra.toNat imm.toNat) (fun a => a.opMsg c.val rd.toNat))
/-- R145, R173: MRECV. -/
def execMrecv (c : Fin 1026) (rd ra : BitVec 5) (imm : BitVec 16) (s : State) : Host.Outcome State Fault Refusal :=
  .next (s.issue c.val (wordI 0x3A rd.toNat ra.toNat imm.toNat) (fun a => a.opMrecv c.val rd.toNat))
/-- R163, R173: RSEL. -/
def execRsel (c : Fin 1026) (rd ra : BitVec 5) (imm : BitVec 16) (s : State) : Host.Outcome State Fault Refusal :=
  .next (s.issue c.val (wordI 0x3B rd.toNat ra.toNat imm.toNat) (fun a => a.opRsel c.val imm.toNat))
/-- R158, R177: CSRR. -/
def execCsrr (c : Fin 1026) (rd ra : BitVec 5) (imm : BitVec 16) (s : State) : Host.Outcome State Fault Refusal :=
  .next (s.issue c.val (wordI 0x3C rd.toNat ra.toNat imm.toNat) (fun a => a.opCsrr c.val rd.toNat imm.toNat))
/-- R158, R177: CSRW; rs lies in the rd field. -/
def execCsrw (c : Fin 1026) (rd ra : BitVec 5) (imm : BitVec 16) (s : State) : Host.Outcome State Fault Refusal :=
  .next (s.issue c.val (wordI 0x3D rd.toNat ra.toNat imm.toNat) (fun a => a.opCsrw c.val rd.toNat imm.toNat))
/-- R177: NOP. -/
def execNop (c : Fin 1026) (rd ra : BitVec 5) (s : State) : Host.Outcome State Fault Refusal :=
  .next (s.issue c.val (wordI 0x3E rd.toNat ra.toNat 0) (fun a => a.opNop c.val))
/-- R176, R177: ERET. -/
def execEret (c : Fin 1026) (s : State) : Host.Outcome State Fault Refusal :=
  .next (s.issue c.val (wordI 0x3E 0 0 1) (fun a => a.opEret c.val))
/-- R147, R177: CLACK. -/
def execClack (c : Fin 1026) (s : State) : Host.Outcome State Fault Refusal :=
  .next (s.issue c.val (wordI 0x3E 0 0 2) (fun a => a.opClack c.val))
/-- R177: RREQ. -/
def execRreq (c : Fin 1026) (n : BitVec 8) (s : State) : Host.Outcome State Fault Refusal :=
  .next (s.issue c.val (wordI 0x3E 0 0 (n.toNat * 256 + 3)) (fun a => a.opRreq c.val n.toNat))
/-- R176, R177: TRAP. -/
def execTrap (c : Fin 1026) (n : BitVec 8) (s : State) : Host.Outcome State Fault Refusal :=
  .next (s.issue c.val (wordI 0x3E 0 0 (n.toNat * 256 + 4)) (fun a => a.opTrap c.val n.toNat))
/-- R179: BUSR. -/
def execBusr (c : Fin 1026) (rd ra : BitVec 5) (s : State) : Host.Outcome State Fault Refusal :=
  .next (s.issue c.val (wordR 0x3F rd.toNat ra.toNat 0 0x000) (fun a => a.opBusr c.val rd.toNat ra.toNat))
/-- R179: BUSW; the rd field is 0. -/
def execBusw (c : Fin 1026) (rd ra rb : BitVec 5) (s : State) : Host.Outcome State Fault Refusal :=
  .next (s.issue c.val (wordR 0x3F rd.toNat ra.toNat rb.toNat 0x001) (fun a => a.opBusw c.val ra.toNat rb.toNat))
/-- R179: BFENCE. -/
def execBfence (c : Fin 1026) (rd ra rb : BitVec 5) (s : State) : Host.Outcome State Fault Refusal :=
  .next (s.issue c.val (wordR 0x3F rd.toNat ra.toNat rb.toNat 0x002) (fun a => a.opBfence c.val))
/-- R179: CRECV. -/
def execCrecv (c : Fin 1026) (rd : BitVec 5) (s : State) : Host.Outcome State Fault Refusal :=
  .next (s.issue c.val (wordR 0x3F rd.toNat 0 0 0x003) (fun a => a.opCrecv c.val rd.toNat))
/-- R179, R401: HBEAT. -/
def execHbeat (c : Fin 1026) (rd ra rb : BitVec 5) (s : State) : Host.Outcome State Fault Refusal :=
  .next (s.issue c.val (wordR 0x3F rd.toNat ra.toNat rb.toNat 0x004) (fun a => a.opHbeat c.val))
/-- R179, R395: EPOCH. -/
def execEpoch (c : Fin 1026) (rd ra rb : BitVec 5) (s : State) : Host.Outcome State Fault Refusal :=
  .next (s.issue c.val (wordR 0x3F rd.toNat ra.toNat rb.toNat 0x006) (fun a => a.opEpoch c.val rd.toNat))

/-- R174: the end of a WAIT. -/
def execWaitComplete (c : Fin 1026) (s : State) : Host.Outcome State Fault Refusal := .next (s.waitEnd c.val)
/-- R179: the response of a BUSR. -/
def execBusrComplete (k : Fin 2) (s : State) : Host.Outcome State Fault Refusal := .next (s.busrDone k.val)
/-- R179: the end of a BUSW. -/
def execBuswComplete (k : Fin 2) (s : State) : Host.Outcome State Fault Refusal := .next (s.buswDone k.val)
/-- R179: the end of a BFENCE. -/
def execBfenceComplete (k : Fin 2) (s : State) : Host.Outcome State Fault Refusal := .next (s.bfenceDone k.val)

end Sys2Proof.Machine
end

