-- ==== Sys2Proof/Machine/Ports.lean ====
section
/-! DEFINITION. Register accesses by message (R376, R379, R381 to R383, R390, R461): READ, WRITE, posted writes, timeouts,
RESET. -/
namespace Sys2Proof.Machine

/-! ### The words of a message -/

/-- What became of the words of a message: how many were done, the data read, and how it ended (`none`: the next word
waits). -/
structure Words where
  after : State
  done  : Nat
  data  : List Nat
  ended : Option Status
  deriving DecidableEq, Repr

/-- R379: words are read in address order up to the first that fails or waits. -/
def readWords (m : Nat) (epoch : Option Nat) : Nat → Nat → State → Words
  | 0, _, s => ⟨s, 0, [], some .ok⟩
  | n + 1, a, s =>
    match s.busRead m epoch a with
    | none => ⟨s, 0, [], none⟩
    | some (s1, .ok, v) =>
      let r := readWords m epoch n (a + 4) s1
      { r with done := r.done + 1, data := v :: r.data }
    | some (s1, st, _) => ⟨s1, 0, [], some st⟩

/-- R379: words are written in address order up to the first that fails or waits. -/
def writeWords (m : Nat) (epoch : Option Nat) : List Nat → Nat → State → Words
  | [], _, s => ⟨s, 0, [], some .ok⟩
  | v :: vs, a, s =>
    match s.busWrite m epoch a v with
    | none => ⟨s, 0, [], none⟩
    | some (s1, .ok) =>
      let r := writeWords m epoch vs (a + 4) s1
      { r with done := r.done + 1 }
    | some (s1, st) => ⟨s1, 0, [], some st⟩

/-- R379: the words of a message span two ranges of R43; words that lie in none of them fail on their own. -/
def spans (a n : Nat) : Bool :=
  match ((List.range n).map (fun i => rangeOf (a + 4 * i))).filter Option.isSome with
  | [] => false
  | r :: rest => rest.any (· != r)

/-- The epoch that a port's access carries; the monitor's carries none (notes/assumptions/36.md). -/
def portEpoch (p : Nat) (m : Msg) : Option Nat := if p = 3 then none else some m.epoch.toNat

/-- R375, R376: the fields of READ and WRITE. -/
def msgAddr (m : Msg) : Nat := fieldOf m.payload 0 4
def msgCount (m : Msg) : Nat := fieldOf m.payload 4 2
def msgWords (m : Msg) : List Nat := (List.range ((m.payload.length - 4) / 4)).map (fun i => fieldOf m.payload (4 + 4 * i) 4)
def readShape (m : Msg) : Bool := m.payload.length == 6 && decide (1 ≤ msgCount m) && decide (msgCount m ≤ 64)
def writeShape (m : Msg) : Bool :=
  decide (8 ≤ m.payload.length) && decide (m.payload.length ≤ 256) && m.payload.length % 4 == 0

/-- R461: a message that must wait stays at the head of the port's input queue (notes/assumptions/35.md). -/
def State.holdMsg (s : State) (p : Nat) (m : Msg) : State :=
  let q := s.port p
  if q.inq.head? = some m then s else s.setPort p { q with inq := m :: q.inq }

/-- R379: the words of a READ or of a non-posted WRITE executed. -/
def State.runRead (s : State) (p : Nat) (m : Msg) : Words :=
  if spans (msgAddr m) (msgCount m) then ⟨s, 0, [], some .badAddress⟩
  else readWords p (portEpoch p m) (msgCount m) (msgAddr m) s
def State.runWrite (s : State) (p : Nat) (m : Msg) : Words :=
  if spans (msgAddr m) (msgWords m).length then ⟨s, 0, [], some .badAddress⟩
  else writeWords p (portEpoch p m) (msgWords m) (msgAddr m) s

/-- The response of a READ, and of a non-posted WRITE. -/
def Words.answerRead (r : Words) (p : Nat) (m : Msg) (st : Status) : State :=
  { (r.after.dequeue p m).respond p m st (r.data.flatMap (leBytes 4)) with lastData := r.data }
def Words.answerWrite (r : Words) (p : Nat) (m : Msg) (st : Status) : State :=
  (r.after.dequeue p m).respond p m st (leBytes 2 r.done)

/-! ### READ and WRITE -/

/-- R379: READ. -/
def State.readCmd (s : State) (p : Nat) (m0 : Msg) : State :=
  let m := { m0 with opcode := 1 }
  let s1 := s.renewNew p m
  if !readShape m then (s1.dequeue p m).respond p m .badMsg []
  else
    let r := s1.runRead p m
    match r.ended with
    | some st => r.answerRead p m st
    | none => s1.holdMsg p m

/-- R390: a WRITE may be made: by the owner, or a broadcast while there is no owner. -/
def State.mayWrite (s : State) (p : Nat) (m : Msg) : Bool := s.isOwner p || (m.dest == 0xFF && p < 2 && s.owner?.isNone)

/-- R382: what a posted write keeps. -/
def postedOf (m : Msg) : Posted :=
  ⟨msgTag m, m.src.toNat, m.seq.toNat, m.epoch.toNat, msgAddr m, msgWords m⟩

/-- R382, R390: a posted WRITE enters the port's queue; one from a non-owner is logged as failed. -/
def State.postWrite (s : State) (p : Nat) (m : Msg) : State :=
  let q := s.port p
  if 16 ≤ q.posted.length then (if p < 2 then s else (s.dequeue p m).respond p m .badMsg [])
  else
    let s1 := s.dequeue p m
    if !s.mayWrite p m then s1.postedFail p (postedOf m) .notOwner
    else s1.setPort p { s1.port p with posted := q.posted ++ [postedOf m] }

/-- R379, R382, R390: WRITE; a non-posted one executes after the posted writes ahead of it. -/
def State.writeCmd (s : State) (p : Nat) (m0 : Msg) : State :=
  let m := { m0 with opcode := 2 }
  let s1 := s.renewNew p m
  if !writeShape m then (s1.dequeue p m).respond p m .badMsg []
  else if !msgNp m then s1.postWrite p m
  else if !s1.mayWrite p m then (s1.dequeue p m).respond p m .notOwner []
  else if !(s1.port p).posted.isEmpty then s1.holdMsg p m
  else
    let r := s1.runWrite p m
    match r.ended with
    | some st => r.answerWrite p m st
    | none => s1.holdMsg p m

def execRead (p : Fin 4) (msg : Msg) (s : State) : Host.Outcome State Fault Refusal :=
  .next (if s.portUp p.val then s.readCmd p.val msg else s)
def execWrite (p : Fin 4) (msg : Msg) (s : State) : Host.Outcome State Fault Refusal :=
  .next (if s.portUp p.val then s.writeCmd p.val msg else s)

/-! ### Posted writes (R382, R383) -/

/-- R382: the words of the oldest posted write executed. -/
def State.runPosted (s : State) (p : Nat) (w : Posted) : Words :=
  if spans w.addr w.words.length then ⟨s, 0, [], some .badAddress⟩ else writeWords p (some w.epoch) w.words w.addr s

/-- R383: the posted write at the head ends with a status. -/
def Words.endPosted (r : Words) (p : Nat) (w : Posted) (st : Status) : State :=
  if st = .ok then { r.after.postedEnd p with lastStatus := .ok }
  else (r.after.postedEnd p).postedFail p { w with addr := w.addr + 4 * r.done } st

def State.postedRun (s : State) (p : Nat) : State :=
  match (s.port p).posted with
  | [] => s
  | w :: _ =>
    let r := s.runPosted p w
    match r.ended with
    | some st => r.endPosted p w st
    | none => s

def execPostedWriteExecute (p : Fin 4) (s : State) : Host.Outcome State Fault Refusal :=
  .next (if s.dom 1 then s.postedRun p.val else s)

/-! ### Timeouts (R379, R461) -/

/-- R379: the message at the head of a port's input queue, held by one of its words, ends with TIMEOUT at that word. -/
def State.headTimeout (s : State) (p : Nat) : State :=
  match (s.port p).inq with
  | [] => s
  | m :: _ =>
    if m.opcode == 1 && readShape m then
      let r := s.runRead p m
      if r.ended.isNone then r.answerRead p m .timeout else s
    else if m.opcode == 2 && msgNp m && writeShape m && s.mayWrite p m && (s.port p).posted.isEmpty then
      let r := s.runWrite p m
      if r.ended.isNone then r.answerWrite p m .timeout else s
    else s

/-- R383: the posted write at the head of a port's queue, held by one of its words, fails with TIMEOUT. -/
def State.postedTimeout (s : State) (p : Nat) : State :=
  match (s.port p).posted with
  | [] => s
  | w :: _ =>
    let r := s.runPosted p w
    if r.ended.isNone then r.endPosted p w .timeout else s

/-- A conductor's BUSR, and its oldest BUSW, that must wait end with TIMEOUT. -/
def State.busrTimeout (s : State) (k : Nat) : State :=
  match (s.core (1024 + k)).busr with
  | some (rd, a) => if s.busAlive k && (s.busRead (5 + k) none a).isNone then s.busrEnd k rd .timeout 0 else s
  | none => s
def State.buswTimeout (s : State) (k : Nat) : State :=
  match (s.core (1024 + k)).busw with
  | (a, v) :: _ => if (s.busWrite (5 + k) none a v).isNone then s.buswEnd k .timeout else s
  | [] => s

/-- R461: an access held for 1 ms, by master: the ports, the service core (which has none here), the conductors. -/
def State.accessTimeout (s : State) (m : Nat) (posted : Bool) : State :=
  if m < 4 then (if posted then s.postedTimeout m else s.headTimeout m)
  else if 5 ≤ m then (if posted then s.buswTimeout (m - 5) else s.busrTimeout (m - 5))
  else s

def execAccessTimeout (m : Fin 7) (posted : Bool) (s : State) : Host.Outcome State Fault Refusal :=
  .next (s.accessTimeout m.val posted)

/-! ### RESET (R390, R452) -/

/-- R390: a RESET may be made: by the owner, or with no owner by an eligible port. -/
def State.mayReset (s : State) (p : Nat) : Bool := s.isOwner p || (s.owner?.isNone && s.eligible p)

/-- R376, R390: RESET: the reset of RESET_N reach follows the response. -/
def State.resetCmd (s : State) (p : Nat) (m0 : Msg) : State :=
  let m := { m0 with opcode := 7 }
  let s1 := (s.renewNew p m).dequeue p m
  if !m.payload.isEmpty then s1.respond p m .badMsg []
  else if s1.mayReset p then (s1.respond p m .ok []).resetN 3
  else s1.respond p m .notOwner []

def execTetherReset (p : Fin 4) (msg : Msg) (s : State) : Host.Outcome State Fault Refusal :=
  .next (if s.portUp p.val then s.resetCmd p.val msg else s)

end Sys2Proof.Machine
end

