-- ==== Sys2Proof/Machine/Debug.lean ====
section
/-! DEFINITION. Engine debug over the ports and JTAG (R489 to R493). -/
namespace Sys2Proof.Machine

/-! ### Targets (R491) -/

/-- R491: the statuses of engine debug. -/
def dDENIED : Status := .dbg 0x10
def dTOKEN : Status := .dbg 0x11
def dRUNNING : Status := .dbg 0x12
def dHEARTBEAT : Status := .dbg 0x13
def dTARGET : Status := .dbg 0x14

/-- R491: a core that debug reaches: on, and not HALTED, in BIST or under self-test. -/
def State.dbgReach (s : State) (t : Nat) : Bool :=
  if t < 1024 then s.dom (domDig (stripeOf t)) && s.coreAlive t
  else if t < 1026 then s.dom (domKeel (t - 1024)) && s.role (t - 1024) < rRESET && s.condState (t - 1024) == cdRUNNING
  else false

/-- A core that runs the library ROM, of whose registers the spec gives no use (notes/assumptions/42.md). -/
def State.romCore (s : State) (c : Nat) : Bool := !isCond c && !s.on (Reg.CORE_CTRL_LEVEL c)

/-! ### Operations on a core (R491, R493) -/

/-- The PC as debug reports it. -/
def State.dbgPc (s : State) (c : Nat) : State × Nat := if s.romCore c then (s.spend, s.fresh 16) else (s, (s.core c).pc)

/-- R493: an instruction of the core is in progress: a WAIT, BUSR or BFENCE. -/
def State.dbgInside (s : State) (c : Nat) : Bool :=
  (s.core c).waiting.isSome || (s.core c).busr.isSome || (s.core c).bfence

/-- R493: DHALT: at the next instruction boundary; no answer while a BUSR or BFENCE is in progress. -/
def State.dbgHaltCore (s : State) (c : Nat) : State × Option (Status × Nat) :=
  if (s.core c).busr.isSome || (s.core c).bfence then (s, none)
  else
    let r := ((s.wake c).debugHalt c).dbgPc c
    (r.1, some (.ok, r.2))

/-- The word at the PC. -/
def State.dbgWord (s : State) (c : Nat) : Nat := s.readLe (codeAddr c (s.core c).pc) 4

/-- R179, R493: the next instruction cannot be executed now: one is in progress, or it is a BUSW with 16 writes outstanding. -/
def State.dbgStalls (s : State) (c : Nat) : Bool :=
  s.dbgInside c || (isCond c && decide (16 ≤ (s.core c).busw.length) && legal c (s.dbgWord c) && wOp (s.dbgWord c) == 0x3F && wFn (s.dbgWord c) == 1)

/-- R493: one instruction of a debug-halted core; an interrupt that is due is entered first. -/
def State.dbgStep (s : State) (c : Nat) : State :=
  let s1 := if s.irqDue c then s.irqEnter c else s
  s1.fetch c (s1.dbgWord c) (fun a => a.runWord c (s1.dbgWord c))

/-- R493: a number of instructions are executed, as far as they can be now, a WAIT to its end; how many are left.  None is left of a
core that a reset has released meanwhile, or that runs the library ROM (notes/assumptions/42.md). -/
def State.dbgSteps (c : Nat) : Nat → State → State × Nat
  | 0, s => (if s.waitOver c then s.waitFinish c else s, 0)
  | n + 1, s =>
    let s1 := if s.waitOver c then s.waitFinish c else s
    if !(s1.core c).dbgHalt || !s1.coreLive c || s1.romCore c then (s1, 0)
    else if s1.dbgStalls c then (s1, n + 1)
    else State.dbgSteps c n (s1.dbgStep c)

/-- R493: DSTEP of `who` (a port, or 4 for JTAG): it is answered when its last instruction has been executed; until then the core keeps
how many are left. -/
def State.dbgStepping (s : State) (who c count : Nat) : State × Option (Status × Nat) :=
  let run := fun (n : Nat) =>
    let r := State.dbgSteps c n s
    let k := r.1.core c
    if r.2 = 0 ∧ !(k.dbgHalt && r.1.dbgInside c) then
      let p := (r.1.setCore c { k with stepping := none }).dbgPc c
      (p.1, some (Status.ok, p.2))
    else (r.1.setCore c { k with stepping := some (who, r.2) }, none)
  match (s.core c).stepping with
  | some (w, n) => if w = who then run n else (s, none)
  | none => run count

/-- R491: DBRK: breakpoint `i` set or cleared. -/
def State.dbgBrk (s : State) (c i : Nat) (en : Bool) (at0 : Nat) : State :=
  let rest := (s.core c).brks.filter (fun b => b / 65536 ≠ i)
  s.setCore c { s.core c with brks := if en then insertSorted (i * 65536 + at0) rest else rest }

/-- R491: the registers that DRD and DWR name. -/
def dbgReg (c r : Nat) : Bool := decide (r < 20) || r == 0x20 || (decide (0x100 ≤ r) && csrListed c (r - 0x100))

/-- R491: DRD. -/
def State.dbgRead (s : State) (c r : Nat) : State × Nat :=
  if s.romCore c then (s.spend, s.fresh 64)
  else if r < 20 then (s, s.rg c r)
  else if r = 0x20 then (s, (s.core c).pc)
  else (s.spend, s.csrGet c (r - 0x100))

/-- R491: DWR; `none` for an internal register that is RO. -/
def State.dbgWrite (s : State) (c r v : Nat) : Option State :=
  let k := s.core c
  if r < 20 then some (s.setCore c (k.setReg r v (k.tag r)))
  else if r = 0x20 then some (s.setCore c { k with pc := v % codeSize c })
  else (k.csrPut (r - 0x100) v).map (fun k1 => s.setCore c k1)

/-- R491: what an operation of `who` does and answers, its status and result; no answer while it must wait. -/
def State.dbgCore (s : State) (who op c arg data : Nat) : State × Option (Status × Nat) :=
  let halted := (s.core c).dbgHalt
  match op with
  | 0x13 => if isCond c && s.on (Reg.CD_CTRL_HBEN (c - 1024)) then (s, some (dHEARTBEAT, 0)) else s.dbgHaltCore c
  | 0x14 => (s.debugRun c, some (.ok, 0))
  | 0x15 => if !halted then (s, some (dRUNNING, 0)) else s.dbgStepping who c arg
  | 0x16 => (s.dbgBrk c arg (data.testBit 16) (data % 65536), some (.ok, 0))
  | 0x17 =>
    if !halted then (s, some (dRUNNING, 0))
    else (let r := s.dbgRead c arg; (r.1, some (.ok, r.2)))
  | _ =>
    if !halted then (s, some (dRUNNING, 0))
    else match s.dbgWrite c arg data with
      | some s1 => (s1, some (.ok, 0))
      | none => (s, some (.prot, 0))

/-- R491: an operation's arguments are in their ranges: a count of 1 or more, a breakpoint of 0 to 3, a register. -/
def dbgArg (op c arg : Nat) : Bool :=
  match op with
  | 0x15 => decide (1 ≤ arg)
  | 0x16 => decide (arg ≤ 3)
  | 0x17 => dbgReg c arg
  | 0x18 => dbgReg c arg
  | _ => true

/-- R491: an operation on a target that has F2 behind it. -/
def State.dbgOp (s : State) (who op t arg data : Nat) : State × Option (Status × Nat) :=
  if !s.dbgReach t then (s, some (dTARGET, 0))
  else if !dbgArg op t arg then (s, some (.badMsg, 0))
  else s.dbgCore who op t arg data

/-! ### The opcodes of the ports (R491) -/

/-- R491: the payload length of an opcode. -/
def dbgLen (op : Nat) : Nat :=
  match op with
  | 0x10 => 0
  | 0x11 => 164
  | 0x12 => 0
  | 0x13 => 2
  | 0x14 => 2
  | 0x15 => 4
  | 0x16 => 6
  | 0x17 => 4
  | _ => 12

/-- R491: argument and data of an opcode on a target. -/
def dbgArgs (op : Nat) (pl : List Byte) : Nat × Nat :=
  match op with
  | 0x15 => (fieldOf pl 2 2, 0)
  | 0x16 => (fieldOf pl 2 1, fieldOf pl 4 2 + (if fieldOf pl 3 1 = 0 then 0 else 65536))
  | 0x17 => (fieldOf pl 2 2, 0)
  | 0x18 => (fieldOf pl 2 2, fieldOf pl 4 8)
  | _ => (0, 0)

/-- R491: the bytes of a result. -/
def dbgBytes (op v : Nat) : List Byte :=
  match op with
  | 0x13 => leBytes 2 v
  | 0x15 => leBytes 2 v
  | 0x17 => leBytes 8 v
  | _ => []

/-- R487, R491: DUNLOCK and DLOCK are permitted. -/
def State.dbgPermitted (s : State) : Bool := s.dom 1 && (s.pwr == 2 || s.armed) && facCode s.lc 2 != 0

/-- R491: DUNLOCK: SEC_STAT, or TOKEN with the cause in SEC_RES; rejected while SEC_CMD is busy. -/
def State.dbgUnlock (s : State) (t : List Byte) : State × Status × List Byte :=
  if s.on Reg.SEC_STAT_BUSY then (s, .prot, [])
  else
    let s1 := s.secUnlock t
    if s1.get Reg.SEC_RES_CODE = 0 then (s1, .ok, leBytes 4 (s1.regRead 3 0x90000).2.2) else (s1, dTOKEN, [])

/-- R390, R491, R493: an engine debug command of a port; no answer while it must wait, DUNLOCK and DLOCK too while the service core is
debug-halted. -/
def State.dbgPort (s : State) (p op : Nat) (pl : List Byte) : State × Option (Status × List Byte) :=
  if pl.length ≠ dbgLen op then (s, some (.badMsg, []))
  else if op = 0x10 then (s, some (.ok, s.regBytes Reg.SEC_NONCE_W 4))
  else if !s.isOwner p then (s, some (.notOwner, []))
  else if op = 0x11 ∨ op = 0x12 then
    if !s.dbgPermitted then (s, some (dDENIED, []))
    else if s.sec.halted then (s, none)
    else if op = 0x11 then (let r := s.dbgUnlock pl; (r.1, some r.2))
    else if s.on Reg.SEC_STAT_BUSY then (s, some (.prot, []))
    else (s.secLock, some (.ok, []))
  else if !s.fac 2 then (s, some (dDENIED, []))
  else
    let a := dbgArgs op pl
    let r := s.dbgOp p op (fieldOf pl 0 2) a.1 a.2
    (r.1, r.2.map (fun x => (x.1, if x.1 = .ok then dbgBytes op x.2 else [])))

/-- An engine debug message. -/
def State.dbgCmd (s : State) (p op : Nat) (m0 : Msg) : State :=
  let m := { m0 with opcode := BitVec.ofNat 8 op }
  let s1 := s.renewNew p m
  match s1.dbgPort p op m.payload with
  | (s2, some (st, pl)) => (s2.dequeue p m).respond p m st pl
  | (s2, none) => s2.holdMsg p m

/-- R392: on a port that works. -/
def State.dbgAt (s : State) (p op : Nat) (m : Msg) : State := if s.portUp p then s.dbgCmd p op m else s

def execDchal (p : Fin 4) (msg : Msg) (s : State) : Host.Outcome State Fault Refusal := .next (s.dbgAt p.val 0x10 msg)
def execDunlock (p : Fin 4) (msg : Msg) (s : State) : Host.Outcome State Fault Refusal := .next (s.dbgAt p.val 0x11 msg)
def execDlock (p : Fin 4) (msg : Msg) (s : State) : Host.Outcome State Fault Refusal := .next (s.dbgAt p.val 0x12 msg)
def execDhalt (p : Fin 4) (msg : Msg) (s : State) : Host.Outcome State Fault Refusal := .next (s.dbgAt p.val 0x13 msg)
def execDrun (p : Fin 4) (msg : Msg) (s : State) : Host.Outcome State Fault Refusal := .next (s.dbgAt p.val 0x14 msg)
def execDstep (p : Fin 4) (msg : Msg) (s : State) : Host.Outcome State Fault Refusal := .next (s.dbgAt p.val 0x15 msg)
def execDbrk (p : Fin 4) (msg : Msg) (s : State) : Host.Outcome State Fault Refusal := .next (s.dbgAt p.val 0x16 msg)
def execDrd (p : Fin 4) (msg : Msg) (s : State) : Host.Outcome State Fault Refusal := .next (s.dbgAt p.val 0x17 msg)
def execDwr (p : Fin 4) (msg : Msg) (s : State) : Host.Outcome State Fault Refusal := .next (s.dbgAt p.val 0x18 msg)

/-- R489: the identification code of revision 1. -/
def idcode : Nat := 0x1D13156B

end Sys2Proof.Machine
end

