-- ==== Sys2Proof/Machine/Pins.lean ====
section
/-! DEFINITION. How the pins stand (R288, R370, R423, R462, R470, R490): each read from the state alone. -/
namespace Sys2Proof.Machine

/-- R462: how a pin stands: driven low or high, pulled weakly low or high, released (high impedance, electrical idle); and under the
instructions of IEEE 1149.6 one pulse to a level, or a train of them. -/
inductive PinLevel where
  | low
  | high
  | weakLow
  | weakHigh
  | released
  | pulse (b : Bool)
  | train (b : Bool)
  deriving DecidableEq, Repr

/-- R489, R490: a boundary instruction that drives pins is in effect. -/
def State.scanDrives (s : State) : Bool := s.dom 1 && [0, 3, 4, 5, 6].contains (s.get Reg.JTAG_STAT_IR)

/-- R490: pins that the device can drive; the domain that powers a pin. -/
def pinDrives : ScanPin → Bool
  | .tx _ => true
  | .tethOut _ => true
  | .scl => true
  | .sda => true
  | .txd => true
  | .irqN => true
  | .trigOut => true
  | .permit _ => true
  | .mem _ _ => true
  | _ => false
def pinDomain : ScanPin → Nat
  | .tx i => 21 + i.val / 4
  | .rx _ => 30
  | .refIn _ => 2
  | .tin _ => 35
  | .gate _ => 35
  | .trigOut => 33
  | .mem ch _ => 31 + ch.val / 2
  | .resetN => 0
  | .irqN => 0
  | .permit _ => 0
  | _ => 1

/-- R489, R490: what a boundary instruction makes of a pin, in place of its function: SRC_PERMIT low, HIGHZ releases the others, the lane
pins pulse under the 1149.6 instructions, and a pin is otherwise as its cell says, an open-drain one released for 1. -/
def State.scanPin (s : State) (p : ScanPin) : Option PinLevel :=
  let b := s.jtag.bound.contains p
  let ir := s.get Reg.JTAG_STAT_IR
  if !(s.scanDrives && pinDrives p && s.dom (pinDomain p)) then none
  else
    match p with
    | .permit _ => some .low
    | .tx _ => some (if ir = 4 then .released else if ir = 5 then .pulse b else if ir = 6 then .train b else if b then .high else .low)
    | .scl => some (if b || ir = 4 then .released else .low)
    | .sda => some (if b || ir = 4 then .released else .low)
    | .irqN => some (if b || ir = 4 then .released else .low)
    | _ => some (if ir = 4 then .released else if b then .high else .low)

/-- R288 to R290, R462, R490: SRC_PERMITp: released without AON (the board pulls it low), low without a grant and under a scan. -/
def State.permitPin (s : State) (p : Fin 2) : PinLevel :=
  if !s.dom 0 then .released
  else (s.scanPin (.permit p)).getD (if s.active?.isSome && (s.pin p.val).high then .high else .low)

/-- R462: the driver of TX slot `i` is on; else the pair is in electrical idle.  A boundary instruction drives it (R489). -/
def State.txDriven (s : State) (i : Fin 36) : Bool :=
  match s.scanPin (.tx i) with
  | some l => l != .released
  | none => s.dom (21 + i.val / 4) && s.on (Reg.LN_TXCTRL_EN i.val)

/-- R462: inputs are terminated while their domain is on: RX lanes, REFA and REFB, TIN0 to TIN3 with GATE0 and GATE1. -/
def State.rxTerminated (s : State) : Bool := s.dom 30
def State.refTerminated (s : State) : Bool := s.dom 2
def State.tinTerminated (s : State) : Bool := s.dom 35

/-- R370, R462: the bypass of tether port `p` is closed. -/
def State.bypassed (s : State) (p : Nat) : Bool := !(s.dom 1 && s.on (Reg.TH_CTRL_EN p))

/-- R423, R462: SENS pin `n` is driven by an excitation source. -/
def State.sensDriven (s : State) (n : Nat) : Bool := s.dom 34 && s.excites.any (fun e => e.2 == n)

/-- R424, R462: BIAS is off until a slot uses its channel; then a 10 MΩ resistor pulls SENS(2n) to the positive input limit, and another
holds SENS(2n+1) at mid-scale. -/
def State.sensPulledUp (s : State) (n : Nat) : Bool := s.dom 34 && s.biased.any (fun c => 2 * c == n)
def State.sensMidScale (s : State) (n : Nat) : Bool := s.dom 34 && s.biased.any (fun c => 2 * c + 1 == n)

/-- R462: AIN is connected to the digitiser. -/
def State.ainConnected (s : State) : Bool := s.dom 33 && s.on Reg.WAVE_CTRL_EN

/-- R437, R462: SCL and SDA are released by the controller that is off or idle, also after a lost arbitration. -/
def State.i2cReleased (s : State) : Bool := !(s.dom 1 && s.on Reg.I2C_CTRL_EN) || s.i2c.phase == 0 || s.i2c.phase == 3

/-- R462, R494: UART_TXD between characters. -/
def State.txdPin (s : State) : PinLevel := (s.scanPin .txd).getD (if s.dom 1 then .high else .weakHigh)

/-- R462, R470: IRQ_N; from a reset to the first step of its boot it is released. -/
def State.irqPin (s : State) : PinLevel := (s.scanPin .irqN).getD (if s.irqLow && !s.pw.inReset then .low else .released)

/-- R296, R462: the memories' RESET_n, and their CKE with it, are held. -/
def State.memHeld (s : State) : Bool := !s.on Reg.MC_CFG_EN || decide (s.mc.step ≤ 1)

/-- R462, R489: TDO outside a shift. -/
def tdoPin : PinLevel := .released

/-- R229, R462: TRIG_OUT. -/
def State.trigPin (s : State) : PinLevel :=
  if !s.dom 33 then .weakLow
  else (s.scanPin .trigOut).getD (if s.on Reg.TOUT_CFG_EN && s.wave.out then .high else .low)

/-- R489, R490: what the device itself gives the cell of a pin, where the state shows it: SRC_PERMIT and TRIG_OUT as they are meant,
IRQ_N where it is to be low. -/
def State.scanLevel (s : State) : ScanPin → Option Bool
  | .permit p => some (s.active?.isSome && (s.pin p.val).high)
  | .trigOut => if s.dom 33 then some (s.on Reg.TOUT_CFG_EN && s.wave.out) else none
  | .irqN => if s.irqLow && !s.pw.inReset then some false else none
  | _ => none

end Sys2Proof.Machine
end

