-- ==== Sys2Proof/Machine/Jtag.lean ====
section
/-! DEFINITION. The TAP: its instructions, the boundary register and ENGDBG (R489, R490, R492).  A row is a scan of the instruction
register and, where the instruction has one, of its data register. -/
namespace Sys2Proof.Machine

/-! ### Instructions and the boundary register (R489, R490) -/

/-- R489: what the instruction register captures. -/
def irCapture : Nat := 1

/-- R489: the listed instruction codes. -/
def jtagListed (ir : Nat) : Bool := decide (ir ≤ 6) || ir == 0x10 || ir == 0xFF

/-- R489, R490: the boundary cells that capture a 1: SRC_PERMIT, IRQ_N and TRIG_OUT as the device means to drive them, the others as the
board holds them (notes/assumptions/104.md). -/
def State.scanCells (s : State) (high : List ScanPin) : List ScanPin :=
  high.filter (fun p => s.scanLevel p != some false)
    ++ [.permit 0, .permit 1, .trigOut].filter (fun p => s.scanLevel p == some true && !high.contains p)

/-- R489, R492: the data register that Capture-DR loads: the identification code, the status and result of the last engine debug
operation, the boundary cells with the pins that the board holds high, or the bypass bit. -/
def State.jtagCapture (s : State) (high : List ScanPin) : ScanOut :=
  let ir := s.get Reg.JTAG_STAT_IR
  if ir = 2 then .word idcode
  else if ir = 0x10 then .word (s.jtag.status * 2 ^ 88 + s.jtag.result % 2 ^ 64)
  else if ir ≤ 1 ∨ ir = 5 ∨ ir = 6 then .cells (s.scanCells high)
  else .word 0

/-- R489: the instruction that takes effect at Update-IR: BYPASS in place of one that is not listed or not available. -/
def State.irTakes (s : State) (ir : Nat) : State :=
  if !jtagListed ir then s.put Reg.JTAG_STAT_IR 0xFF
  else if s.fac (jtagFac ir) then s.put Reg.JTAG_STAT_IR ir
  else (s.put Reg.JTAG_STAT_IR 0xFF).hwSet Reg.JTAG_STAT_DENY 1

/-- R489: a scan of the instruction register, and the Capture-DR that follows it. -/
def State.jtagIr (s : State) (ir : Nat) (high : List ScanPin) : State :=
  if !s.dom 1 then s
  else
    let s1 := s.irTakes ir
    { s1 with jtag := { s1.jtag with irOut := irCapture, drOut := s1.jtagCapture high } }

/-- R489: an instruction of the boundary register, and the Update-DR that follows it. -/
def State.jtagBound (s : State) (ir : Nat) (v : BoundScan) : State :=
  let s1 := s.jtagIr ir v.pins
  if s1.dom 1 && s1.get Reg.JTAG_STAT_IR == ir then { s1 with jtag := { s1.jtag with bound := v.cells } } else s1

def execExtest (v : BoundScan) (s : State) : Host.Outcome State Fault Refusal := .next (s.jtagBound 0x00 v)
def execSamplePreload (v : BoundScan) (s : State) : Host.Outcome State Fault Refusal := .next (s.jtagBound 0x01 v)
def execIdcode (s : State) : Host.Outcome State Fault Refusal := .next (s.jtagIr 0x02 [])
def execClamp (s : State) : Host.Outcome State Fault Refusal := .next (s.jtagIr 0x03 [])
def execHighz (s : State) : Host.Outcome State Fault Refusal := .next (s.jtagIr 0x04 [])
def execExtestPulse (v : BoundScan) (s : State) : Host.Outcome State Fault Refusal := .next (s.jtagBound 0x05 v)
def execExtestTrain (v : BoundScan) (s : State) : Host.Outcome State Fault Refusal := .next (s.jtagBound 0x06 v)
def execBypass (ir : BitVec 8) (s : State) : Host.Outcome State Fault Refusal := .next (s.jtagIr ir.toNat [])

/-- R489: Test-Logic-Reset and TRST_N select IDCODE. -/
def State.jtagReset (s : State) : State :=
  if s.dom 1 then { s.put Reg.JTAG_STAT_IR 0x02 with jtag := { s.jtag with drOut := .word idcode } } else s
def execTestLogicReset (s : State) : Host.Outcome State Fault Refusal := .next s.jtagReset

/-! ### ENGDBG (R492, R493) -/

/-- R491, R493: an operation on the service core: DHALT, DRUN and DSTEP; its registers are not given, so that reads are
free. -/
def State.dbgService (s : State) (op : Nat) : State × Status × Nat :=
  match op with
  | 0x13 => ({ s with sec := { s.sec with halted := true } }.spend, .ok, s.fresh 16)
  | 0x14 => ({ s with sec := { s.sec with halted := false } }, .ok, 0)
  | 0x16 => (s, .ok, 0)
  | 0x15 => if s.sec.halted then (s.spend, .ok, s.fresh 16) else (s, dRUNNING, 0)
  | 0x17 => if s.sec.halted then (s.spend, .ok, s.fresh 64) else (s, dRUNNING, 0)
  | _ => if s.sec.halted then (s, .ok, 0) else (s, dRUNNING, 0)

/-- R492: an operation has ended: the status and result that the next Capture-DR returns. -/
def State.jtagEnd (s : State) (st : Status) (v : Nat) : State :=
  { s with jtag := { s.jtag with op := none, status := st.code, result := v } }

/-- R492, R493: an engine debug operation, or what is left of it: it ends, or waits for an instruction boundary. -/
def State.engRun (s : State) (op t arg data : Nat) : State :=
  if op < 0x13 ∨ 0x18 < op then s.jtagEnd .badMsg 0
  else if t = 0x402 then
    let r := s.dbgService op
    r.1.jtagEnd r.2.1 r.2.2
  else
    match s.dbgOp 4 op t arg data with
    | (s1, some (st, v)) => s1.jtagEnd st v
    | (s1, none) => { s1 with jtag := { s1.jtag with op := some (op, t, arg, data) } }

/-- R492: what the previous operation has come to when the next scan begins; one that still waits gives way to the next
(notes/assumptions/104.md). -/
def State.engLast (s : State) : State :=
  match s.jtag.op with
  | some (op, t, arg, data) =>
    let s1 := if s.fac 2 then s.engRun op t arg data else s
    let k := s1.core t
    let s2 := match s1.jtag.op, k.stepping with
      | some _, some (4, _) => s1.setCore t { k with stepping := none }
      | _, _ => s1
    { s2 with jtag := { s2.jtag with op := none } }
  | none => s

/-- R492: a scan of ENGDBG: Capture-DR, then one operation at Update-DR. -/
def State.engdbg (s : State) (op t arg data : Nat) : State :=
  let s1 := (if s.dom 1 then s.engLast else s).jtagIr 0x10 []
  if s1.dom 1 && s1.get Reg.JTAG_STAT_IR == 0x10 then s1.engRun op t arg data else s1

def execEngdbg (op : BitVec 8) (target : BitVec 11) (arg : BitVec 13) (data : Word64) (s : State) :
    Host.Outcome State Fault Refusal :=
  .next (s.engdbg op.toNat target.toNat arg.toNat data.toNat)

end Sys2Proof.Machine
end

