-- ==== Sys2Proof/Machine/Triple.lean ====
section
/-! DEFINITION. Triple-held state (R502): register fields and the state registers of the control state machines. -/
namespace Sys2Proof.Machine

/-- R506: the SOURCE of a block's entries by the address of its registers. -/
def sourceOf (a : Nat) : Nat :=
  if a < 0x10000 then 21 else if a < 0x10100 then 19 else if a < 0x20000 then 13 else if a < 0x28000 then 12
  else if a < 0x30000 then 1 else if a < 0x40000 then 9 else if a < 0x50000 then 17 else if a < 0x60000 then 5
  else if a < 0x70000 then 14 else if a < 0x70100 then 15 else if a < 0x80000 then 19 else if 0x80080 ≤ a ∧ a < 0x80100 then 10
  else if a < 0x90000 then 18 else if a < 0xA0000 then 16 else if a < 0xA0400 then 19 else if a < 0x100000 then 20
  else if a < 0x200000 then
    (let o := a % 0x80000
     if 0x20000 ≤ o ∧ o < 0x30000 then 6 else if 0x40000 ≤ o ∧ o < 0x50000 then 7 else 11)
  else if a < 0x380000 then 8 else if a < 0x400000 then 7 else if 0xD000 ≤ a % 0x10000 then 3 else 4

/-- R505: the UNIT of a register's block: its region, keel, slot or RX lane, else 0. -/
def unitAt (a : Nat) : Nat :=
  if 0x40000000 ≤ a then (a - 0x40000000) / 0x10000
  else if 0x100000 ≤ a ∧ a < 0x200000 then (a - 0x100000) / 0x80000
  else if 0x301000 ≤ a ∧ a < 0x301480 then (a - 0x301000) / 0x20
  else if 0x302000 ≤ a ∧ a < 0x302080 then (a - 0x302000) / 0x20
  else 0

/-- R13: the field whose lowest bit has this key. -/
def fieldOfKey (key : Nat) : Option Field := (regAt (key / 8)).bind (fun r => r.1.find? (fun f => f.key == key))

/-- R455, R457: the reset value of a field: for those that an option byte sets, that byte's; for the candidate of a TX slot, that of the
board table (R343). -/
def State.resetValue (s : State) (f : Field) : Nat :=
  let a := f.key / 8
  if f = Reg.PR_DWDOG_EN then b2n (decide (s.optByte 13 ≠ 0))
  else if f = Reg.PR_DWDOG_PERIOD then s.optByte 13
  else if f = Reg.PR_STATE_TARGET then (if s.optByte 12 = 1 then 1 else 2)
  else if f = Reg.ARB_CTRL_PREF then s.optByte 14 % 2
  else if f = Reg.OWN_CFG_LEASE then s.optByte 10 + 256 * s.optByte 11
  else if f = Reg.TU_CTRL_REFSEL then s.optByte 3 % 4
  else if f = Reg.UART_CFG_RATE then (if s.optByte 7 ≤ 5 then s.optByte 7 else 0)
  else if f = Reg.BR_PCAP_CAP 0 ∨ f = Reg.BR_PCAP_CAP 1 then s.optByte 5
  else if 0x10100 ≤ a ∧ a < 0x10140 then
    ofLeBytes ((List.range 4).map (fun j => BitVec.ofNat 8 (s.optByte (a / 4 * 4 - 0x10100 + j))))
  else
    let i := (a - 0x301000) / 0x20
    if 0x301000 ≤ a ∧ a < 0x301480 ∧ f = Reg.LN_TXCTRL_CAND i then s.txDefault i else f.rst

/-- R502: a field that is held in three copies, by its access. -/
def Field.triple (f : Field) : Bool := f.acc == .rw || f.acc == .rwl || f.acc == .rwo

/-- R502: a field takes its reset value. -/
def State.fieldReset (s : State) (f : Field) : State := s.put f (s.resetValue f)

/-- R458, R506: the registers of a control state machine, which name its domain and, where it has no other, the SOURCE and UNIT of its
entries. -/
def controlAddr : Control → Nat
  | .power => 0x20000
  | .arbiter => 0x204
  | .owner => 0x80084
  | .bias st => 0x28020 + 0x100 * st.val
  | .loader n => 0x4000C000 + 0x10000 * n.val
  | .interpolator u _ => if u.val < 1024 then 0x4000D000 + 0x10000 * u.val else 0x40000
  | .core c => if c.val < 1024 then 0x4000C004 + 0x10000 * c.val else 0x150010 + 0x80000 * (c.val - 1024)
  | .adoption n => 0x4000C624 + 0x10000 * n.val
  | .slices => 0x50004
  | .digitiser => 0x50000
  | .stream k q => 0x130000 + 0x80000 * k.val + 0x20 * q.val
  | .commit k => 0x120004 + 0x80000 * k.val
  | .keel k => 0x150000 + 0x80000 * k.val
  | .memory => 0x380004
  | .txLane i => 0x301004 + 0x20 * i.val
  | .rxLane j => 0x302004 + 0x20 * j.val
  | .monitor => 0x60000
  | .i2c => 0x70008
  | .security => 0x90000
  | .port p => 0x80000 + 0x20 * p.val
  | .uart => 0x70104

/-- R506: the SOURCE of a control state machine's entries. -/
def controlSource : Control → Nat
  | .loader _ => 1
  | .interpolator _ _ => 2
  | m => sourceOf (controlAddr m)

/-- R505: their UNIT. -/
def controlUnit : Control → Nat
  | .port p => p.val
  | .interpolator u _ => unitOf u.val
  | m => unitAt (controlAddr m)

/-- R502: a control state machine is in its reset state (notes/assumptions/102.md says what of each that is). -/
def State.controlReset (s : State) : Control → State
  | .power => ({ s with pw := { s.pw with stage := 0, boot := 3 } }.put Reg.PR_STATE_STATE 5).put Reg.PR_STATE_BUSY 1
  | .arbiter => { (s.grantDrop).put Reg.ARB_STAT_PHASE 0 with failover := none, failUndo := none }
  | .owner => if s.optByte 2 ≥ 128 then s.own (s.optByte 2 % 4) else s.disown
  | .bias st => s.fieldReset (Reg.STRIPE_STATE_BIAS st.val)
  | .loader n => s.setRegion n { s.region n with shifting := none }
  | .interpolator u i => s.setInterp u i { s.interp u i with phase := .free }
  | .core c => if c.val < 1024 then s.fieldReset (Reg.CORE_STAT_STATE c.val) else s.fieldReset (Reg.CD_CTRL_STATE (c.val - 1024))
  | .adoption n => s.fieldReset (Reg.ADOPT_STAT_STATE n.val)
  | .slices => ((s.fieldReset Reg.WAVE_STAT_ROLE_P0).fieldReset Reg.WAVE_STAT_ROLE_P1).fieldReset Reg.WAVE_STAT_ROLE_T
  | .digitiser => s.setWave { s.wave with phase := 0 }
  | .stream k q => s.fieldReset (Reg.ST_CTRL_STATE k.val q.val)
  | .commit k => (s.setKeel k { s.keel k with commitT := none }).fieldReset (Reg.BR_STAT_BUSY k.val)
  | .keel k => s.fieldReset (Reg.KL_STAT_ROLE k.val)
  | .memory => { s with mc := { s.mc with step := 0, busy := 0 } }.fieldReset Reg.MC_STAT_READY
  | .txLane i => s.fieldReset (Reg.LN_TXSTAT_HSTATE i.val)
  | .rxLane j => (s.setRx j { s.rx j with lk := RxLk.reset }).fieldReset (Reg.LN_RXSTAT_STATE j.val)
  | .monitor => { s with mon := { s.mon with rslot := none, islot := none, again := false, late := false, ireq := false, startAt := none, pendAt := none } }
  | .i2c => { s with i2c := { s.i2c with phase := 0, wants := false } }.fieldReset Reg.I2C_STAT_BUSY
  | .security => { s with sec := { s.sec with op := none } }.fieldReset Reg.SEC_STAT_BUSY
  | .port p => s.setPort p { s.port p with inserted := false, insertDue := false, removeDue := false }
  | .uart => { s with uart := { s.uart with line := [], spoilt := 0, cr := 0 } }

/-- R502: the address of the registers of triple-held state, the SOURCE and UNIT of its entry, and its reset. -/
def tripleAddr : Triple → Nat
  | .field key => key / 8
  | .control m => controlAddr m
def tripleSource : Triple → Nat
  | .field key => sourceOf (key / 8)
  | .control m => controlSource m
def tripleUnit : Triple → Nat
  | .field key => unitAt (key / 8)
  | .control m => controlUnit m
def State.tripleReset (s : State) : Triple → State
  | .field key => match fieldOfKey key with
    | some f => s.fieldReset f
    | none => s
  | .control m => s.controlReset m

/-- R502: state that is held in three copies: a field of access RW, RWL or RWO, or a control state machine. -/
def tripleHeld : Triple → Bool
  | .field key => (fieldOfKey key).any Field.triple
  | .control _ => true

/-- R406, R502: the keel whose registers or state machine it is. -/
def tripleKeel? (x : Triple) : Option Nat :=
  if 0x100000 ≤ (tripleAddr x) ∧ (tripleAddr x) < 0x200000 then some (((tripleAddr x) - 0x100000) / 0x80000) else none

/-- R502: a copy of triple-held state of a domain that is on disagrees: rewritten and counted; where all three differ, it takes its reset
value, an error is logged, and in a keel the arbiter hears of it. -/
def State.tmrUpset (s : State) (x : Triple) (allDiffer : Bool) : State :=
  if !(tripleHeld x && s.dom (addrDom (tripleAddr x))) then s
  else
    let s1 := s.seu 7
    if allDiffer then
      let s2 := (s1.tripleReset x).errFree { sev := 3, src := (tripleSource x), code := 2, unit := (tripleUnit x) }
      match tripleKeel? x with
      | some k => s2.arbInput k 3
      | none => s2
    else s1

def execTmrUpset (key : Triple) (allDiffer : Bool) (s : State) : Host.Outcome State Fault Refusal :=
  .next (s.tmrUpset key allDiffer)

end Sys2Proof.Machine
end

