-- ==== Sys2Proof/Machine/Uart.lean ====
section
/-! DEFINITION. The UART receiver and the monitor, control port 3 (R494 to R499, R520). -/
namespace Sys2Proof.Machine

/-! ### The receiver (R495 to R498) -/

/-- R497: characters waiting for the monitor. -/
def State.uartWaiting (s : State) : Nat := sumOf (s.uart.lines.map (fun l => l.2.length + 1)) + s.uart.line.length

/-- R498: a line ends: it waits for the monitor; one that lost characters is discarded, one that was too long with ERR 0A. -/
def UartSt.endLine (u : UartSt) : UartSt :=
  let u1 := { u with line := [], spoilt := 0 }
  match u.spoilt with
  | 0 => { u1 with lines := u.lines ++ [(0, u.line)] }
  | 1 => u1
  | _ => { u1 with lines := u.lines ++ [(10, [])] }

/-- R498: a character of a line; a line longer than 600 characters is lost. -/
def UartSt.addChar (u : UartSt) (b : Byte) : UartSt :=
  if u.spoilt ≠ 0 then u
  else if 600 ≤ u.line.length then { u with line := [], spoilt := 2 }
  else { u with line := u.line ++ [b] }

/-- R497, R498: a character received; an LF that follows a CR belongs to the line that the CR ended. -/
def State.uartTake (s : State) (b : Byte) : State :=
  let full : Bool := 1024 ≤ s.uartWaiting
  let s1 := if full then s.hwSet Reg.UART_STAT_ROVR 1 else s
  let u0 := s1.uart
  if b = 10 ∧ u0.cr ≠ 0 then
    { s1 with uart := { u0 with cr := 0, lines := if full && u0.cr == 1 then u0.lines.dropLast else u0.lines } }
  else
    let u := if full then { u0 with line := [], spoilt := 1 } else u0
    { s1 with uart :=
        if b = 13 then { u.endLine with cr := if u.spoilt = 1 then 2 else 1 }
        else if b = 10 then { u.endLine with cr := 0 } else { u.addChar b with cr := 0 } }

/-- R495: the data bits of a character's samples, bit `i` the sample `i`. -/
def uartByte (v : Nat) : Byte := BitVec.ofNat 8 (sumOf ((List.range 8).map (fun k => b2n (v.testBit (16 * (k + 1) + 8)) * 2 ^ k)))

/-- R497: a framing error. -/
def State.uartFraming (s : State) (b : Byte) : State :=
  ((s.hwSet Reg.UART_STAT_FE 1).bump Reg.UART_STAT_FECNT 1).hwSet Reg.UART_STAT_BRK (b2n (b == 0))

/-- R495 to R497: the samples 0 to 152 of a character: sample 0 is low, and a high sample 8 confirms no start bit. -/
def State.uartChar (s : State) (v : Nat) : State :=
  if !s.dom 1 || v.testBit 0 || v.testBit 8 then s
  else if v.testBit 152 then s.uartTake (uartByte v)
  else s.uartFraming (uartByte v)

def execUartCharacter (samples : BitVec 153) (s : State) : Host.Outcome State Fault Refusal := .next (s.uartChar samples.toNat)

/-! ### The monitor's commands (R499, R520) -/

/-- A response of the monitor. -/
def State.sayOk (s : State) (fields : List (List Byte)) : State := { s with lastStatus := .ok }.printLine (okLine fields)
def State.sayErr (s : State) (st : Status) : State := { s with lastStatus := st }.printLine (errLine st.code [])

/-- R487, R498: the level that a command needs is set and its facility available. -/
def State.levelOk (s : State) (n : Nat) : Bool := decide (n ≤ s.get Reg.SEC_STAT_MLVL) && s.fac (3 + n)

/-- R387, R498, R499: a command of the monitor at level `n`. -/
def State.monDo (s : State) (n : Nat) (run : State → State) : State :=
  if !s.monAlive || s.uart.secWait then s
  else if !s.levelOk n then (s.renew 3).sayErr dDENIED
  else run (s.renew 3)

/-- The message that a command of port 3 stands for. -/
def monMsg (op : Nat) (payload : List Byte) : Msg :=
  { dest := 0, src := 0, tagw := 0x2000, opcode := BitVec.ofNat 8 op, status := 0, seq := 0, epoch := 0, payload := payload }

/-- R499: the commands by level. -/
def monNames : List (Nat × String) :=
  [(0, "HELP"), (0, "ID"), (0, "RD"), (0, "STAT"), (0, "LOG"), (0, "LIFE"), (0, "CHAL"), (0, "UNLOCK"), (0, "LEVEL"),
   (1, "CLAIM"), (1, "RELEASE"), (1, "HANDOVER"), (1, "WR"), (1, "FENCE"), (1, "STATE"), (1, "RESET"),
   (2, "STAGE"), (2, "SEC"), (2, "DBG")]
def State.monHelp (s : State) : State :=
  s.sayOk ((monNames.filter (fun e => decide (e.1 ≤ s.get Reg.SEC_STAT_MLVL))).map (fun e => ascii e.2))

def State.monId (s : State) : State :=
  s.sayOk [hexOf 16 (s.get Reg.SEC_DEVID_ID), hexOf 2 s.lc, hexOf 8 idcode, hexOf 2 (s.get Reg.SEC_MINSVN_N),
    hexOf 2 (s.get Reg.SEC_STAT_RECOV)]

/-- R499: RD. -/
def State.monRd (s : State) (a n : Nat) : State := s.readCmd 3 (monMsg 1 (leBytes 4 a ++ leBytes 2 n))

/-- A 32-bit register as the monitor prints it. -/
def State.monReg (s : State) (x : Nat) : List Byte := hexOf 8 (s.regRead 3 x).2.2
def State.monStat (s : State) : State := s.sayOk ([0x20000, 0x80084, 0x204, 0x90000].map s.monReg)

/-- R520: an entry of the error log as LOG prints it. -/
def State.monEntry (s : State) (i : Nat) : List Byte :=
  let w := fun j => hexOf 8 (s.regValue (0xA0100 + 16 * i + 4 * j) (match regAt (0xA0100 + 16 * i + 4 * j) with
    | some (fs, _, _) => fs
    | none => []))
  ascii "E" ++ ([hexOf 4 (s.get (Reg.EL_ENTRY0_SEQ i)), hexOf 2 (s.get (Reg.EL_ENTRY0_SEV i)),
    hexOf 2 (s.get (Reg.EL_ENTRY0_SOURCE i)), hexOf 2 (s.get (Reg.EL_ENTRY0_CODE i)), w 1, w 2, w 3]).flatMap (fun f => 32 :: f)
def State.monLog (s : State) : State :=
  (s.errOrder.foldl (fun a i => a.printLine (s.monEntry i)) s).sayOk []

/-- R520: LL_IMG as lines of an offset and 32 bytes. -/
def State.monLife (s : State) : State :=
  let b := lifeHalf (s.get Reg.LL_STAT_HALF)
  ((List.range 1024).foldl (fun a i => a.printLine (hexOf 4 (32 * i) ++ 32 :: hexBytes (s.readBytes (b + 32 * i) 32))) s).sayOk []

/-- R498: LEVEL. -/
def State.monSetLevel (s : State) (n : Nat) : State :=
  if n ≤ 2 ∧ s.fac (3 + n) then (s.put Reg.SEC_STAT_MLVL n).sayOk [] else s.sayErr dDENIED

/-- R390: what a command of port 3 that writes does where the port owns the device. -/
def State.monOwned (s : State) (run : State → State) : State :=
  let s1 := s.renew 3
  if s1.isOwner 3 then run s1 else s1.sayErr .notOwner

/-- R499: STATE: PR_STATE.TARGET. -/
def State.monState (s : State) (t : Nat) : State := s.writeCmd 3 (monMsg 2 (leBytes 4 0x20000 ++ leBytes 4 (t * 256)))

/-- R499, R500: STAGE. -/
def State.monStage (s : State) (o : Nat) (bs : List Byte) : State :=
  s.monOwned (fun a =>
    if 49152 < o + bs.length then a.sayErr .badAddress
    else if a.on Reg.SEC_STAT_BUSY then a.sayErr .prot
    else (a.writeBytes (secStage + o) bs).sayOk [])

/-- R499: SEC: it answers when BUSY clears. -/
def State.monSec (s : State) (op arg : Nat) : State :=
  s.monOwned (fun a =>
    let r := a.secWrite 3 (2 ^ 31 + op * 65536 + arg)
    if r.2 ≠ .ok then r.1.sayErr r.2
    else
      let w := { r.1 with lastStatus := .ok, uart := { r.1.uart with secWait := true } }
      if w.on Reg.SEC_STAT_BUSY then w else w.secAnswer)

/-- R499: DBG. -/
def State.monDbg (s : State) (op : Nat) (pl : List Byte) : State :=
  if 0x10 ≤ op ∧ op ≤ 0x18 then s.dbgCmd 3 op (monMsg op pl) else s.sayErr .badMsg

def execHelpPrint (s : State) : Host.Outcome State Fault Refusal := .next (s.monDo 0 (·.monHelp))
def execIdPrint (s : State) : Host.Outcome State Fault Refusal := .next (s.monDo 0 (·.monId))
def execRdWords (a : BitVec 32) (n : Fin 65) (s : State) : Host.Outcome State Fault Refusal :=
  .next (s.monDo 0 (·.monRd a.toNat n.val))
def execStatPrint (s : State) : Host.Outcome State Fault Refusal := .next (s.monDo 0 (·.monStat))
/-- R520. -/
def execLogPrint (s : State) : Host.Outcome State Fault Refusal := .next (s.monDo 0 (·.monLog))
/-- R520. -/
def execLifePrint (s : State) : Host.Outcome State Fault Refusal := .next (s.monDo 0 (·.monLife))
def execChalPrint (s : State) : Host.Outcome State Fault Refusal := .next (s.monDo 0 (fun a => a.dbgCmd 3 0x10 (monMsg 0x10 [])))
def execMonitorUnlock (token : List Byte) (s : State) : Host.Outcome State Fault Refusal :=
  .next (s.monDo 0 (fun a => a.dbgCmd 3 0x11 (monMsg 0x11 token)))
def execLevelSet (n : BitVec 8) (s : State) : Host.Outcome State Fault Refusal := .next (s.monDo 0 (·.monSetLevel n.toNat))
def execMonitorClaim (mac : List Byte) (late : Bool) (s : State) : Host.Outcome State Fault Refusal :=
  .next (s.monDo 1 (fun a => a.claimCmd 3 (monMsg 4 mac) late))
def execMonitorRelease (s : State) : Host.Outcome State Fault Refusal := .next (s.monDo 1 (fun a => a.releaseCmd 3 (monMsg 6 [])))
def execMonitorHandover (q : BitVec 8) (s : State) : Host.Outcome State Fault Refusal :=
  .next (s.monDo 1 (fun a => a.handoverCmd 3 (monMsg 5 [q])))
def execWrWord (a v : BitVec 32) (s : State) : Host.Outcome State Fault Refusal :=
  .next (s.monDo 1 (fun b => b.writeCmd 3 (monMsg 2 (leBytes 4 a.toNat ++ leBytes 4 v.toNat))))
def execMonitorFence (s : State) : Host.Outcome State Fault Refusal := .next (s.monDo 1 (fun a => a.fenceCmd 3 (monMsg 3 [])))
def execStateWrite (t : BitVec 3) (s : State) : Host.Outcome State Fault Refusal := .next (s.monDo 1 (·.monState t.toNat))
def execMonitorReset (s : State) : Host.Outcome State Fault Refusal := .next (s.monDo 1 (fun a => a.resetCmd 3 (monMsg 7 [])))
def execStageBytes (o : BitVec 16) (bytes : List Byte) (s : State) : Host.Outcome State Fault Refusal :=
  .next (s.monDo 2 (·.monStage o.toNat bytes))
def execSecCommand (op : BitVec 4) (arg : BitVec 16) (s : State) : Host.Outcome State Fault Refusal :=
  .next (s.monDo 2 (·.monSec op.toNat arg.toNat))
def execDbgOp (op : BitVec 8) (payload : List Byte) (s : State) : Host.Outcome State Fault Refusal :=
  .next (s.monDo 2 (·.monDbg op.toNat payload))

/-! ### Lines (R498, R499) -/

/-- The words of a line. -/
def tokensOf : List Byte → List Byte → List (List Byte)
  | [], cur => if cur.isEmpty then [] else [cur]
  | b :: r, cur =>
    if b = 32 then (if cur.isEmpty then tokensOf r [] else cur :: tokensOf r [])
    else tokensOf r (cur ++ [b])

/-- A hexadecimal digit; a number in hexadecimal; bytes in hexadecimal. -/
def digitOf (b : Byte) : Option Nat :=
  let v := b.toNat
  if 48 ≤ v ∧ v ≤ 57 then some (v - 48)
  else if 65 ≤ v ∧ v ≤ 70 then some (v - 55)
  else if 97 ≤ v ∧ v ≤ 102 then some (v - 87)
  else none
def numberFrom : List Byte → Nat → Option Nat
  | [], v => some v
  | b :: r, v =>
    match digitOf b with
    | some d => numberFrom r (16 * v + d)
    | none => none
def numberOf (t : List Byte) : Option Nat := if t.isEmpty then none else numberFrom t 0
def bytesOf : List Byte → Option (List Byte)
  | [] => some []
  | [_] => none
  | a :: b :: r =>
    match digitOf a, digitOf b, bytesOf r with
    | some x, some y, some l => some (BitVec.ofNat 8 (16 * x + y) :: l)
    | _, _, _ => none

/-- A number below a bound. -/
def numberUpTo (t : List Byte) (n : Nat) : Option Nat := (numberOf t).filter (fun v => decide (v < n))

/-- R388, R499: CLAIM with a MAC as a line: whether 100 ms have passed since the challenge is a free value where the time base has not run
all the while (notes/assumptions/92.md). -/
def State.claimLine (s : State) (mac : List Byte) : State :=
  if s.time.run && (s.port 3).nonceAt.isSome then s.claimCmd 3 (monMsg 4 mac) false
  else s.spend.claimCmd 3 (monMsg 4 mac) (s.fresh 1 == 1)

/-- R499: what a line asks for: its level and its effect; `none` for a line that is no command. -/
def monParse (l : List Byte) : Option (Nat × (State → State)) :=
  match tokensOf l [] with
  | [] => none
  | name :: args =>
    let is := fun (t : String) => name == ascii t
    match args with
    | [] =>
      if is "HELP" then some (0, (·.monHelp))
      else if is "ID" then some (0, (·.monId))
      else if is "STAT" then some (0, (·.monStat))
      else if is "LOG" then some (0, (·.monLog))
      else if is "LIFE" then some (0, (·.monLife))
      else if is "CHAL" then some (0, fun a => a.dbgCmd 3 0x10 (monMsg 0x10 []))
      else if is "CLAIM" then some (1, fun a => a.claimCmd 3 (monMsg 4 []) false)
      else if is "RELEASE" then some (1, fun a => a.releaseCmd 3 (monMsg 6 []))
      else if is "FENCE" then some (1, fun a => a.fenceCmd 3 (monMsg 3 []))
      else if is "RESET" then some (1, fun a => a.resetCmd 3 (monMsg 7 []))
      else none
    | x :: more =>
      if is "DBG" then
        match numberUpTo x 256, bytesOf (more.flatMap id) with
        | some op, some pl => some (2, (·.monDbg op pl))
        | _, _ => none
      else match more with
        | [] =>
          if is "RD" then (numberUpTo x (2 ^ 32)).map (fun a => (0, (·.monRd a 1)))
          else if is "UNLOCK" then (bytesOf x).map (fun t => (0, fun a => a.dbgCmd 3 0x11 (monMsg 0x11 t)))
          else if is "LEVEL" then (numberUpTo x 256).map (fun n => (0, (·.monSetLevel n)))
          else if is "CLAIM" then (bytesOf x).map (fun m => (1, (·.claimLine m)))
          else if is "HANDOVER" then (numberUpTo x 256).map (fun q => (1, fun a => a.handoverCmd 3 (monMsg 5 [BitVec.ofNat 8 q])))
          else if is "STATE" then (numberUpTo x 8).map (fun t => (1, (·.monState t)))
          else if is "SEC" then (numberUpTo x 16).map (fun op => (2, (·.monSec op 0)))
          else none
        | [y] =>
          if is "RD" then
            match numberUpTo x (2 ^ 32), numberUpTo y 65536 with
            | some a, some n => some (0, (·.monRd a n))
            | _, _ => none
          else if is "WR" then
            match numberUpTo x (2 ^ 32), numberUpTo y (2 ^ 32) with
            | some a, some v => some (1, fun b => b.writeCmd 3 (monMsg 2 (leBytes 4 a ++ leBytes 4 v)))
            | _, _ => none
          else if is "STAGE" then
            match numberUpTo x 65536, bytesOf y with
            | some o, some bs => some (2, (·.monStage o bs))
            | _, _ => none
          else if is "SEC" then
            match numberUpTo x 16, numberUpTo y 65536 with
            | some op, some arg => some (2, (·.monSec op arg))
            | _, _ => none
          else none
        | _ => none

/-- R498: the monitor answers a line. -/
def State.monAnswer (s : State) (st : Nat) (l : List Byte) : State :=
  if st ≠ 0 then s.sayErr .badMsg
  else match monParse l with
    | some (n, run) => s.monDo n run
    | none => (s.renew 3).sayErr .badMsg

/-- R498: the oldest complete line is parsed and answered, once the answer before it has been given. -/
def State.monLine (s : State) : State :=
  match s.uart.lines with
  | [] => s
  | (st, l) :: r =>
    if !s.monAlive || s.uart.secWait then s
    else { s with uart := { s.uart with lines := r } }.monAnswer st l

def execMonitorLine (s : State) : Host.Outcome State Fault Refusal := .next s.monLine

end Sys2Proof.Machine
end

