-- ==== Sys2Proof/Machine/Dispatch.lean ====
section
/-! DEFINITION. The one dispatch: each command to its meaning. -/
namespace Sys2Proof.Machine

def exec (i : Instr) (s : State) : Host.Outcome State Fault Refusal :=
  match i with
  | .registerWrite m epoch addr v => Sys2Proof.Machine.execRegisterWrite m epoch addr v s
  | .lowWordRead m addr => Sys2Proof.Machine.execLowWordRead m addr s
  | .pixelEdge p time => Sys2Proof.Machine.execPixelEdge p time s
  | .holdTake u input => Sys2Proof.Machine.execHoldTake u input s
  | .holdLineExpiry u input => Sys2Proof.Machine.execHoldLineExpiry u input s
  | .coincidence u i0 code => Sys2Proof.Machine.execCoincidence u i0 code s
  | .fineTimeCompute u i0 => Sys2Proof.Machine.execFineTimeCompute u i0 s
  | .interpolatorRelease u i0 => Sys2Proof.Machine.execInterpolatorRelease u i0 s
  | .ringFault u i0 => Sys2Proof.Machine.execRingFault u i0 s
  | .interpolatorReturn u i0 => Sys2Proof.Machine.execInterpolatorReturn u i0 s
  | .trailingEdge p time => Sys2Proof.Machine.execTrailingEdge p time s
  | .totSaturation p => Sys2Proof.Machine.execTotSaturation p s
  | .hitWordWrite p => Sys2Proof.Machine.execHitWordWrite p s
  | .configWordWrite n j v => Sys2Proof.Machine.execConfigWordWrite n j v s
  | .configTransfer n time upset => Sys2Proof.Machine.execConfigTransfer n time upset s
  | .configReadback p upset => Sys2Proof.Machine.execConfigReadback p upset s
  | .cfgStatClr st => Sys2Proof.Machine.execCfgStatClr st s
  | .stripeThrWrite st thr => Sys2Proof.Machine.execStripeThrWrite st thr s
  | .anaGlobalWrite v => Sys2Proof.Machine.execAnaGlobalWrite v s
  | .fire st => Sys2Proof.Machine.execFire st s
  | .testPulse st => Sys2Proof.Machine.execTestPulse st s
  | .testPulseReturn st => Sys2Proof.Machine.execTestPulseReturn st s
  | .testPulseTrainEnd st => Sys2Proof.Machine.execTestPulseTrainEnd st s
  | .fsumCommitRequest => Sys2Proof.Machine.execFsumCommitRequest s
  | .fsumCommit => Sys2Proof.Machine.execFsumCommit s
  | .biasApply st => Sys2Proof.Machine.execBiasApply st s
  | .biasSettled st => Sys2Proof.Machine.execBiasSettled st s
  | .calibrationEdge u i0 time => Sys2Proof.Machine.execCalibrationEdge u i0 time s
  | .calibrationAccept u i0 => Sys2Proof.Machine.execCalibrationAccept u i0 s
  | .rebuildComplete u i0 => Sys2Proof.Machine.execRebuildComplete u i0 s
  | .fretCommit u i0 => Sys2Proof.Machine.execFretCommit u i0 s
  | .ageIncrement u i0 => Sys2Proof.Machine.execAgeIncrement u i0 s
  | .manualCommit u i0 => Sys2Proof.Machine.execManualCommit u i0 s
  | .calibrationModeWrite u manual => Sys2Proof.Machine.execCalibrationModeWrite u manual s
  | .ageLimWrite u lim => Sys2Proof.Machine.execAgeLimWrite u lim s
  | .bclr n => Sys2Proof.Machine.execBclr n s
  | .shadowTableWrite u i0 j v => Sys2Proof.Machine.execShadowTableWrite u i0 j v s
  | .tinPinEdge i0 falling => Sys2Proof.Machine.execTinPinEdge i0 falling s
  | .prescaledEdge i0 time => Sys2Proof.Machine.execPrescaledEdge i0 time s
  | .edgeStamp i0 => Sys2Proof.Machine.execEdgeStamp i0 s
  | .gateChange gate level => Sys2Proof.Machine.execGateChange gate level s
  | .intervalAbandon i0 => Sys2Proof.Machine.execIntervalAbandon i0 s
  | .tinCfgWrite i0 v => Sys2Proof.Machine.execTinCfgWrite i0 v s
  | .tinStatClr => Sys2Proof.Machine.execTinStatClr s
  | .go n => Sys2Proof.Machine.execGo n s
  | .halt n => Sys2Proof.Machine.execHalt n s
  | .coreQuiesced n => Sys2Proof.Machine.execCoreQuiesced n s
  | .coreIdle n => Sys2Proof.Machine.execCoreIdle n s
  | .coreTimerExpiry n t => Sys2Proof.Machine.execCoreTimerExpiry n t s
  | .markEvent n => Sys2Proof.Machine.execMarkEvent n s
  | .coreWatchdog n => Sys2Proof.Machine.execCoreWatchdog n s
  | .wdogKick n => Sys2Proof.Machine.execWdogKick n s
  | .codeMemoryWrite n j v => Sys2Proof.Machine.execCodeMemoryWrite n j v s
  | .mboxPost n logical epoch msg => Sys2Proof.Machine.execMboxPost n logical epoch msg s
  | .bistStart n => Sys2Proof.Machine.execBistStart n s
  | .bistDone n fail => Sys2Proof.Machine.execBistDone n fail s
  | .adoptRequest n => Sys2Proof.Machine.execAdoptRequest n s
  | .returnRequest n => Sys2Proof.Machine.execReturnRequest n s
  | .adoptionSwitch n => Sys2Proof.Machine.execAdoptionSwitch n s
  | .adoptTimeout n => Sys2Proof.Machine.execAdoptTimeout n s
  | .interruptEntry c => Sys2Proof.Machine.execInterruptEntry c s
  | .add c rd ra rb => Sys2Proof.Machine.execAdd c rd ra rb s
  | .sub c rd ra rb => Sys2Proof.Machine.execSub c rd ra rb s
  | .and c rd ra rb => Sys2Proof.Machine.execAnd c rd ra rb s
  | .or c rd ra rb => Sys2Proof.Machine.execOr c rd ra rb s
  | .xor c rd ra rb => Sys2Proof.Machine.execXor c rd ra rb s
  | .shl c rd ra rb => Sys2Proof.Machine.execShl c rd ra rb s
  | .shr c rd ra rb => Sys2Proof.Machine.execShr c rd ra rb s
  | .sar c rd ra rb => Sys2Proof.Machine.execSar c rd ra rb s
  | .mul c rd ra rb => Sys2Proof.Machine.execMul c rd ra rb s
  | .mulhu c rd ra rb => Sys2Proof.Machine.execMulhu c rd ra rb s
  | .minu c rd ra rb => Sys2Proof.Machine.execMinu c rd ra rb s
  | .maxu c rd ra rb => Sys2Proof.Machine.execMaxu c rd ra rb s
  | .slt c rd ra rb => Sys2Proof.Machine.execSlt c rd ra rb s
  | .sltu c rd ra rb => Sys2Proof.Machine.execSltu c rd ra rb s
  | .clz c rd ra rb => Sys2Proof.Machine.execClz c rd ra rb s
  | .popc c rd ra rb => Sys2Proof.Machine.execPopc c rd ra rb s
  | .addi c rd ra imm => Sys2Proof.Machine.execAddi c rd ra imm s
  | .andi c rd ra imm => Sys2Proof.Machine.execAndi c rd ra imm s
  | .ori c rd ra imm => Sys2Proof.Machine.execOri c rd ra imm s
  | .xori c rd ra imm => Sys2Proof.Machine.execXori c rd ra imm s
  | .shli c rd ra imm => Sys2Proof.Machine.execShli c rd ra imm s
  | .shri c rd ra imm => Sys2Proof.Machine.execShri c rd ra imm s
  | .sari c rd ra imm => Sys2Proof.Machine.execSari c rd ra imm s
  | .ldi c rd ra imm => Sys2Proof.Machine.execLdi c rd ra imm s
  | .ins c rd qf imm => Sys2Proof.Machine.execIns c rd qf imm s
  | .ext c rd ra pos len1 low => Sys2Proof.Machine.execExt c rd ra pos len1 low s
  | .exts c rd ra pos len1 low => Sys2Proof.Machine.execExts c rd ra pos len1 low s
  | .dep c rd ra pos len1 low => Sys2Proof.Machine.execDep c rd ra pos len1 low s
  | .ld c rd ra imm => Sys2Proof.Machine.execLd c rd ra imm s
  | .lw c rd ra imm => Sys2Proof.Machine.execLw c rd ra imm s
  | .lh c rd ra imm => Sys2Proof.Machine.execLh c rd ra imm s
  | .lb c rd ra imm => Sys2Proof.Machine.execLb c rd ra imm s
  | .st c rd ra imm => Sys2Proof.Machine.execSt c rd ra imm s
  | .sw c rd ra imm => Sys2Proof.Machine.execSw c rd ra imm s
  | .sh c rd ra imm => Sys2Proof.Machine.execSh c rd ra imm s
  | .sb c rd ra imm => Sys2Proof.Machine.execSb c rd ra imm s
  | .hincH c rd ra rb => Sys2Proof.Machine.execHincH c rd ra rb s
  | .hincW c rd ra rb => Sys2Proof.Machine.execHincW c rd ra rb s
  | .beq c ra rb off => Sys2Proof.Machine.execBeq c ra rb off s
  | .bne c ra rb off => Sys2Proof.Machine.execBne c ra rb off s
  | .blt c ra rb off => Sys2Proof.Machine.execBlt c ra rb off s
  | .bge c ra rb off => Sys2Proof.Machine.execBge c ra rb off s
  | .bltu c ra rb off => Sys2Proof.Machine.execBltu c ra rb off s
  | .bgeu c ra rb off => Sys2Proof.Machine.execBgeu c ra rb off s
  | .bf c cond rb off => Sys2Proof.Machine.execBf c cond rb off s
  | .dbnz c ra off => Sys2Proof.Machine.execDbnz c ra off s
  | .jal c rd raf target => Sys2Proof.Machine.execJal c rd raf target s
  | .jalr c rd ra rb => Sys2Proof.Machine.execJalr c rd ra rb s
  | .hpopS c hd => Sys2Proof.Machine.execHpopS c hd s
  | .hpopA c hd => Sys2Proof.Machine.execHpopA c hd s
  | .hcnt c rd ra imm => Sys2Proof.Machine.execHcnt c rd ra imm s
  | .text c rd ra rb => Sys2Proof.Machine.execText c rd ra rb s
  | .walk c rd ra rb => Sys2Proof.Machine.execWalk c rd ra rb s
  | .tnow c rd ra imm => Sys2Proof.Machine.execTnow c rd ra imm s
  | .tsub c rd ra rb => Sys2Proof.Machine.execTsub c rd ra rb s
  | .bin c rd ra rb => Sys2Proof.Machine.execBin c rd ra rb s
  | .send c rs ra stream high => Sys2Proof.Machine.execSend c rs ra stream high s
  | .sendP c rs ra stream high => Sys2Proof.Machine.execSendP c rs ra stream high s
  | .wait c rd ra imm => Sys2Proof.Machine.execWait c rd ra imm s
  | .waitComplete c => Sys2Proof.Machine.execWaitComplete c s
  | .eclr c rd ra imm => Sys2Proof.Machine.execEclr c rd ra imm s
  | .mpop c rd ra imm => Sys2Proof.Machine.execMpop c rd ra imm s
  | .msg c rd ra imm => Sys2Proof.Machine.execMsg c rd ra imm s
  | .mrecv c rd ra imm => Sys2Proof.Machine.execMrecv c rd ra imm s
  | .rsel c rd ra imm => Sys2Proof.Machine.execRsel c rd ra imm s
  | .csrr c rd ra imm => Sys2Proof.Machine.execCsrr c rd ra imm s
  | .csrw c rd ra imm => Sys2Proof.Machine.execCsrw c rd ra imm s
  | .nop c rd ra => Sys2Proof.Machine.execNop c rd ra s
  | .eret c => Sys2Proof.Machine.execEret c s
  | .clack c => Sys2Proof.Machine.execClack c s
  | .rreq c n => Sys2Proof.Machine.execRreq c n s
  | .trap c n => Sys2Proof.Machine.execTrap c n s
  | .busr c rd ra => Sys2Proof.Machine.execBusr c rd ra s
  | .busrComplete k => Sys2Proof.Machine.execBusrComplete k s
  | .busw c rd ra rb => Sys2Proof.Machine.execBusw c rd ra rb s
  | .buswComplete k => Sys2Proof.Machine.execBuswComplete k s
  | .bfence c rd ra rb => Sys2Proof.Machine.execBfence c rd ra rb s
  | .bfenceComplete k => Sys2Proof.Machine.execBfenceComplete k s
  | .crecv c rd => Sys2Proof.Machine.execCrecv c rd s
  | .hbeat c rd ra rb => Sys2Proof.Machine.execHbeat c rd ra rb s
  | .crc32c c rd ra rb => Sys2Proof.Machine.execCrc32c c rd ra rb s
  | .epoch c rd ra rb => Sys2Proof.Machine.execEpoch c rd ra rb s
  | .reload n => Sys2Proof.Machine.execReload n s
  | .libraryHit n => Sys2Proof.Machine.execLibraryHit n s
  | .libraryMark n => Sys2Proof.Machine.execLibraryMark n s
  | .frameClose n slot => Sys2Proof.Machine.execFrameClose n slot s
  | .periodClose n slot => Sys2Proof.Machine.execPeriodClose n slot s
  | .clusterClose n slot => Sys2Proof.Machine.execClusterClose n slot s
  | .markGroupClose n slot => Sys2Proof.Machine.execMarkGroupClose n slot s
  | .libraryClose n => Sys2Proof.Machine.execLibraryClose n s
  | .waveEnable en => Sys2Proof.Machine.execWaveEnable en s
  | .initialCalibrationEnd fit0 fit1 fit2 => Sys2Proof.Machine.execInitialCalibrationEnd fit0 fit1 fit2 s
  | .sampleTick raw0 raw1 => Sys2Proof.Machine.execSampleTick raw0 raw1 s
  | .matchPhaseStart fit => Sys2Proof.Machine.execMatchPhaseStart fit s
  | .tuningHold enough ofs gain skew => Sys2Proof.Machine.execTuningHold enough ofs gain skew s
  | .rotationCommit => Sys2Proof.Machine.execRotationCommit s
  | .scal => Sys2Proof.Machine.execScal s
  | .selfCalibrationEnd fit0 fit1 fit2 => Sys2Proof.Machine.execSelfCalibrationEnd fit0 fit1 fit2 s
  | .samplingResume => Sys2Proof.Machine.execSamplingResume s
  | .retry => Sys2Proof.Machine.execRetry s
  | .correctionSetWrite slice word v => Sys2Proof.Machine.execCorrectionSetWrite slice word v s
  | .triggerFire => Sys2Proof.Machine.execTriggerFire s
  | .regionRequest => Sys2Proof.Machine.execRegionRequest s
  | .trgCmd v => Sys2Proof.Machine.execTrgCmd v s
  | .triggerConfigWrite n word v => Sys2Proof.Machine.execTriggerConfigWrite n word v s
  | .trigOutRise => Sys2Proof.Machine.execTrigOutRise s
  | .trigOutFall => Sys2Proof.Machine.execTrigOutFall s
  | .sampleRecord u => Sys2Proof.Machine.execSampleRecord u s
  | .waveIntervalRecord u => Sys2Proof.Machine.execWaveIntervalRecord u s
  | .windowEnd u => Sys2Proof.Machine.execWindowEnd u s
  | .mergeWord => Sys2Proof.Machine.execMergeWord s
  | .ballastCountReport n => Sys2Proof.Machine.execBallastCountReport n s
  | .ballastIntervalEnd => Sys2Proof.Machine.execBallastIntervalEnd s
  | .commit k => Sys2Proof.Machine.execCommit k s
  | .commitChecksDone => Sys2Proof.Machine.execCommitChecksDone s
  | .commitInForce => Sys2Proof.Machine.execCommitInForce s
  | .streamOpenRequest k q => Sys2Proof.Machine.execStreamOpenRequest k q s
  | .streamOpen q => Sys2Proof.Machine.execStreamOpen q s
  | .streamCloseRequest k q => Sys2Proof.Machine.execStreamCloseRequest k q s
  | .streamClose q => Sys2Proof.Machine.execStreamClose q s
  | .streamSendCutoff q => Sys2Proof.Machine.execStreamSendCutoff q s
  | .streamClosed q => Sys2Proof.Machine.execStreamClosed q s
  | .epochMark => Sys2Proof.Machine.execEpochMark s
  | .flush k q => Sys2Proof.Machine.execFlush k q s
  | .flushTick q => Sys2Proof.Machine.execFlushTick q s
  | .flushTimer q => Sys2Proof.Machine.execFlushTimer q s
  | .blockRoute q => Sys2Proof.Machine.execBlockRoute q s
  | .discardIntervalEnd => Sys2Proof.Machine.execDiscardIntervalEnd s
  | .srcPermitRise p => Sys2Proof.Machine.execSrcPermitRise p s
  | .laneMuxPlace g => Sys2Proof.Machine.execLaneMuxPlace g s
  | .memoryInit => Sys2Proof.Machine.execMemoryInit s
  | .memoryResetRelease => Sys2Proof.Machine.execMemoryResetRelease s
  | .modeRegisterWrite => Sys2Proof.Machine.execModeRegisterWrite s
  | .trainingComplete up => Sys2Proof.Machine.execTrainingComplete up s
  | .oscillatorReadout drifted => Sys2Proof.Machine.execOscillatorReadout drifted s
  | .retrainComplete c => Sys2Proof.Machine.execRetrainComplete c s
  | .brickWrite => Sys2Proof.Machine.execBrickWrite s
  | .brickWriteComplete q lost => Sys2Proof.Machine.execBrickWriteComplete q lost s
  | .operationTimeout q read => Sys2Proof.Machine.execOperationTimeout q read s
  | .drainRead g => Sys2Proof.Machine.execDrainRead g s
  | .drainReadComplete q upset => Sys2Proof.Machine.execDrainReadComplete q upset s
  | .pageQuarantineEnd => Sys2Proof.Machine.execPageQuarantineEnd s
  | .txFrame i0 ui => Sys2Proof.Machine.execTxFrame i0 ui s
  | .rxFrame j time fcnt tf w2 w3 w4 w5 w6 w7 => Sys2Proof.Machine.execRxFrame j time fcnt tf w2 w3 w4 w5 w6 w7 s
  | .rxLaneEnable j => Sys2Proof.Machine.execRxLaneEnable j s
  | .rxLock x => Sys2Proof.Machine.execRxLock x s
  | .rxLockTimeout j => Sys2Proof.Machine.execRxLockTimeout j s
  | .rxMeasureDone j h w => Sys2Proof.Machine.execRxMeasureDone j h w s
  | .rxLockLost x => Sys2Proof.Machine.execRxLockLost x s
  | .rxDownRetry j => Sys2Proof.Machine.execRxDownRetry j s
  | .rxRetrain j => Sys2Proof.Machine.execRxRetrain j s
  | .hostLaneReport w => Sys2Proof.Machine.execHostLaneReport w s
  | .hostReportTimeout i0 => Sys2Proof.Machine.execHostReportTimeout i0 s
  | .txCandidateSelection i0 => Sys2Proof.Machine.execTxCandidateSelection i0 s
  | .txCandidateDwell i0 => Sys2Proof.Machine.execTxCandidateDwell i0 s
  | .spareSubstitution i0 => Sys2Proof.Machine.execSpareSubstitution i0 s
  | .lmapWrite l slot => Sys2Proof.Machine.execLmapWrite l slot s
  | .lmapApply l => Sys2Proof.Machine.execLmapApply l s
  | .laneGroupWrite g v => Sys2Proof.Machine.execLaneGroupWrite g v s
  | .slipWrite i0 slip => Sys2Proof.Machine.execSlipWrite i0 slip s
  | .txCtrlWrite i0 v => Sys2Proof.Machine.execTxCtrlWrite i0 v s
  | .clockSet => Sys2Proof.Machine.execClockSet s
  | .setTick => Sys2Proof.Machine.execSetTick s
  | .clockSnap => Sys2Proof.Machine.execClockSnap s
  | .snapTick => Sys2Proof.Machine.execSnapTick s
  | .timeFrameRx time fcnt w2 w3 w4 w5 w6 w7 => Sys2Proof.Machine.execTimeFrameRx time fcnt w2 w3 w4 w5 w6 w7 s
  | .servoStep => Sys2Proof.Machine.execServoStep s
  | .servoTimeout => Sys2Proof.Machine.execServoTimeout s
  | .referenceCheck present dfA dfB dfR => Sys2Proof.Machine.execReferenceCheck present dfA dfB dfR s
  | .referenceLoss => Sys2Proof.Machine.execReferenceLoss s
  | .refselWrite src => Sys2Proof.Machine.execRefselWrite src s
  | .pllUnlock => Sys2Proof.Machine.execPllUnlock s
  | .pllRelock => Sys2Proof.Machine.execPllRelock s
  | .tetherMessage p msg ackb hop upsets => Sys2Proof.Machine.execTetherMessage p msg ackb hop upsets s
  | .hostControlMessage msg good => Sys2Proof.Machine.execHostControlMessage msg good s
  | .read p msg => Sys2Proof.Machine.execRead p msg s
  | .write p msg => Sys2Proof.Machine.execWrite p msg s
  | .postedWriteExecute p => Sys2Proof.Machine.execPostedWriteExecute p s
  | .fence p msg => Sys2Proof.Machine.execFence p msg s
  | .fenceComplete p => Sys2Proof.Machine.execFenceComplete p s
  | .claim p msg late => Sys2Proof.Machine.execClaim p msg late s
  | .handover p msg => Sys2Proof.Machine.execHandover p msg s
  | .release p msg => Sys2Proof.Machine.execRelease p msg s
  | .tetherReset p msg => Sys2Proof.Machine.execTetherReset p msg s
  | .join p => Sys2Proof.Machine.execJoin p s
  | .leave p msg => Sys2Proof.Machine.execLeave p msg s
  | .number p hop => Sys2Proof.Machine.execNumber p hop s
  | .ping p msg => Sys2Proof.Machine.execPing p msg s
  | .portInsert p => Sys2Proof.Machine.execPortInsert p s
  | .portRemove p => Sys2Proof.Machine.execPortRemove p s
  | .noticeRetry p => Sys2Proof.Machine.execNoticeRetry p s
  | .wake x => Sys2Proof.Machine.execWake x s
  | .leaseExpiry => Sys2Proof.Machine.execLeaseExpiry s
  | .handoverTimeout => Sys2Proof.Machine.execHandoverTimeout s
  | .heartbeatTimeout k => Sys2Proof.Machine.execHeartbeatTimeout k s
  | .lockstepMismatch k => Sys2Proof.Machine.execLockstepMismatch k s
  | .selfcheck k => Sys2Proof.Machine.execSelfcheck k s
  | .restartGrant => Sys2Proof.Machine.execRestartGrant s
  | .mirrorFrozen => Sys2Proof.Machine.execMirrorFrozen s
  | .grantRise => Sys2Proof.Machine.execGrantRise s
  | .failoverCommand => Sys2Proof.Machine.execFailoverCommand s
  | .standbyResetCommand => Sys2Proof.Machine.execStandbyResetCommand s
  | .mirrorFrame good => Sys2Proof.Machine.execMirrorFrame good s
  | .mirrorStale => Sys2Proof.Machine.execMirrorStale s
  | .keelSelfTest k => Sys2Proof.Machine.execKeelSelfTest k s
  | .keelSelfTestDone k fail => Sys2Proof.Machine.execKeelSelfTestDone k fail s
  | .mirrorLoadDone k => Sys2Proof.Machine.execMirrorLoadDone k s
  | .keelTestStart k => Sys2Proof.Machine.execKeelTestStart k s
  | .conductorGo k => Sys2Proof.Machine.execConductorGo k s
  | .conductorHalt k => Sys2Proof.Machine.execConductorHalt k s
  | .conductorCodeWrite k j v => Sys2Proof.Machine.execConductorCodeWrite k j v s
  | .conductorTimer k => Sys2Proof.Machine.execConductorTimer k s
  | .conductorMessage => Sys2Proof.Machine.execConductorMessage s
  | .regularSequenceStart => Sys2Proof.Machine.execRegularSequenceStart s
  | .slotResult x above below => Sys2Proof.Machine.execSlotResult x above below s
  | .overTemperature x => Sys2Proof.Machine.execOverTemperature x s
  | .injectedSequenceStart => Sys2Proof.Machine.execInjectedSequenceStart s
  | .monQueuePop m => Sys2Proof.Machine.execMonQueuePop m s
  | .monQueueClear => Sys2Proof.Machine.execMonQueueClear s
  | .sensorConfigWrite n v => Sys2Proof.Machine.execSensorConfigWrite n v s
  | .i2cCommand v scl sda => Sys2Proof.Machine.execI2cCommand v scl sda s
  | .i2cCommandDone nack arblost pec moved data => Sys2Proof.Machine.execI2cCommandDone nack arblost pec moved data s
  | .i2cTimeout => Sys2Proof.Machine.execI2cTimeout s
  | .i2cEnable scl sda => Sys2Proof.Machine.execI2cEnable scl sda s
  | .busRecoveryDone pulses => Sys2Proof.Machine.execBusRecoveryDone pulses s
  | .targetWrite t => Sys2Proof.Machine.execTargetWrite t s
  | .armedEntry => Sys2Proof.Machine.execArmedEntry s
  | .timeBaseStart => Sys2Proof.Machine.execTimeBaseStart s
  | .acquireEntry => Sys2Proof.Machine.execAcquireEntry s
  | .acquireExit => Sys2Proof.Machine.execAcquireExit s
  | .standbyDescent => Sys2Proof.Machine.execStandbyDescent s
  | .quiesceDone => Sys2Proof.Machine.execQuiesceDone s
  | .standbyEntry => Sys2Proof.Machine.execStandbyEntry s
  | .keepEntry => Sys2Proof.Machine.execKeepEntry s
  | .domainEnableWrite en => Sys2Proof.Machine.execDomainEnableWrite en s
  | .domainPowerUp d => Sys2Proof.Machine.execDomainPowerUp d s
  | .domainPowerGood d => Sys2Proof.Machine.execDomainPowerGood d s
  | .domainPowerFail d => Sys2Proof.Machine.execDomainPowerFail d s
  | .latchUp d soon => Sys2Proof.Machine.execLatchUp d soon s
  | .latchUpRepower d => Sys2Proof.Machine.execLatchUpRepower d s
  | .domainFailClear d => Sys2Proof.Machine.execDomainFailClear d s
  | .droop x => Sys2Proof.Machine.execDroop x s
  | .brownOut => Sys2Proof.Machine.execBrownOut s
  | .powerOnReset => Sys2Proof.Machine.execPowerOnReset s
  | .resetNPin => Sys2Proof.Machine.execResetNPin s
  | .supplyRemoved => Sys2Proof.Machine.execSupplyRemoved s
  | .deviceWatchdog => Sys2Proof.Machine.execDeviceWatchdog s
  | .deviceWatchdogKick => Sys2Proof.Machine.execDeviceWatchdogKick s
  | .lifecycleSense => Sys2Proof.Machine.execLifecycleSense s
  | .optionLoad => Sys2Proof.Machine.execOptionLoad s
  | .clockPowerUp => Sys2Proof.Machine.execClockPowerUp s
  | .bootImage => Sys2Proof.Machine.execBootImage s
  | .keelPowerUp => Sys2Proof.Machine.execKeelPowerUp s
  | .digitalPowerUp => Sys2Proof.Machine.execDigitalPowerUp s
  | .laneTableLoad => Sys2Proof.Machine.execLaneTableLoad s
  | .bootComplete => Sys2Proof.Machine.execBootComplete s
  | .prog => Sys2Proof.Machine.execProg s
  | .optionProgramDone good0 good1 => Sys2Proof.Machine.execOptionProgramDone good0 good1 s
  | .softwareReset block => Sys2Proof.Machine.execSoftwareReset block s
  | .quiesceAcknowledge block => Sys2Proof.Machine.execQuiesceAcknowledge block s
  | .quiesceTimeout block => Sys2Proof.Machine.execQuiesceTimeout block s
  | .accessTimeout m posted => Sys2Proof.Machine.execAccessTimeout m posted s
  | .program m arg => Sys2Proof.Machine.execProgram m arg s
  | .programComplete good => Sys2Proof.Machine.execProgramComplete good s
  | .erase m arg => Sys2Proof.Machine.execErase m arg s
  | .load m arg => Sys2Proof.Machine.execLoad m arg s
  | .loadComplete => Sys2Proof.Machine.execLoadComplete s
  | .provision m arg => Sys2Proof.Machine.execProvision m arg s
  | .sealPart m arg => Sys2Proof.Machine.execSealPart m arg s
  | .returnPart m arg => Sys2Proof.Machine.execReturnPart m arg s
  | .voidPart m arg => Sys2Proof.Machine.execVoidPart m arg s
  | .setkey m arg => Sys2Proof.Machine.execSetkey m arg s
  | .raiseSvn m arg => Sys2Proof.Machine.execRaiseSvn m arg s
  | .unlock m arg => Sys2Proof.Machine.execUnlock m arg s
  | .lock m arg => Sys2Proof.Machine.execLock m arg s
  | .attest m arg => Sys2Proof.Machine.execAttest m arg s
  | .dchal p msg => Sys2Proof.Machine.execDchal p msg s
  | .dunlock p msg => Sys2Proof.Machine.execDunlock p msg s
  | .dlock p msg => Sys2Proof.Machine.execDlock p msg s
  | .dhalt p msg => Sys2Proof.Machine.execDhalt p msg s
  | .drun p msg => Sys2Proof.Machine.execDrun p msg s
  | .dstep p msg => Sys2Proof.Machine.execDstep p msg s
  | .dbrk p msg => Sys2Proof.Machine.execDbrk p msg s
  | .drd p msg => Sys2Proof.Machine.execDrd p msg s
  | .dwr p msg => Sys2Proof.Machine.execDwr p msg s
  | .extest v => Sys2Proof.Machine.execExtest v s
  | .samplePreload v => Sys2Proof.Machine.execSamplePreload v s
  | .idcode => Sys2Proof.Machine.execIdcode s
  | .clamp => Sys2Proof.Machine.execClamp s
  | .highz => Sys2Proof.Machine.execHighz s
  | .extestPulse v => Sys2Proof.Machine.execExtestPulse v s
  | .extestTrain v => Sys2Proof.Machine.execExtestTrain v s
  | .engdbg op target arg data => Sys2Proof.Machine.execEngdbg op target arg data s
  | .bypass ir => Sys2Proof.Machine.execBypass ir s
  | .testLogicReset => Sys2Proof.Machine.execTestLogicReset s
  | .uartCharacter samples => Sys2Proof.Machine.execUartCharacter samples s
  | .monitorLine => Sys2Proof.Machine.execMonitorLine s
  | .helpPrint => Sys2Proof.Machine.execHelpPrint s
  | .idPrint => Sys2Proof.Machine.execIdPrint s
  | .rdWords a n => Sys2Proof.Machine.execRdWords a n s
  | .statPrint => Sys2Proof.Machine.execStatPrint s
  | .logPrint => Sys2Proof.Machine.execLogPrint s
  | .lifePrint => Sys2Proof.Machine.execLifePrint s
  | .chalPrint => Sys2Proof.Machine.execChalPrint s
  | .monitorUnlock token => Sys2Proof.Machine.execMonitorUnlock token s
  | .levelSet n => Sys2Proof.Machine.execLevelSet n s
  | .monitorClaim mac late => Sys2Proof.Machine.execMonitorClaim mac late s
  | .monitorRelease => Sys2Proof.Machine.execMonitorRelease s
  | .monitorHandover q => Sys2Proof.Machine.execMonitorHandover q s
  | .wrWord a v => Sys2Proof.Machine.execWrWord a v s
  | .monitorFence => Sys2Proof.Machine.execMonitorFence s
  | .stateWrite t => Sys2Proof.Machine.execStateWrite t s
  | .monitorReset => Sys2Proof.Machine.execMonitorReset s
  | .stageBytes o bytes => Sys2Proof.Machine.execStageBytes o bytes s
  | .secCommand op arg => Sys2Proof.Machine.execSecCommand op arg s
  | .dbgOp op payload => Sys2Proof.Machine.execDbgOp op payload s
  | .scrub addr found => Sys2Proof.Machine.execScrub addr found s
  | .tmrUpset key allDiffer => Sys2Proof.Machine.execTmrUpset key allDiffer s
  | .errorLogClear => Sys2Proof.Machine.execErrorLogClear s
  | .errorEntryRead m i0 => Sys2Proof.Machine.execErrorEntryRead m i0 s
  | .recoveryPeriodEnd b => Sys2Proof.Machine.execRecoveryPeriodEnd b s
  | .lifeLogCommit => Sys2Proof.Machine.execLifeLogCommit s
  | .commitRequest => Sys2Proof.Machine.execCommitRequest s
  | .lifeLogCommitDone => Sys2Proof.Machine.execLifeLogCommitDone s
  | .deferredCommitRetry => Sys2Proof.Machine.execDeferredCommitRetry s
  | .holdupCheck uv cells zeroised => Sys2Proof.Machine.execHoldupCheck uv cells zeroised s
  | .histogramSample => Sys2Proof.Machine.execHistogramSample s
  | .slotStart n => Sys2Proof.Machine.execSlotStart n s
  | .healthTestFail => Sys2Proof.Machine.execHealthTestFail s

end Sys2Proof.Machine
end

