-- ==== Sys2Proof/Machine/Step.lean ====
section
/-! DEFINITION. One step of the block: the command at the front of the queue, or, with no command waiting, one tick of the
time base (notes/assumptions/6.md). -/
namespace Sys2Proof.Machine

/-- R345, R346, R541: with nothing commanded a tick passes, if the time base runs. -/
def State.idle (s : State) : State := if s.time.run then s.adv (s.time.tick + 1) else s

/-- A step takes the oldest waiting command and runs it on the state with the rest of the queue. -/
def step (s : State) : Host.Outcome State Fault Refusal :=
  match s.pending with
  | [] => .next s.idle
  | c :: rest => exec c { s with pending := rest }

/-- The command that a word spells put at the front of the queue; unchanged where it spells none. -/
def State.withFetchWord (s : State) (nbits w : Nat) : State :=
  match decodeTableWord nbits w with
  | some c => { s with pending := c :: s.pending }
  | none => s

end Sys2Proof.Machine
end

