-- ==== Sys2Proof/Safety.lean ====
section
/-! DEFINITION. What a safe run of the block keeps, in the terms its statements use. -/
namespace Sys2Proof.Machine

/-- The entries of a sparse table rise strictly in their key and none is above a bound. -/
def SMap.rising {α : Type} : SMap α → Bool
  | [] => true
  | (k, _) :: r => (match r with | [] => true | (k', _) :: _ => decide (k < k')) && SMap.rising r

/-- A command completes: it answers a next state, of which `P` holds. -/
def Completes (i : Instr) (s : State) (P : State → Prop) : Prop := ∃ t, exec i s = .next t ∧ P t

/-- Every byte of memory reads as before. -/
def State.sameMemory (s t : State) : Prop := ∀ a, t.readByte a = s.readByte a

/-- Every register field but those named holds what it held. -/
def State.sameRegsBut (s t : State) (fs : List Field) : Prop := ∀ g : Field, (∀ f ∈ fs, g.key ≠ f.key) → t.get g = s.get g

/-- R393: the arbiter's decoder raises at most one grant line: GRANT is none, keel A or keel B. -/
def State.grantSafe (s : State) : Bool := decide (s.get Reg.ARB_STAT_GRANT ≤ 2)

/-- R393, R407, R409: the same, with a fail-over or restart in progress that will grant keel A or keel B. -/
def State.grantWf (s : State) : Bool := s.grantSafe && s.failover.all (fun f => decide (f.2.1 ≤ 1))

/-- The memories keep their canonical form. -/
def State.memWf (s : State) : Bool := Memory.wf s.mem

/-! ### Registers -/

/-- R9: every field of the register at an address holds a value of its width. -/
def State.fits (s : State) (a : Nat) : Bool :=
  match regAt a with
  | some (fs, _, _) => fs.all (fun f => decide (s.get f < 2 ^ f.width))
  | none => true

/-- R43, R461, R468: the register at an address outside the keels and the windows can be written: its domain is on and its block
is not being reset, and its fields hold values of their widths. -/
def State.reachable (s : State) (a : Nat) : Bool := s.dom (addrDom a) && !s.inReset a && s.fits a

/-- R414: the register at an offset of keel `k`'s window can be written: the keel is on and neither in reset nor under
self-test. -/
def State.keelOpen (s : State) (k o : Nat) : Bool := s.reachable (0x100000 + 0x80000 * k + o) && decide (s.role k < 2)

/-- R43, R461, R468: an access of a word outside the keels and the windows, to a domain that is on and a block that is not being
reset, finds a register and no memory there. -/
def State.plainAccess (s : State) (a : Nat) : Bool :=
  a % 4 == 0 && (rangeOf a).isSome && (decide (a < 0x100000) || (decide (0x300000 ≤ a) && decide (a < 0x50000000))) &&
    s.reachable a && (s.memWord a).isNone

/-- R10, R11: what a write of the word `v` to the register at `a` leaves in a field of it that has no rule of its own; a bit that the
hardware has set in this cycle is not cleared. -/
def State.codeOf (s t : State) (a v : Nat) (f : Field) : Prop :=
  let w := v / 2 ^ (f.key - 8 * a) % 2 ^ f.width
  (f.acc = .rw ∨ f.acc = .rwl → t.get f = w) ∧
  (f.acc = .ro ∨ f.acc = .wo → t.get f = s.get f) ∧
  (f.acc = .w1c → ∀ i, (t.get f).testBit i = ((s.get f).testBit i && !(w.testBit i && !(s.metSets f).testBit i))) ∧
  (f.acc = .w1s → ∀ i, (t.get f).testBit i = ((s.get f).testBit i || w.testBit i))

/-- R12, R538: no write has set field `f` in the cycle last recorded. -/
def State.unwritten (s : State) (f : Field) : Prop := SMap.get s.cyc.wrote f.key 0 = 0

/-- R379: the words of a message meet registers of 32 bits whose fields have no rule of their own, one after the other. -/
def State.plainWords (s : State) (m a : Nat) (ws : List Nat) (fss : Nat → List Field) : Prop :=
  spans a ws.length = false ∧ ∀ i v, ws[i]? = some v →
    s.plainAccess (a + 4 * i) = true ∧ regAt (a + 4 * i) = some (fss i, a + 4 * i, 1) ∧ s.rwlRefused (a + 4 * i) v (fss i) = false ∧
    ∀ s' : State, s'.hooked m (a + 4 * i) v false = none
/-- R10, R379: each of those registers as its word leaves it, and every other register as before, but for those `rest`. -/
def State.plainWritten (s t : State) (a : Nat) (ws : List Nat) (fss : Nat → List Field) (rest : List Field) : Prop :=
  (∀ i v, ws[i]? = some v → ∀ f ∈ fss i, f.acc ≠ .ro → s.codeOf t (a + 4 * i) v f) ∧
  t.sameRegsBut s (rest ++ (List.range ws.length).flatMap fss)

/-- R61, R64: the configuration word of local pixel `l` of region `n` is pending or in shift. -/
def State.wordPending (s : State) (n l : Nat) : Prop :=
  (s.region n).pend.contains l = true ∨ ∃ w, (s.region n).shifting = some (l, w)

/-! ### Instructions of a core (R153 to R179) -/

/-- The value of a register as a word. -/
def CoreSt.val (k : CoreSt) (r : Nat) : Word64 := BitVec.ofNat 64 (k.reg r)

/-- R154, R175, R493: core `c` fetches word `w` next: it is at an instruction boundary, no interrupt is due, no enabled breakpoint
lies on its PC, and `w` stands there (or nothing has been loaded there) without an error. -/
def State.fetches (s : State) (c w : Nat) : Bool :=
  s.canIssue c && !s.brkHere c && (s.loadedWord c).all (· == w) && s.eccAt (codeAddr c (s.core c).pc) == 0

/-- R159, R160, R179: core `c` executes word `w` next, or a word that differs from it in fields alone that it does not use. -/
def State.readyFor (s : State) (c w : Nat) : Bool :=
  (s.fetches c w && legal c w) || (s.loadedWord c).any (fun v => s.fetches c v && wCanon v == w && legal c v)

/-- The state in which a fetched instruction executes: a breakpoint that was passed over once is spent (R493). -/
def State.fetched (s : State) (c : Nat) : State := s.setCore c { s.core c with brkPass := false }

/-- R159: the core and the word of an instruction row. -/
def insnWord (i : Instr) : Option (Nat × Nat) :=
  match i with
  | .add c rd ra rb => some (c.val, wordR 0x00 rd.toNat ra.toNat rb.toNat 0x000)
  | .sub c rd ra rb => some (c.val, wordR 0x00 rd.toNat ra.toNat rb.toNat 0x001)
  | .and c rd ra rb => some (c.val, wordR 0x00 rd.toNat ra.toNat rb.toNat 0x002)
  | .or c rd ra rb => some (c.val, wordR 0x00 rd.toNat ra.toNat rb.toNat 0x003)
  | .xor c rd ra rb => some (c.val, wordR 0x00 rd.toNat ra.toNat rb.toNat 0x004)
  | .shl c rd ra rb => some (c.val, wordR 0x00 rd.toNat ra.toNat rb.toNat 0x005)
  | .shr c rd ra rb => some (c.val, wordR 0x00 rd.toNat ra.toNat rb.toNat 0x006)
  | .sar c rd ra rb => some (c.val, wordR 0x00 rd.toNat ra.toNat rb.toNat 0x007)
  | .mul c rd ra rb => some (c.val, wordR 0x00 rd.toNat ra.toNat rb.toNat 0x008)
  | .mulhu c rd ra rb => some (c.val, wordR 0x00 rd.toNat ra.toNat rb.toNat 0x009)
  | .minu c rd ra rb => some (c.val, wordR 0x00 rd.toNat ra.toNat rb.toNat 0x00A)
  | .maxu c rd ra rb => some (c.val, wordR 0x00 rd.toNat ra.toNat rb.toNat 0x00B)
  | .slt c rd ra rb => some (c.val, wordR 0x00 rd.toNat ra.toNat rb.toNat 0x00C)
  | .sltu c rd ra rb => some (c.val, wordR 0x00 rd.toNat ra.toNat rb.toNat 0x00D)
  | .clz c rd ra rb => some (c.val, wordR 0x00 rd.toNat ra.toNat rb.toNat 0x00E)
  | .popc c rd ra rb => some (c.val, wordR 0x00 rd.toNat ra.toNat rb.toNat 0x00F)
  | .tsub c rd ra rb => some (c.val, wordR 0x00 rd.toNat ra.toNat rb.toNat 0x010)
  | .bin c rd ra rb => some (c.val, wordR 0x00 rd.toNat ra.toNat rb.toNat 0x011)
  | .text c rd ra rb => some (c.val, wordR 0x32 rd.toNat ra.toNat rb.toNat 0)
  | .walk c rd ra rb => some (c.val, wordR 0x33 rd.toNat ra.toNat rb.toNat 0)
  | .hincH c rd ra rb => some (c.val, wordR 0x18 rd.toNat ra.toNat rb.toNat 0)
  | .hincW c rd ra rb => some (c.val, wordR 0x18 rd.toNat ra.toNat rb.toNat 1)
  | .crc32c c rd ra rb => some (c.val, wordR 0x3F rd.toNat ra.toNat rb.toNat 0x005)
  | .addi c rd ra imm => some (c.val, wordI 0x01 rd.toNat ra.toNat imm.toNat)
  | .andi c rd ra imm => some (c.val, wordI 0x02 rd.toNat ra.toNat imm.toNat)
  | .ori c rd ra imm => some (c.val, wordI 0x03 rd.toNat ra.toNat imm.toNat)
  | .xori c rd ra imm => some (c.val, wordI 0x04 rd.toNat ra.toNat imm.toNat)
  | .ldi c rd ra imm => some (c.val, wordI 0x06 rd.toNat ra.toNat imm.toNat)
  | .shli c rd ra imm => some (c.val, wordI 0x05 rd.toNat ra.toNat (0 * 2 ^ 14 + imm.toNat))
  | .shri c rd ra imm => some (c.val, wordI 0x05 rd.toNat ra.toNat (1 * 2 ^ 14 + imm.toNat))
  | .sari c rd ra imm => some (c.val, wordI 0x05 rd.toNat ra.toNat (2 * 2 ^ 14 + imm.toNat))
  | .ins c rd qf imm => some (c.val, wordI 0x07 rd.toNat qf.toNat imm.toNat)
  | .ext c rd ra pos len1 low => some (c.val, wordF 0x08 rd.toNat ra.toNat pos.toNat len1.toNat low.toNat)
  | .exts c rd ra pos len1 low => some (c.val, wordF 0x09 rd.toNat ra.toNat pos.toNat len1.toNat low.toNat)
  | .dep c rd ra pos len1 low => some (c.val, wordF 0x0A rd.toNat ra.toNat pos.toNat len1.toNat low.toNat)
  | .ld c rd ra imm => some (c.val, wordI 0x10 rd.toNat ra.toNat imm.toNat)
  | .lw c rd ra imm => some (c.val, wordI 0x11 rd.toNat ra.toNat imm.toNat)
  | .lh c rd ra imm => some (c.val, wordI 0x12 rd.toNat ra.toNat imm.toNat)
  | .lb c rd ra imm => some (c.val, wordI 0x13 rd.toNat ra.toNat imm.toNat)
  | .st c rd ra imm => some (c.val, wordI 0x14 rd.toNat ra.toNat imm.toNat)
  | .sw c rd ra imm => some (c.val, wordI 0x15 rd.toNat ra.toNat imm.toNat)
  | .sh c rd ra imm => some (c.val, wordI 0x16 rd.toNat ra.toNat imm.toNat)
  | .sb c rd ra imm => some (c.val, wordI 0x17 rd.toNat ra.toNat imm.toNat)
  | .beq c ra rb off => some (c.val, wordI 0x20 ra.toNat rb.toNat off.toNat)
  | .bne c ra rb off => some (c.val, wordI 0x21 ra.toNat rb.toNat off.toNat)
  | .blt c ra rb off => some (c.val, wordI 0x22 ra.toNat rb.toNat off.toNat)
  | .bge c ra rb off => some (c.val, wordI 0x23 ra.toNat rb.toNat off.toNat)
  | .bltu c ra rb off => some (c.val, wordI 0x24 ra.toNat rb.toNat off.toNat)
  | .bgeu c ra rb off => some (c.val, wordI 0x25 ra.toNat rb.toNat off.toNat)
  | .bf c cond rb off => some (c.val, wordI 0x26 cond.toNat rb.toNat off.toNat)
  | .dbnz c ra off => some (c.val, wordI 0x27 ra.toNat (off.toNat / 65536) (off.toNat % 65536))
  | .jal c rd raf target => some (c.val, wordI 0x28 rd.toNat raf.toNat target.toNat)
  | .jalr c rd ra rb => some (c.val, wordR 0x29 rd.toNat ra.toNat rb.toNat 0)
  | .hpopS c hd => some (c.val, wordI 0x30 hd.toNat 0 0)
  | .hpopA c hd => some (c.val, wordI 0x30 hd.toNat 0 1)
  | .hcnt c rd ra imm => some (c.val, wordI 0x31 rd.toNat ra.toNat imm.toNat)
  | .tnow c rd ra imm => some (c.val, wordI 0x34 rd.toNat ra.toNat imm.toNat)
  | .send c rs ra stream high => some (c.val, wordI 0x35 rs.toNat ra.toNat (high.toNat * 128 + 0 + stream.toNat))
  | .sendP c rs ra stream high => some (c.val, wordI 0x35 rs.toNat ra.toNat (high.toNat * 128 + 64 + stream.toNat))
  | .wait c rd ra imm => some (c.val, wordI 0x36 rd.toNat ra.toNat imm.toNat)
  | .eclr c rd ra imm => some (c.val, wordI 0x37 rd.toNat ra.toNat imm.toNat)
  | .mpop c rd ra imm => some (c.val, wordI 0x38 rd.toNat ra.toNat imm.toNat)
  | .msg c rd ra imm => some (c.val, wordI 0x39 rd.toNat ra.toNat imm.toNat)
  | .mrecv c rd ra imm => some (c.val, wordI 0x3A rd.toNat ra.toNat imm.toNat)
  | .rsel c rd ra imm => some (c.val, wordI 0x3B rd.toNat ra.toNat imm.toNat)
  | .csrr c rd ra imm => some (c.val, wordI 0x3C rd.toNat ra.toNat imm.toNat)
  | .csrw c rd ra imm => some (c.val, wordI 0x3D rd.toNat ra.toNat imm.toNat)
  | .nop c rd ra => some (c.val, wordI 0x3E rd.toNat ra.toNat 0)
  | .eret c => some (c.val, wordI 0x3E 0 0 1)
  | .clack c => some (c.val, wordI 0x3E 0 0 2)
  | .rreq c n => some (c.val, wordI 0x3E 0 0 (n.toNat * 256 + 3))
  | .trap c n => some (c.val, wordI 0x3E 0 0 (n.toNat * 256 + 4))
  | .busr c rd ra => some (c.val, wordR 0x3F rd.toNat ra.toNat 0 0x000)
  | .busw c rd ra rb => some (c.val, wordR 0x3F rd.toNat ra.toNat rb.toNat 0x001)
  | .bfence c rd ra rb => some (c.val, wordR 0x3F rd.toNat ra.toNat rb.toNat 0x002)
  | .crecv c rd => some (c.val, wordR 0x3F rd.toNat 0 0 0x003)
  | .hbeat c rd ra rb => some (c.val, wordR 0x3F rd.toNat ra.toNat rb.toNat 0x004)
  | .epoch c rd ra rb => some (c.val, wordR 0x3F rd.toNat ra.toNat rb.toNat 0x006)
  | _ => none

/-- R155 to R157, R161: what an instruction leaves in a core's registers, tags, flags, PC and cycle count: it read `srcs`, wrote
`dst`, made `fl` of the flags, took `cost` cycles and went to `pc`. -/
def CoreSt.ended (k k' : CoreSt) (srcs : List Nat) (dst : Option (Nat × Word64)) (fl : Flags → Flags) (cost pc : Nat) : Prop :=
  (∀ r, k'.reg r = match dst with
    | some (d, v) => if r = d ∧ d ≠ 0 then v.toNat else k.reg r
    | none => k.reg r) ∧
  (∀ r, 16 ≤ r → k'.tag r = match dst with
    | some (d, _) => if r = d then k.tagsOf srcs else k.tag r
    | none => k.tag r) ∧
  k'.flags = fl { k.flags with p := k.flags.p || k.tagsOf srcs } ∧ k'.pc = pc ∧ k'.cycle = (k.issueAt srcs + cost) % 2 ^ 64

/-- Everything else of a core is as before. -/
def CoreSt.restKept (k k' : CoreSt) : Prop :=
  k' = { k with g := k'.g, tags := k'.tags, flags := k'.flags, pc := k'.pc, cycle := k'.cycle, avail := k'.avail, brkPass := false }

/-- Nothing but core `c` has changed. -/
def State.onlyCore (s t : State) (c : Nat) : Prop := t = { s with cores := t.cores } ∧ ∀ d, d ≠ c → t.core d = s.core d

/-- An instruction that works on the registers of its core alone has ended. -/
def State.inRegs (s t : State) (c : Nat) (srcs : List Nat) (dst : Option (Nat × Word64)) (fl : Flags → Flags) (cost pc : Nat) :
    Prop :=
  s.onlyCore t c ∧ (s.core c).restKept (t.core c) ∧ (s.core c).ended (t.core c) srcs dst fl cost pc

/-- R157: Z and N of a result; with C and V of a sum and of a difference. -/
def flagsZN (r : Word64) (f : Flags) : Flags := { f with z := r == 0, n := r.msb }
def flagsSum (a b : Word64) (f : Flags) : Flags :=
  { flagsZN (a + b) f with c := decide (2 ^ 64 ≤ a.toNat + b.toNat), v := decide (a.toInt + b.toInt ≠ (a + b).toInt) }
def flagsDiff (a b : Word64) (f : Flags) : Flags :=
  { flagsZN (a - b) f with c := decide (a.toNat < b.toNat), v := decide (a.toInt - b.toInt ≠ (a - b).toInt) }

/-- R167: a field of `len` bits from bit `pos` of `a` replaced by the low bits of `b`. -/
def depositWord (a b : Word64) (pos len : Nat) : Word64 :=
  let m : Word64 := (1#64 <<< len) - 1#64
  (a &&& ~~~ (m <<< pos)) ||| ((b &&& m) <<< pos)

/-- The instructions of the R format with the result `v` of two sources complete with it. -/
def CompletesR (mk : Fin 1026 → BitVec 5 → BitVec 5 → BitVec 5 → Instr) (fn : Nat) (v : Word64 → Word64 → Word64)
    (fl : Word64 → Word64 → Flags → Flags) : Prop :=
  ∀ (c : Fin 1026) (rd ra rb : BitVec 5) (s : State), s.readyFor c.val (wordR 0 rd.toNat ra.toNat rb.toNat fn) = true →
    Completes (mk c rd ra rb) s fun t =>
      let a := (s.core c.val).val ra.toNat
      let b := (s.core c.val).val rb.toNat
      s.inRegs t c.val [ra.toNat, rb.toNat] (some (rd.toNat, v a b)) (fl a b) 1 (s.pcNext c.val)

/-- The same of one source and a 16-bit immediate. -/
def CompletesI (mk : Fin 1026 → BitVec 5 → BitVec 5 → BitVec 16 → Instr) (op : Nat) (v : Word64 → BitVec 16 → Word64)
    (fl : Word64 → BitVec 16 → Flags → Flags) : Prop :=
  ∀ (c : Fin 1026) (rd ra : BitVec 5) (imm : BitVec 16) (s : State), s.readyFor c.val (wordI op rd.toNat ra.toNat imm.toNat) = true →
    Completes (mk c rd ra imm) s fun t =>
      let a := (s.core c.val).val ra.toNat
      s.inRegs t c.val [ra.toNat] (some (rd.toNat, v a imm)) (fl a imm) 1 (s.pcNext c.val)

/-- The same of one source and a shift amount. -/
def CompletesS (mk : Fin 1026 → BitVec 5 → BitVec 5 → BitVec 14 → Instr) (kind : Nat) (v : Word64 → Nat → Word64) : Prop :=
  ∀ (c : Fin 1026) (rd ra : BitVec 5) (imm : BitVec 14) (s : State),
    s.readyFor c.val (wordI 0x05 rd.toNat ra.toNat (kind * 2 ^ 14 + imm.toNat)) = true →
    Completes (mk c rd ra imm) s fun t =>
      let r := v ((s.core c.val).val ra.toNat) imm.toNat
      s.inRegs t c.val [ra.toNat] (some (rd.toNat, r)) (flagsZN r) 1 (s.pcNext c.val)

/-- A branch of two sources completes at its target where its condition holds, else at the next index. -/
def CompletesB (mk : Fin 1026 → BitVec 5 → BitVec 5 → BitVec 16 → Instr) (op : Nat) (p : Word64 → Word64 → Bool) : Prop :=
  ∀ (c : Fin 1026) (ra rb : BitVec 5) (off : BitVec 16) (s : State), s.readyFor c.val (wordI op ra.toNat rb.toNat off.toNat) = true →
    Completes (mk c ra rb off) s fun t =>
      let b := p ((s.core c.val).val ra.toNat) ((s.core c.val).val rb.toNat)
      s.inRegs t c.val [ra.toNat, rb.toNat] none id (if b then 2 else 1) (if b then s.branchTo c.val off.toNat else s.pcNext c.val)

/-- The address of a load or store: ra + simm. -/
def State.accAddr (s : State) (c : Nat) (ra : BitVec 5) (imm : BitVec 16) : Nat :=
  ((s.core c).val ra.toNat + imm.signExtend 64).toNat

/-- R501: no word under `n` bytes at a model address holds an error. -/
def State.clean (s : State) (x n : Nat) : Bool := s.eccAt x == 0 && s.eccAt (x + n - 1) == 0

/-- R168: a load of `n` aligned bytes from data memory completes with their value, zero-extended. -/
def CompletesLoad (mk : Fin 1026 → BitVec 5 → BitVec 5 → BitVec 16 → Instr) (op n : Nat) : Prop :=
  ∀ (c : Fin 1026) (rd ra : BitVec 5) (imm : BitVec 16) (s : State), s.readyFor c.val (wordI op rd.toNat ra.toNat imm.toNat) = true →
    s.accAddr c.val ra imm % n = 0 → s.accAddr c.val ra imm < dataSize c.val →
    s.clean (dataBase c.val + s.accAddr c.val ra imm) n = true →
    Completes (mk c rd ra imm) s fun t =>
      s.inRegs t c.val [ra.toNat] (some (rd.toNat, BitVec.ofNat 64 (s.readLe (dataBase c.val + s.accAddr c.val ra imm) n))) id 1
        (s.pcNext c.val)

/-- R168: a store of the low `n` bytes to data memory, aligned, completes; every other byte reads as before. -/
def CompletesStore (mk : Fin 1026 → BitVec 5 → BitVec 5 → BitVec 16 → Instr) (op n : Nat) : Prop :=
  ∀ (c : Fin 1026) (rs ra : BitVec 5) (imm : BitVec 16) (s : State), s.readyFor c.val (wordI op rs.toNat ra.toNat imm.toNat) = true →
    s.accAddr c.val ra imm % n = 0 → s.accAddr c.val ra imm < dataSize c.val →
    s.clean (dataBase c.val + s.accAddr c.val ra imm) n = true →
    Completes (mk c rs ra imm) s fun t =>
      let x := dataBase c.val + s.accAddr c.val ra imm
      t.readLe x n = (s.core c.val).reg rs.toNat % 2 ^ (8 * n) ∧
      (∀ b, b < x ∨ x + n ≤ b → t.readByte b = s.readByte b) ∧ t.sameRegsBut s [] ∧
      (∀ d, d ≠ c.val → t.core d = s.core d) ∧
      (s.core c.val).ended (t.core c.val) [rs.toNat, ra.toNat] none id 1 (s.pcNext c.val)

/-- R169: HINC of an `n`-byte counter in data memory. -/
def CompletesHinc (mk : Fin 1026 → BitVec 5 → BitVec 5 → BitVec 5 → Instr) (fn n : Nat) : Prop :=
  ∀ (c : Fin 1026) (rd ra rb : BitVec 5) (s : State) (a : Nat), s.readyFor c.val (wordR 0x18 rd.toNat ra.toNat rb.toNat fn) = true →
    a = ((s.core c.val).val ra.toNat + BitVec.ofNat 64 n * (s.core c.val).val rb.toNat).toNat →
    a % n = 0 → a < dataSize c.val → s.eccAt (dataBase c.val + a) = 0 →
    Completes (mk c rd ra rb) s fun t =>
      let x := dataBase c.val + a
      let old := s.readLe x n
      let sat := decide (old = 2 ^ (8 * n) - 1)
      let new := if sat then old else old + 1
      t.readLe x n = new ∧ (∀ b, b < x ∨ x + n ≤ b → t.readByte b = s.readByte b) ∧ t.sameRegsBut s [] ∧
      (∀ d, d ≠ c.val → t.core d = s.core d) ∧
      (s.core c.val).ended (t.core c.val) [ra.toNat, rb.toNat] (some (rd.toNat, BitVec.ofNat 64 new)) (fun f => { f with c := sat }) 2
        (s.pcNext c.val)

/-- R141, R176: core `c` has taken exception `code` of the instruction at its PC. -/
def State.tookException (s t : State) (c code : Nat) : Prop :=
  let k := s.core c
  let k' := t.core c
  k'.epc = (k.pc + 1) % 65536 ∧ k'.eflags = k.flags ∧ k'.flags = k.flags ∧ k'.inHandler = true ∧ k'.byIrq = false ∧
  k'.pc = s.vector c ∧ k'.g = k.g ∧ k'.tags = k.tags ∧ (∀ d, d ≠ c → t.core d = s.core d) ∧ t.sameMemory s ∧
  (isCond c = false → t.get (Reg.EXC_CAUSE_CODE c) = code ∧ t.get (Reg.EXC_PC_IDX c) = k.pc % 2 ^ 12 ∧
    t.get (Reg.CORE_STAT_EXC c) = code ∧
    t.sameRegsBut s [Reg.EXC_CAUSE_CODE c, Reg.EXC_PC_IDX c, Reg.EXC_ADDR_OFS c, Reg.CORE_STAT_EXC c]) ∧
  (isCond c = true → t.sameRegsBut s [])

/-- R141, R165: core `c` has taken CSR_PROT of a store at offset `a`: like any exception, after the reads of its sources. -/
def State.tookProtected (s t : State) (c a : Nat) (srcs : List Nat) : Prop :=
  let k := s.core c
  let k' := t.core c
  k'.epc = (k.pc + 1) % 65536 ∧ k'.eflags = { k.flags with p := k.flags.p || k.tagsOf srcs } ∧ k'.flags = k'.eflags ∧
  k'.inHandler = true ∧ k'.byIrq = false ∧ k'.pc = s.vector c ∧ k'.g = k.g ∧ k'.tags = k.tags ∧
  (∀ d, d ≠ c → t.core d = s.core d) ∧ t.sameMemory s ∧
  (isCond c = false → t.get (Reg.EXC_CAUSE_CODE c) = xCSR_PROT ∧ t.get (Reg.EXC_PC_IDX c) = k.pc % 2 ^ 12 ∧
    t.get (Reg.EXC_ADDR_OFS c) = a % 2 ^ 16 ∧ t.get (Reg.CORE_STAT_EXC c) = xCSR_PROT ∧
    t.sameRegsBut s [Reg.EXC_CAUSE_CODE c, Reg.EXC_PC_IDX c, Reg.EXC_ADDR_OFS c, Reg.CORE_STAT_EXC c]) ∧
  (isCond c = true → t.sameRegsBut s [])

/-- The word of the map that holds an address outside data memory, read by core `c`. -/
def State.windowWord (s : State) (c a : Nat) : State × Status × Nat := s.wordRead (coreMaster c) (s.coreWord c a / 4 * 4)
/-- R164: the second word of a 64-bit register, read after the first. -/
def State.windowNext (s : State) (c a : Nat) : State × Status × Nat :=
  (s.windowWord c a).1.wordRead (coreMaster c) (s.coreWord c a + 4)
/-- R501: no word that a load of `n` bytes at `a` reads is uncorrectable. -/
def State.windowClean (s : State) (c a n : Nat) : Prop :=
  (s.windowWord c a).2.1 ≠ .ecc ∧ (n = 8 → (s.windowNext c a).2.1 ≠ .ecc)
/-- R164: what the map shows at `a`: the word, the half of it that `a` names, or the 64 bits of the register. -/
def State.windowValue (s : State) (c a n : Nat) : Nat :=
  if n = 8 then (s.windowWord c a).2.2 + (s.windowNext c a).2.2 * 2 ^ 32
  else if n = 2 then bits (s.windowWord c a).2.2 (8 * (a % 4)) 16
  else (s.windowWord c a).2.2

/-- R161, R164: an aligned load of `n` bytes outside data memory that reaches something completes in 4 cycles with what the map shows. -/
def CompletesWindowLoad (mk : Fin 1026 → BitVec 5 → BitVec 5 → BitVec 16 → Instr) (op n : Nat) : Prop :=
  ∀ (c : Fin 1026) (rd ra : BitVec 5) (imm : BitVec 16) (s : State) (a : Nat),
    s.readyFor c.val (wordI op rd.toNat ra.toNat imm.toNat) = true → a = s.accAddr c.val ra imm → dataSize c.val ≤ a → a % n = 0 →
    s.reach c.val a n = true → (s.fetched c.val).windowClean c.val a n →
    Completes (mk c rd ra imm) s fun t =>
      (s.core c.val).ended (t.core c.val) [ra.toNat]
        (some (rd.toNat, BitVec.ofNat 64 ((s.fetched c.val).windowValue c.val a n))) id 4 (s.pcNext c.val)

/-- R164: a load or store of `n` bytes that is misaligned takes ALIGN, one that reaches nothing RANGE, and where both apply one of
the two. -/
def TrapsAccess (mk : Fin 1026 → BitVec 5 → BitVec 5 → BitVec 16 → Instr) (op n : Nat) : Prop :=
  ∀ (c : Fin 1026) (r ra : BitVec 5) (imm : BitVec 16) (s : State) (a : Nat),
    s.readyFor c.val (wordI op r.toNat ra.toNat imm.toNat) = true → a = s.accAddr c.val ra imm → (s.core c.val).inHandler = false →
    (a % n ≠ 0 → s.reach c.val a n = true → Completes (mk c r ra imm) s fun t => s.tookException t c.val xALIGN) ∧
    (a % n = 0 → s.reach c.val a n = false → Completes (mk c r ra imm) s fun t => s.tookException t c.val xRANGE) ∧
    (a % n ≠ 0 → s.reach c.val a n = false →
      Completes (mk c r ra imm) s fun t => ∃ code, (code = xALIGN ∨ code = xRANGE) ∧ s.tookException t c.val code)

/-- R165, R397: a store of `n` bytes to a location that a region engine may not write, or to a register of the keel with nothing to
write, takes CSR_PROT. -/
def RefusesStore (mk : Fin 1026 → BitVec 5 → BitVec 5 → BitVec 16 → Instr) (op n : Nat) : Prop :=
  ∀ (c : Fin 1026) (rs ra : BitVec 5) (imm : BitVec 16) (s : State) (a : Nat),
    s.readyFor c.val (wordI op rs.toNat ra.toNat imm.toNat) = true → a = s.accAddr c.val ra imm → dataSize c.val ≤ a → a % n = 0 →
    s.reach c.val a n = true → (if isCond c.val then readOnly (s.coreWord c.val a) else !storeOk a) = true →
    (s.core c.val).inHandler = false →
    Completes (mk c rs ra imm) s fun t => s.tookProtected t c.val a [rs.toNat, ra.toNat]

/-- R161: a store outside data memory has ended and changed only these registers. -/
def State.windowStored (s t : State) (c : Nat) (rs ra : BitVec 5) (fs : List Field) : Prop :=
  t.sameRegsBut s fs ∧ t.sameMemory s ∧ (∀ d, d ≠ c → t.core d = s.core d) ∧
  (s.core c).ended (t.core c) [rs.toNat, ra.toNat] none id 4 (s.pcNext c)

/-! ### Streams (R271) -/

/-- R271: an open block with words appended. -/
def Block.more (b : Block) (ws : List Word64) : Block := { b with words := b.words ++ ws }

/-- R248: the open block of stream `q` after a mark has joined it on tick `e`: it leaves no sooner than the shaping buffer lets the
mark out. -/
def State.marked (s : State) (k q e : Nat) (b : Block) (ws : List Word64) : Block :=
  { b.more ws with relAt := shapedOut (s.inForce k) q (shapeIn (s.inForce k) q e (64 * ws.length) (s.stream k q)) }

/-- R251, R263, R286: the end of the running interval of `m` ticks: the first multiple of `m` at or after now that is later than
the one ended last. -/
def State.intervalEnd (s : State) (m done : Nat) : Nat :=
  if alignUp m s.time.tick ≤ done then done + m else alignUp m s.time.tick

/-- A write of a stream's register was taken and left stream `q` of keel `k` as `v`; every other stream of that keel and every byte of
memory is as before. -/
def State.onlyStream (t s : State) (k q : Nat) (v : StreamSt) : Prop :=
  t.lastStatus = .ok ∧ t.stream k q = v ∧ (∀ r, r ≠ q → t.stream k r = s.stream k r) ∧ t.time = s.time ∧ t.sameMemory s

/-- R271, R274: a block as it closes: FLUSH where it is not full. -/
def Block.ended (b : Block) (last : Bool) (tick epoch : Nat) : Block :=
  { b with flush := decide (b.words.length < b.size), last := last, closeAt := tick, epoch := epoch }

/-- R261, R284: words are whole records: every continuation word that a record has is there; `n` bounds the records. -/
def wholeRecords : Nat → List Word64 → Bool
  | 0, ws => ws.isEmpty
  | _, [] => true
  | n + 1, w :: r => decide (contWords w ≤ r.length) && wholeRecords n (r.drop (contWords w))

/-! ### RX lanes (R335) -/

/-- The lock of RX lane `j` after it has met blocks. -/
def State.met (s : State) (j : Nat) (bs : List RxBlk) : RxLk := bs.foldl RxLk.meet (s.rx j).lk

/-! ### The reduction library (R182 to R202) -/

/-- The records that an emission still sends, as its counters stand, with the buddy flag of its core. -/
def Emission.entries (e : Emission) (c : Nat) : List OutEntry :=
  (e.recs.filter (fun r => !e.omits r)).map (fun r => ⟨[e.word r], e.stream, e.poison, .record, decide (c ≠ e.region), 0⟩)

/-- What a core has put out and not yet sent: its output buffer and the records that the library's emissions still send. -/
def State.outputs (s : State) (c : Nat) : List OutEntry := (s.core c).outq ++ (s.core c).emits.flatMap (·.entries c)

/-- R200: the data chunks of counts by pixel, each with its counts clipped; ZS omits those that are all zero. -/
def countWords (n : Nat) (wide zs : Bool) (cnt : Nat → Nat) : List Word64 :=
  let per := if wide then 2 else 5
  let wd := if wide then 20 else 8
  (List.range (if wide then 64 else 26)).filterMap (fun k =>
    let cs := (List.range per).map (fun j => if per * k + j < 128 then min (cnt (per * k + j)) (2 ^ wd - 1) else 0)
    if zs && cs.all (· == 0) then none
    else some (mkWord ([(60, 4, 3), (58, 2, 1), (48, 10, n), (41, 7, per * k), (40, 1, b2n wide)]
      ++ cs.zipIdx.map (fun (c, j) => (j * wd, wd, c)))))

/-- R200: a count frame (`src` 0) or the window `win` of a mark group (`src` 1): header and chunks. -/
def countWordsOf (n : Nat) (v : LibSlot) (i src win : Nat) (part movr : Bool) (late tick : Nat) (cnt : Nat → Nat) : List Word64 :=
  mkWord [(60, 4, 3), (48, 10, n), (47, 1, src), (45, 2, i), (43, 2, win), (42, 1, b2n part), (41, 1, b2n v.zs),
          (40, 1, b2n movr), (32, 8, min late 255), (0, 32, tick)] :: countWords n v.wide v.zs cnt

/-- R201: a spectrum or time histogram of `nb` bins a pixel: header and chunks, ZS as R200. -/
def histWords (n : Nat) (v : LibSlot) (i merge nb tick : Nat) (part : Bool) : List Word64 :=
  let ty := if v.num = 2 then 4 else 5
  let per := if v.wide then 2 else 4
  let wd := if v.wide then 16 else 8
  mkWord [(60, 4, ty), (48, 10, n), (46, 2, merge), (44, 2, i), (43, 1, b2n part), (42, 1, b2n v.zs),
          (38, 4, if ty = 5 then v.ch else 0), (37, 1, if ty = 5 then v.flags / 2 else 0), (0, 32, tick)]
    :: (List.range 128).flatMap (fun p => (List.range ((nb + per - 1) / per)).filterMap (fun k =>
      let cs := (List.range per).map (fun j => min (SMap.get v.counts (p * 64 + per * k + j) 0) (2 ^ wd - 1))
      if v.zs && cs.all (· == 0) then none
      else some (mkWord ([(60, 4, ty), (58, 2, 1), (48, 10, n), (41, 7, p), (35, 6, per * k), (34, 1, b2n v.wide), (32, 2, i)]
        ++ cs.zipIdx.map (fun (c, j) => (j * wd, wd, c))))))

/-- The output-buffer entries of records that the library emits for a slot of region `n`. -/
def State.recordsOf (s : State) (n : Nat) (v : LibSlot) (ws : List Word64) (poison : Bool) : List OutEntry :=
  ws.map (fun w => ⟨[w], v.stream, poison, .record, decide (s.servedBy n ≠ n), 0⟩)

/-! ### Security, debug and the monitor (R471 to R500) -/

/-- R493, R500: SEC_CMD takes a command of master `m`. -/
def State.secReady (s : State) (m : Nat) : Bool :=
  s.reachable 0x90004 && decide (m < 5) && s.get Reg.SEC_STAT_BUSY == 0 && !s.sec.halted

/-- R481, R500: a command of SEC_CMD has ended with a result. -/
def State.secEnded (t : State) (code : Nat) (warn : Bool) : Prop :=
  t.lastStatus = .ok ∧ t.get Reg.SEC_RES_CODE = code ∧ t.get Reg.SEC_RES_WARN = b2n warn ∧ t.get Reg.SEC_STAT_BUSY = 0 ∧
  t.sec.op = none

/-- R474: a lifecycle transition waits for its hold-up check. -/
def State.secWaits (s t : State) (op : Nat) : Prop :=
  t.lastStatus = .ok ∧ t.get Reg.SEC_STAT_BUSY = 1 ∧ t.sec.op = some (op, 0, [], none, 0) ∧ t.checks = s.checks ++ [2] ∧
  t.get Reg.SEC_STAT_LC = s.get Reg.SEC_STAT_LC ∧ t.sameMemory s

/-- R376: a command of port `p` has ended with a status; a tether port that is inserted has sent its response. -/
def State.answers (s t : State) (p : Nat) (m : Msg) (st : Status) (pl : List Byte) : Prop :=
  t.lastStatus = st ∧
  (p < 2 → (s.port p).inserted = true → m.dest ≠ 0xFF → ∃ r : Msg, t.sent = s.sent ++ [⟨p, r, 0, 0⟩] ∧ r.payload = pl)

/-- R390, R487, R491: port `p` may debug core `c`. -/
def State.dbgReady (s : State) (p c : Nat) : Bool := s.portUp p && s.isOwner p && s.fac 2 && s.dbgReach c

/-- R498, R499: the monitor takes a command of level `n`. -/
def State.monReady (s : State) (n : Nat) : Bool := s.monAlive && !s.uart.secWait && s.levelOk n

/-- R498: the monitor has printed lines. -/
def State.prints (s t : State) (ls : List (List Byte)) : Prop := t.uart.printed = s.uart.printed ++ ls

/-! ### Words under SECDED (R501) -/

/-- R501, R534: what an error does to the words, or the bytes, that hold it: a single-bit one leaves their value, an uncorrectable one
leaves every other word. -/
def wordsHit (ws us : List Word64) (w e : Nat) : Prop :=
  us.length = ws.length ∧ (e = 1 → us = ws) ∧ ∀ j, j ≠ w → us[j]? = ws[j]?
def bytesHit (bs cs : List Byte) (w e : Nat) : Prop :=
  cs.length = bs.length ∧ (e = 1 → cs = bs) ∧ ∀ j, j / 8 ≠ w → cs[j]? = bs[j]?

/-- R501: the SEU count of a class after a read that met error `e`. -/
def State.eccSeen (s : State) (c e : Nat) : Nat :=
  if e = 1 then satAdd 32 (s.get (Reg.EL_SEU_COUNT c)) 1 else s.get (Reg.EL_SEU_COUNT c)
/-- R513: EL_POIS after a block, poisoned or not so far, is read with error `e`. -/
def State.poisSeen (s : State) (poison : Bool) (e : Nat) : Nat :=
  if 2 ≤ e ∧ poison = false then satAdd 32 (s.get Reg.EL_POIS_COUNT) 1 else s.get Reg.EL_POIS_COUNT
/-- R501, R513: a block as it is read. -/
def Block.seen (b : Block) : Block := { b with poison := b.poison || decide (2 ≤ b.ecc), ecc := 0 }
/-- R384: a TX slot at the start of a frame, without the messages that it cannot carry any more. -/
def State.txAtFrame (s : State) (i : Nat) : TxSt :=
  if s.slotCarries i || !(s.tx i).onLane.any isLaneMsg then s.tx i else (s.tx i).kept (fun e => !isLaneMsg e)

end Sys2Proof.Machine
end

