-- ==== Sys2Proof/Certificates/Slice0/Obligations.lean ====
section
/-! DEFINITION. The statements for the provers. -/
open Sys2Proof Sys2Proof.Machine


/-! ### The queue and the registers -/

/-- The contract of a block: a step takes the command at the front of the queue and runs it on the state with the rest of the queue;
with no command waiting one tick passes where the time base runs (the model's choice, notes/assumptions/6.md). -/
def Obligations.StepTakesTheFront : Prop :=
  (∀ (c : Instr) (rest : List Instr) (s : State), s.pending = c :: rest → step s = exec c { s with pending := rest }) ∧
  (∀ s : State, s.pending = [] → s.time.run = false → step s = .next s) ∧
  (∀ s : State, s.pending = [] → s.time.run = true → ∃ t, step s = .next t ∧ t.time.tick = s.time.tick + 1 ∧ t = { s with time := t.time })

/-- R10, R11, R381, R461, R468, R539: a 32-bit register whose fields have no rule of their own takes a write field by field as their access
codes say; and the writes that are turned away or wait.
The model's choices it rests on: notes/assumptions/12.md, notes/assumptions/22.md, notes/assumptions/35.md, notes/assumptions/36.md,
notes/assumptions/93.md. -/
def Obligations.RegisterWriteCompletes : Prop :=
  ∀ (m : Fin 7) (e : BitVec 16) (addr v : BitVec 32) (s : State),
    let a := addr.toNat
    (∀ fs, s.plainAccess a = true → regAt a = some (fs, a, 1) → s.rwlRefused a v.toNat fs = false →
      s.hooked m.val a v.toNat false = none → Completes (.registerWrite m e addr v) s fun t =>
        t.lastStatus = .ok ∧ (∀ f ∈ fs, s.codeOf t a v.toNat f) ∧ t.sameRegsBut s fs ∧ t.sameMemory s) ∧
    (∀ fs, s.plainAccess a = true → regAt a = some (fs, a, 1) → s.locked = true →
      (∃ f ∈ fs, f.acc = .rwl ∧ v.toNat / 2 ^ (f.key - 8 * a) % 2 ^ f.width ≠ s.get f) →
      Completes (.registerWrite m e addr v) s fun t => t = { s with lastStatus := .prot }) ∧
    (a % 4 = 0 → (rangeOf a).isSome = true → a < 0x200000 ∨ (0x300000 ≤ a ∧ a < 0x50000000) → s.dom (addrDom a) = false →
      Completes (.registerWrite m e addr v) s fun t => t = { s with lastStatus := .domainOff }) ∧
    (a % 4 = 0 → (rangeOf a).isSome = true → a < 0x100000 ∨ (0x300000 ≤ a ∧ a < 0x50000000) → s.dom (addrDom a) = true →
      s.inReset a = true → Completes (.registerWrite m e addr v) s fun t => t = s) ∧
    (a % 4 = 0 → 0x200000 ≤ a → a < 0x300000 →
      (s.get Reg.ARB_STAT_PHASE = 1 → Completes (.registerWrite m e addr v) s fun t => t = s) ∧
      (s.get Reg.ARB_STAT_PHASE ≠ 1 → m.val < 4 → e.toNat ≠ s.get Reg.ARB_STAT_EPOCH → Completes (.registerWrite m e addr v) s fun t =>
        t = { s with lastStatus := .roleStale })) ∧
    (∀ n o, a = 0x50000000 + 0x10000 * n + o → n < 1024 → o < 0xC100 → o % 4 = 0 → s.dom (addrDom (reWindow (s.servedBy n) + o)) = true →
      s.servedBy n < 1024 → s.inReset (reWindow (s.servedBy n) + o) = false → m.val < 4 → e.toNat ≠ s.get (Reg.ADOPT_STAT_EPOCH n) →
      Completes (.registerWrite m e addr v) s fun t => t = { s with lastStatus := .adoptStale })

/-- R14, R44: an access of a location that holds no register, and of a location outside every range: a read returns 0, a write has no
effect, both with bad-address status. -/
def Obligations.UnmappedAccessesAreBadAddresses : Prop :=
  ∀ (m : Fin 7) (e : BitVec 16) (addr v : BitVec 32) (s : State),
    let a := addr.toNat
    ((rangeOf a).isNone = true →
      (Completes (.registerWrite m e addr v) s fun t => t = { s with lastStatus := .badAddress }) ∧
      (Completes (.lowWordRead m addr) s fun t => t = { s with lastStatus := .badAddress, lastData := [0] })) ∧
    (∀ x, s.route (epochOf m.val e.toNat) true a = .word x → s.memWord x = none → regAt x = none →
      Completes (.registerWrite m e addr v) s fun t => t = { s with lastStatus := .badAddress }) ∧
    (∀ x, s.route none false a = .word x → s.memWord x = none → regAt x = none → s.eccAt x = 0 →
      Completes (.lowWordRead m addr) s fun t => t = { s with lastStatus := .badAddress, lastData := [0] })

/-- R540: an access of a byte address that is not a multiple of 4 is not executed, whether or not a register lies there: a read returns 0
and a write has no effect, both with bad-address status; of a READ or WRITE message, posted or not, with such an address no word is
executed. -/
def Obligations.MisalignedAccessesAreNotExecuted : Prop :=
  (∀ (m : Fin 7) (e : BitVec 16) (addr v : BitVec 32) (s : State), addr.toNat % 4 ≠ 0 →
    (Completes (.registerWrite m e addr v) s fun t => t = { s with lastStatus := .badAddress }) ∧
    (Completes (.lowWordRead m addr) s fun t => t = { s with lastStatus := .badAddress, lastData := [0] })) ∧
  (∀ (p : Fin 4) (m : Msg) (s : State), s.portUp p.val = true → msgAddr m % 4 ≠ 0 →
    let after := fun (op : BitVec 8) (t : State) =>
      t.lastStatus = .badAddress ∧ t.sameMemory s ∧
      t.sameRegsBut (s.renewNew p.val { m with opcode := op }) [Reg.TH_STAT_INQ p.val, Reg.CC_STAT_DROP]
    (readShape m = true → Completes (.read p m) s fun t => t.lastData = [] ∧ after 1 t) ∧
    (writeShape m = true → msgNp m = true → s.isOwner p.val = true → (s.port p.val).posted = [] →
      Completes (.write p m) s (after 2))) ∧
  (∀ (p : Fin 4) (w : Posted) (rest : List Posted) (s : State), s.dom 1 = true → (s.port p.val).posted = w :: rest → w.words ≠ [] →
    w.addr % 4 ≠ 0 →
    Completes (.postedWriteExecute p) s fun t =>
      let i := s.get Reg.PW_STAT_NEXT % 16
      t.lastStatus = .badAddress ∧ t.get (Reg.PW_LOG2_STATUS i) = 1 ∧ t.get (Reg.PW_LOG1_ADDR i) = w.addr % 2 ^ 32 ∧ t.sameMemory s ∧
      t.sameRegsBut s [Reg.PW_LOG0_SEQ i, Reg.PW_LOG0_TAG i, Reg.PW_LOG1_ADDR i, Reg.PW_LOG2_STATUS i, Reg.PW_LOG2_PORT i,
        Reg.PW_LOG2_SRC i, Reg.PW_LOG2_EPOCH i, Reg.PW_LOG3_TICK i, Reg.PW_STAT_NEXT, Reg.PW_STAT_COUNT, Reg.PW_STAT_OVF,
        Reg.TH_CNT_NDROP p.val, Reg.TH_STAT_NQ p.val, Reg.CC_STAT_DROP])

/-- R436, R466, R468: a 64-bit register.  A read of the low word latches the high word for its master, a read of the high word shows that latch, or
the current high word where there is none; a write of the low word is held, and the write of the high word applies both.  The result
queue of the monitor, which a pop fills, has a latch of its own; a register of a domain that is off reads 0.
The model's choices it rests on: notes/assumptions/84.md (the held low word is one per register, whichever master wrote it). -/
def Obligations.WideRegistersLatchAndHold : Prop :=
  ∀ (m : Fin 7) (e : BitVec 16) (addr v : BitVec 32) (x : Nat) (s : State),
    let a := addr.toNat
    (∀ fs, s.route none false a = .word x → s.memWord x = none → scrubMem x = none → x ≠ 0x60110 → regAt x = some (fs, x, 2) →
      Completes (.lowWordRead m addr) s fun t =>
        t.lastStatus = .ok ∧ t.lastData = [s.regValue x fs % 2 ^ 32] ∧
        SMap.find? t.latchHi (m.val * 2 ^ 32 + x + 4) = some (s.regValue x fs / 2 ^ 32) ∧
        (∀ k, k ≠ m.val * 2 ^ 32 + x + 4 → SMap.find? t.latchHi k = SMap.find? s.latchHi k) ∧ t.sameRegsBut s [] ∧ t.sameMemory s) ∧
    (∀ fs b, s.route none false a = .word x → x = b + 4 → s.memWord x = none → scrubMem x = none → b ≠ 0x60110 → regAt x = some (fs, b, 2) →
      Completes (.lowWordRead m addr) s fun t =>
        t = { s with lastStatus := .ok,
                     lastData := [(SMap.find? s.latchHi (m.val * 2 ^ 32 + x)).getD (s.regValue b fs / 2 ^ 32)] }) ∧
    (∀ fs, s.route (epochOf m.val e.toNat) true a = .word x → s.memWord x = none → regAt x = some (fs, x, 2) → holdsLow fs = true →
      Completes (.registerWrite m e addr v) s fun t =>
        t.lastStatus = .ok ∧ SMap.find? t.heldLo x = some v.toNat ∧ (∀ f ∈ fs, t.get f = s.get f) ∧ t.sameMemory s) ∧
    (∀ fs b lo, s.route (epochOf m.val e.toNat) true a = .word x → x = b + 4 → s.memWord x = none → regAt x = some (fs, b, 2) →
      holdsLow fs = true → SMap.find? s.heldLo b = some lo → s.fits x = true → s.rwlRefused b (lo + v.toNat * 2 ^ 32) fs = false →
      ({ s with heldLo := SMap.erase s.heldLo b }).hooked m.val b (lo + v.toNat * 2 ^ 32) (s.forBuddy a) = none →
      Completes (.registerWrite m e addr v) s fun t =>
        t.lastStatus = .ok ∧ SMap.find? t.heldLo b = none ∧ (∀ f ∈ fs, s.codeOf t b (lo + v.toNat * 2 ^ 32) f) ∧ t.sameMemory s) ∧
    (a = 0x60110 → s.plainAccess a = true → Completes (.lowWordRead m addr) s fun t =>
      t = { s with lastStatus := .ok, lastData := [(SMap.get s.mon.latches m.val (0, 0)).2 % 2 ^ 32] }) ∧
    (a % 4 = 0 → (rangeOf a).isSome = true → a < 0x200000 ∨ (0x300000 ≤ a ∧ a < 0x50000000) → s.dom (addrDom a) = false →
      Completes (.lowWordRead m addr) s fun t => t = { s with lastStatus := .domainOff, lastData := [0] })
/-! ### The pixel matrix -/

/-- R56, R61 to R63: the commands on a pixel's configuration word.  A write takes effect in the shadow; a transfer puts the word
in shift into the pixel's latches and loads no other pixel's, and where the readback differs the word is pending again and a repair
counts; a readback that finds an upset latch does the same; CLR clears the count.
The model's choices it rests on: notes/assumptions/85.md (a word pending again, or in shift, is not compared). -/
def Obligations.PixelConfigurationCompletes : Prop :=
  (∀ (n : Fin 1024) (j : Fin 64) (v : BitVec 32) (s : State),
    s.dom (addrDom (reWindow n.val)) = true → s.inReset (reWindow n.val) = false →
    Completes (.configWordWrite n j v) s fun t =>
      t.lastStatus = .ok ∧ t.sameMemory s ∧
      t.cfgWord n.val (2 * j.val) = v.toNat % 2 ^ 16 / 16 * 16 ∧ t.cfgWord n.val (2 * j.val + 1) = v.toNat / 2 ^ 16 / 16 * 16) ∧
  (∀ (n : Fin 1024) (time : Nat) (upset : BitVec 16) (s : State) (l w : Nat),
    (s.region n.val).shifting = some (l, w) → s.dom (domDig (stripeOf n.val)) = true → s.dom (domAna (stripeOf n.val)) = true →
    (upset.toNat &&& 0xFFF0 = 0 ∨ (s.region n.val).pend.contains l = true) →
    Completes (.configTransfer n time upset) s fun t =>
      t.latchOf (n.val * 128 + l) = w ∧ (∀ p, p ≠ n.val * 128 + l → t.latchOf p = s.latchOf p) ∧ t.sameMemory s) ∧
  (∀ (n : Fin 1024) (time : Nat) (upset : BitVec 16) (s : State) (l w : Nat),
    (s.region n.val).shifting = some (l, w) → s.dom (domDig (stripeOf n.val)) = true → s.dom (domAna (stripeOf n.val)) = true →
    upset.toNat &&& 0xFFF0 ≠ 0 → (s.region n.val).pend.contains l = false →
    Completes (.configTransfer n time upset) s fun t =>
      t.latchOf (n.val * 128 + l) = w ^^^ (upset.toNat &&& 0xFFF0) ∧ (∀ p, p ≠ n.val * 128 + l → t.latchOf p = s.latchOf p) ∧
      t.wordPending n.val l ∧
      t.get (Reg.CFG_STAT_REPAIRS (stripeOf n.val)) = satAdd 8 (s.get (Reg.CFG_STAT_REPAIRS (stripeOf n.val))) 1 ∧ t.sameMemory s) ∧
  (∀ (p : Fin 131072) (upset : BitVec 16) (s : State) (n l w : Nat), n = p.val / 128 → l = p.val % 128 →
    w = s.latchOf p.val ^^^ (upset.toNat &&& 0xFFF0) →
    s.dom (domDig (stripeOf n)) = true → s.dom (domAna (stripeOf n)) = true →
    (s.wordPending n l → Completes (.configReadback p upset) s fun t => t = s) ∧
    (¬ s.wordPending n l → w = s.cfgWord n l → Completes (.configReadback p upset) s fun t =>
      t.latchOf p.val = w ∧ (∀ q, q ≠ p.val → t.latchOf q = s.latchOf q) ∧ t.region n = s.region n ∧ t.sameRegsBut s [] ∧
      t.sameMemory s) ∧
    (¬ s.wordPending n l → w ≠ s.cfgWord n l → Completes (.configReadback p upset) s fun t =>
      t.latchOf p.val = w ∧ (∀ q, q ≠ p.val → t.latchOf q = s.latchOf q) ∧ t.wordPending n l ∧
      t.get (Reg.CFG_STAT_REPAIRS (stripeOf n)) = satAdd 8 (s.get (Reg.CFG_STAT_REPAIRS (stripeOf n))) 1 ∧ t.sameMemory s)) ∧
  (∀ (st : Fin 8) (s : State), s.dom 0 = true →
    Completes (.cfgStatClr st) s fun t =>
      t.get (Reg.CFG_STAT_REPAIRS st.val) = 0 ∧ t.sameRegsBut s [Reg.CFG_STAT_REPAIRS st.val] ∧ t.sameMemory s)

/-- R66 to R69, R73, R77: the stripe and die registers, the bias steps of a stripe, and a test-pulse train: its first tick a multiple of 8
at least 16 ticks on, each pulse on its tick with its charge in every pixel with TPEN = 1, FIRE clear after the last.
The model's choices it rests on: notes/assumptions/8.md, notes/assumptions/93.md. -/
def Obligations.StripeCommandsComplete : Prop :=
  ((∀ (st : Fin 8) (thr : BitVec 10) (s : State), s.dom 0 = true →
    Completes (.stripeThrWrite st thr) s fun t =>
      t.get (Reg.STRIPE_THR_THR st.val) = thr.toNat ∧ t.sameRegsBut s [Reg.STRIPE_THR_THR st.val] ∧ t.sameMemory s) ∧
  (∀ (v : BitVec 32) (s : State), s.dom 0 = true →
    (∀ st : Fin 8, s.get (Reg.STRIPE_STATE_BIAS st.val) = 0) →
    Completes (.anaGlobalWrite v) s fun t =>
      t.lastStatus = .ok ∧ t.get Reg.ANA_GLOBAL_POL = bits v.toNat 0 1 ∧ t.get Reg.ANA_GLOBAL_FSUM_ATT = bits v.toNat 4 2 ∧
      t.sameRegsBut s [Reg.ANA_GLOBAL_POL, Reg.ANA_GLOBAL_FSUM_ATT] ∧ t.sameMemory s) ∧
  (∀ (st : Fin 8) (s : State), s.get (Reg.STRIPE_STATE_BIAS st.val) = 1 →
    Completes (.biasApply st) s fun t =>
      t.get (Reg.STRIPE_STATE_BIAS st.val) = 2 ∧ t.sameRegsBut s [Reg.STRIPE_STATE_BIAS st.val] ∧ t.sameMemory s) ∧
  (∀ (st : Fin 8) (s : State), s.get (Reg.STRIPE_STATE_BIAS st.val) = 2 →
    Completes (.biasSettled st) s fun t =>
      t.get (Reg.STRIPE_STATE_BIAS st.val) = 3 ∧ t.sameRegsBut s [Reg.STRIPE_STATE_BIAS st.val] ∧ t.sameMemory s) ∧
  (∀ s : State, s.dom 0 = true → s.get Reg.FSUM_CTRL_COMMIT = 0 →
    Completes .fsumCommitRequest s fun t =>
      t.get Reg.FSUM_CTRL_COMMIT = 1 ∧ t.fsumDue = some (s.time.tick + 4) ∧
      t.sameRegsBut s [Reg.FSUM_CTRL_COMMIT] ∧ t.sameMemory s) ∧
  (∀ (s : State) (due : Nat), s.fsumDue = some due → s.time.run = true → s.unwritten Reg.FSUM_CTRL_COMMIT →
    Completes .fsumCommit s fun t =>
      t.get Reg.FSUM_CTRL_COMMIT = 0 ∧ t.get Reg.FSUM_COMMIT_TICK_TICK = due % 2 ^ 32 ∧ t.fsumDue = none ∧
      (∀ i : Fin 32, SMap.get t.fsumSel i.val 0 = s.get (Reg.FSUM_SEL_SEL (i.val / 4) (i.val % 4))) ∧
      t.sameRegsBut s [Reg.FSUM_CTRL_COMMIT, Reg.FSUM_COMMIT_TICK_TICK] ∧ t.sameMemory s)) ∧
  ((∀ (st : Fin 8) (s : State), s.dom 0 = true → s.get (Reg.TP_CTRL_FIRE st.val) = 0 → s.get (Reg.TP_CTRL_COUNT st.val) ≠ 0 →
    s.get (Reg.TP_CTRL_COUNT st.val) < 2 ^ 16 → s.get (Reg.TP_CTRL_PERIOD st.val) < 2 ^ 14 →
    Completes (.fire st) s fun t =>
      t.get (Reg.TP_CTRL_FIRE st.val) = 1 ∧ t.sameRegsBut s [Reg.TP_CTRL_FIRE st.val] ∧ t.sameMemory s ∧
      ∃ tr, SMap.find? t.trains st.val = some tr ∧ tr.first % 8 = 0 ∧ s.time.tick + 16 ≤ tr.first ∧
        tr.first < s.time.tick + 24 ∧ tr.next = 0 ∧ tr.high = false) ∧
  (∀ (st : Fin 8) (s : State) (tr : TrainSt), SMap.find? s.trains st.val = some tr → s.time.run = true → tr.high = false →
    tr.next < s.get (Reg.TP_CTRL_COUNT st.val) →
    Completes (.testPulse st) s fun t =>
      SMap.find? t.trains st.val = some { tr with next := tr.next + 1, high := true } ∧
      (tr.next = 0 → t.get (Reg.TP_START_TICK_TICK st.val) = tr.first % 2 ^ 32) ∧
      t.time.tick = max s.time.tick (tr.first + 8 * s.tpPeriod st.val * tr.next) ∧
      (∀ e ∈ s.latches, e.1 / 16384 = st.val → latchTpen e.2 = true →
        ∃ j, SMap.find? t.injs e.1 = some j ∧ j.tick = tr.first + 8 * s.tpPeriod st.val * tr.next ∧
          j.charge = qTp e.1 (s.get (Reg.TP_AMP_AMP st.val)) ∧ j.tick * 163840 + 225280 ≤ j.time ∧
          j.time ≤ j.tick * 163840 + 266240) ∧
      t.sameRegsBut s [Reg.TP_START_TICK_TICK st.val] ∧ t.sameMemory s) ∧
  (∀ (st : Fin 8) (s : State) (tr : TrainSt), SMap.find? s.trains st.val = some tr → s.time.run = true → tr.high = true →
    Completes (.testPulseReturn st) s fun t =>
      SMap.find? t.trains st.val = some { tr with high := false } ∧
      t.time.tick = max s.time.tick (tr.first + 8 * s.tpPeriod st.val * (tr.next - 1) + 4 * s.tpPeriod st.val) ∧
      t.sameRegsBut s [] ∧ t.sameMemory s) ∧
  (∀ (st : Fin 8) (s : State) (tr : TrainSt), SMap.find? s.trains st.val = some tr → s.time.run = true →
    tr.next = s.get (Reg.TP_CTRL_COUNT st.val) → s.unwritten (Reg.TP_CTRL_FIRE st.val) →
    Completes (.testPulseTrainEnd st) s fun t =>
      t.get (Reg.TP_CTRL_FIRE st.val) = 0 ∧ SMap.find? t.trains st.val = none ∧
      t.sameRegsBut s [Reg.TP_CTRL_FIRE st.val] ∧ t.sameMemory s))
/-! ### Hits, interpolators, fret tables and the edge unit -/

/-- R81, R84, R85, R89 to R93: an edge claims the next free interpolator, two edges of one claim cycle
in ascending pixel whichever comes first, a waiting edge is taken at tap k and starts the slow ring
k × 400 ps after it arrived by the interpolator that became free first, the edge that reaches tap 25 is a busy loss; coincidence latches the raw code, the hit assist computes the
fine time, 5 ns later the interpolator is free; a ring fault gives a poisoned hit, or a poisoned edge of an input, and sets FAULT; sixteen good conversions clear it.
The model's choices it rests on: notes/assumptions/8.md, notes/assumptions/65.md, notes/assumptions/70.md, notes/assumptions/85.md. -/
def Obligations.ClaimsAndConversionsComplete : Prop :=
  ((∀ (p : Fin 131072) (time : Nat) (s : State) (i : Nat) (r : List Nat),
    s.canRise p.val time = true → s.connected p.val = true → s.get Reg.TU_STAT_PLLLOCK = 1 →
    (s.region (p.val / 128)).hold = [] → (s.region (p.val / 128)).cyc.1 ≠ time / 81920 →
    (s.mayServe (p.val / 128)).filter (fun j => (s.interp (p.val / 128) j).phase == .free) = i :: r →
    Completes (.pixelEdge p time) s fun t =>
      (t.interp (p.val / 128) i).phase = .converting ∧ (t.interp (p.val / 128) i).who = p.val ∧
      (t.interp (p.val / 128) i).start = time ∧ (t.interp (p.val / 128) i).tap = 0 ∧
      (t.region (p.val / 128)).rr = (i + 1) % 8 ∧ (t.pix p.val).high = true ∧
      t.hit? p.val = some ⟨time, none, 0, false, none⟩ ∧ t.sameRegsBut s [] ∧ t.sameMemory s) ∧
  (∀ (p q : Fin 131072) (time tq : Nat) (s : State) (i j : Nat) (r : List Nat),
    p.val < q.val → p.val / 128 = q.val / 128 → time / 81920 = tq / 81920 →
    s.canRise p.val time = true → s.connected p.val = true → s.canRise q.val tq = true → s.connected q.val = true →
    s.get Reg.TU_STAT_PLLLOCK = 1 → (s.region (p.val / 128)).hold = [] → (s.region (p.val / 128)).cyc.1 ≠ time / 81920 →
    (∀ x : Fin 8, (s.interp (p.val / 128) x.val).phase = .free) → s.mayServe (p.val / 128) = i :: j :: r →
    Completes (.pixelEdge q tq) s fun s1 => Completes (.pixelEdge p time) s1 fun t =>
      (t.interp (p.val / 128) i).who = p.val ∧ (t.interp (p.val / 128) i).start = time ∧
      (t.interp (p.val / 128) j).who = q.val ∧ (t.interp (p.val / 128) j).start = tq ∧
      t.sameRegsBut s [] ∧ t.sameMemory s) ∧
  (∀ (u : Fin 1025) (x : Fin 4) (s : State) (i p arr : Nat) (rest : List (Nat × Nat)), u.val < 1024 →
    (s.region u.val).hold = (p, arr) :: rest →
    s.freedFirst u.val ((s.mayServe u.val).filter (fun j => (s.interp u.val j).phase == .free)) = some i →
    holdTap arr (s.interp u.val i).freeAt ≤ 25 → s.get Reg.TU_STAT_PLLLOCK = 1 →
    Completes (.holdTake u x) s fun t =>
      (t.interp u.val i).phase = .converting ∧ (t.interp u.val i).who = p ∧
      (t.interp u.val i).tap = holdTap arr (s.interp u.val i).freeAt ∧
      (t.interp u.val i).start = arr + holdTap arr (s.interp u.val i).freeAt * 81920 ∧
      (t.region u.val).hold = rest ∧
      t.get (Reg.HOLD_CNT_TAKEN u.val) = satAdd 32 (s.get (Reg.HOLD_CNT_TAKEN u.val)) 1 ∧
      t.sameRegsBut s [Reg.HOLD_CNT_TAKEN u.val] ∧ t.sameMemory s) ∧
  (∀ (x : Fin 4) (s : State) (j arr : Nat) (tag : EdgeTag),
    (s.tin x.val).hold = some (arr, tag) →
    s.freedFirst edgeUnit ((s.tinPair x.val).filter (fun j => (s.interp edgeUnit j).phase == .free)) = some j →
    holdTap arr (s.interp edgeUnit j).freeAt ≤ 25 → s.get Reg.TU_STAT_PLLLOCK = 1 →
    Completes (.holdTake 1024 x) s fun t =>
      (t.interp edgeUnit j).phase = .converting ∧ (t.interp edgeUnit j).tap = holdTap arr (s.interp edgeUnit j).freeAt ∧
      (t.tin x.val).hold = none ∧ SMap.find? t.edgeTags j = some tag ∧ t.sameRegsBut s [] ∧ t.sameMemory s) ∧
  (∀ (u : Fin 1025) (x : Fin 4) (s : State) (p arr : Nat) (a b : List (Nat × Nat)), u.val < 1024 →
    (s.region u.val).hold = a ++ (p, arr) :: b → (∀ e ∈ a, arr < e.2) → (∀ e ∈ b, arr ≤ e.2) →
    Completes (.holdLineExpiry u x) s fun t =>
      (t.region u.val).hold = a ++ b ∧ t.hit? p = none ∧
      t.get (Reg.BUSY_CNT_COUNT (p / 128) (p % 128)) = satAdd 16 (s.get (Reg.BUSY_CNT_COUNT (p / 128) (p % 128))) 1 ∧
      t.sameRegsBut s [Reg.BUSY_CNT_COUNT (p / 128) (p % 128)] ∧ t.sameMemory s) ∧
  (∀ (x : Fin 4) (s : State) (e : Nat × EdgeTag), (s.tin x.val).hold = some e →
    Completes (.holdLineExpiry 1024 x) s fun t =>
      (t.tin x.val).hold = none ∧ t.get (Reg.TIN_STAT_BUSY x.val) = satAdd 16 (s.get (Reg.TIN_STAT_BUSY x.val)) 1 ∧
      t.sameRegsBut s [Reg.TIN_STAT_BUSY x.val] ∧ t.sameMemory s)) ∧
  ((∀ (u : Fin 1025) (i : Fin 8) (code : Fin 288) (s : State), (s.interp u.val i.val).phase = .converting →
    Completes (.coincidence u i code) s fun t =>
      t.interp u.val i.val = { s.interp u.val i.val with
        phase := .releasing, code := some code.val, freeAt := (s.interp u.val i.val).start + code.val * 53248 + 1024000 } ∧
      t.sameRegsBut s [] ∧ t.sameMemory s) ∧
  (∀ (u : Fin 1025) (i : Fin 8) (s : State) (c : Nat) (h : HitSt), u.val < 1024 →
    (s.interp u.val i.val).phase = .releasing → (s.interp u.val i.val).code = some c → (s.interp u.val i.val).fine = none →
    s.hit? (s.interp u.val i.val).who = some h → s.eccAt (actAddr u.val i.val (c / 2)) = 0 →
    Completes (.fineTimeCompute u i) s fun t =>
      (∃ h', t.hit? (s.interp u.val i.val).who = some h' ∧ h'.poison = false ∧ h'.rise = h.rise ∧ h'.ended = h.ended ∧
        h'.conv = some ((((s.interp u.val i.val).tickS : Int) * 32768 - tabGet (s.interp u.val i.val).act c
          + signed 16 (s.get (fOfsA u.val i.val)) - (s.interp u.val i.val).tap * 16384 + 16) / 32).toNat) ∧
      t.sameRegsBut s [] ∧ t.sameMemory s) ∧
  (∀ (i : Fin 8) (s : State) (c : Nat) (g : EdgeTag), (s.interp edgeUnit i.val).phase = .releasing →
    (s.interp edgeUnit i.val).code = some c → (s.interp edgeUnit i.val).fine = none →
    SMap.find? s.edgeTags i.val = some g → s.eccAt (actAddr edgeUnit i.val (c / 2)) ≠ 1 →
    Completes (.fineTimeCompute 1024 i) s fun t =>
      SMap.get t.edgeStamps i.val [] = SMap.get s.edgeStamps i.val [] ++
        [({ g with poison := g.poison || s.tablePoison edgeUnit i.val c }, s.fineOf edgeUnit i.val c)] ∧
      (t.interp edgeUnit i.val).fine.isSome = true ∧ t.sameRegsBut s [] ∧ t.sameMemory s) ∧
  (∀ (u : Fin 1025) (i : Fin 8) (s : State), (s.interp u.val i.val).phase = .releasing →
    (s.interp u.val i.val).fine.isSome = true →
    Completes (.interpolatorRelease u i) s fun t =>
      (t.interp u.val i.val).phase = .free ∧ (t.interp u.val i.val).code = none ∧ t.sameRegsBut s [] ∧ t.sameMemory s) ∧
  (∀ (u : Fin 1025) (i : Fin 8) (s : State) (h : HitSt), u.val < 1024 → (s.interp u.val i.val).phase = .converting →
    s.hit? (s.interp u.val i.val).who = some h →
    Completes (.ringFault u i) s fun t =>
      t.fbit (fFault u.val) i.val = true ∧ (t.interp u.val i.val).phase = .free ∧
      (∃ h', t.hit? (s.interp u.val i.val).who = some h' ∧ h'.poison = true ∧ h'.conv = some (s.fineOf u.val i.val 287)) ∧
      t.sameMemory s) ∧
  (∀ (i : Fin 8) (s : State) (g : EdgeTag), (s.interp edgeUnit i.val).phase = .converting →
    SMap.find? s.edgeTags i.val = some g →
    Completes (.ringFault 1024 i) s fun t =>
      t.fbit (fFault edgeUnit) i.val = true ∧ (t.interp edgeUnit i.val).phase = .free ∧
      SMap.get t.edgeStamps i.val [] = SMap.get s.edgeStamps i.val [] ++
        [({ g with poison := true }, s.fineOf edgeUnit i.val 287)] ∧ t.sameMemory s) ∧
  (∀ (u : Fin 1025) (i : Fin 8) (s : State), s.fbit (fFault u.val) i.val = true → 16 ≤ (s.interp u.val i.val).goodRun →
    s.get (fMode u.val) = 0 →
    Completes (.interpolatorReturn u i) s fun t =>
      t.fbit (fFault u.val) i.val = false ∧ t.sameRegsBut s [fFault u.val] ∧ t.sameMemory s))

/-- R30, R53, R54, R126: the fall of the output ends a hit with its time over threshold in units of 6.4 ns; 511 units end it; the
hit assist writes the hit word to the queue of the region.
The model's choices it rests on: notes/assumptions/8.md, notes/assumptions/69.md. -/
def Obligations.HitsComplete : Prop :=
  (∀ (p : Fin 131072) (time : Nat) (s : State) (h : HitSt), (s.pix p.val).high = true → s.hit? p.val = some h →
    h.ended = none →
    Completes (.trailingEdge p time) s fun t =>
      t.hit? p.val = some { h with ended := some (min 511 ((time - h.rise) / (8 * 163840)), time) } ∧
      t.pix p.val = ⟨false, some time⟩ ∧ t.sameRegsBut s [] ∧ t.sameMemory s) ∧
  (∀ (p : Fin 131072) (s : State) (h : HitSt), (s.pix p.val).high = true → s.hit? p.val = some h → h.ended = none →
    Completes (.totSaturation p) s fun t =>
      t.hit? p.val = some { h with ended := some (511, h.rise + 511 * (8 * 163840)) } ∧ (t.pix p.val).high = true ∧
      t.sameRegsBut s [] ∧ t.sameMemory s) ∧
  (∀ (p : Fin 131072) (s : State) (h : HitSt) (tf tot e : Nat), s.hit? p.val = some h → h.conv = some tf →
    h.ended = some (tot, e) → s.time.run = true → s.armed = true → s.descent = none →
    s.coreAlive (s.servedBy (p.val / 128)) = true → (s.region (p.val / 128)).hq.length < 64 →
    Completes (.hitWordWrite p) s fun t =>
      (t.region (p.val / 128)).hq = (s.region (p.val / 128)).hq ++ [⟨hitWord p.val tf tot, h.poison, parityOf (hitWord p.val tf tot)⟩] ∧
      t.hit? p.val = none ∧ t.get (Reg.HQ_STAT_OCC (p.val / 128)) = (s.region (p.val / 128)).hq.length + 1 ∧
      t.time.tick = max s.time.tick (hitTick e h.step4) ∧ t.sameMemory s)

/-- R97 to R104, R107: code-density calibration: an offered edge converts, an accepted code counts, a finished rebuild waits in the shadow
table or is rejected, a commit swaps the tables, AGE advances; the writes of the fret area, of a region and of the edge unit.
The model's choices it rests on: notes/assumptions/8.md, notes/assumptions/44.md, notes/assumptions/85.md, notes/assumptions/93.md. -/
def Obligations.CalibrationCompletes : Prop :=
  ((∀ (u : Fin 1025) (i : Fin 8) (time : Nat) (s : State), s.armed = true → s.get (fMode u.val) = 0 →
    s.dom (unitDom u.val) = true → s.get Reg.TU_STAT_PLLLOCK = 1 → (s.interp u.val i.val).phase = .free →
    (s.interp u.val i.val).lastCal = none → (s.interp u.val i.val).running = true →
    (s.region u.val).hold = [] → (s.tin (i.val / 2)).hold = none →
    Completes (.calibrationEdge u i time) s fun t =>
      (t.interp u.val i.val).phase = .calibrating ∧ (t.interp u.val i.val).start = time ∧
      (t.interp u.val i.val).lastCal = some time ∧ t.sameRegsBut s [] ∧ t.sameMemory s) ∧
  (∀ (u : Fin 1025) (i : Fin 8) (s : State) (t0 c : Nat), (s.interp u.val i.val).cal = some (t0, some c) →
    (s.interp u.val i.val).running = true → (s.interp u.val i.val).accepted < rebuildN (s.interp u.val i.val).quick →
    Completes (.calibrationAccept u i) s fun t =>
      SMap.get (t.interp u.val i.val).hist c 0 = SMap.get (s.interp u.val i.val).hist c 0 + 1 ∧
      (t.interp u.val i.val).accepted = (s.interp u.val i.val).accepted + 1 ∧ (t.interp u.val i.val).cal = none ∧
      t.sameRegsBut s [fProg u.val i.val] ∧ t.sameMemory s) ∧
  (∀ (u : Fin 1025) (i : Fin 8) (s : State), (s.interp u.val i.val).running = true →
    rebuildN (s.interp u.val i.val).quick ≤ (s.interp u.val i.val).accepted →
    rebuildBad (s.interp u.val i.val).hist (rebuildN (s.interp u.val i.val).quick) = false →
    Completes (.rebuildComplete u i) s fun t =>
      (t.interp u.val i.val).wantCommit = true ∧ (t.interp u.val i.val).act = (s.interp u.val i.val).act ∧
      (t.interp u.val i.val).shd = buildTable (s.interp u.val i.val).hist (rebuildN (s.interp u.val i.val).quick)
        (histLo (s.interp u.val i.val).hist) (histHi (s.interp u.val i.val).hist) 288 0 0 ∧
      t.sameRegsBut s [fProg u.val i.val, fQbusy u.val] ∧ t.sameMemory s) ∧
  (∀ (u : Fin 1025) (i : Fin 8) (s : State), (s.interp u.val i.val).running = true →
    rebuildN (s.interp u.val i.val).quick ≤ (s.interp u.val i.val).accepted →
    rebuildBad (s.interp u.val i.val).hist (rebuildN (s.interp u.val i.val).quick) = true →
    Completes (.rebuildComplete u i) s fun t =>
      t.fbit (fRej u.val) i.val = true ∧ (t.interp u.val i.val).act = (s.interp u.val i.val).act ∧ t.sameMemory s) ∧
  (∀ (u : Fin 1025) (i : Fin 8) (s : State), (s.interp u.val i.val).phase = .free →
    (s.interp u.val i.val).wantCommit = true → (s.interp u.val i.val).nominalPending = false →
    s.metWrote (fCommit u.val) = 0 →
    Completes (.fretCommit u i) s fun t =>
      (t.interp u.val i.val).act = (s.interp u.val i.val).shd ∧ (t.interp u.val i.val).shd = (s.interp u.val i.val).act ∧
      t.get (fOfsA u.val i.val) = s.get (fOfsS u.val i.val) % 2 ^ 16 ∧ t.get (fAge u.val i.val) = 0 ∧
      t.fbit (fStale u.val) i.val = false ∧ t.fbit (fCommit u.val) i.val = false ∧
      t.sameRegsBut s [fOfsA u.val i.val, fAge u.val i.val, fStale u.val, fCommit u.val, fProg u.val i.val] ∧ t.sameMemory s) ∧
  (∀ (u : Fin 1025) (i : Fin 8) (s : State), s.time.run = true → s.dom (unitDom u.val) = true →
    Completes (.ageIncrement u i) s fun t =>
      t.get (fAge u.val i.val) = satAdd 24 (s.get (fAge u.val i.val)) 1 ∧
      (t.interp u.val i.val).ageBase = (s.interp u.val i.val).ageBase + 2 ^ 20 ∧
      t.time.tick = max s.time.tick ((s.interp u.val i.val).ageBase + 2 ^ 20) ∧ t.sameMemory s)) ∧
  ((∀ (u : Fin 1025) (i : Fin 8) (s : State), s.dom (unitDom u.val) = true → s.inReset (fcalAddr u.val) = false →
    s.get (fMode u.val) = 1 →
    Completes (.manualCommit u i) s fun t => t.fbit (fCommit u.val) i.val = true ∧ t.sameMemory s) ∧
  (∀ (u : Fin 1025) (manual : Bool) (s : State), s.dom (unitDom u.val) = true → s.inReset (fcalAddr u.val) = false →
    s.get (fMode u.val) = b2n (!manual) →
    Completes (.calibrationModeWrite u manual) s fun t =>
      t.get (fMode u.val) = b2n manual ∧
      (manual = true → ∀ i : Fin 8, (t.interp u.val i.val).running = false ∧ (t.interp u.val i.val).accepted = 0) ∧
      t.sameMemory s) ∧
  (∀ (u : Fin 1025) (lim : BitVec 16) (s : State), s.dom (unitDom u.val) = true → s.inReset (fcalAddr u.val) = false →
    Completes (.ageLimWrite u lim) s fun t =>
      t.get (fAgeLim u.val) = lim.toNat ∧
      (∀ i : Fin 8, t.fbit (fStale u.val) i.val = decide (lim.toNat < s.get (fAge u.val i.val))) ∧ t.sameMemory s) ∧
  (∀ (n : Fin 1024) (s : State), s.dom (unitDom n.val) = true → s.inReset (fcalAddr n.val) = false →
    Completes (.bclr n) s fun t =>
      (∀ p : Fin 128, t.get (Reg.BUSY_CNT_COUNT n.val p.val) = 0) ∧ t.get (Reg.HOLD_CNT_TAKEN n.val) = 0 ∧ t.sameMemory s) ∧
  (∀ (u : Fin 1025) (i : Fin 8) (j : Fin 144) (v : BitVec 32) (s : State), s.dom (unitDom u.val) = true →
    s.inReset (fcalAddr u.val) = false → s.get (fMode u.val) = 1 →
    Completes (.shadowTableWrite u i j v) s fun t =>
      t.lastStatus = .ok ∧ tabGet (t.interp u.val i.val).shd (2 * j.val) = v.toNat % 2 ^ 16 ∧
      tabGet (t.interp u.val i.val).shd (2 * j.val + 1) = v.toNat / 2 ^ 16 ∧
      (t.interp u.val i.val).act = (s.interp u.val i.val).act ∧ t.sameRegsBut s [] ∧ t.sameMemory s))

/-- R109 to R118: the edge unit: prescaler, count, the claims of the modes, stamp and records of the three kinds, gates, the abandoned
interval, and its writes.
The model's choices it rests on: notes/assumptions/8.md, notes/assumptions/65.md, notes/assumptions/71.md, notes/assumptions/74.md,
notes/assumptions/85.md. -/
def Obligations.EdgeUnitCompletes : Prop :=
  (∀ (i : Fin 4) (falling : Bool) (s : State), s.edgeLive = true → tinEn (s.tin i.val).cfg = true →
    falling = tinEpol (s.tin i.val).cfg →
    Completes (.tinPinEdge i falling) s fun t =>
      (if (s.tin i.val).presc + 1 < tinP (s.tin i.val).cfg
        then (t.tin i.val).presc = (s.tin i.val).presc + 1 ∧ (t.tin i.val).due = (s.tin i.val).due
        else (t.tin i.val).presc = 0 ∧ (t.tin i.val).due = (s.tin i.val).due + 1) ∧
      t.sameRegsBut s [] ∧ t.sameMemory s) ∧
  (∀ (i : Fin 4) (time : Nat) (s : State), (s.tin i.val).due ≠ 0 → s.edgeLive = true → (s.tin i.val).cfgPending = false →
    tinEn (s.tin i.val).cfg = true → tinMode (s.tin i.val).cfg = 3 →
    Completes (.prescaledEdge i time) s fun t =>
      t.get (Reg.TIN_CNT_COUNT i.val) = (s.get (Reg.TIN_CNT_COUNT i.val) + 1) % 2 ^ 64 ∧
      (t.tin i.val).due = (s.tin i.val).due - 1 ∧ t.sameRegsBut s [Reg.TIN_CNT_COUNT i.val] ∧ t.sameMemory s) ∧
  (∀ (i : Fin 4) (time : Nat) (s : State) (j : Nat) (r : List Nat), (s.tin i.val).due ≠ 0 → s.edgeLive = true →
    (s.tin i.val).cfgPending = false → tinEn (s.tin i.val).cfg = true → tinMode (s.tin i.val).cfg ≤ 1 →
    s.gateOpen (s.tin i.val).cfg = true → tinSdiv (s.tin i.val).cfg ≤ (s.tin i.val).sdiv → s.get Reg.TU_STAT_PLLLOCK = 1 →
    (s.tin i.val).hold = none → (s.tinPair i.val).filter (fun j => (s.interp edgeUnit j).phase == .free) = j :: r →
    Completes (.prescaledEdge i time) s fun t =>
      (t.interp edgeUnit j).phase = .converting ∧ (t.interp edgeUnit j).start = time ∧ (t.interp edgeUnit j).tap = 0 ∧
      SMap.find? t.edgeTags j = some ⟨i.val, s.get (Reg.TIN_CNT_COUNT i.val) + 1, s.get Reg.EDGE_STAT_GATE, (s.tin i.val).cfg,
        (s.tin i.val).gen, none, none, false⟩ ∧
      (t.tin i.val).sdiv = 0 ∧ t.sameRegsBut s [Reg.TIN_CNT_COUNT i.val] ∧ t.sameMemory s) ∧
  (∀ (i : Fin 4) (time : Nat) (s : State), (s.tin i.val).due ≠ 0 → s.edgeLive = true → (s.tin i.val).cfgPending = false →
    tinEn (s.tin i.val).cfg = true → tinMode (s.tin i.val).cfg ≤ 1 →
    (s.gateOpen (s.tin i.val).cfg = false ∨ (s.tin i.val).sdiv < tinSdiv (s.tin i.val).cfg) →
    Completes (.prescaledEdge i time) s fun t =>
      t.interps = s.interps ∧ t.edgeTags = s.edgeTags ∧ t.merge = s.merge ∧
      (t.tin i.val).sdiv = (s.tin i.val).sdiv + b2n (s.gateOpen (s.tin i.val).cfg) ∧
      t.sameRegsBut s [Reg.TIN_CNT_COUNT i.val] ∧ t.sameMemory s) ∧
  (∀ (i : Fin 4) (time : Nat) (s : State) (tag : EdgeTag), (s.tin i.val).due ≠ 0 → s.edgeLive = true →
    (s.tin i.val).cfgPending = false → tinEn (s.tin i.val).cfg = true → tinMode (s.tin i.val).cfg ≤ 1 →
    s.gateOpen (s.tin i.val).cfg = true → tinSdiv (s.tin i.val).cfg ≤ (s.tin i.val).sdiv → s.get Reg.TU_STAT_PLLLOCK = 1 →
    (∀ j ∈ s.tinPair i.val, (s.interp edgeUnit j).phase ≠ .free) →
    tag = ⟨i.val, s.get (Reg.TIN_CNT_COUNT i.val) + 1, s.get Reg.EDGE_STAT_GATE, (s.tin i.val).cfg, (s.tin i.val).gen, none, none,
      false⟩ →
    ((s.tin i.val).hold = none → Completes (.prescaledEdge i time) s fun t =>
      (t.tin i.val).hold = some (time, tag) ∧ t.edgeTags = s.edgeTags ∧ t.sameRegsBut s [Reg.TIN_CNT_COUNT i.val] ∧ t.sameMemory s) ∧
    ((s.tin i.val).hold ≠ none → Completes (.prescaledEdge i time) s fun t =>
      (t.tin i.val).hold = (s.tin i.val).hold ∧ t.interps = s.interps ∧
      t.get (Reg.TIN_STAT_BUSY i.val) = satAdd 16 (s.get (Reg.TIN_STAT_BUSY i.val)) 1 ∧
      t.sameRegsBut s [Reg.TIN_CNT_COUNT i.val, Reg.TIN_STAT_BUSY i.val] ∧ t.sameMemory s)) ∧
  (∀ (i : Fin 4) (time : Nat) (s : State) (n : Nat), (s.tin i.val).due ≠ 0 → s.edgeLive = true →
    (s.tin i.val).cfgPending = false → tinEn (s.tin i.val).cfg = true → tinMode (s.tin i.val).cfg = 2 →
    (s.tin i.val).freq = some n → n + 1 < 2 ^ 20 → time < (s.tin i.val).startAt + 2 ^ 35 * 160 → (s.tin i.val).stopDue = false →
    Completes (.prescaledEdge i time) s fun t =>
      (t.tin i.val).freq = some (n + 1) ∧ t.interps = s.interps ∧ t.edgeTags = s.edgeTags ∧ t.merge = s.merge ∧
      t.sameRegsBut s [Reg.TIN_CNT_COUNT i.val] ∧ t.sameMemory s) ∧
  (∀ (i : Fin 4) (time : Nat) (s : State) (j : Nat) (r : List Nat), (s.tin i.val).due ≠ 0 → s.edgeLive = true →
    (s.tin i.val).cfgPending = false → tinEn (s.tin i.val).cfg = true → tinMode (s.tin i.val).cfg = 2 →
    s.gateOpen (s.tin i.val).cfg = true → (s.tin i.val).freq = none → (s.tin i.val).armed = true →
    s.get Reg.TU_STAT_PLLLOCK = 1 → (s.tin i.val).hold = none →
    (s.tinPair i.val).filter (fun j => (s.interp edgeUnit j).phase == .free) = j :: r →
    Completes (.prescaledEdge i time) s fun t =>
      (t.interp edgeUnit j).phase = .converting ∧ (t.interp edgeUnit j).start = time ∧
      SMap.find? t.edgeTags j = some ⟨i.val, s.get (Reg.TIN_CNT_COUNT i.val) + 1, s.get Reg.EDGE_STAT_GATE, (s.tin i.val).cfg,
        (s.tin i.val).gen, some ((s.tin i.val).meas + 1), none, false⟩ ∧
      (t.tin i.val).freq = some 0 ∧ (t.tin i.val).armed = false ∧
      t.sameRegsBut s [Reg.TIN_CNT_COUNT i.val] ∧ t.sameMemory s) ∧
  (∀ (i : Fin 4) (time : Nat) (s : State) (j n : Nat) (r : List Nat), (s.tin i.val).due ≠ 0 → s.edgeLive = true →
    (s.tin i.val).cfgPending = false → tinEn (s.tin i.val).cfg = true → tinMode (s.tin i.val).cfg = 2 →
    (s.tin i.val).freq = some n → n + 1 < 2 ^ 20 → time < (s.tin i.val).startAt + 2 ^ 35 * 160 → (s.tin i.val).armed = false →
    (s.tin i.val).stopDue = true → s.get Reg.TU_STAT_PLLLOCK = 1 → (s.tin i.val).hold = none →
    (s.tinPair i.val).filter (fun j => (s.interp edgeUnit j).phase == .free) = j :: r →
    Completes (.prescaledEdge i time) s fun t =>
      (t.interp edgeUnit j).phase = .converting ∧ (t.interp edgeUnit j).start = time ∧
      SMap.find? t.edgeTags j = some ⟨i.val, s.get (Reg.TIN_CNT_COUNT i.val) + 1, s.get Reg.EDGE_STAT_GATE, (s.tin i.val).cfg,
        (s.tin i.val).gen, none, some (n + 1, (s.tin i.val).meas), false⟩ ∧
      (t.tin i.val).freq = none ∧ t.sameRegsBut s [Reg.TIN_CNT_COUNT i.val] ∧ t.sameMemory s) ∧
  (∀ (j : Fin 8) (s : State) (tf : Nat) (tag : EdgeTag) (rest : List (EdgeTag × Nat)),
    SMap.get s.edgeStamps j.val [] = (tag, tf) :: rest → tag.starts = none → tag.stops = none → tag.input < 4 →
    s.edgeLive = true → tinMode tag.cfg = 0 → (∀ m : Fin 4, (s.tin m.val).opened = none) →
    Completes (.edgeStamp j) s fun t =>
      SMap.get t.merge 32 [] = SMap.get s.merge 32 [] ++ [⟨[edgeRec0 tag (s.tinStamp tag tf)], 0, tag.poison, .record, tag.input, 0⟩] ∧
      SMap.get t.edgeStamps j.val [] = rest ∧ t.sameMemory s) ∧
  (∀ (j : Fin 8) (m : Fin 4) (s : State) (tf st : Nat) (tag : EdgeTag) (rest : List (EdgeTag × Nat)),
    SMap.get s.edgeStamps j.val [] = (tag, tf) :: rest → tag.starts = none → tag.stops = none → tag.input < 4 →
    s.edgeLive = true → tinMode tag.cfg = 0 → tinEn (s.tin tag.input).cfg = true → (s.tin m.val).opened = some st →
    tinEn (s.tin m.val).cfg = true → tinMode (s.tin m.val).cfg = 1 → tinStop (s.tin m.val).cfg = tag.input →
    s.tinStamp tag tf - st < 2 ^ 44 → (∀ x : Fin 4, x ≠ m → (s.tin x.val).opened = none) →
    Completes (.edgeStamp j) s fun t =>
      SMap.get t.merge 32 [] = SMap.get s.merge 32 [] ++
        [⟨[edgeRec0 tag (s.tinStamp tag tf)], 0, tag.poison, .record, tag.input, 0⟩,
         ⟨[edgeRec1 m.val tag.input (s.tin m.val).seq (s.tinStamp tag tf - st)], 0, tag.poison, .record, tag.input, 0⟩] ∧
      (t.tin m.val).opened = none ∧ t.sameMemory s) ∧
  (∀ (j : Fin 8) (s : State) (tf n m : Nat) (tag : EdgeTag) (rest : List (EdgeTag × Nat)),
    SMap.get s.edgeStamps j.val [] = (tag, tf) :: rest → tag.starts = none → tag.stops = some (n, m) → tag.input < 4 →
    s.edgeLive = true → tinMode tag.cfg = 2 → (∀ x : Fin 4, (s.tin x.val).opened = none) → n < 2 ^ 20 →
    s.tinStamp tag tf - SMap.get (s.tin tag.input).starts (m % 2) 0 < 2 ^ 35 →
    Completes (.edgeStamp j) s fun t =>
      SMap.get t.merge 32 [] = SMap.get s.merge 32 [] ++
        [⟨[edgeRec0 tag (s.tinStamp tag tf)], 0, tag.poison, .record, tag.input, 0⟩,
         ⟨[edgeRec2 tag.input n (s.tinStamp tag tf - SMap.get (s.tin tag.input).starts (m % 2) 0)], 0, tag.poison, .record,
          tag.input, 0⟩] ∧ t.sameMemory s) ∧
  (∀ (gate : Fin 2) (level : Bool) (s : State), s.dom 35 = true →
    Completes (.gateChange gate level) s fun t =>
      t.fbit Reg.EDGE_STAT_GATE gate.val = level ∧ t.sameRegsBut s [Reg.EDGE_STAT_GATE] ∧ t.sameMemory s) ∧
  (∀ (i : Fin 4) (s : State) (st : Nat), (s.tin i.val).opened = some st → s.time.run = true →
    Completes (.intervalAbandon i) s fun t =>
      (t.tin i.val).opened = none ∧
      t.get (Reg.TIN_STAT_RESTART i.val) = satAdd 16 (s.get (Reg.TIN_STAT_RESTART i.val)) 1 ∧
      t.sameRegsBut s [Reg.TIN_STAT_RESTART i.val] ∧ t.sameMemory s) ∧
  (∀ (i : Fin 4) (v : BitVec 32) (s : State), s.dom 35 = true → s.inReset 0x40000 = false →
    s.get (Reg.TIN_CFG_EN i.val) = 0 → tinEn v.toNat = true →
    Completes (.tinCfgWrite i v) s fun t =>
      t.get (Reg.TIN_CFG_EN i.val) = 1 ∧ t.get (Reg.TIN_CFG_PRESC i.val) = bits v.toNat 28 3 ∧
      t.get (Reg.TIN_CFG_MODE i.val) = bits v.toNat 25 2 ∧ t.get (Reg.TIN_CFG_SDIV i.val) = bits v.toNat 0 12 ∧
      (t.tin i.val).presc = 0 ∧ t.get (Reg.TIN_CNT_COUNT i.val) = 0 ∧ t.sameMemory s) ∧
  (∀ s : State, s.dom 35 = true → s.inReset 0x40000 = false →
    Completes .tinStatClr s fun t =>
      (∀ i : Fin 4, t.get (Reg.TIN_STAT_BUSY i.val) = 0 ∧ t.get (Reg.TIN_STAT_RESTART i.val) = 0) ∧ t.sameMemory s)
/-! ### Region engines apart from their instructions -/

/-- R132, R152, R33, R137: GO starts a halted core, HALT and the end of a descent halt it, an idle core's clock stops, a kick
restarts the watchdog; its expiry sets WDG and takes the next escalation step.
The model's choices it rests on: notes/assumptions/9.md, notes/assumptions/52.md. -/
def Obligations.CoreControlCompletes : Prop :=
  (∀ (n : Fin 1024) (s : State), s.dom (domDig (stripeOf n.val)) = true → s.inReset (reWindow n.val) = false →
    s.imageLoads n.val = false → s.coreState n.val = 1 → s.mayStart n.val = true →
    s.get (Reg.CORE_CTRL_VALID n.val) ≤ 1 → s.get (Reg.CORE_CTRL_LEVEL n.val) ≤ 1 →
    Completes (.go n) s fun t => t.lastStatus = .ok ∧ t.coreState n.val = 2) ∧
  (∀ (n : Fin 1024) (s : State), s.dom (domDig (stripeOf n.val)) = true → s.inReset (reWindow n.val) = false →
    s.coreAlive n.val = true →
    Completes (.halt n) s fun t =>
      t.lastStatus = .ok ∧ t.coreState n.val = 1 ∧ t.get (Reg.CORE_CTRL_HALT n.val) = 0 ∧ t.core n.val = s.core n.val ∧
      t.sameRegsBut s [Reg.CORE_STAT_STATE n.val, Reg.CORE_CTRL_HALT n.val, Reg.CORE_CTRL_AUTO n.val,
        Reg.CORE_CTRL_LEVEL n.val, Reg.CORE_CTRL_VALID n.val] ∧ t.sameMemory s) ∧
  (∀ (n : Fin 1024) (s : State), s.descent.isSome = true → s.coreAlive n.val = true → s.hqEmpty n.val = true →
    s.allClosed n.val = true →
    Completes (.coreQuiesced n) s fun t =>
      t.coreState n.val = 1 ∧ t.sameRegsBut s [Reg.CORE_STAT_STATE n.val, Reg.CORE_CTRL_HALT n.val] ∧ t.sameMemory s) ∧
  (∀ (n : Fin 1024) (s : State), s.coreState n.val = 2 → (s.core n.val).dbgHalt = false → s.hqEmpty n.val = true →
    s.coreWaits n.val = true →
    Completes (.coreIdle n) s fun t =>
      t.coreState n.val = 3 ∧ (t.core n.val).wdStart = s.wdZero n.val ∧ t.sameRegsBut s [Reg.CORE_STAT_STATE n.val] ∧
      t.sameMemory s) ∧
  (∀ (n : Fin 1024) (s : State), s.dom (domDig (stripeOf n.val)) = true → s.inReset (reWindow n.val) = false →
    (s.core n.val).dbgHalt = false →
    Completes (.wdogKick n) s fun t =>
      t.core n.val = { s.core n.val with wdStart := s.wdZero n.val } ∧ t.sameRegsBut s [] ∧ t.sameMemory s) ∧
  (∀ (n : Fin 1024) (s : State), s.coreState n.val = 2 → s.get (Reg.WDOG_EN n.val) = 1 → s.time.run = true →
    (s.core n.val).dbgHalt = false → (s.escOf n.val).busy = false →
    Completes (.coreWatchdog n) s fun t =>
      t.get (Reg.CORE_STAT_WDG n.val) = 1 ∧ (t.escOf n.val).step = min 3 ((s.escOf n.val).step + 1))

/-- R24, R124, R133 to R136, R142, R145, R149: timers, mark events, mailbox messages; code writes of a halted core, BIST, trunk slots.
The model's choices it rests on: notes/assumptions/7.md, notes/assumptions/8.md, notes/assumptions/76.md, notes/assumptions/86.md,
notes/assumptions/93.md. -/
def Obligations.CoreEventsAndMemoryComplete : Prop :=
  ((∀ (n : Fin 1024) (x : Fin 2) (s : State), s.get (Reg.TMR_CTRL_EN n.val x.val) = 1 →
    s.get (Reg.TMR_PERIOD_PERIOD n.val x.val) ≠ 0 → s.time.run = true → s.unwritten (Reg.TMR_CTRL_EN n.val x.val) →
    Completes (.coreTimerExpiry n x) s fun t =>
      (t.core n.val).latched.testBit (2 + x.val) = true ∧
      t.get (Reg.TMR_CTRL_EN n.val x.val) = (if s.get (Reg.TMR_CTRL_PERIODIC n.val x.val) = 1 then 1 else 0) ∧
      t.time.tick = max s.time.tick (SMap.get (s.core n.val).timers x.val 0 + s.get (Reg.TMR_PERIOD_PERIOD n.val x.val)) ∧
      t.sameRegsBut s [Reg.TMR_CTRL_EN n.val x.val, Reg.CORE_STAT_STATE n.val] ∧ t.sameMemory s) ∧
  (∀ (n : Fin 1024) (s : State) (m : MarkEv) (rest : List MarkEv), s.marks.drop (s.region n.val).markSeen = m :: rest →
    s.time.run = true → s.hearsMark n.val m = true → s.dom (domDig (stripeOf n.val)) = true → (s.core (s.servedBy n.val)).evq.length < 16 →
    Completes (.markEvent n) s fun t =>
      (t.core (s.servedBy n.val)).evq = (s.core (s.servedBy n.val)).evq ++
        [markWord m (s.core (s.servedBy n.val)).ovrNext (decide (s.servedBy n.val ≠ n.val))] ∧
      (t.region n.val).markSeen = (s.region n.val).markSeen + 1 ∧
      t.get (Reg.MBOX_STAT_EVQ (s.servedBy n.val)) = (s.core (s.servedBy n.val)).evq.length + 1 ∧
      t.sameRegsBut s [Reg.MBOX_STAT_EVQ (s.servedBy n.val), Reg.CORE_STAT_STATE (s.servedBy n.val)] ∧ t.sameMemory s) ∧
  (∀ (n : Fin 1024) (logical : Bool) (epoch : BitVec 16) (w : Word64) (s : State) (c : Nat),
    c = (if logical then s.servedBy n.val else n.val) → (logical = true → epoch.toNat = s.get (Reg.ADOPT_STAT_EPOCH n.val)) →
    s.dom (domDig (stripeOf c)) = true → s.inReset (reWindow c) = false → (s.core c).mbox.length < 8 →
    Completes (.mboxPost n logical epoch w) s fun t =>
      t.lastStatus = .ok ∧ (t.core c).mbox = (s.core c).mbox ++ [(w, logical && decide (c ≠ n.val))] ∧
      t.get (Reg.MBOX_STAT_IN c) = (s.core c).mbox.length + 1 ∧
      t.sameRegsBut s [Reg.MBOX_STAT_IN c, Reg.CORE_STAT_STATE c] ∧ t.sameMemory s)) ∧
  ((∀ (n : Fin 1024) (j : Fin 4096) (v : BitVec 32) (s : State), s.dom (domDig (stripeOf n.val)) = true →
    s.inReset (reWindow n.val) = false → s.coreState n.val = 1 → s.locked = false → s.imageLoads n.val = false →
    s.unwritten (Reg.CORE_CTRL_VALID n.val) →
    Completes (.codeMemoryWrite n j v) s fun t =>
      t.lastStatus = .ok ∧ t.readLe (reWindow n.val + 0x8000 + 4 * j.val) 4 = v.toNat ∧
      t.get (Reg.CORE_CTRL_VALID n.val) = 0 ∧ t.sameRegsBut s [Reg.CORE_CTRL_VALID n.val] ∧
      (∀ a, a < reWindow n.val + 0x8000 + 4 * j.val ∨ reWindow n.val + 0x8000 + 4 * j.val + 4 ≤ a →
        t.readByte a = s.readByte a)) ∧
  (∀ (n : Fin 1024) (s : State), s.dom (domDig (stripeOf n.val)) = true → s.inReset (reWindow n.val) = false →
    s.coreState n.val = 1 → s.served n.val = [] →
    Completes (.bistStart n) s fun t =>
      t.coreState n.val = 4 ∧ t.get (Reg.BIST_START n.val) = 1 ∧ t.get (Reg.BIST_DONE n.val) = 0 ∧
      t.sameRegsBut s [Reg.CORE_STAT_STATE n.val, Reg.BIST_START n.val, Reg.BIST_DONE n.val, Reg.BIST_PASS n.val,
        Reg.BIST_FAIL n.val] ∧ t.sameMemory s) ∧
  (∀ (n : Fin 1024) (fail : Fin 7) (s : State), s.coreState n.val = 4 →
    s.unwritten (Reg.CORE_CTRL_VALID n.val) → s.unwritten (Reg.BIST_START n.val) →
    Completes (.bistDone n fail) s fun t =>
      t.coreState n.val = 1 ∧ t.get (Reg.BIST_DONE n.val) = 1 ∧ t.get (Reg.BIST_PASS n.val) = b2n (fail.val == 0) ∧
      t.get (Reg.BIST_FAIL n.val) = fail.val ∧ t.get (Reg.CORE_CTRL_VALID n.val) = 0 ∧
      (∀ o, o < 0x8000 → t.readByte (reWindow n.val + o) = 0) ∧
      (∀ a, a < reWindow n.val ∨ reWindow n.val + 0x10000 ≤ a → t.readByte a = s.readByte a)) ∧
  (∀ (n : Fin 1024) (s : State), (s.core n.val).dbgHalt = false → s.dom (domDig (stripeOf n.val)) = true →
    s.servesOwn n.val = true → s.servesBuddy n.val = false → (s.region n.val).gapq = [] → (s.core n.val).emits = [] → s.armed = true →
    (∀ e ∈ (s.core n.val).outq.take 4, e.cls ≠ .message ∧ e.buddy = false) →
    Completes (.slotStart n) s fun t =>
      (t.core n.val).outq = (s.core n.val).outq.drop 4 ∧
      SMap.get t.merge (n.val % 32) [] = SMap.get s.merge (n.val % 32) [] ++
        ((s.core n.val).outq.take 4).map (fun e => ⟨e.words, e.stream, e.poison || decide (2 ≤ e.ecc), e.cls, n.val, 0⟩) ∧
      (let f := ((s.core n.val).outq.take 4).countP (fun e => e.ecc == 1)
       t.get (Reg.EL_SEU_COUNT 0) = if f = 0 then s.get (Reg.EL_SEU_COUNT 0) else satAdd 32 (s.get (Reg.EL_SEU_COUNT 0)) f) ∧
      t.sameRegsBut s [Reg.OUTQ_STAT_OCC n.val, Reg.EL_SEU_COUNT 0] ∧ t.sameMemory s))

/-- R146, R147: ADOPT and RETURN send a close request to the core that serves the region; on tick T the serving core changes and the
adoption epoch advances; without an acknowledgement the switch follows the timeout.
The model's choices it rests on: notes/assumptions/8.md. -/
def Obligations.AdoptionCompletes : Prop :=
  (∀ (n : Fin 1024) (s : State), s.dom (domDig (stripeOf n.val)) = true → s.inReset (reWindow n.val) = false →
    s.adoptOk n.val = true → s.get (Reg.ADOPT_CTRL_TMO n.val) < 2 ^ 16 →
    Completes (.adoptRequest n) s fun t =>
      t.lastStatus = .ok ∧ t.get (Reg.ADOPT_STAT_STATE n.val) = 1 ∧ t.get (Reg.ADOPT_CTRL_ADOPT n.val) = 1 ∧
      (t.region n.val).closeBy = some (s.time.tick + 1250 * max 1 (s.get (Reg.ADOPT_CTRL_TMO n.val))) ∧
      (t.core n.val).closePend = true ∧ t.sameMemory s) ∧
  (∀ (n : Fin 1024) (s : State), s.dom (domDig (stripeOf n.val)) = true → s.inReset (reWindow n.val) = false →
    s.returnOk n.val = true → s.get (Reg.ADOPT_CTRL_TMO n.val) < 2 ^ 16 →
    Completes (.returnRequest n) s fun t =>
      t.lastStatus = .ok ∧ t.get (Reg.ADOPT_STAT_STATE n.val) = 3 ∧ t.get (Reg.ADOPT_CTRL_RETURN n.val) = 1 ∧
      (t.region n.val).closeBy = some (s.time.tick + 1250 * max 1 (s.get (Reg.ADOPT_CTRL_TMO n.val))) ∧
      (t.core (buddy n.val)).closePend = true ∧ t.sameMemory s) ∧
  (∀ (n : Fin 1024) (s : State) (tick : Nat) (g : Bool), (s.region n.val).switchDue = some (tick, g) → s.time.run = true →
    (s.escOf n.val).busy = false →
    Completes (.adoptionSwitch n) s fun t =>
      t.get (Reg.ADOPT_STAT_STATE n.val) = (if s.get (Reg.ADOPT_STAT_STATE n.val) = 3 then 0 else 2) ∧
      t.servedBy n.val = (if s.get (Reg.ADOPT_STAT_STATE n.val) = 3 then n.val else buddy n.val) ∧
      t.get (Reg.ADOPT_STAT_EPOCH n.val) = (s.get (Reg.ADOPT_STAT_EPOCH n.val) + 1) % 2 ^ 16 ∧
      (t.region n.val).switchDue = none) ∧
  (∀ (n : Fin 1024) (s : State) (tick : Nat), (s.region n.val).closeBy = some tick → (s.region n.val).switchDue = none →
    Completes (.adoptTimeout n) s fun t =>
      (t.region n.val).closeBy = none ∧ (t.region n.val).switchDue = some (t.time.tick + 1, true) ∧ t.sameMemory s)
/-! ### The BZX instruction set -/

/-- R167: the integer, constant and field instructions, each with its result, its flags, its cycles, and nothing else changed; a shift
amount is bits [5:0] of its source.
The model's choices it rests on: notes/assumptions/17.md, notes/assumptions/37.md. -/
def Obligations.IntegerInstructionsComplete : Prop :=
  (CompletesR .add 0x000 (fun a b => a + b) flagsSum ∧
  CompletesR .sub 0x001 (fun a b => a - b) flagsDiff ∧
  CompletesR .mul 0x008 (fun a b => a * b) (fun a b => flagsZN (a * b)) ∧
  CompletesR .mulhu 0x009 (fun a b => ((a.zeroExtend 128 * b.zeroExtend 128) >>> 64).truncate 64)
    (fun a b => flagsZN (((a.zeroExtend 128 * b.zeroExtend 128) >>> 64).truncate 64)) ∧
  CompletesR .minu 0x00A (fun a b => if a ≤ b then a else b) (fun a b => flagsZN (if a ≤ b then a else b)) ∧
  CompletesR .maxu 0x00B (fun a b => if a ≤ b then b else a) (fun a b => flagsZN (if a ≤ b then b else a)) ∧
  CompletesR .slt 0x00C (fun a b => if a.slt b then 1 else 0) (fun a b => flagsZN (if a.slt b then 1 else 0)) ∧
  CompletesR .sltu 0x00D (fun a b => if a < b then 1 else 0) (fun a b => flagsZN (if a < b then 1 else 0)) ∧
  CompletesI .addi 0x01 (fun a i => a + i.signExtend 64) (fun a i => flagsSum a (i.signExtend 64))) ∧
  (CompletesR .and 0x002 (fun a b => a &&& b) (fun a b => flagsZN (a &&& b)) ∧
  CompletesR .or 0x003 (fun a b => a ||| b) (fun a b => flagsZN (a ||| b)) ∧
  CompletesR .xor 0x004 (fun a b => a ^^^ b) (fun a b => flagsZN (a ^^^ b)) ∧
  CompletesR .shl 0x005 (fun a b => a <<< (b.toNat % 64)) (fun a b => flagsZN (a <<< (b.toNat % 64))) ∧
  CompletesR .shr 0x006 (fun a b => a >>> (b.toNat % 64)) (fun a b => flagsZN (a >>> (b.toNat % 64))) ∧
  CompletesR .sar 0x007 (fun a b => a.sshiftRight (b.toNat % 64)) (fun a b => flagsZN (a.sshiftRight (b.toNat % 64))) ∧
  CompletesI .andi 0x02 (fun a i => a &&& i.zeroExtend 64) (fun a i => flagsZN (a &&& i.zeroExtend 64)) ∧
  CompletesI .ori 0x03 (fun a i => a ||| i.zeroExtend 64) (fun a i => flagsZN (a ||| i.zeroExtend 64)) ∧
  CompletesI .xori 0x04 (fun a i => a ^^^ i.zeroExtend 64) (fun a i => flagsZN (a ^^^ i.zeroExtend 64)) ∧
  CompletesS .shli 0 (fun a n => a <<< n) ∧ CompletesS .shri 1 (fun a n => a >>> n) ∧
  CompletesS .sari 2 (fun a n => a.sshiftRight n)) ∧
  ((∀ (c : Fin 1026) (rd ra rb : BitVec 5) (s : State), s.readyFor c.val (wordR 0 rd.toNat ra.toNat rb.toNat 0x00E) = true →
    Completes (.clz c rd ra rb) s fun t =>
      let r := ((s.core c.val).val ra.toNat).clz
      s.inRegs t c.val [ra.toNat] (some (rd.toNat, r)) (flagsZN r) 1 (s.pcNext c.val)) ∧
  (∀ (c : Fin 1026) (rd ra rb : BitVec 5) (s : State), s.readyFor c.val (wordR 0 rd.toNat ra.toNat rb.toNat 0x00F) = true →
    Completes (.popc c rd ra rb) s fun t =>
      let a := (s.core c.val).val ra.toNat
      let r := BitVec.ofNat 64 ((List.range 64).filter (fun i => a.getLsbD i)).length
      s.inRegs t c.val [ra.toNat] (some (rd.toNat, r)) (flagsZN r) 1 (s.pcNext c.val)) ∧
  (∀ (c : Fin 1026) (rd ra : BitVec 5) (imm : BitVec 16) (s : State), s.readyFor c.val (wordI 0x06 rd.toNat ra.toNat imm.toNat) = true →
    Completes (.ldi c rd ra imm) s fun t =>
      s.inRegs t c.val [] (some (rd.toNat, imm.signExtend 64)) (flagsZN (imm.signExtend 64)) 1 (s.pcNext c.val)) ∧
  (∀ (c : Fin 1026) (rd q : BitVec 5) (imm : BitVec 16) (s : State), s.readyFor c.val (wordI 0x07 rd.toNat q.toNat imm.toNat) = true →
    Completes (.ins c rd q imm) s fun t =>
      let r := depositWord ((s.core c.val).val rd.toNat) (imm.zeroExtend 64) (16 * q.toNat) 16
      s.inRegs t c.val [rd.toNat] (some (rd.toNat, r)) (flagsZN r) 1 (s.pcNext c.val)) ∧
  (∀ (c : Fin 1026) (rd ra : BitVec 5) (pos len1 : BitVec 6) (low : BitVec 4) (s : State),
    s.readyFor c.val (wordF 0x08 rd.toNat ra.toNat pos.toNat len1.toNat low.toNat) = true →
    Completes (.ext c rd ra pos len1 low) s fun t =>
      let r := (((s.core c.val).val ra.toNat).extractLsb' pos.toNat (len1.toNat + 1)).zeroExtend 64
      s.inRegs t c.val [ra.toNat] (some (rd.toNat, r)) (flagsZN r) 1 (s.pcNext c.val)) ∧
  (∀ (c : Fin 1026) (rd ra : BitVec 5) (pos len1 : BitVec 6) (low : BitVec 4) (s : State),
    s.readyFor c.val (wordF 0x09 rd.toNat ra.toNat pos.toNat len1.toNat low.toNat) = true →
    Completes (.exts c rd ra pos len1 low) s fun t =>
      let r := (((s.core c.val).val ra.toNat).extractLsb' pos.toNat (len1.toNat + 1)).signExtend 64
      s.inRegs t c.val [ra.toNat] (some (rd.toNat, r)) (flagsZN r) 1 (s.pcNext c.val)) ∧
  (∀ (c : Fin 1026) (rd ra : BitVec 5) (pos len1 : BitVec 6) (low : BitVec 4) (s : State),
    s.readyFor c.val (wordF 0x0A rd.toNat ra.toNat pos.toNat len1.toNat low.toNat) = true →
    Completes (.dep c rd ra pos len1 low) s fun t =>
      let r := depositWord ((s.core c.val).val rd.toNat) ((s.core c.val).val ra.toNat) pos.toNat (len1.toNat + 1)
      s.inRegs t c.val [rd.toNat, ra.toNat] (some (rd.toNat, r)) (flagsZN r) 1 (s.pcNext c.val)))

/-- R156, R161, R170: branches and jumps: where each goes and what it writes; a taken branch and a jump take 2 cycles, and none changes
FLAGS but for P, which a poisoned register that it reads sets.
The model's choices it rests on: notes/assumptions/37.md, notes/assumptions/98.md. -/
def Obligations.ControlTransferCompletes : Prop :=
  CompletesB .beq 0x20 (fun a b => a == b) ∧ CompletesB .bne 0x21 (fun a b => a != b) ∧
  CompletesB .blt 0x22 (fun a b => a.slt b) ∧ CompletesB .bge 0x23 (fun a b => b.sle a) ∧
  CompletesB .bltu 0x24 (fun a b => a.ult b) ∧ CompletesB .bgeu 0x25 (fun a b => b.ule a) ∧
  (∀ (c : Fin 1026) (cond rb : BitVec 5) (off : BitVec 16) (s : State),
    s.readyFor c.val (wordI 0x26 cond.toNat rb.toNat off.toNat) = true →
    Completes (.bf c cond rb off) s fun t =>
      let f := (s.core c.val).flags
      let fs : List Bool := [f.z, f.n, f.c, f.v, f.p, f.e, f.f, f.r]
      let b := fs.getD (cond.toNat % 8) false != cond.getLsbD 4
      s.inRegs t c.val [] none id (if b then 2 else 1) (if b then s.branchTo c.val off.toNat else s.pcNext c.val)) ∧
  (∀ (c : Fin 1026) (ra : BitVec 5) (off : BitVec 21) (s : State),
    s.readyFor c.val (wordI 0x27 ra.toNat (off.toNat / 65536) (off.toNat % 65536)) = true →
    Completes (.dbnz c ra off) s fun t =>
      let v := (s.core c.val).val ra.toNat - 1
      let b := v != 0 && ra != 0
      s.inRegs t c.val [ra.toNat] (some (ra.toNat, v)) id (if b then 2 else 1) (if b then s.branchTo c.val (off.toNat % 65536) else s.pcNext c.val)) ∧
  (∀ (c : Fin 1026) (rd raf : BitVec 5) (target : BitVec 16) (s : State),
    s.readyFor c.val (wordI 0x28 rd.toNat raf.toNat target.toNat) = true →
    Completes (.jal c rd raf target) s fun t =>
      s.inRegs t c.val [] (some (rd.toNat, BitVec.ofNat 64 ((s.core c.val).pc + 1))) id 2 (target.toNat % codeSize c.val)) ∧
  (∀ (c : Fin 1026) (rd ra rb : BitVec 5) (s : State), s.readyFor c.val (wordR 0x29 rd.toNat ra.toNat rb.toNat 0) = true →
    Completes (.jalr c rd ra rb) s fun t =>
      s.inRegs t c.val [ra.toNat] (some (rd.toNat, BitVec.ofNat 64 ((s.core c.val).pc + 1))) id 2
        ((s.core c.val).reg ra.toNat % codeSize c.val))

/-- R168, R169, R161: loads, stores and histogram increments in data memory: the value of the bytes, which bytes change, the
cycles.
The model's choices it rests on: notes/assumptions/17.md, notes/assumptions/37.md. -/
def Obligations.DataMemoryInstructionsComplete : Prop :=
  CompletesLoad .ld 0x10 8 ∧ CompletesLoad .lw 0x11 4 ∧ CompletesLoad .lh 0x12 2 ∧ CompletesLoad .lb 0x13 1 ∧
  CompletesStore .st 0x14 8 ∧ CompletesStore .sw 0x15 4 ∧ CompletesStore .sh 0x16 2 ∧ CompletesStore .sb 0x17 1 ∧
  CompletesHinc .hincH 0 2 ∧ CompletesHinc .hincW 1 4

/-- R161, R164 to R166: an access outside data memory.  A load takes 4 cycles and gives what the map shows there, in its own width; a
misaligned access takes ALIGN, one that reaches nothing RANGE (a byte access always), and where both apply one of them; a store to any
location but those of R165 takes CSR_PROT; stores to EVT_EN, to a slot's parameters, to the pixel configuration and to a register of
the keel give them the bits stored in 4 cycles; a 64-bit store to SAFE_TICK, from one that is not ahead of TB_COUNT, never lowers it and
stops at TB_COUNT.
The model's choices it rests on: notes/assumptions/1.md, notes/assumptions/20.md, notes/assumptions/22.md, notes/assumptions/37.md,
notes/assumptions/44.md. -/
def Obligations.WindowAccessesAnswer : Prop :=
  (CompletesWindowLoad .ld 0x10 8 ∧ CompletesWindowLoad .lw 0x11 4 ∧ CompletesWindowLoad .lh 0x12 2) ∧
  (TrapsAccess .ld 0x10 8 ∧ TrapsAccess .lw 0x11 4 ∧ TrapsAccess .lh 0x12 2 ∧ TrapsAccess .lb 0x13 1 ∧
    TrapsAccess .st 0x14 8 ∧ TrapsAccess .sw 0x15 4 ∧ TrapsAccess .sh 0x16 2 ∧ TrapsAccess .sb 0x17 1) ∧
  (∀ (c : Nat) (s : State) (a : Nat), dataSize c ≤ a → s.reach c a 1 = false) ∧
  RefusesStore .st 0x14 8 ∧ RefusesStore .sw 0x15 4 ∧
  (∀ (c : Fin 1024) (rs ra : BitVec 5) (imm : BitVec 16) (s : State),
    s.readyFor c.val (wordI 0x15 rs.toNat ra.toNat imm.toNat) = true → s.accAddr c.val ra imm = 0xC030 →
    Completes (.sw ⟨c.val, by omega⟩ rs ra imm) s fun t =>
      t.get (Reg.EVT_EN_EN c.val) = (s.core c.val).reg rs.toNat % 256 ∧ s.windowStored t c.val rs ra [Reg.EVT_EN_EN c.val]) ∧
  (∀ (c : Fin 1024) (rs ra : BitVec 5) (imm : BitVec 16) (s : State) (i : Fin 4),
    s.readyFor c.val (wordI 0x15 rs.toNat ra.toNat imm.toNat) = true → s.accAddr c.val ra imm = 0xC514 + 0x10 * i.val →
    s.rselServed c.val = true →
    Completes (.sw ⟨c.val, by omega⟩ rs ra imm) s fun t =>
      let f := Reg.SLOT_P1_P (s.rselRegion c.val) i.val
      t.get f = (s.core c.val).reg rs.toNat % 2 ^ 32 ∧ s.windowStored t c.val rs ra [f]) ∧
  (∀ (c : Fin 1024) (rs ra : BitVec 5) (imm : BitVec 16) (s : State) (i : Fin 4),
    s.readyFor c.val (wordI 0x14 rs.toNat ra.toNat imm.toNat) = true → s.accAddr c.val ra imm = 0xC518 + 0x10 * i.val →
    s.rselServed c.val = true →
    Completes (.st ⟨c.val, by omega⟩ rs ra imm) s fun t =>
      let f := Reg.SLOT_P2_P (s.rselRegion c.val) i.val
      let g := Reg.SLOT_P3_P (s.rselRegion c.val) i.val
      t.get f = (s.core c.val).reg rs.toNat % 2 ^ 32 ∧ t.get g = (s.core c.val).reg rs.toNat / 2 ^ 32 % 2 ^ 32 ∧
      s.windowStored t c.val rs ra [f, g]) ∧
  (∀ (c : Fin 1024) (rs ra : BitVec 5) (imm : BitVec 16) (s : State) (l : Fin 128),
    s.readyFor c.val (wordI 0x16 rs.toNat ra.toNat imm.toNat) = true → s.accAddr c.val ra imm = 0xC400 + 2 * l.val →
    s.rselServed c.val = true →
    Completes (.sh ⟨c.val, by omega⟩ rs ra imm) s fun t =>
      let n := s.rselRegion c.val
      let v := (s.core c.val).reg rs.toNat
      let fs := [Reg.PIXCFG_TRIM n l.val, Reg.PIXCFG_GAIN n l.val, Reg.PIXCFG_MASK n l.val, Reg.PIXCFG_TPEN n l.val,
        Reg.PIXCFG_LCEN n l.val, Reg.PIXCFG_AOFF n l.val]
      fs.map t.get = [v / 2 ^ 10 % 64, v / 2 ^ 8 % 4, v / 2 ^ 7 % 2, v / 2 ^ 6 % 2, v / 2 ^ 5 % 2, v / 2 ^ 4 % 2] ∧
      s.windowStored t c.val rs ra fs) ∧
  (∀ (k : Fin 2) (rs ra : BitVec 5) (imm : BitVec 16) (s : State),
    s.readyFor (1024 + k.val) (wordI 0x15 rs.toNat ra.toNat imm.toNat) = true → s.accAddr (1024 + k.val) ra imm = 0x50024 →
    Completes (.sw ⟨1024 + k.val, by omega⟩ rs ra imm) s fun t =>
      t.get (Reg.CD_EVT_EN_EN k.val) = (s.core (1024 + k.val)).reg rs.toNat % 128 ∧
      s.windowStored t (1024 + k.val) rs ra [Reg.CD_EVT_EN_EN k.val]) ∧
  (∀ (c : Fin 1024) (rs ra : BitVec 5) (imm : BitVec 16) (s : State) (v : Nat),
    s.readyFor c.val (wordI 0x14 rs.toNat ra.toNat imm.toNat) = true → s.accAddr c.val ra imm = 0xC610 →
    (s.core c.val).rsel = 0 → s.servesOwn c.val = true → v = (s.core c.val).reg rs.toNat % 2 ^ 56 →
    s.get (Reg.SAFE_TICK_TICK c.val) ≤ s.now →
    Completes (.st ⟨c.val, by omega⟩ rs ra imm) s fun t =>
      t.get (Reg.SAFE_TICK_TICK c.val)
        = (if v < s.get (Reg.SAFE_TICK_TICK c.val) then s.get (Reg.SAFE_TICK_TICK c.val) else if s.now < v then s.now else v) ∧
      t.sameRegsBut s [Reg.SAFE_TICK_TICK c.val] ∧ t.sameMemory s ∧
      (s.core c.val).ended (t.core c.val) [rs.toNat, ra.toNat] none id 4 (s.pcNext c.val))

/-- R163, R171, R172: the hit-queue and time instructions.  HPOP.s pops the RSEL region, HPOP.a the region that R172 picks; the word
enters hd with its tag, E clears, R gives the region and P takes the tag; an empty queue sets E and changes no register.
The model's choices it rests on: notes/assumptions/23.md, notes/assumptions/37.md. -/
def Obligations.HitAndTimeInstructionsComplete : Prop :=
  ((∀ (c : Fin 1026) (hd : BitVec 5) (s : State) (h : HqWord) (rest : List HqWord),
    s.readyFor c.val (wordI 0x30 hd.toNat 0 0) = true → s.rselServed c.val = true →
    (s.region (s.rselRegion c.val)).hq = h :: rest → h.bad = false → rest.length < 2 ^ 7 →
    Completes (.hpopS c hd) s fun t =>
      (t.core c.val).reg hd.toNat = h.word.toNat ∧ (t.core c.val).tag hd.toNat = h.poison ∧
      (∀ r, r ≠ hd.toNat → (t.core c.val).reg r = (s.core c.val).reg r) ∧
      (t.core c.val).flags = { (s.core c.val).flags with e := false, r := s.rselBuddy c.val, p := (s.core c.val).flags.p || h.poison } ∧
      (t.core c.val).pc = s.pcNext c.val ∧ t.region (s.rselRegion c.val) = { s.region (s.rselRegion c.val) with hq := rest } ∧
      t.get (Reg.HQ_STAT_OCC (s.rselRegion c.val)) = rest.length ∧
      t.sameRegsBut s [Reg.HQ_STAT_OCC (s.rselRegion c.val)] ∧ t.sameMemory s) ∧
  (∀ (c : Fin 1026) (hd : BitVec 5) (s : State), s.readyFor c.val (wordI 0x30 hd.toNat 0 0) = true →
    (s.rselServed c.val = false ∨ (s.region (s.rselRegion c.val)).hq = []) →
    Completes (.hpopS c hd) s fun t => s.inRegs t c.val [] none (fun f => { f with e := true }) 1 (s.pcNext c.val)) ∧
  (∀ (c : Fin 1026) (hd : BitVec 5) (s : State) (b : Bool) (h : HqWord) (rest : List HqWord),
    s.readyFor c.val (wordI 0x30 hd.toNat 0 1) = true →
    (let own := s.servesOwn c.val && !(s.region c.val).hq.isEmpty
     let bud := s.servesBuddy c.val && !(s.region (buddy c.val)).hq.isEmpty
     (own = true ∧ bud = true ∧ b = !(s.core c.val).lastPop) ∨ (own = true ∧ bud = false ∧ b = false) ∨
       (own = false ∧ bud = true ∧ b = true)) →
    (s.region (if b then buddy c.val else c.val)).hq = h :: rest → h.bad = false →
    Completes (.hpopA c hd) s fun t =>
      (t.core c.val).reg hd.toNat = h.word.toNat ∧ (t.core c.val).tag hd.toNat = h.poison ∧
      (t.core c.val).flags = { (s.core c.val).flags with e := false, r := b, p := (s.core c.val).flags.p || h.poison } ∧
      (t.core c.val).lastPop = b ∧ (t.core c.val).pc = s.pcNext c.val ∧
      t.region (if b then buddy c.val else c.val) = { s.region (if b then buddy c.val else c.val) with hq := rest } ∧
      t.sameRegsBut s [Reg.HQ_STAT_OCC (if b then buddy c.val else c.val)] ∧ t.sameMemory s) ∧
  (∀ (c : Fin 1026) (rd ra : BitVec 5) (imm : BitVec 16) (s : State), s.readyFor c.val (wordI 0x31 rd.toNat ra.toNat imm.toNat) = true →
    Completes (.hcnt c rd ra imm) s fun t =>
      let n := if s.rselServed c.val then (s.region (s.rselRegion c.val)).hq.length else 0
      s.inRegs t c.val [] (some (rd.toNat, BitVec.ofNat 64 n)) (fun f => { f with z := decide (n = 0) }) 1 (s.pcNext c.val))) ∧
  ((∀ (c : Fin 1026) (rd ra rb : BitVec 5) (s : State), s.readyFor c.val (wordR 0x32 rd.toNat ra.toNat rb.toNat 0) = true →
    Completes (.text c rd ra rb) s fun t =>
      let f : Int := ((s.core c.val).reg ra.toNat / 2 ^ 19 % 2 ^ 24 : Nat)
      let v := ((s.now : Int) - ((s.now : Int) - f) % 2 ^ 24) % 2 ^ 56
      s.inRegs t c.val [ra.toNat] (some (rd.toNat, BitVec.ofInt 64 v)) (fun g => { g with z := decide (v = 0) }) 1 (s.pcNext c.val)) ∧
  (∀ (c : Fin 1026) (rd ra rb : BitVec 5) (s : State) (a : Nat), s.readyFor c.val (wordR 0x33 rd.toNat ra.toNat rb.toNat 0) = true →
    a = ((s.core c.val).val rb.toNat + BitVec.ofNat 64 (2 * ((s.core c.val).reg ra.toNat % 512 / 8))).toNat → a % 2 = 0 →
    a < dataSize c.val → s.eccAt (dataBase c.val + a) = 0 →
    Completes (.walk c rd ra rb) s fun t =>
      let e := (BitVec.ofNat 16 (s.readLe (dataBase c.val + a) 2)).toInt
      let v := (((s.core c.val).reg ra.toNat / 2 ^ 9 % 2 ^ 34 : Nat) - e) % 2 ^ 34
      s.inRegs t c.val [ra.toNat, rb.toNat] (some (rd.toNat, BitVec.ofInt 64 v)) (fun g => { g with z := decide (v = 0) }) 3
        (s.pcNext c.val)) ∧
  (∀ (c : Fin 1026) (rd ra : BitVec 5) (imm : BitVec 16) (s : State), s.readyFor c.val (wordI 0x34 rd.toNat ra.toNat imm.toNat) = true →
    Completes (.tnow c rd ra imm) s fun t =>
      s.inRegs t c.val [] (some (rd.toNat, BitVec.ofNat 64 (s.time.tick % 2 ^ 56))) id 2 (s.pcNext c.val)) ∧
  CompletesR .tsub 0x010 (fun a b => ((a - b).truncate 34).signExtend 64) (fun a b => flagsZN (((a - b).truncate 34).signExtend 64)) ∧
  (∀ (c : Fin 1026) (rd ra rb : BitVec 5) (s : State), s.readyFor c.val (wordR 0 rd.toNat ra.toNat rb.toNat 0x011) = true →
    (s.core c.val).reg rb.toNat / 2 ^ 52 % 2 ^ 12 = 0 →
    Completes (.bin c rd ra rb) s fun t =>
      let w : Nat := (s.core c.val).reg rb.toNat
      let d := (((s.core c.val).val ra.toNat - BitVec.ofNat 64 (w % 2 ^ 34)).truncate 34).toInt
      let n : Nat := if w / 2 ^ 40 % 2 ^ 12 = 0 then 4096 else w / 2 ^ 40 % 2 ^ 12
      let miss := decide (d < 0 ∨ (n : Int) ≤ d / 2 ^ (w / 2 ^ 34 % 2 ^ 6))
      let v := if miss then BitVec.ofNat 64 n else BitVec.ofInt 64 (d / 2 ^ (w / 2 ^ 34 % 2 ^ 6))
      s.inRegs t c.val [ra.toNat, rb.toNat] (some (rd.toNat, v)) (fun g => { flagsZN v g with v := miss }) 1 (s.pcNext c.val)))

/-- R154, R159, R160, R141, R501: what an instruction row does before its own effect: nothing where the core cannot issue or
another legal word has been loaded at its PC; ILLEGAL for an illegal word, its own or the loaded one; CODE_ECC for a word with an uncorrectable error; a single-bit
error is corrected and counted and the word executes.
The model's choices it rests on: notes/assumptions/2.md, notes/assumptions/18.md, notes/assumptions/37.md. -/
def Obligations.InstructionFetch : Prop :=
  ∀ (i : Instr) (c w : Nat) (s : State), insnWord i = some (c, w) →
    (s.canIssue c = false → exec i s = .next s) ∧
    (∀ v, s.loadedWord c = some v → v ≠ w → wCanon v ≠ w → legal c v = true → exec i s = .next s) ∧
    (∀ v, s.loadedWord c = some v → v ≠ w → s.fetches c v = true → legal c v = false → (s.core c).inHandler = false →
      Completes i s fun t => s.tookException t c xILLEGAL) ∧
    (s.fetches c w = true → legal c w = false → (s.core c).inHandler = false →
      Completes i s fun t => s.tookException t c xILLEGAL) ∧
    (s.canIssue c = true → s.brkHere c = false → (s.loadedWord c).all (· == w) = true →
      (s.eccAt (codeAddr c (s.core c).pc) = 1 →
        exec i s = exec i (((s.putEcc (codeAddr c (s.core c).pc) 0).seu (memClass (codeAddr c (s.core c).pc))).eccNote
          (codeAddr c (s.core c).pc) false)) ∧
      (s.eccAt (codeAddr c (s.core c).pc) = 2 → c < 1024 → (s.core c).inHandler = false →
        Completes i s fun t => t.get (Reg.EXC_CAUSE_CODE c) = 2 ∧ t.get (Reg.EXC_PC_IDX c) = (s.core c).pc % 2 ^ 12 ∧
          (t.core c).pc = s.vector c ∧ (t.core c).inHandler = true ∧ (t.core c).g = (s.core c).g ∧ t.sameMemory s))

/-- R173, R130, R143: SEND and SEND.p of an open stream that the region's STREAM_MASK allows.
The model's choices it rests on: notes/assumptions/37.md. -/
def Obligations.RecordsComplete : Prop :=
  ∀ (c : Fin 1026) (rs ra : BitVec 5) (stream : BitVec 6) (high : BitVec 9) (s : State) (dotP : Bool),
    s.readyFor c.val (wordI 0x35 rs.toNat ra.toNat (high.toNat * 128 + (if dotP then 64 else 0) + stream.toNat)) = true →
    s.sendMask.testBit stream.toNat = true → s.rselServed c.val = true →
    (s.get (Reg.STREAM_MASK_MASK (s.rselRegion c.val))).testBit stream.toNat = true →
    let k := s.core c.val
    let flag := k.tag rs.toNat || (dotP && k.flags.p)
    let fl : Bool → Flags → Flags := fun full f => { f with f := full, p := if dotP then false else f.p }
    Completes (if dotP then .sendP c rs ra stream high else .send c rs ra stream high) s fun t =>
      (k.outq.length < 32 →
        (t.core c.val).outq = k.outq ++ [⟨[k.val rs.toNat], stream.toNat, flag, .record, s.rselBuddy c.val, 0⟩] ∧
        t.get (Reg.OUTQ_STAT_OCC c.val) = k.outq.length + 1 ∧ t.sameRegsBut s [Reg.OUTQ_STAT_OCC c.val] ∧
        k.ended (t.core c.val) [rs.toNat] none (fl false) 1 (s.pcNext c.val)) ∧
      (32 ≤ k.outq.length →
        (t.core c.val).outq = k.outq ∧
        t.get (Reg.OUTQ_BALLAST_COUNT c.val)
          = satAdd (Reg.OUTQ_BALLAST_COUNT c.val).width (s.get (Reg.OUTQ_BALLAST_COUNT c.val)) 1 ∧
        t.get (Reg.CORE_STAT_OQB c.val) = 1 ∧
        t.sameRegsBut s [Reg.OUTQ_BALLAST_COUNT c.val, Reg.CORE_STAT_OQB c.val] ∧
        k.ended (t.core c.val) [rs.toNat] none (fl true) 1 (s.pcNext c.val)) ∧
      t.sameMemory s

/-- R144, R145, R163, R173, R174: WAIT, ECLR, marks, messages and the region selection.
The model's choices it rests on: notes/assumptions/37.md, notes/assumptions/40.md, notes/assumptions/41.md. -/
def Obligations.EventAndMessageInstructionsComplete : Prop :=
  ((∀ (c : Fin 1026) (rd ra : BitVec 5) (imm : BitVec 16) (s : State), s.readyFor c.val (wordI 0x36 rd.toNat ra.toNat imm.toNat) = true →
    s.epend c.val &&& (if imm = 0 then 0xFF else imm.toNat) ≠ 0 →
    Completes (.wait c rd ra imm) s fun t =>
      s.inRegs t c.val [] (some (rd.toNat, BitVec.ofNat 64 (s.epend c.val))) id 1 (s.pcNext c.val)) ∧
  (∀ (c : Fin 1026) (rd ra : BitVec 5) (imm : BitVec 16) (s : State), s.readyFor c.val (wordI 0x36 rd.toNat ra.toNat imm.toNat) = true →
    s.epend c.val &&& (if imm = 0 then 0xFF else imm.toNat) = 0 →
    Completes (.wait c rd ra imm) s fun t =>
      s.onlyCore t c.val ∧ t.core c.val = { s.core c.val with waiting := some (rd.toNat, imm.toNat), brkPass := false }) ∧
  (∀ (c : Fin 1024) (rd mask : Nat) (s : State), (s.core c.val).waiting = some (rd, mask) →
    s.epend c.val &&& (if mask = 0 then 0xFF else mask) ≠ 0 → (s.core c.val).dbgHalt = false →
    (s.coreState c.val = cRUNNING ∨ s.coreState c.val = cIDLE) → s.get (Reg.CORE_CTRL_LEVEL c.val) = 1 →
    Completes (.waitComplete ⟨c.val, by omega⟩) s fun t =>
      (t.core c.val).waiting = none ∧ (t.core c.val).pc = s.pcNext c.val ∧ (t.core c.val).flags = (s.core c.val).flags ∧
      (∀ r, (t.core c.val).reg r = if r = rd ∧ rd ≠ 0 then (BitVec.ofNat 64 (s.epend c.val)).toNat else (s.core c.val).reg r) ∧
      t.coreState c.val = cRUNNING ∧ t.sameRegsBut s [Reg.CORE_STAT_STATE c.val] ∧ t.sameMemory s) ∧
  (∀ (c : Fin 1026) (rd ra : BitVec 5) (imm : BitVec 16) (s : State), s.readyFor c.val (wordI 0x37 rd.toNat ra.toNat imm.toNat) = true →
    Completes (.eclr c rd ra imm) s fun t =>
      s.onlyCore t c.val ∧ (s.core c.val).ended (t.core c.val) [] none id 1 (s.pcNext c.val) ∧
      ∀ i, (t.core c.val).latched.testBit i
        = ((s.core c.val).latched.testBit i && !(imm.toNat.testBit i && (i == 1 || i == 2 || i == 3 || i == 6))))) ∧
  ((∀ (c : Fin 1026) (rd ra : BitVec 5) (imm : BitVec 16) (s : State) (w : Word64) (r : List Word64),
    s.readyFor c.val (wordI 0x38 rd.toNat ra.toNat imm.toNat) = true → (s.core c.val).evq = w :: r → r.length < 16 →
    Completes (.mpop c rd ra imm) s fun t =>
      (t.core c.val).evq = r ∧ t.get (Reg.MBOX_STAT_EVQ c.val) = r.length ∧ t.sameRegsBut s [Reg.MBOX_STAT_EVQ c.val] ∧
      t.sameMemory s ∧
      (s.core c.val).ended (t.core c.val) [] (some (rd.toNat, w)) (fun f => { f with e := false }) 1 (s.pcNext c.val)) ∧
  (∀ (c : Fin 1026) (rd ra : BitVec 5) (imm : BitVec 16) (s : State), s.readyFor c.val (wordI 0x38 rd.toNat ra.toNat imm.toNat) = true →
    (s.core c.val).evq = [] →
    Completes (.mpop c rd ra imm) s fun t => s.inRegs t c.val [] none (fun f => { f with e := true }) 1 (s.pcNext c.val)) ∧
  (∀ (c : Fin 1026) (rd ra : BitVec 5) (imm : BitVec 16) (s : State), s.readyFor c.val (wordI 0x39 rd.toNat ra.toNat imm.toNat) = true →
    (s.core c.val).outq.length < 32 →
    Completes (.msg c rd ra imm) s fun t =>
      (t.core c.val).outq
        = (s.core c.val).outq ++ [⟨[(s.core c.val).val rd.toNat], 0, false, .message, s.rselBuddy c.val, 0⟩] ∧
      t.sameRegsBut s [Reg.OUTQ_STAT_OCC c.val] ∧ t.sameMemory s ∧
      (s.core c.val).ended (t.core c.val) [rd.toNat] none (fun f => { f with f := false }) 1 (s.pcNext c.val)) ∧
  (∀ (c : Fin 1026) (rd ra : BitVec 5) (imm : BitVec 16) (s : State), s.readyFor c.val (wordI 0x39 rd.toNat ra.toNat imm.toNat) = true →
    32 ≤ (s.core c.val).outq.length →
    Completes (.msg c rd ra imm) s fun t => s.inRegs t c.val [rd.toNat] none (fun f => { f with f := true }) 1 (s.pcNext c.val)) ∧
  (∀ (c : Fin 1026) (rd ra : BitVec 5) (imm : BitVec 16) (s : State) (w : Word64) (b : Bool) (r : List (Word64 × Bool)),
    s.readyFor c.val (wordI 0x3A rd.toNat ra.toNat imm.toNat) = true → (s.core c.val).mbox = (w, b) :: r → r.length < 8 →
    Completes (.mrecv c rd ra imm) s fun t =>
      (t.core c.val).mbox = r ∧ t.get (Reg.MBOX_STAT_IN c.val) = r.length ∧ t.sameRegsBut s [Reg.MBOX_STAT_IN c.val] ∧
      t.sameMemory s ∧
      (s.core c.val).ended (t.core c.val) [] (some (rd.toNat, w)) (fun f => { f with e := false, r := b }) 1 (s.pcNext c.val)) ∧
  (∀ (c : Fin 1026) (rd ra : BitVec 5) (imm : BitVec 16) (s : State), s.readyFor c.val (wordI 0x3A rd.toNat ra.toNat imm.toNat) = true →
    (s.core c.val).mbox = [] →
    Completes (.mrecv c rd ra imm) s fun t => s.inRegs t c.val [] none (fun f => { f with e := true }) 1 (s.pcNext c.val)) ∧
  (∀ (c : Fin 1026) (rd ra : BitVec 5) (imm : BitVec 16) (s : State), s.readyFor c.val (wordI 0x3B rd.toNat ra.toNat imm.toNat) = true →
    Completes (.rsel c rd ra imm) s fun t =>
      s.onlyCore t c.val ∧ (t.core c.val).rsel = imm.toNat ∧ (s.core c.val).ended (t.core c.val) [] none id 1 (s.pcNext c.val)))

/-- R158, R177, R147, R176: the system instructions.
The model's choices it rests on: notes/assumptions/19.md, notes/assumptions/37.md, notes/assumptions/98.md. -/
def Obligations.SystemInstructionsComplete : Prop :=
  (∀ (c : Fin 1026) (rd ra : BitVec 5) (imm : BitVec 16) (s : State), s.readyFor c.val (wordI 0x3C rd.toNat ra.toNat imm.toNat) = true →
    (imm.toNat = 9 → c.val < 1024) →
    Completes (.csrr c rd ra imm) s fun t =>
      let k := s.core c.val
      let re := decide (c.val < 1024)
      let v : Nat := match imm.toNat with
        | 0 => k.flags.toNat
        | 1 => if re then k.rsel else 0
        | 2 => if re then b2n k.closePend + 2 * b2n k.closeBuddy + 4 * b2n k.closeAck else 0
        | 3 => if re then s.epend c.val else 0
        | 4 => k.cycle
        | 5 => b2n k.ie + 2 * b2n k.inHandler + 4 * b2n k.byIrq
        | 6 => k.eflags.toNat
        | 7 => k.epc
        | 8 => if re then b2n (s.servesOwn c.val) + 2 * b2n (s.servesBuddy c.val) else 0
        | 9 => c.val
        | 16 => k.bstat
        | _ => k.msrc
      s.inRegs t c.val [] (some (rd.toNat, BitVec.ofNat 64 v)) id 1 (s.pcNext c.val)) ∧
  (∀ (c : Fin 1026) (rd ra : BitVec 5) (imm : BitVec 16) (s : State), s.readyFor c.val (wordI 0x3C rd.toNat ra.toNat imm.toNat) = true →
    imm.toNat = 9 → 1024 ≤ c.val →
    Completes (.csrr c rd ra imm) s fun t =>
      ∃ v : Nat, v < 2 ^ 10 ∧
        (s.core c.val).ended (t.core c.val) [] (some (rd.toNat, BitVec.ofNat 64 v)) id 1 (s.pcNext c.val)) ∧
  (∀ (c : Fin 1026) (rs ra : BitVec 5) (imm : BitVec 16) (s : State), s.readyFor c.val (wordI 0x3D rs.toNat ra.toNat imm.toNat) = true →
    let v := (s.core c.val).val rs.toNat
    (imm.toNat = 0 ∨ imm.toNat = 6 ∨ imm.toNat = 7 ∨
      (imm.toNat = 5 ∧ v.getLsbD 1 = (s.core c.val).inHandler ∧ v.getLsbD 2 = (s.core c.val).byIrq)) →
    Completes (.csrw c rs ra imm) s fun t =>
      let k := s.core c.val
      let k' := t.core c.val
      s.onlyCore t c.val ∧ k'.pc = s.pcNext c.val ∧ (∀ r, k'.reg r = k.reg r) ∧
      k'.flags = (if imm.toNat = 0 then Flags.ofNat v.toNat else { k.flags with p := k.flags.p || k.tagsOf [rs.toNat] }) ∧
      k'.eflags = (if imm.toNat = 6 then Flags.ofNat v.toNat else k.eflags) ∧
      k'.epc = (if imm.toNat = 7 then v.toNat % 65536 else k.epc) ∧
      k'.ie = (if imm.toNat = 5 then v.getLsbD 0 else k.ie) ∧ k'.inHandler = k.inHandler ∧ k'.byIrq = k.byIrq) ∧
  (∀ (c : Fin 1026) (rs ra : BitVec 5) (imm : BitVec 16) (s : State), s.readyFor c.val (wordI 0x3D rs.toNat ra.toNat imm.toNat) = true →
    (imm.toNat ∉ [0, 5, 6, 7] ∨ (imm.toNat = 5 ∧
      ¬ (((s.core c.val).val rs.toNat).getLsbD 1 = (s.core c.val).inHandler ∧
        ((s.core c.val).val rs.toNat).getLsbD 2 = (s.core c.val).byIrq))) → (s.core c.val).inHandler = false →
    Completes (.csrw c rs ra imm) s fun t => (s.tainted c.val [rs.toNat]).tookException t c.val xCSR_PROT) ∧
  (∀ (c : Fin 1026) (rd ra : BitVec 5) (s : State), s.readyFor c.val (wordI 0x3E rd.toNat ra.toNat 0) = true →
    Completes (.nop c rd ra) s fun t => s.inRegs t c.val [] none id 1 (s.pcNext c.val)) ∧
  (∀ (c : Fin 1026) (s : State), s.readyFor c.val (wordI 0x3E 0 0 1) = true → (s.core c.val).inHandler = true →
    Completes (.eret c) s fun t =>
      let k := s.core c.val
      s.onlyCore t c.val ∧
      t.core c.val = { k with flags := { k.eflags with p := k.eflags.p || k.flags.p }, pc := k.epc % codeSize c.val,
                              inHandler := false, cycle := (k.cycle + 2) % 2 ^ 64, brkPass := false }) ∧
  (∀ (c : Fin 1026) (s : State), s.readyFor c.val (wordI 0x3E 0 0 1) = true → (s.core c.val).inHandler = false →
    Completes (.eret c) s fun t => s.tookException t c.val xILLEGAL) ∧
  (∀ (c : Fin 1026) (s : State), s.readyFor c.val (wordI 0x3E 0 0 2) = true → (s.core c.val).closePend = true →
    (s.core c.val).closeNext = [] →
    Completes (.clack c) s fun t =>
      (t.core c.val).closePend = false ∧ (t.core c.val).closeAck = true ∧ (t.core c.val).latched.testBit 7 = false ∧
      (if (s.core c.val).closeBuddy then (t.core c.val).closedBuddy = true else (t.core c.val).closedOwn = true) ∧
      t.sameRegsBut s [] ∧ t.sameMemory s ∧ (s.core c.val).ended (t.core c.val) [] none id 1 (s.pcNext c.val)) ∧
  (∀ (c : Fin 1026) (s : State), s.readyFor c.val (wordI 0x3E 0 0 2) = true → (s.core c.val).closePend = false →
    Completes (.clack c) s fun t => s.inRegs t c.val [] none id 1 (s.pcNext c.val)) ∧
  (∀ (c : Fin 1026) (n : BitVec 8) (s : State), s.readyFor c.val (wordI 0x3E 0 0 (n.toNat * 256 + 3)) = true →
    Completes (.rreq c n) s fun t =>
      t.rreqs = s.rreqs ++ [(s.rselRegion c.val, n.toNat)] ∧ t.sameRegsBut s [] ∧ t.sameMemory s ∧
      (s.core c.val).ended (t.core c.val) [] none id 1 (s.pcNext c.val))

/-- R175, R176, R141: TRAP takes its exception with its number in EXC_ADDR[7:0]; one raised in a handler is nested and sets NEST; an
interrupt enters the handler with EPC at the next instruction and leaves the exception registers alone.
The model's choices it rests on: notes/assumptions/1.md, notes/assumptions/18.md, notes/assumptions/37.md. -/
def Obligations.ExceptionsAndInterrupts : Prop :=
  (∀ (c : Fin 1026) (n : BitVec 8) (s : State), s.readyFor c.val (wordI 0x3E 0 0 (n.toNat * 256 + 4)) = true →
    (s.core c.val).inHandler = false →
    Completes (.trap c n) s fun t =>
      s.tookException t c.val xTRAP ∧ (c.val < 1024 → t.get (Reg.EXC_ADDR_OFS c.val) % 256 = n.toNat)) ∧
  (∀ (c : Fin 1024) (n : BitVec 8) (s : State), s.readyFor c.val (wordI 0x3E 0 0 (n.toNat * 256 + 4)) = true →
    (s.core c.val).inHandler = true →
    Completes (.trap ⟨c.val, by omega⟩ n) s fun t => t.get (Reg.CORE_STAT_NEST c.val) = 1) ∧
  (∀ (c : Fin 1026) (s : State), s.atBoundary c.val = true → (s.core c.val).dbgHalt = false → (s.core c.val).ie = true →
    (s.core c.val).inHandler = false → s.irqs c.val ≠ 0 →
    Completes (.interruptEntry c) s fun t =>
      let k := s.core c.val
      s.onlyCore t c.val ∧
      t.core c.val = { k with epc := k.pc % 65536, eflags := k.flags, inHandler := true, byIrq := true, pc := s.vector c.val,
                              cycle := (k.cycle + 3) % 2 ^ 64 })

/-- R179, R396, R395: the conductor's instructions.
The model's choices it rests on: notes/assumptions/35.md, notes/assumptions/37.md, notes/assumptions/40.md, notes/assumptions/98.md. -/
def Obligations.ConductorInstructionsComplete : Prop :=
  (∀ (c : Fin 1026) (rd ra : BitVec 5) (s : State), s.readyFor c.val (wordR 0x3F rd.toNat ra.toNat 0 0x000) = true →
    Completes (.busr c rd ra) s fun t =>
      s.onlyCore t c.val ∧
      (t.core c.val).busr = some (rd.toNat + 32 * b2n ((s.core c.val).tag ra.toNat), (s.core c.val).reg ra.toNat % 2 ^ 32) ∧
      (t.core c.val).pc = (s.core c.val).pc ∧ ∀ r, (t.core c.val).reg r = (s.core c.val).reg r) ∧
  (∀ (k : Fin 2) (rd a v : Nat) (s s1 : State) (st : Status), (s.core (1024 + k.val)).busr = some (rd, a) →
    s.busAlive k.val = true → s.busRead (5 + k.val) none a = some (s1, st, v) → v < 2 ^ 64 →
    Completes (.busrComplete k) s fun t =>
      let c := 1024 + k.val
      (t.core c).busr = none ∧ (t.core c).bstat = st.code ∧ (t.core c).flags = { (s1.core c).flags with f := st != .ok } ∧
      (t.core c).pc = s1.pcNext c ∧
      (∀ r, (t.core c).reg r = if r = rd % 32 ∧ r ≠ 0 then (if st = .ok then v else 0) else (s1.core c).reg r)) ∧
  (∀ (c : Fin 1026) (rd ra rb : BitVec 5) (s : State), s.readyFor c.val (wordR 0x3F rd.toNat ra.toNat rb.toNat 0x001) = true →
    (s.core c.val).busw.length < 16 →
    Completes (.busw c rd ra rb) s fun t =>
      s.onlyCore t c.val ∧
      (t.core c.val).busw
        = (s.core c.val).busw ++ [((s.core c.val).reg ra.toNat % 2 ^ 32, (s.core c.val).reg rb.toNat % 2 ^ 32)] ∧
      (s.core c.val).ended (t.core c.val) [ra.toNat, rb.toNat] none id 1 (s.pcNext c.val)) ∧
  (∀ (k : Fin 2) (a v : Nat) (rest : List (Nat × Nat)) (s s1 : State) (st : Status), (s.core (1024 + k.val)).busw = (a, v) :: rest →
    s.busWrite (5 + k.val) none a v = some (s1, st) →
    Completes (.buswComplete k) s fun t =>
      let c := 1024 + k.val
      s1.onlyCore t c ∧
      t.core c = { s1.core c with busw := (s1.core c).busw.tail,
                                  buswFail := if (s1.core c).buswFail = 0 then st.code else (s1.core c).buswFail }) ∧
  (∀ (c : Fin 1026) (rd ra rb : BitVec 5) (s : State), s.readyFor c.val (wordR 0x3F rd.toNat ra.toNat rb.toNat 0x002) = true →
    (s.core c.val).busw = [] →
    Completes (.bfence c rd ra rb) s fun t =>
      let f := (s.core c.val).buswFail
      s.onlyCore t c.val ∧ (t.core c.val).buswFail = 0 ∧ (t.core c.val).bstat = (if f = 0 then (s.core c.val).bstat else f) ∧
      (s.core c.val).ended (t.core c.val) [] none (fun g => { g with f := decide (f ≠ 0) }) 1 (s.pcNext c.val)) ∧
  (∀ (k : Fin 2) (s : State), (s.core (1024 + k.val)).bfence = true → (s.core (1024 + k.val)).busw = [] →
    s.busAlive k.val = true →
    Completes (.bfenceComplete k) s fun t =>
      let c := 1024 + k.val
      let f := (s.core c).buswFail
      (t.core c).bfence = false ∧ (t.core c).bstat = (if f = 0 then (s.core c).bstat else f) ∧
      (t.core c).flags = { (s.core c).flags with f := decide (f ≠ 0) } ∧ (t.core c).pc = s.pcNext c ∧
      t.sameRegsBut s [] ∧ t.sameMemory s) ∧
  (∀ (c : Fin 1026) (rd : BitVec 5) (s : State) (w : Word64) (src : Nat) (r : List (Word64 × Nat)),
    s.readyFor c.val (wordR 0x3F rd.toNat 0 0 0x003) = true → (s.core c.val).inq = (w, src) :: r →
    Completes (.crecv c rd) s fun t =>
      s.onlyCore t c.val ∧ (t.core c.val).inq = r ∧ (t.core c.val).msrc = src ∧
      (s.core c.val).ended (t.core c.val) [] (some (rd.toNat, w)) (fun f => { f with e := false }) 1 (s.pcNext c.val)) ∧
  (∀ (c : Fin 1026) (rd ra rb : BitVec 5) (s : State), s.readyFor c.val (wordR 0x3F rd.toNat ra.toNat rb.toNat 0x004) = true →
    Completes (.hbeat c rd ra rb) s fun t =>
      s.onlyCore t c.val ∧ (t.core c.val).hbAt = s.time.tick ∧
      (s.core c.val).ended (t.core c.val) [] none id 1 (s.pcNext c.val)) ∧
  (∀ (c : Fin 1026) (rd ra rb : BitVec 5) (s : State), s.readyFor c.val (wordR 0x3F rd.toNat ra.toNat rb.toNat 0x005) = true →
    Completes (.crc32c c rd ra rb) s fun t =>
      let v := crc32cReg ((s.core c.val).reg ra.toNat % 2 ^ 32) (leBytes 8 ((s.core c.val).reg rb.toNat))
      v < 2 ^ 32 ∧
      s.inRegs t c.val [ra.toNat, rb.toNat] (some (rd.toNat, BitVec.ofNat 64 v)) (fun f => { f with z := decide (v = 0) }) 2
        (s.pcNext c.val)) ∧
  (∀ (c : Fin 1026) (rd ra rb : BitVec 5) (s : State), s.readyFor c.val (wordR 0x3F rd.toNat ra.toNat rb.toNat 0x006) = true →
    Completes (.epoch c rd ra rb) s fun t =>
      s.inRegs t c.val []
        (some (rd.toNat, BitVec.ofNat 64 (s.get Reg.ARB_STAT_EPOCH + 65536 * b2n (s.get Reg.ARB_STAT_GRANT == c.val - 1023)))) id 1
        (s.pcNext c.val))
/-! ### The reduction library -/

/-- R187, R198 to R202: what a close that time brings puts out: a frame, a frame that waited behind a SYNC mark, a period, a cluster, a
mark group, each with the records of its reduction where its stream is open and none where it is closed; SAFE_TICK follows.
The model's choices it rests on: notes/assumptions/8.md, notes/assumptions/14.md, notes/assumptions/75.md, notes/assumptions/99.md. -/
def Obligations.LibraryClosesComplete : Prop :=
  (∀ (n : Fin 1024) (i : Fin 4) (s : State), s.libThere (s.servedBy n.val) = true → (s.lib n.val i.val).run = true →
    (s.lib n.val i.val).num = 1 → (s.lib n.val i.val).groups = [] → s.time.run = true →
    Completes (.frameClose n i) s fun t =>
      let v := s.lib n.val i.val
      let stop := v.base + (v.nextF + 1) * v.p1
      let fl := SMap.get v.fl v.nextF 0
      t.time.tick = max s.time.tick (stop + v.p2 % 2 ^ 16) ∧ (t.lib n.val i.val).nextF = v.nextF + 1 ∧
      t.outputs (s.servedBy n.val) = s.outputs (s.servedBy n.val) ++
        (if v.isOpen then s.recordsOf n.val v (countWordsOf n.val v i.val 0 0 (fl.testBit 2) (fl.testBit 1) v.late
          (if fl.testBit 2 then t.time.tick else stop) (fun p => SMap.get v.counts (v.nextF * 128 + p) 0)) (fl.testBit 0) else []) ∧
      t.sameRegsBut s [Reg.CORE_STAT_STATE (s.servedBy n.val), Reg.SAFE_TICK_TICK n.val] ∧ t.sameMemory s) ∧
  (∀ (n : Fin 1024) (i : Fin 4) (s : State) (g : MarkGroup) (r : List MarkGroup), s.libThere (s.servedBy n.val) = true →
    (s.lib n.val i.val).run = true → (s.lib n.val i.val).num = 1 → (s.lib n.val i.val).groups = g :: r → s.time.run = true →
    Completes (.frameClose n i) s fun t =>
      let v := s.lib n.val i.val
      t.time.tick = max s.time.tick g.due ∧ (t.lib n.val i.val).groups = r ∧ (t.lib n.val i.val).nextF = v.nextF ∧
      t.outputs (s.servedBy n.val) = s.outputs (s.servedBy n.val) ++
        (if v.isOpen then s.recordsOf n.val v (countWordsOf n.val v i.val 0 0 (g.flags.testBit 2) (g.flags.testBit 1) v.late
          (if g.flags.testBit 2 then t.time.tick else g.due - v.p2 % 2 ^ 16) (fun p => SMap.get g.counts p 0)) (g.flags.testBit 0) else []) ∧
      t.sameRegsBut s [Reg.CORE_STAT_STATE (s.servedBy n.val), Reg.SAFE_TICK_TICK n.val] ∧ t.sameMemory s) ∧
  (∀ (n : Fin 1024) (i : Fin 4) (s : State), s.libThere (s.servedBy n.val) = true → (s.lib n.val i.val).run = true →
    (s.lib n.val i.val).num ∈ [2, 4, 5] → s.time.run = true →
    Completes (.periodClose n i) s fun t =>
      let v := s.lib n.val i.val
      let stop := v.base + (if v.num = 5 then v.p3 else v.p1)
      let at1 := max s.time.tick stop
      t.time.tick = at1 ∧
      t.lib n.val i.val = (if v.num = 4 then { v with base := stop, occ := 0, rreq := false, flags := 0, doneTo := at1 }
        else { v with base := at1, counts := [], flags := 0, doneTo := at1 }) ∧
      t.outputs (s.servedBy n.val) = s.outputs (s.servedBy n.val) ++
        (if v.isOpen then s.recordsOf n.val v
          (if v.num = 4 then [occRec n.val false v.occ at1]
           else histWords n.val v i.val (s.get (Reg.PB_STAT_MERGE n.val)) (libBins v (s.get (Reg.PB_STAT_MERGE n.val))) at1
             (v.flags.testBit 2)) (v.flags.testBit 0) else []) ∧
      t.sameRegsBut s [Reg.CORE_STAT_STATE (s.servedBy n.val), Reg.SAFE_TICK_TICK n.val] ∧ t.sameMemory s) ∧
  (∀ (n : Fin 1024) (i : Fin 4) (s : State) (c : Cluster), s.libThere (s.servedBy n.val) = true → (s.lib n.val i.val).run = true →
    (s.lib n.val i.val).num = 3 → (s.lib n.val i.val).clusters = [c] → s.time.run = true →
    Completes (.clusterClose n i) s fun t =>
      let v := s.lib n.val i.val
      t.time.tick = max s.time.tick ((c.last + 1023) / 1024 + v.p1 % 2 ^ 16 + v.p2 % 2 ^ 16) ∧
      (t.lib n.val i.val).clusters = [] ∧
      t.outputs (s.servedBy n.val) = s.outputs (s.servedBy n.val) ++
        (if v.isOpen then s.recordsOf n.val v (if v.p2.testBit 16 then [clusterHead n.val c, clusterExt n.val c false]
          else [clusterHead n.val c]) c.poison else []) ∧
      t.sameRegsBut s [Reg.CORE_STAT_STATE (s.servedBy n.val), Reg.SAFE_TICK_TICK n.val] ∧ t.sameMemory s) ∧
  (∀ (n : Fin 1024) (i : Fin 4) (s : State) (g : MarkGroup) (r : List MarkGroup), s.libThere (s.servedBy n.val) = true →
    (s.lib n.val i.val).run = true → (s.lib n.val i.val).num = 6 → (s.lib n.val i.val).groups = g :: r → s.time.run = true →
    Completes (.markGroupClose n i) s fun t =>
      let v := s.lib n.val i.val
      t.time.tick = max s.time.tick g.due ∧ (t.lib n.val i.val).groups = r ∧
      t.outputs (s.servedBy n.val) = s.outputs (s.servedBy n.val) ++
        (if v.isOpen then s.recordsOf n.val v ((List.range (v.p1 % 4 + 1)).flatMap (fun w =>
          countWordsOf n.val v i.val 1 w (g.flags.testBit 2) (g.flags.testBit 1) 0 t.time.tick
            (fun p => SMap.get g.counts (w * 128 + p) 0))) (g.flags.testBit 0) else []) ∧
      t.sameRegsBut s [Reg.CORE_STAT_STATE (s.servedBy n.val), Reg.SAFE_TICK_TICK n.val] ∧ t.sameMemory s)

/-- R129, R130, R135, R184, R187, R189, R542: the library pops a hit word once no mark event waits (HITLIST sends it as a record,
TOTSPECTRUM and OCCUPANCY count it), takes a mark event, a RELOAD message and a close request, which it acknowledges at once where its slots have nothing to send.
The model's choices it rests on: notes/assumptions/8.md, notes/assumptions/14.md, notes/assumptions/72.md, notes/assumptions/75.md, notes/assumptions/99.md. -/
def Obligations.LibraryInputsComplete : Prop :=
  (∀ (n : Fin 1024) (i : Fin 4) (s : State) (h : HqWord) (rest : List HqWord),
    s.libAlive (s.servedBy n.val) = true → (s.core (s.servedBy n.val)).evq = [] → s.libRun n.val ≠ [] →
    (s.region n.val).hq = h :: rest → h.bad = false → (s.lib n.val i.val).run = true → (s.lib n.val i.val).isOpen = true →
    (∀ j : Fin 4, j ≠ i → (s.lib n.val j.val).run = false) →
    Completes (.libraryHit n) s fun t =>
      let v := s.lib n.val i.val
      let c := s.servedBy n.val
      let w := h.word.toNat
      let l := w / 2 ^ 43 % 2 ^ 7
      let tot := w % 2 ^ 9
      (t.region n.val).hq = rest ∧ SMap.get t.libPops c 0 = (SMap.get s.libPops c 0 + 1) % 256 ∧
      (v.num = 0 → v.walk = false → s.libSends n.val v.stream = true → (s.core c).outq.length < 32 → (s.core c).emits = [] →
        t.outputs c = s.outputs c ++ [⟨[h.word], v.stream, h.poison, .record, decide (c ≠ n.val), 0⟩]) ∧
      (v.num = 2 → (s.core c).emits = [] → (s.time.tick - (s.time.tick + 2 ^ 24 - w / 2 ^ 19 % 2 ^ 24) % 2 ^ 24) ≥ v.openAt →
        let m := s.get (Reg.PB_STAT_MERGE n.val)
        let b := if tot < v.p2 % 2 ^ 9 then 0 else min ((tot - v.p2 % 2 ^ 9) / 2 ^ (v.p2 / 2 ^ 16 % 4 + m)) (64 / 2 ^ m - 1)
        SMap.get (t.lib n.val i.val).counts (l * 64 + b) 0 = min 65535 (SMap.get v.counts (l * 64 + b) 0 + 1) ∧
        ∀ k, k ≠ l * 64 + b → SMap.get (t.lib n.val i.val).counts k 0 = SMap.get v.counts k 0) ∧
      (v.num = 4 → (t.lib n.val i.val).occ = v.occ + 1) ∧
      t.sameMemory s) ∧
  ((∀ (n : Fin 1024) (i : Fin 4) (s : State) (w : Word64) (rest : List Word64), s.libAlive n.val = true →
    (s.core n.val).evq = w :: rest → rest.length < 16 → w.getLsbD 59 = false → w.getLsbD 58 = false →
    Completes (.libraryMark n) s fun t =>
      let v := s.lib n.val i.val
      (t.core n.val).evq = rest ∧ t.get (Reg.MBOX_STAT_EVQ n.val) = rest.length ∧ t.sameMemory s ∧
      (s.servedBy n.val = n.val → v.run = true → v.num = 5 → w.toNat / 2 ^ 60 % 16 = v.ch → v.ch ≠ 15 →
        (t.lib n.val i.val).refAt
          = some ((s.time.tick - (s.time.tick + 2 ^ 40 - w.toNat / 2 ^ 10 % 2 ^ 40) % 2 ^ 40) * 1024 + w.toNat % 2 ^ 10))) ∧
  (∀ (c : Fin 1024) (s : State) (m : Word64) (b : Bool) (rest : List (Word64 × Bool)), s.libAlive c.val = true →
    (s.core c.val).mbox = (m, b) :: rest → rest.length < 8 →
    Completes (.reload c) s fun t =>
      let n := if b then buddy c.val else c.val
      (t.core c.val).mbox = rest ∧ t.get (Reg.MBOX_STAT_IN c.val) = rest.length ∧
      (m.toNat / 2 ^ 56 % 2 ^ 8 = 1 → s.servedBy n = c.val →
        t.get (Reg.PB_STAT_SEQ n) = (s.get (Reg.PB_STAT_SEQ n) + 1) % 16 ∧ t.get (Reg.PB_STAT_CODE n) = (s.pbCheck n).1 ∧
        ((s.pbCheck n).1 ≠ 0 → t.get (Reg.PB_STAT_RUN n) = 0)) ∧
      (m.toNat / 2 ^ 56 % 2 ^ 8 ≠ 1 → t.sameRegsBut s [Reg.MBOX_STAT_IN c.val] ∧ t.sameMemory s)) ∧
  (∀ (c : Fin 1024) (s : State), s.libAlive c.val = true → (s.core c.val).closePend = true → (s.core c.val).closeNext = [] →
    s.libDrains (if (s.core c.val).closeBuddy then buddy c.val else c.val) = false → (s.core c.val).emits = [] →
    s.servedBy (if (s.core c.val).closeBuddy then buddy c.val else c.val) = c.val →
    (∀ i : Fin 4, (s.lib (if (s.core c.val).closeBuddy then buddy c.val else c.val) i.val).isOpen = true →
      (s.lib (if (s.core c.val).closeBuddy then buddy c.val else c.val) i.val).num = 0) →
    Completes (.libraryClose c) s fun t =>
      let n := if (s.core c.val).closeBuddy then buddy c.val else c.val
      (∀ i : Fin 4, t.lib n i.val = LibSlot.reset) ∧ t.get (Reg.PB_STAT_RUN n) = 0 ∧ (t.core c.val).closePend = false ∧
      (t.core c.val).closeAck = true ∧ t.sameMemory s))
/-! ### The waveform digitiser and the trigger unit -/

/-- R208 to R216, R221: the writes of WAVE_CTRL and of the correction registers, and the phases of a slice: initial calibration, match,
hold and rotation, self-calibration.
The model's choices it rests on: notes/assumptions/7.md, notes/assumptions/8.md, notes/assumptions/64.md. -/
def Obligations.DigitiserTuningCompletes : Prop :=
  ((∀ s : State, s.reachable 0x50000 = true → s.waveLive = true → s.wave.phase = 0 → s.get Reg.WAVE_CTRL_EN = 0 →
    s.get Reg.WAVE_CTRL_CALMODE = 0 →
    Completes (.waveEnable true) s fun t =>
      t.get Reg.WAVE_CTRL_EN = 1 ∧ t.wave = { s.wave with phase := 1, start := s.time.tick } ∧ t.get Reg.WAVE_STAT_INIT = 1 ∧
      t.get Reg.WAVE_STAT_TPH = 0 ∧ t.sameRegsBut s [Reg.WAVE_CTRL_EN, Reg.WAVE_STAT_INIT, Reg.WAVE_STAT_TPH] ∧ t.sameMemory s) ∧
  (∀ s : State, s.reachable 0x50000 = true → s.get Reg.WAVE_CTRL_EN = 1 →
    Completes (.waveEnable false) s fun t =>
      t.get Reg.WAVE_CTRL_EN = 0 ∧ t.get Reg.WAVE_CTRL_SCAL = 0 ∧ t.wave.phase = 0 ∧
      (∀ n : Fin 8, (t.trg n.val).ready = false ∧ (t.trg n.val).last = (s.trg n.val).last) ∧ t.get Reg.WAVE_STAT_INIT = 0 ∧
      t.get Reg.WAVE_STAT_TPH = 3 ∧
      t.sameRegsBut s [Reg.WAVE_CTRL_EN, Reg.WAVE_CTRL_SCAL, Reg.WAVE_STAT_INIT, Reg.WAVE_STAT_TPH] ∧ t.sameMemory s) ∧
  (∀ s : State, s.reachable 0x50000 = true → s.get Reg.WAVE_CTRL_EN = 1 → s.get Reg.WAVE_CTRL_CALMODE = 1 →
    s.get Reg.WAVE_CTRL_SCAL = 0 → (∀ u : Fin 4, s.get (Reg.WR_CFG_EN u.val) = 0) →
    Completes .scal s fun t =>
      t.get Reg.WAVE_CTRL_SCAL = 1 ∧
      t.wave = { s.wave with phase := 3, start := s.time.tick, next := 2 * (s.time.tick + 16000000), hist0 := [], hist1 := [] } ∧
      (∀ n : Fin 8, (t.trg n.val).ready = false ∧ (t.trg n.val).last = (s.trg n.val).last) ∧
      t.sameRegsBut s [Reg.WAVE_CTRL_SCAL] ∧ t.sameMemory s) ∧
  (∀ s : State, s.reachable 0x50000 = true → s.get Reg.WAVE_CTRL_EN = 1 →
    Completes .retry s fun t =>
      t.get Reg.WAVE_STAT_FAIL = 0 ∧ t.wave = { s.wave with trial := s.wave.trial ||| s.get Reg.WAVE_STAT_FAIL, bad := 0 } ∧
      t.sameRegsBut s [Reg.WAVE_STAT_FAIL] ∧ t.sameMemory s) ∧
  (∀ (x : Fin 3) (j : Fin 18) (v : BitVec 32) (s : State), s.reachable 0x50000 = true → s.get Reg.WAVE_CTRL_CALMODE = 1 →
    s.get Reg.WAVE_CTRL_SCAL = 0 →
    Completes (.correctionSetWrite x j v) s fun t =>
      t.lastStatus = .ok ∧
      (j.val = 0 → t.get (Reg.CORR_G_GAIN x.val) = v.toNat / 2 ^ 16 ∧ t.get (Reg.CORR_G_OFS x.val) = v.toNat % 2 ^ 16) ∧
      (j.val = 1 → t.get (Reg.CORR_S_SKEW x.val) = v.toNat % 2 ^ 8) ∧
      (2 ≤ j.val → t.get (Reg.INL_E0 x.val (j.val - 2)) = v.toNat % 2 ^ 8 ∧
        t.get (Reg.INL_E1 x.val (j.val - 2)) = v.toNat / 2 ^ 8 % 2 ^ 8 ∧
        t.get (Reg.INL_E2 x.val (j.val - 2)) = v.toNat / 2 ^ 16 % 2 ^ 8 ∧
        t.get (Reg.INL_E3 x.val (j.val - 2)) = v.toNat / 2 ^ 24) ∧
      t.sameMemory s)) ∧
  ((∀ (f0 f1 f2 : Fit) (s : State), s.wave.phase = 1 → s.time.run = true → s.get Reg.WAVE_STAT_FAIL = 0 →
    s.get Reg.WAVE_STAT_ROLE_T = 2 → fitBad f0 = false → fitBad f1 = false → fitBad f2 = false →
    Completes (.initialCalibrationEnd f0 f1 f2) s fun t =>
      let b := s.wave.start + 2 ^ 18
      t.time.tick = max s.time.tick b ∧ t.wave.phase = 2 ∧ t.wave.next = 2 * b ∧ t.wave.rot = some b ∧
      t.get Reg.WAVE_STAT_INIT = 0 ∧ t.get Reg.WAVE_STAT_TPH = 0 ∧
      (∀ x : Fin 3, let f := [f0, f1, f2].getD x.val f0
        t.get (Reg.CORR_G_OFS x.val) = f.ofs.toNat ∧ t.get (Reg.CORR_G_GAIN x.val) = f.gain.toNat ∧
        t.get (Reg.CORR_S_SKEW x.val) = 0)) ∧
  (∀ (f : Fit) (s : State) (r : Nat), s.wave.rot = some r → s.wave.phase = 2 → s.get Reg.WAVE_STAT_ROLE_T ≠ 3 →
    s.time.run = true → s.get Reg.WAVE_STAT_TPH = 0 → fitBad f = false →
    Completes (.matchPhaseStart f) s fun t =>
      t.time.tick = max s.time.tick (r + 2 ^ 19) ∧ t.get Reg.WAVE_STAT_TPH = 1 ∧
      (∃ c, t.wave.fit = some c ∧ c.ofs = f.ofs.toNat ∧ c.gain = f.gain.toNat ∧
        c.skew = s.get (Reg.CORR_S_SKEW (s.get Reg.WAVE_STAT_ROLE_T))) ∧
      t.sameRegsBut s [Reg.WAVE_STAT_TPH] ∧ t.sameMemory s) ∧
  (∀ (enough : Bool) (ofs gain : BitVec 16) (skew : BitVec 8) (s : State) (r : Nat) (c : CorrSet), s.wave.rot = some r →
    s.wave.phase = 2 → s.time.run = true → s.get Reg.WAVE_STAT_TPH = 1 → s.wave.fit = some c →
    Completes (.tuningHold enough ofs gain skew) s fun t =>
      t.time.tick = max s.time.tick (r + 2 ^ 20 - 2 ^ 12) ∧ t.get Reg.WAVE_STAT_TPH = 2 ∧
      t.wave.shadow = some { c with ofs := ofs.toNat, gain := gain.toNat, skew := if enough then skew.toNat else c.skew } ∧
      t.sameRegsBut s [Reg.WAVE_STAT_TPH] ∧ t.sameMemory s) ∧
  (∀ (s : State) (r : Nat) (c : CorrSet), s.wave.rot = some r → s.wave.phase = 2 → s.time.run = true →
    s.get Reg.WAVE_CTRL_CALMODE = 0 → s.wave.shadow = some c → s.get Reg.WAVE_STAT_ROLE_T < 3 →
    s.get Reg.WAVE_STAT_ROLE_P0 < 3 → s.get Reg.WAVE_STAT_ROLE_P1 < 3 → s.get Reg.WAVE_STAT_DEG = 0 →
    2 * (r + 2 ^ 20) ≤ s.wave.next →
    Completes .rotationCommit s fun t =>
      let x := s.get Reg.WAVE_STAT_ROLE_T
      let p0 := s.get Reg.WAVE_STAT_ROLE_P0
      let p1 := s.get Reg.WAVE_STAT_ROLE_P1
      t.time.tick = max s.time.tick (r + 2 ^ 20) ∧ t.wave.rot = some (r + 2 ^ 20) ∧
      (if SMap.get s.wave.since p0 0 ≤ SMap.get s.wave.since p1 0 then
        t.get Reg.WAVE_STAT_ROLE_P0 = x ∧ t.get Reg.WAVE_STAT_ROLE_P1 = p1 ∧ t.get Reg.WAVE_STAT_ROLE_T = p0
       else t.get Reg.WAVE_STAT_ROLE_P0 = p0 ∧ t.get Reg.WAVE_STAT_ROLE_P1 = x ∧ t.get Reg.WAVE_STAT_ROLE_T = p1) ∧
      t.get (Reg.CORR_G_OFS x) = c.ofs % 2 ^ 16 ∧ t.get (Reg.CORR_G_GAIN x) = c.gain % 2 ^ 16 ∧
      t.get (Reg.CORR_S_SKEW x) = c.skew % 2 ^ 8 ∧ t.get Reg.WAVE_STAT_TPH = 0 ∧
      t.get Reg.WAVE_ROT_COUNT = satAdd 32 (s.get Reg.WAVE_ROT_COUNT) 1 ∧ t.sameMemory s) ∧
  (∀ (f0 f1 f2 : Fit) (s : State), s.wave.phase = 3 → s.get Reg.WAVE_CTRL_SCAL = 1 → s.time.run = true →
    s.get Reg.WAVE_STAT_FAIL = 0 → s.wave.trial = 0 → fitBad f0 = false → fitBad f1 = false → fitBad f2 = false →
    Completes (.selfCalibrationEnd f0 f1 f2) s fun t =>
      t.time.tick = max s.time.tick (s.wave.start + 16000000) ∧ t.get Reg.WAVE_CTRL_SCAL = 0 ∧
      (∀ x : Fin 3, let f := [f0, f1, f2].getD x.val f0
        t.get (Reg.CORR_G_OFS x.val) = f.ofs.toNat ∧ t.get (Reg.CORR_G_GAIN x.val) = f.gain.toNat ∧
        t.get (Reg.CORR_S_SKEW x.val) = f.skew.toNat % 2 ^ 8)) ∧
  (∀ s : State, s.wave.phase = 3 → s.get Reg.WAVE_CTRL_SCAL = 0 → s.time.run = true → s.waveLive = true →
    Completes .samplingResume s fun t =>
      let b := s.wave.start + 16000000
      t.time.tick = max s.time.tick b ∧ t.wave = { s.wave with phase := 2, start := b, next := 2 * b } ∧ t.sameRegsBut s [] ∧
      t.sameMemory s))

/-- R203 to R206, R230 to R233: a sample of MODE 0 is corrected, clipped and delivered; the reduction units put their records towards the
keel merge.
The model's choices it rests on: notes/assumptions/8.md, notes/assumptions/28.md, notes/assumptions/29.md. -/
def Obligations.SamplesAndWaveRecordsComplete : Prop :=
  (∀ (raw0 raw1 : BitVec 12) (s : State), s.waveLive = true → s.time.run = true → s.wave.phase = 2 →
    s.get Reg.WAVE_STAT_ROLE_P0 < 3 → s.get Reg.WAVE_STAT_ROLE_P1 < 3 → s.get Reg.WAVE_CTRL_MODE ≠ 1 → s.wave.gapAt = none →
    s.commitAt s.wave.next = false →
    Completes (.sampleTick raw0 raw1) s fun t =>
      let j := s.wave.next
      let x := if j % 2 = 0 then s.get Reg.WAVE_STAT_ROLE_P0 else s.get Reg.WAVE_STAT_ROLE_P1
      let raw := raw0.toNat
      let inl := (s.corr x).inl.getD (raw / 64) 0
      let x16 : Int := 16 * raw + (BitVec.ofNat 8 inl).toInt - (BitVec.ofNat 16 (s.get (Reg.CORR_G_OFS x))).toInt
      let y : Int := (2048 * 16 * 32768 + (x16 - 2048 * 16) * s.get (Reg.CORR_G_GAIN x) + 8 * 32768) / (16 * 32768)
      let v := (max 0 (min 4095 y)).toNat
      t.wave.next = j + 1 ∧ t.time.tick = max s.time.tick (j / 2) ∧
      (if s.get Reg.WAVE_CTRL_INSEL = 0 then t.wave.hist0.head? = some (j, v) else t.wave.hist1.head? = some (j, v)) ∧
      (y < 0 ∨ 4095 < y → t.get Reg.WAVE_STAT_CLIP = 1 ∧ t.get Reg.WAVE_OVR_COUNT = satAdd 32 (s.get Reg.WAVE_OVR_COUNT) 1) ∧
      (0 ≤ y → y ≤ 4095 → t.sameRegsBut s []) ∧ t.sameMemory s) ∧
  ((∀ (u : Fin 4) (s : State) (a b c d e : Nat × Nat) (rest : List (Nat × Nat)),
    (s.wr u.val).buf = a :: b :: c :: d :: e :: rest → s.wrLive u.val = true →
    Completes (.sampleRecord u) s fun t =>
      let due := (s.wr u.val).anchor || (s.wr u.val).run == 256
      let ws := (if due then [s.anchorWord u.val a.1] else [])
        ++ [mkWord [(60, 4, 7), (0, 12, a.2), (12, 12, b.2), (24, 12, c.2), (36, 12, d.2), (48, 12, e.2)]]
      (t.wr u.val).buf = rest ∧ (t.wr u.val).anchor = false ∧ (t.wr u.val).run = (if due then 1 else (s.wr u.val).run + 1) ∧
      SMap.get t.merge 33 [] = SMap.get s.merge 33 []
        ++ ws.map (fun w => ⟨[w], s.get (Reg.WR_CFG_STREAM u.val), false, .record, u.val, 0⟩) ∧
      t.sameRegsBut s [] ∧ t.sameMemory s) ∧
  (∀ (u : Fin 4) (s : State) (a lo hi sum : Nat) (rest : List (Nat × Nat × Nat × Nat)),
    (s.wr u.val).done = (a, lo, hi, sum) :: rest → s.wrLive u.val = true →
    Completes (.waveIntervalRecord u) s fun t =>
      let w := if s.get (Reg.WR_CFG_KIND u.val) = 1 then envWord (s.wrInput u.val) a lo hi
        else meanWord (s.wrInput u.val) a sum (2 ^ min 20 (max 1 (s.get (Reg.WR_CFG_LOG2N u.val))))
      (t.wr u.val).done = rest ∧
      SMap.get t.merge 33 [] = SMap.get s.merge 33 [] ++ [⟨[w], s.get (Reg.WR_CFG_STREAM u.val), false, .record, u.val, 0⟩] ∧
      t.sameRegsBut s [] ∧ t.sameMemory s) ∧
  (∀ (u : Fin 4) (s : State), s.wrLive u.val = false →
    Completes (.sampleRecord u) s (fun t => t.wr u.val = { WrSt.reset with sent := (s.wr u.val).sent } ∧ t.merge = s.merge ∧
      t.sameRegsBut s [] ∧ t.sameMemory s) ∧
    Completes (.waveIntervalRecord u) s (fun t => t.wr u.val = { WrSt.reset with sent := (s.wr u.val).sent } ∧ t.merge = s.merge ∧
      t.sameRegsBut s [] ∧ t.sameMemory s)) ∧
  (∀ (u : Fin 4) (s : State) (i e : Nat), (s.wr u.val).win = some (i, e) → e ≤ i → (s.wr u.val).buf.length < 5 →
    Completes (.windowEnd u) s fun t =>
      ((s.wr u.val).wait = [] →
        t.wr u.val = { s.wr u.val with win := none, winN := 0, anchor := true, buf := [] }) ∧
      (∀ (a b n : Nat) (rest : List (Nat × Nat × Nat)), (s.wr u.val).wait = (a, b, n) :: rest → s.wrHist u.val = [] →
        alignUp s.waveStep (max (max a (s.wr u.val).sent) s.wave.next) < b →
        (t.wr u.val).trig = n ∧ (t.wr u.val).anchor = true ∧ (t.wr u.val).wait = rest ∧
        (t.wr u.val).winS = alignUp s.waveStep (max (max a (s.wr u.val).sent) s.wave.next)) ∧
      t.sameRegsBut s [] ∧ t.sameMemory s))

/-- R224 to R229, R541: triggers: a write of TRG_CMD and a region request make firings; a firing outside its holdoff is counted and issues
its mark, one in the holdoff is counted as suppressed; TRIG_OUT rises and falls.
The model's choices it rests on: notes/assumptions/8.md, notes/assumptions/27.md. -/
def Obligations.TriggersComplete : Prop :=
  (∀ (v : BitVec 32) (s : State), s.reachable 0x50200 = true →
    Completes (.trgCmd v) s fun t =>
      t.firings = s.firings ++ ((List.range 8).filter (fun n => v.getLsbD n && s.trgOn n)).map
        (fun n => (⟨2 * (s.time.tick + 2), n, 3, 0⟩ : Firing)) ∧ t.sameRegsBut s [] ∧ t.sameMemory s) ∧
  (∀ (n : Fin 8) (w : Fin 8) (v : BitVec 32) (s : State), s.reachable (0x50100 + 0x20 * n.val + 4 * w.val) = true → w.val < 5 →
    Completes (.triggerConfigWrite n w v) s fun t =>
      t.lastStatus = .ok ∧ t.trg n.val = { TrgSt.reset with last := (s.trg n.val).last } ∧ t.sameMemory s ∧
      (w.val = 0 → t.get (Reg.TRG_CFG_EN n.val) = v.toNat / 2 ^ 31 ∧ t.get (Reg.TRG_CFG_SRC n.val) = v.toNat / 2 ^ 28 % 8 ∧
        t.get (Reg.TRG_CFG_COND n.val) = v.toNat / 2 ^ 25 % 8 ∧ t.get (Reg.TRG_CFG_HYST n.val) = v.toNat / 2 ^ 8 % 256) ∧
      (w.val = 1 → t.get (Reg.TRG_LVL_A n.val) = v.toNat % 2 ^ 12 ∧ t.get (Reg.TRG_LVL_B n.val) = v.toNat / 2 ^ 16 % 2 ^ 12 ∧
        t.sameRegsBut s [Reg.TRG_LVL_A n.val, Reg.TRG_LVL_B n.val]) ∧
      (w.val = 2 → t.get (Reg.TRG_T1_T n.val) = v.toNat % 2 ^ 20 ∧ t.sameRegsBut s [Reg.TRG_T1_T n.val]) ∧
      (w.val = 3 → t.get (Reg.TRG_T2_T n.val) = v.toNat % 2 ^ 20 ∧ t.sameRegsBut s [Reg.TRG_T2_T n.val]) ∧
      (w.val = 4 → t.get (Reg.TRG_HOLD_HOLDOFF n.val) = v.toNat % 2 ^ 20)) ∧
  (∀ s : State, s.time.run = false →
    Completes .triggerFire s (fun t => t = s) ∧ Completes .trigOutRise s (fun t => t = s) ∧
    Completes .trigOutFall s (fun t => t = s)) ∧
  (∀ (s : State) (f : Firing), s.firings = [f] → f.trig < 8 → s.time.run = true →
    Completes .triggerFire s fun t =>
      let held := match (s.trg f.trig).last with
        | some l => decide (f.index < l + max 16 (s.get (Reg.TRG_HOLD_HOLDOFF f.trig)))
        | none => false
      t.firings = [] ∧ t.sameMemory s ∧
      (held = true → t.get (Reg.TRG_CNT_SUP f.trig) = satAdd 16 (s.get (Reg.TRG_CNT_SUP f.trig)) 1 ∧
        t.sameRegsBut s [Reg.TRG_CNT_SUP f.trig] ∧ t.marks = s.marks) ∧
      (held = false → t.get (Reg.TRG_CNT_FIRED f.trig) = satAdd 16 (s.get (Reg.TRG_CNT_FIRED f.trig)) 1 ∧
        (t.trg f.trig).last = some f.index ∧
        t.marks = s.marks ++ [⟨f.trig, f.trig, f.index / 2, f.index % 2 * 512 + f.rem, []⟩])) ∧
  (∀ (s : State) (r line n : Nat) (rest : List (Nat × Nat)), s.rreqs = (r, line) :: rest → n < 8 → s.trgOn n = true →
    s.trgSrc n = 2 → s.get (Reg.TRG_CFG_SEL n) = line → s.get (Reg.TRG_T2_T n) = 1 → (s.trg n).win = none →
    Completes .regionRequest s fun t =>
      t.rreqs = rest ∧ (⟨2 * s.time.tick, n, 2, 0⟩ : Firing) ∈ t.firings ∧ t.sameRegsBut s [] ∧ t.sameMemory s) ∧
  (∀ (s : State) (x : Nat), s.wave.rises = [x] → s.time.run = true → s.get Reg.TOUT_CFG_EN = 1 → s.dom 33 = true →
    Completes .trigOutRise s fun t =>
      t.time.tick = max s.time.tick ((x + 1) / 2) ∧ t.wave.out = true ∧ t.wave.rises = [] ∧
      (s.wave.out = false → t.wave.outAt = x ∧ t.sameRegsBut s []) ∧
      (s.wave.out = true → t.get Reg.TOUT_MERGE_COUNT = satAdd 16 (s.get Reg.TOUT_MERGE_COUNT) 1 ∧
        t.sameRegsBut s [Reg.TOUT_MERGE_COUNT]) ∧ t.sameMemory s) ∧
  (∀ s : State, s.wave.out = true → s.time.run = true →
    Completes .trigOutFall s fun t =>
      t.wave.out = false ∧
      t.time.tick = max s.time.tick ((s.wave.outAt + 2 * max 1 (s.get Reg.TOUT_CFG_WIDTH) + 1) / 2) ∧ t.sameRegsBut s [] ∧
      t.sameMemory s)

/-! ### The bridle and the streams -/

/-- R241, R244, R245, R254: COMMIT takes the snapshot; the checks report the first that fails, or set T to the next tick that is a multiple
of 2^14; at T the snapshot comes into force with SEQ advanced, STREAM_MASK written and streams without a budget CLOSING; OVER clears
unless a spill figure has fallen below what the checks used (R254).
The model's choices it rests on: notes/assumptions/8.md, notes/assumptions/21.md, notes/assumptions/26.md, notes/assumptions/87.md. -/
def Obligations.BridleCommitCompletes : Prop :=
  (∀ (k : Fin 2) (s : State), s.keelOpen k.val 0x20000 = true → s.active? = some k.val → s.get (Reg.BR_STAT_BUSY k.val) = 0 →
    Completes (.commit k) s fun t =>
      t.lastStatus = .ok ∧ t.get (Reg.BR_STAT_BUSY k.val) = 1 ∧ t.get (Reg.BR_CTRL_COMMIT k.val) = 1 ∧
      t.keel k.val = { s.keel k.val with
        snap := s.declSnap k.val, snapAt := s.time.tick, commitT := none, changed := false, pairs := s.pairsNow } ∧
      t.sameRegsBut s [Reg.BR_STAT_BUSY k.val, Reg.BR_CTRL_COMMIT k.val, Reg.BR_CTRL_VIEW (1 - k.val)] ∧ t.sameMemory s) ∧
  (∀ (k : Nat) (s : State), s.active? = some k → s.get (Reg.BR_STAT_BUSY k) = 1 → (s.keel k).commitT = none → s.dom (19 + k) = true →
    Completes .commitChecksDone s fun t =>
      let d := (s.keel k).snap
      let r := s.bridleCheck k d
      t.get (Reg.BR_PWR_WC_P k) = min (2 ^ 32 - 1) (ratCeil (s.worstPower k d)) ∧ t.sameMemory s ∧
      (r.1 = 0 → (t.keel k).commitT = some ((s.time.tick / 16384 + 1) * 16384) ∧ (t.keel k).force = (s.keel k).force ∧
        (t.keel k).snap = s.withSpill k d ∧
        t.sameRegsBut s [Reg.BR_PWR_WC_P k]) ∧
      (r.1 ≠ 0 → t.get (Reg.BR_STAT_CODE k) = r.1 % 16 ∧ t.get (Reg.BR_FAIL_IDX k) = r.2 % 2 ^ 16 ∧ t.get (Reg.BR_STAT_BUSY k) = 0 ∧
        t.get (Reg.BR_CTRL_COMMIT k) = 0 ∧ (t.get (Reg.CD_EVT_EVT k)).testBit 3 = true ∧ (t.keel k).force = (s.keel k).force ∧
        (t.keel k).commitT = none ∧
        t.sameRegsBut s [Reg.BR_PWR_WC_P k, Reg.BR_STAT_CODE k, Reg.BR_FAIL_IDX k, Reg.BR_STAT_BUSY k, Reg.BR_CTRL_COMMIT k,
          Reg.CD_EVT_EVT k])) ∧
  (∀ (k t0 : Nat) (s : State), s.active? = some k → (s.keel k).commitT = some t0 → s.time.run = true →
    Completes .commitInForce s fun t =>
      let d := (s.keel k).snap
      t.time.tick = max s.time.tick t0 ∧ t.get (Reg.BR_COMMIT_TICK_T k) = t0 % 2 ^ 56 ∧
      t.get (Reg.BR_STAT_SEQ k) = (s.get (Reg.BR_STAT_SEQ k) + 1) % 2 ^ 16 ∧ t.get (Reg.BR_STAT_CODE k) = 0 ∧
      t.get (Reg.BR_STAT_BUSY k) = 0 ∧ t.get (Reg.BR_CTRL_COMMIT k) = 0 ∧
      t.get (Reg.BR_STAT_OVER k) = b2n (decide (s.get (Reg.BR_SPILL_W_RATE k) < dget d (Reg.BR_SPILL_W_RATE 0)) ||
        decide (s.get (Reg.BR_SPILL_CAP_CAP k) < dget d (Reg.BR_SPILL_CAP_CAP 0))) ∧
      t.get (Reg.BR_STAT_DRIFT k) = 0 ∧
      (∀ n : Fin 1024, t.get (Reg.STREAM_MASK_MASK n.val) = dget d (Reg.BR_MASK_MASK 0 n.val) % 2 ^ 64) ∧
      (t.keel k).force = some d ∧ t.laneCfg = SMap.keep d laneKey ∧
      (∀ q : Fin 64, t.stState k q.val = if s.stState k q.val = 1 ∧ dSus d q.val = 0 then 2 else s.stState k q.val) ∧ t.sameMemory s)

/-- R267, R268, R272: OPEN, CLOSE and FLUSH set the tick of their request (a CLOSE of a stream that is not OPEN, or a CLOSE or FLUSH
whose like is pending, changes nothing); a stream opens with its epoch mark, the gap held for it and its
open extension; it enters CLOSING; 64 ticks before it closes its regions stop; it closes with its close extension.
The model's choices it rests on: notes/assumptions/8.md, notes/assumptions/24.md, notes/assumptions/55.md, notes/assumptions/84.md. -/
def Obligations.StreamPhasesComplete : Prop :=
  (∀ (k : Fin 2) (q : Fin 64) (s : State), s.keelOpen k.val (0x30000 + 0x20 * q.val) = true → s.active? = some k.val →
    (s.openOk k.val q.val = true →
      Completes (.streamOpenRequest k q) s fun t =>
        t.onlyStream s k.val q.val { s.stream k.val q.val with reqO := some (s.time.tick + 4) } ∧
        t.sameRegsBut s [Reg.ST_CTRL_FLUSH (1 - k.val) q.val]) ∧
    (s.openOk k.val q.val = false → Completes (.streamOpenRequest k q) s fun t => t = { s with lastStatus := .prot }) ∧
    Completes (.streamCloseRequest k q) s (fun t =>
      t.onlyStream s k.val q.val (if s.stState k.val q.val = 1 ∧ (s.stream k.val q.val).reqC = none then
        { s.stream k.val q.val with reqC := some (s.time.tick + 4) } else s.stream k.val q.val) ∧
      t.sameRegsBut s [Reg.ST_CTRL_FLUSH (1 - k.val) q.val]) ∧
    Completes (.flush k q) s fun t =>
      t.onlyStream s k.val q.val (if (s.stream k.val q.val).flushAt = none then
        { s.stream k.val q.val with flushAt := some (s.time.tick + 4) } else s.stream k.val q.val) ∧
      ((s.stream k.val q.val).flushAt = none → t.get (Reg.ST_CTRL_FLUSH k.val q.val) = 1) ∧
      ((s.stream k.val q.val).flushAt ≠ none → t.get (Reg.ST_CTRL_FLUSH k.val q.val) = s.get (Reg.ST_CTRL_FLUSH k.val q.val)) ∧
      t.sameRegsBut s [Reg.ST_CTRL_FLUSH k.val q.val, Reg.ST_CTRL_FLUSH (1 - k.val) q.val]) ∧
  (∀ (q : Fin 64) (k : Nat) (s : State), s.active? = some k → s.time.run = true →
    (∀ o : Nat, (s.stream k q.val).reqO = some o → s.pwr = 4 → (s.stream k q.val).block = none →
      Completes (.streamOpen q) s fun t =>
        t.time.tick = max s.time.tick o ∧ t.get (Reg.ST_CTRL_STATE k q.val) = 1 ∧ (t.stream k q.val).openedAt = o ∧
        (t.stream k q.val).reqO = none ∧ t.sendMask = setBit s.sendMask q.val ∧
        (∃ m, t.marks = s.marks ++ [m] ∧ m.ch = 15 ∧ m.detail = q.val ∧ m.tick = o) ∧
        (∃ b, (t.stream k q.val).block = some b ∧ b.first = true ∧ b.last = false ∧
          b.words = epochWords t.time.epoch t.time.epochAcc ++ (heldGap (s.retained q.val)).getD [] ++
            [extWord 1 0 (s.get Reg.ARB_STAT_EPOCH * 2 ^ 32 + o % 2 ^ 32)]) ∧
        (t.retained q.val).intr = none ∧ (t.retained q.val).range = none ∧ (t.retained q.val).bseq = (s.retained q.val).bseq ∧
        (∀ r : Fin 64, r ≠ q → t.stream k r.val = s.stream k r.val) ∧ t.sameRegsBut s [Reg.ST_CTRL_STATE k q.val] ∧ t.sameMemory s) ∧
    (∀ c : Nat, (s.stream k q.val).reqC = some c → s.stState k q.val = 1 →
      Completes (.streamClose q) s fun t =>
        t.time.tick = max s.time.tick c ∧ t.get (Reg.ST_CTRL_STATE k q.val) = 2 ∧
        t.stream k q.val = { s.stream k q.val with reqO := none } ∧
        (∃ m, t.marks = s.marks ++ [m] ∧ m.ch = 15 ∧ m.detail = q.val + 128 ∧ m.tick = c) ∧
        t.sameRegsBut s [Reg.ST_CTRL_STATE k q.val] ∧ t.sameMemory s) ∧
    (∀ c : Nat, (s.stream k q.val).reqC = some c → s.stState k q.val = 2 →
      Completes (.streamSendCutoff q) s fun t =>
        t.time.tick = max s.time.tick (c + 65536 - 64) ∧ t.sendMask = clrBit s.sendMask q.val ∧
        t.stream k q.val = { s.stream k q.val with cutoff := true } ∧ t.sameRegsBut s [] ∧ t.sameMemory s) ∧
    (∀ c : Nat, (s.stream k q.val).reqC = some c → s.stState k q.val = 2 →
      Completes (.streamClosed q) s fun t =>
        t.time.tick = max s.time.tick (c + 65536) ∧ t.get (Reg.ST_CTRL_STATE k q.val) = 0 ∧
        (t.stream k q.val).closedAt = some (c + 65536) ∧ (t.stream k q.val).block = none ∧
        (∃ b, (t.stream k q.val).wait.getLast? = some b ∧ b.last = true ∧ b.words.getLast? = some (extWord 2 0 (c % 2 ^ 32))) ∧
        (∀ r : Fin 64, r ≠ q → t.stream k r.val = s.stream k r.val) ∧
        t.sameRegsBut s [Reg.ST_CTRL_STATE k q.val, Reg.EL_POIS_COUNT] ∧ t.sameMemory s))

/-- R247, R248, R265, R271 to R273, R286: a record is admitted and charged and joins its stream's open block, or is dropped and counted; a
block closes on a flush or its timer; once its words have left the shaping buffer it takes the next BSEQ and joins its group's queue, the
spill store, or is discarded and counted, poisoned where its words held an uncorrectable error (R501, R513).
The model's choices it rests on: notes/assumptions/8.md, notes/assumptions/87.md, notes/assumptions/93.md. -/
def Obligations.MergeAndBlocksComplete : Prop :=
  (∀ (s : State) (src k q : Nat) (m : MergeItem) (w : Word64) (ws : List Word64) (rest : List MergeItem) (b : Block),
    List.find? (fun e => !e.2.isEmpty) s.merge = some (src, m :: rest) → m.words = w :: ws → s.active? = some k →
    s.routeOf k src m = some q → s.stState k q ≠ 0 → wordType w ≠ 0 → wordType w < 0xB → m.cls ≠ .gap →
    (s.stream k q).block = some b → b.words.length + m.words.length < b.size →
    Completes .mergeWord s fun t =>
      let v := meterTo (s.inForce k) q s.time.tick (s.stream k q)
      let c := 64 * m.words.length
      SMap.get t.merge src [] = rest ∧ t.sameMemory s ∧ t.get (Reg.EL_SEU_COUNT (trunkClass src)) = s.eccSeen (trunkClass src) m.ecc ∧
      (((c : Nat) : Rat) ≤ v.sus ∧ ((c : Nat) : Rat) ≤ v.peak → t.sameRegsBut s [Reg.EL_SEU_COUNT (trunkClass src)] ∧
        (let u := shapeIn (s.inForce k) q s.time.tick c { v with sus := v.sus - c, peak := v.peak - c }
         t.stream k q = { u with block := some { b with words := b.words ++ m.words, poison := b.poison || (m.poison || decide (2 ≤ m.ecc)),
                                                        relAt := shapedOut (s.inForce k) q u } })) ∧
      (v.sus < ((c : Nat) : Rat) ∨ v.peak < ((c : Nat) : Rat) →
        t.get (Reg.BR_BAL_COUNT k q) = (s.get (Reg.BR_BAL_COUNT k q) + 1) % 2 ^ 64 ∧
        (t.stream k q).block = some b ∧ SMap.get (t.stream k q).bal 0 0 = SMap.get (s.stream k q).bal 0 0 + 1 ∧
        t.sameRegsBut s [Reg.BR_BAL_COUNT k q, Reg.EL_SEU_COUNT (trunkClass src)])) ∧
  ((∀ (q : Fin 64) (k f : Nat) (b : Block) (s : State), s.active? = some k → s.time.run = true → (s.stream k q.val).block = some b →
    (s.stream k q.val).flushAt = some f →
    Completes (.flushTick q) s fun t =>
      t.time.tick = max s.time.tick f ∧
      (s.unwritten (Reg.ST_CTRL_FLUSH k q.val) → t.get (Reg.ST_CTRL_FLUSH k q.val) = 0) ∧
      ((s.adv f).metWrote (Reg.ST_CTRL_FLUSH k q.val) ≠ 0 → t.get (Reg.ST_CTRL_FLUSH k q.val) = 1) ∧
      t.stream k q.val = { s.stream k q.val with
        flushAt := if (s.adv f).metWrote (Reg.ST_CTRL_FLUSH k q.val) = 0 then none else some (f + 4), block := none,
        wait := (s.stream k q.val).wait ++ [b.ended false (max s.time.tick f) (s.get Reg.ARB_STAT_EPOCH)] } ∧
      t.sameRegsBut s [Reg.ST_CTRL_FLUSH k q.val, Reg.EL_POIS_COUNT] ∧ t.sameMemory s) ∧
  (∀ (q : Fin 64) (k : Nat) (b : Block) (s : State), s.active? = some k → s.time.run = true → (s.stream k q.val).block = some b →
    s.get (Reg.ST_CFG_FLT k q.val) ≠ 0 →
    Completes (.flushTimer q) s fun t =>
      let e := max s.time.tick (b.openAt + 2 ^ min 26 (max 10 (s.get (Reg.ST_CFG_FLT k q.val))))
      t.time.tick = e ∧
      t.stream k q.val = { s.stream k q.val with
        block := none, wait := (s.stream k q.val).wait ++ [b.ended false e (s.get Reg.ARB_STAT_EPOCH)] } ∧
      t.sameRegsBut s [Reg.EL_POIS_COUNT] ∧ t.sameMemory s) ∧
  (∀ (q : Fin 64) (k : Nat) (b : Block) (rest : List Block) (s : State), s.active? = some k → (s.stream k q.val).wait = b :: rest →
    b.stream = q.val → b.group < 16 →
    Completes (.blockRoute q) s fun t =>
      let level := s.get (Reg.OQ_STAT_LEVEL k b.group) + blockLen b
      let n := s.get (Reg.ST_BSEQ_NEXT k q.val)
      t.sameMemory s ∧ t.time.tick = (if s.time.run then max s.time.tick b.relAt else s.time.tick) ∧
      t.get (Reg.EL_SEU_COUNT 2) = s.eccSeen 2 b.ecc ∧
      (level < s.hwm k b.group ∨ 16384 < level ∨ (∀ p : Fin 2, (s.pin p.val).high = false) →
        t.get Reg.EL_POIS_COUNT = s.poisSeen b.poison b.ecc) ∧
      (level ≤ 16384 → level < s.hwm k b.group →
        t.stream k q.val = { s.stream k q.val with wait := rest } ∧
        SMap.get (t.keel k).queues b.group [] = SMap.get (s.keel k).queues b.group [] ++ [{ b.seen with bseq := n }] ∧
        t.get (Reg.ST_BSEQ_NEXT k q.val) = (n + 1) % 2 ^ 32 ∧
        t.get (Reg.ST_BLK_COUNT k q.val) = (s.get (Reg.ST_BLK_COUNT k q.val) + 1) % 2 ^ 64 ∧
        t.get (Reg.OQ_STAT_LEVEL k b.group) = level ∧
        t.sameRegsBut s [Reg.ST_BSEQ_NEXT k q.val, Reg.ST_BLK_COUNT k q.val, Reg.ST_RAW_COUNT k q.val, Reg.OQ_STAT_LEVEL k b.group,
          Reg.OQ_STAT_HOLD k b.group, Reg.EL_SEU_COUNT 2, Reg.EL_POIS_COUNT]) ∧
      (16384 < level → s.spillOk k (blockLen b) = true →
        (t.stream k q.val).wait = rest ∧ t.get (Reg.ST_BSEQ_NEXT k q.val) = (n + 1) % 2 ^ 32 ∧
        (∃ h, (t.spillStr k q.val).held = (s.spillStr k q.val).held ++ [h] ∧ h.bseq = n ∧ h.openAt = b.openAt ∧ h.closeAt = b.closeAt) ∧
        SMap.get (t.spill k).order b.group [] = SMap.get (s.spill k).order b.group [] ++ [q.val]) ∧
      (16384 < level → s.spillOk k (blockLen b) = false →
        (t.stream k q.val).wait = rest ∧ t.get (Reg.ST_DISC_COUNT k q.val) = satAdd 32 (s.get (Reg.ST_DISC_COUNT k q.val)) 1 ∧
        t.sameRegsBut s [Reg.ST_DISC_COUNT k q.val, Reg.EL_SEU_COUNT 2, Reg.EL_POIS_COUNT] ∧
        (s.stState k q.val ≠ 0 →
          (t.stream k q.val).disc = joinDiscard (s.stream k q.val).disc (some ⟨b.openAt, b.closeAt + 1, 1, false⟩)))))

/-- R248, R250, R251, R263, R286, R288, R290: the marks that the keel puts into an open block with room, the ballast counts of a region, and the
rise of a pin of SRC_PERMIT.
The model's choices it rests on: notes/assumptions/8.md, notes/assumptions/24.md, notes/assumptions/84.md. -/
def Obligations.KeelMarksAndPinsComplete : Prop :=
  ((∀ (k e : Nat) (s : State), s.active? = some k → s.time.run = true → e = s.intervalEnd (2 ^ 23) s.epochDone →
    s.servo.setAt ≠ some e → (∀ x ∈ s.servo.step, x.1 ≠ e) →
    Completes .epochMark s fun t =>
      t.epochDone = e ∧ t.time.tick = e ∧
      (∃ m, t.marks = s.marks ++ [m] ∧ m.ch = 12 ∧ m.tick = e) ∧
      (∀ (q : Fin 64) (b : Block), s.stState k q.val ≠ 0 → (s.stream k q.val).block = some b → b.words.length + 2 < b.size →
        (t.stream k q.val).block = some (s.marked k q.val e b (epochWords t.time.epoch t.time.epochAcc))) ∧
      (∀ q : Fin 64, s.stState k q.val = 0 → t.stream k q.val = s.stream k q.val) ∧
      t.sameRegsBut s [Reg.EL_POIS_COUNT] ∧ t.sameMemory s) ∧
  (∀ (k : Nat) (s : State), s.active? = some k → s.time.run = true →
    Completes .ballastIntervalEnd s fun t =>
      let e := s.intervalEnd (2 ^ 14) s.ballastDone
      t.time.tick = e ∧ t.ballastDone = e ∧ t.sameRegsBut s [Reg.EL_POIS_COUNT] ∧ t.sameMemory s ∧
      (∀ (q : Fin 64) (b : Block) (c n : Nat), s.stState k q.val ≠ 0 → (s.stream k q.val).block = some b →
        (s.stream k q.val).bal = [(c, n)] → b.words.length + 1 < b.size →
        (t.stream k q.val).block = some (s.marked k q.val e b [ballastMark q.val c n e]) ∧ (t.stream k q.val).bal = [])) ∧
  (∀ (k : Nat) (s : State), s.active? = some k → s.time.run = true →
    Completes .discardIntervalEnd s fun t =>
      let e := s.intervalEnd (2 ^ 15) s.discardDone
      t.time.tick = e ∧ t.discardDone = e ∧ t.sameRegsBut s [Reg.EL_POIS_COUNT] ∧ t.sameMemory s ∧
      (∀ (q : Fin 64) (b : Block) (g : Discard), s.stState k q.val ≠ 0 → (s.stream k q.val).block = some b →
        (s.stream k q.val).disc = some g → b.words.length + 2 < b.size →
        (t.stream k q.val).disc = none ∧ (t.stream k q.val).block =
          some (s.marked k q.val e b (gapAllWords (if g.spill then 4 else 1) g.start g.stop (min g.count (2 ^ 24 - 1)))))) ∧
  (∀ (n : Fin 1024) (k : Nat) (s : State), s.active? = some k →
    Completes (.ballastCountReport n) s fun t =>
      t.region n.val = { s.region n.val with balHq := 0, balOut := 0 } ∧ t.sameRegsBut s [] ∧ t.sameMemory s ∧
      (∀ q : Fin 64, if s.stState k q.val ≠ 0 ∧ (s.get (Reg.STREAM_MASK_MASK n.val)).testBit q.val then
          SMap.get (t.stream k q.val).bal 1 0 = SMap.get (s.stream k q.val).bal 1 0 + (s.region n.val).balHq ∧
          SMap.get (t.stream k q.val).bal 2 0 = SMap.get (s.stream k q.val).bal 2 0 + (s.region n.val).balOut
        else t.stream k q.val = s.stream k q.val))) ∧
  (∀ (p : Fin 2) (k : Nat) (s : State), s.active? = some k → s.time.run = true → (s.pin p.val).high = false →
    s.permitOk k p.val = true →
    Completes (.srcPermitRise p) s fun t =>
      t.time.tick = max s.time.tick ((s.pin p.val).fellAt + max 1 (s.get (Reg.SP_CTRL_MINLOW k p.val)) * 32768) ∧
      t.pin p.val = { s.pin p.val with high := true } ∧ (s.dom 0 = true → s.scanDrives = false → t.permitPin p = .high) ∧
      (∀ (q : Fin 64) (b : Block), s.stState k q.val ≠ 0 → (s.stream k q.val).block = some b → b.words.length + 1 < b.size →
        (s.get (Reg.SP_STREAMS_MASK k p.val)).testBit q.val = true →
        (t.stream k q.val).block = some (s.marked k q.val t.time.tick b [extWord 3 0 (p.val * 2 ^ 47 + 2 ^ 46 + t.time.tick % 2 ^ 32)])) ∧
      t.sameRegsBut s [Reg.EL_POIS_COUNT] ∧ t.sameMemory s)

/-! ### The memory controller and the spill store -/

/-- R296 to R298: initialisation of the memory: RESET_n after 250,000 ticks, mode registers after 2,750,000, training that ends with
READY and the spill figures of R297, or with FAULT; retraining.
The model's choices it rests on: notes/assumptions/8.md, notes/assumptions/31.md, notes/assumptions/88.md. -/
def Obligations.MemoryInitialisationCompletes : Prop :=
  (∀ s : State, s.reachable 0x380000 = true → s.mc.step = 0 → s.get Reg.MC_CFG_CHMASK ∈ [1, 3, 15] → s.memDomsOn = true →
    (∀ d ∈ [31, 32], s.dom d = true → s.allowed d = true) →
    Completes .memoryInit s fun t =>
      t.lastStatus = .ok ∧ t.get Reg.MC_CFG_EN = 1 ∧ t.mc = ⟨1, s.time.tick, 0⟩ ∧ t.sameRegsBut s [Reg.MC_CFG_EN] ∧ t.sameMemory s) ∧
  (∀ s : State, s.reachable 0x380000 = true → s.mc.step ≠ 0 → s.get Reg.MC_CFG_CHMASK ∈ [1, 3, 15] → s.memDomsOn = true →
    (∀ d ∈ [31, 32], s.dom d = true → s.allowed d = true) →
    Completes .memoryInit s fun t =>
      t.lastStatus = .ok ∧ t.get Reg.MC_CFG_EN = 1 ∧ t.mc = ⟨1, s.time.tick, 0⟩ ∧ t.get Reg.MC_STAT_READY = 0 ∧
      t.get Reg.MC_STAT_CHUP = 0 ∧ t.dram = []) ∧
  (∀ s : State, s.mc.step = 1 → s.time.run = true →
    Completes .memoryResetRelease s fun t =>
      t.time.tick = max s.time.tick (s.mc.start + 250000) ∧ t.mc = { s.mc with step := 2 } ∧ t.sameRegsBut s [] ∧ t.sameMemory s) ∧
  (∀ s : State, s.mc.step = 2 → s.time.run = true →
    Completes .modeRegisterWrite s fun t =>
      t.time.tick = max s.time.tick (s.mc.start + 2750000) ∧ t.mc = { s.mc with step := 3 } ∧ t.sameRegsBut s [] ∧ t.sameMemory s) ∧
  (∀ (up : BitVec 4) (s : State), s.mc.step = 3 → s.get Reg.MC_CFG_CHMASK ∈ [1, 3, 15] → s.get Reg.MC_CFG_CAPC < 4 → s.get Reg.MC_STAT_FAULT = 0 →
    s.get Reg.MC_STAT_READY = 0 →
    Completes (.trainingComplete up) s fun t =>
      let m := s.get Reg.MC_CFG_CHMASK
      let n := if m = 1 then 1 else if m = 3 then 2 else 4
      let r := if s.get Reg.MC_CFG_RATE = 1 then 7500 else if s.get Reg.MC_CFG_RATE = 2 then 8533 else 6400
      let wc := n * r * 32 * 29 * 15 / 512
      let lim := s.get Reg.MC_WLIM_WLIM
      t.mc = { s.mc with step := 4 } ∧ t.get Reg.MC_STAT_CHUP = up.toNat &&& m ∧
      (up.toNat &&& m = m → t.get Reg.MC_STAT_READY = 1 ∧ t.get Reg.MC_STAT_FAULT = 0 ∧
        ∀ k : Fin 2, t.get (Reg.BR_SPILL_W_RATE k.val) = (if lim = 0 then wc else min wc lim) % 2 ^ 21 ∧
          t.get (Reg.BR_SPILL_CAP_CAP k.val) = n * (1024 * 2 ^ (s.get Reg.MC_CFG_CAPC + 1)) * 7 / 8 % 2 ^ 17) ∧
      (up.toNat &&& m ≠ m → t.get Reg.MC_STAT_READY = 0 ∧ t.get Reg.MC_STAT_FAULT = 1 ∧
        ∀ k : Fin 2, t.get (Reg.BR_SPILL_W_RATE k.val) = 0 ∧ t.get (Reg.BR_SPILL_CAP_CAP k.val) = 0)) ∧
  (∀ (d : BitVec 4) (s : State), s.get Reg.MC_STAT_READY = 1 →
    Completes (.oscillatorReadout d) s fun t =>
      let m := d.toNat &&& s.get Reg.MC_STAT_CHUP
      t.mc = { s.mc with busy := s.mc.busy ||| m } ∧
      t.get Reg.MC_STAT_RETRAIN = satAdd 16 (s.get Reg.MC_STAT_RETRAIN) ((List.range 4).filter (fun c => m.testBit c)).length ∧
      t.sameRegsBut s [Reg.MC_STAT_RETRAIN] ∧ t.sameMemory s) ∧
  (∀ (c : Fin 4) (s : State),
    Completes (.retrainComplete c) s fun t => t = { s with mc := { s.mc with busy := clrBit s.mc.busy c.val } })

/-- R302, R304 to R306, R310 to R312, R405: bricks of the active keel's spill store: a brick is issued with a tag, paced, and once both
halves are accepted, stored and published; lost halves are counted; a drain sends the blocks that lie whole on chip, else reads the next
brick of the oldest block with a tag, and its bytes join the block, poisoned where halves fail their checks; an operation times out
after 25,000 ticks; a page leaves quarantine after 80,000.
The model's choices it rests on: notes/assumptions/8.md, notes/assumptions/77.md, notes/assumptions/88.md. -/
def Obligations.SpillStoreCompletes : Prop :=
  ∀ (k : Nat) (s : State), s.active? = some k →
    (∀ (b : Staged) (place : Nat) (s1 : State), firstIdle (s.spill k).staged = some b → s.mcUp = true →
      (s.spill k).ops.length < 1024 → s.brickPlace k b.stream = some (place, s1) → s.mc.busy.testBit (s.channelOf place) = false →
      Completes .brickWrite s fun t =>
        t.time.tick = (if s.time.run then max s.time.tick (ratCeil (s.spill k).paceAt) else s.time.tick) ∧
        (t.spill k).ops = (s.spill k).ops ++ [⟨false, b.stream, b.brick, place, t.time.tick⟩] ∧
        (t.spill k).paceAt = max (s.spill k).paceAt t.time.tick + s.brickTime k ∧
        t.get Reg.MC_TAGS_NOW = (s.spill k).ops.length + 1 ∧ t.sameRegsBut s [Reg.MC_TAGS_NOW, Reg.MC_TAGS_PEAK, Reg.EL_SEU_COUNT 3] ∧
        t.get (Reg.EL_SEU_COUNT 3) = s.eccSeen 3 b.ecc ∧
        (2 ≤ b.ecc → (t.spillStr k b.stream).held = poisonHeld b.brick (s1.spillStr k b.stream).headPos (s1.spillStr k b.stream).held) ∧
        t.sameMemory s) ∧
    (∀ (q : Fin 64) (lost : BitVec 2) (o : SpillOp) (b : Staged), s.spillOp? k q.val false = some o →
      (s.spill k).staged.find? (fun x => x.stream == o.stream && x.brick == o.brick) = some b →
      Completes (.brickWriteComplete q lost) s fun t =>
        (t.spill k).ops = (s.spill k).ops.filter (· ≠ o) ∧ t.sameMemory s ∧
        (lost = 0 → SMap.find? t.dram (s.brickAddr o.place) = some b.bytes ∧
          SMap.find? (t.spillStr k q.val).slots o.brick = some (o.place, b.header) ∧
          t.sameRegsBut s [Reg.MC_TAGS_NOW, Reg.MC_TAGS_PEAK]) ∧
        (lost ≠ 0 → t.dram = s.dram ∧
          t.get Reg.MC_LOST_COUNT = satAdd 32 (s.get Reg.MC_LOST_COUNT) (if lost = 3 then 2 else 1))) ∧
    (∀ (g : Fin 16) (q : Nat) (rest : List Nat), s.orderLog k g.val = q :: rest → s.drainOk k g.val = true → s.armed = true →
      (s.headWhole k g.val q = true →
        Completes (.drainRead g) s fun t =>
          (∃ d ds, SMap.get (t.spill k).drained g.val [] = SMap.get (s.spill k).drained g.val [] ++ d :: ds ∧ d.stream = q ∧
            (s.spillStr k q).held.head? = some d.blk) ∧
          (t.spill k).ops = (s.spill k).ops ∧ t.sameMemory s) ∧
      (∀ (place h : Nat), s.headWhole k g.val q = false → s.spillOp? k q true = none →
        (s.spillStr k q).held.head?.any (fun b => b.group != g.val) = false →
        SMap.find? (s.spillStr k q).slots (s.spillStr k q).readNext = some (place, h) → s.mc.busy.testBit (s.channelOf place) = false →
        Completes (.drainRead g) s fun t =>
          (t.spill k).ops = (s.spill k).ops ++ [⟨true, q, (s.spillStr k q).readNext, place, s.time.tick⟩] ∧
          t.sameRegsBut s [Reg.MC_TAGS_NOW, Reg.MC_TAGS_PEAK] ∧ t.sameMemory s)) ∧
    (∀ (q : Fin 64) (u : BitVec 1024) (o : SpillOp) (h : Nat), s.spillOp? k q.val true = some o →
      SMap.find? (s.spillStr k q.val).slots o.brick = some (o.place, h) →
      Completes (.drainReadComplete q u) s fun t =>
        let bs := upsetBytes u.toNat (SMap.get s.dram (s.brickAddr o.place) (List.replicate 128 0))
        let fails := brickFails h bs
        (t.spillStr k q.val).readNext = o.brick + 1 ∧ (t.spill k).ops = (s.spill k).ops.filter (· ≠ o) ∧
        t.get Reg.MC_POIS_COUNT = (if fails = 0 then s.get Reg.MC_POIS_COUNT else satAdd 32 (s.get Reg.MC_POIS_COUNT) fails) ∧
        t.sameMemory s) ∧
    (∀ (q : Fin 64) (read : Bool) (o : SpillOp), s.spillOp? k q.val read = some o → s.time.run = true →
      Completes (.operationTimeout q read) s fun t =>
        t.time.tick = max s.time.tick (o.at0 + 25000) ∧ t.get Reg.MC_TMO_COUNT = satAdd 32 (s.get Reg.MC_TMO_COUNT) 1 ∧
        (t.spill k).ops = (s.spill k).ops.filter (· ≠ o) ∧
        (read = true → t.get Reg.MC_POIS_COUNT = satAdd 32 (s.get Reg.MC_POIS_COUNT) 1) ∧
        (read = false → t.get Reg.MC_LOST_COUNT = satAdd 32 (s.get Reg.MC_LOST_COUNT) 1) ∧ t.sameMemory s) ∧
    (∀ (p t0 : Nat) (rest : List (Nat × Nat)), (s.spill k).quar = (p, t0) :: rest → s.time.run = true →
      Completes .pageQuarantineEnd s fun t =>
        t.time.tick = max s.time.tick (t0 + 80000) ∧
        t.spill k = { s.spill k with quar := rest, free := (s.spill k).free ++ [p] } ∧ t.sameRegsBut s [] ∧ t.sameMemory s)

/-! ### The lanes -/

/-- R311, R325 to R328, R331, R338 to R341: the TX slots: the mux places the next block of a group on the slot that is free first, or a
drained one on a slot that is idle; a frame of 400
blocks starts on a tick that is a multiple of 1,280; candidates are tried for 2 ms each; a host state follows two equal reports, or
the lack of reports; spares and the lane map; the writes of their registers.
The model's choices it rests on: notes/assumptions/50.md, notes/assumptions/63.md, notes/assumptions/78.md, notes/assumptions/79.md, notes/assumptions/92.md, notes/assumptions/93.md, notes/assumptions/97.md. -/
def Obligations.TxLanesComplete : Prop :=
  (∀ (g : Fin 16) (k i : Nat) (b : Block) (rest : List Block) (s : State), s.active? = some k → s.armed = true →
    s.leastLoaded (s.muxSlots g.val) = some i → SMap.get (s.keel k).queues g.val [] = b :: rest →
    Completes (.laneMuxPlace g) s fun t =>
      (t.tx i).payload = (s.tx i).payload ++ blockPayload (blockBytes b.seen false) ∧
      t.get (Reg.EL_SEU_COUNT 2) = s.eccSeen 2 b.ecc ∧ SMap.get (t.keel k).queues g.val [] = rest ∧
      (s.get (Reg.OQ_STAT_LEVEL k g.val) - blockLen b < s.hwm k g.val ∨ (∀ p : Fin 2, (s.pin p.val).high = false) →
        t.get Reg.EL_POIS_COUNT = s.poisSeen b.poison b.ecc) ∧
      t.get (Reg.OQ_STAT_LEVEL k g.val) = (s.get (Reg.OQ_STAT_LEVEL k g.val) - blockLen b) % 2 ^ 15 ∧ t.sameMemory s) ∧
  (∀ (g : Fin 16) (k i : Nat) (d : DrainBlk) (rest : List DrainBlk) (s : State), s.active? = some k → s.armed = true →
    SMap.get (s.keel k).queues g.val [] = [] → SMap.get (s.spill k).drained g.val [] = d :: rest →
    (s.muxSlots g.val).find? (fun x => (s.tx x).payload.isEmpty) = some i →
    Completes (.laneMuxPlace g) s fun t =>
      (t.tx i).payload = blockPayload (if 2 ≤ d.ecc then drainedHeader true d.bytes else d.bytes) ∧
      t.get (Reg.EL_SEU_COUNT 3) = s.eccSeen 3 d.ecc ∧ t.get Reg.EL_POIS_COUNT = s.poisSeen d.blk.poison d.ecc ∧ SMap.get (t.spill k).drained g.val [] = rest ∧ t.sameMemory s) ∧
  (∀ (i : Fin 36) (ui : BitVec 12) (s : State), s.get (Reg.LN_TXCTRL_EN i.val) = 1 → s.dom (21 + i.val / 4) = true → s.armed = true →
    s.time.run = true →
    Completes (.txFrame i ui) s fun t =>
      let t0 := alignUp 1280 s.time.tick
      let e := if (s.tx i.val).sentAt = some t0 then t0 + 1280 else t0
      let v := s.txAtFrame i.val
      t.time.tick = e ∧ (t.tx i.val).sentAt = some e ∧ (t.tx i.val).frame.length = 400 ∧
      (t.tx i.val).payload = (if s.active?.isSome then v.payload.drop 392 else v.payload) ∧
      (t.tx i.val).ecc = (if s.active?.isSome then v.ecc - 392 else v.ecc) ∧
      t.get (Reg.EL_SEU_COUNT 4) = s.eccSeen 4 (b2n (s.active?.isSome && decide (0 < v.ecc) && decide (v.ecc ≤ 392))) ∧
      (s.slotCarries i.val = false → (s.tx i.val).onLane.any isLaneMsg = true →
        t.get Reg.CC_STAT_DROP = satAdd 16 (s.get Reg.CC_STAT_DROP) ((s.tx i.val).onLane.countP isLaneMsg)) ∧
      (s.slotCarries i.val = true ∨ (s.tx i.val).onLane.any isLaneMsg = false → t.get Reg.CC_STAT_DROP = s.get Reg.CC_STAT_DROP) ∧
      (t.tx i.val).lead = s.get (Reg.LN_TXCTRL_SLIP i.val) - (s.tx i.val).slip ∧
      ((t.tx i.val).frame.head?.map (fun x => bits x.2.toNat 32 32)) = some (e % 2 ^ 56 / 1280 % 2 ^ 32) ∧
      (t.tx i.val).wire = (scrambleFrame (s.tx i.val).scr (leadBlocks (t.tx i.val).lead ++ (t.tx i.val).frame)).1 ∧
      t.sameRegsBut s [Reg.LN_TXSTAT_CSEL i.val, Reg.EL_SEU_COUNT 4, Reg.CC_STAT_DROP] ∧ t.sameMemory s) ∧
  (∀ (w : Word64) (s : State), let i := bits w.toNat 58 6
    i < 36 → s.rxAnyUp = true → s.get (Reg.LN_TXCTRL_EN i) = 1 → s.dom (21 + i / 4) = true →
    Completes (.hostLaneReport w) s fun t =>
      t.get (Reg.LN_HREP_REP i) = w.toNat ∧ t.get (Reg.LN_HERR_SUM i) = satAdd 32 (s.get (Reg.LN_HERR_SUM i)) (bits w.toNat 8 8) ∧
      (0 < (s.tx i).run → (s.tx i).lock = w.getLsbD 57 → t.hostState i = if w.getLsbD 57 then 1 else 2) ∧ t.sameMemory s) ∧
  (∀ (i : Fin 36) (s : State), s.hostState i.val ≠ 0 → s.time.run = true →
    Completes (.hostReportTimeout i) s fun t =>
      t.time.tick = max s.time.tick ((s.tx i.val).repAt + max 1 (s.get Reg.LN_GCTRL_HRTMO) * 12500) ∧ t.hostState i.val = 0 ∧
      t.sameRegsBut s [Reg.LN_TXSTAT_HSTATE i.val] ∧ t.sameMemory s) ∧
  (∀ (i : Fin 36) (c : Nat) (rest : List Nat) (s : State), s.txCands i.val = c :: rest → s.get (Reg.LN_TXCTRL_AUTO i.val) = 1 →
    s.get (Reg.LN_TXCTRL_EN i.val) = 1 → s.rxAnyUp = true →
    Completes (.txCandidateSelection i) s fun t =>
      t.get (Reg.LN_TXSTAT_CSEL i.val) = c % 8 ∧ (t.tx i.val).sel = some (c, s.time.tick) ∧ (t.tx i.val).best = [] ∧
      t.sameRegsBut s [Reg.LN_TXSTAT_CSEL i.val] ∧ t.sameMemory s) ∧
  (∀ (i : Fin 36) (c t0 : Nat) (s : State), (s.tx i.val).sel = some (c, t0) → s.time.run = true →
    Completes (.txCandidateDwell i) s fun t =>
      t.time.tick = max s.time.tick (t0 + 2500000) ∧ t.sameRegsBut s [Reg.LN_TXSTAT_CSEL i.val] ∧ t.sameMemory s ∧
      (∀ n, (s.txCands i.val).find? (fun x => decide (x > c)) = some n →
        t.get (Reg.LN_TXSTAT_CSEL i.val) = n % 8 ∧ (t.tx i.val).sel = some (n, t.time.tick)) ∧
      ((s.txCands i.val).find? (fun x => decide (x > c)) = none →
        t.get (Reg.LN_TXSTAT_CSEL i.val) = bestKey (s.txDefault i.val) (s.tx i.val).best % 8 ∧ (t.tx i.val).sel = none)) ∧
  (∀ (i : Fin 4) (l old : Nat) (rest : List (Nat × Nat)) (s : State), s.subDue = (l, old) :: rest → s.sparesFree.head? = some (32 + i.val) →
    l < 32 → old < 36 → old ≠ 32 + i.val → s.time.run = true →
    s.unwritten (Reg.LMAP_SLOT l) →
    Completes (.spareSubstitution i) s fun t =>
      t.time.tick = alignUp 1280 s.time.tick ∧ t.logl (32 + i.val) = l ∧ t.get (Reg.LN_TXSTAT_SUB (32 + i.val)) = 1 ∧ t.get (Reg.LMAP_SLOT l) = 32 + i.val ∧
      t.logl old = 63 ∧ t.get (Reg.LN_TXSTAT_SUB old) = 0 ∧ t.subDue = rest ∧ t.sameMemory s) ∧
  (∀ (l : Fin 32) (slot : BitVec 6) (s : State), s.reachable (0x303100 + 4 * l.val) = true →
    (s.lmapOk l.val slot.toNat = true →
      Completes (.lmapWrite l slot) s fun t =>
        t.lastStatus = .ok ∧ t.get (Reg.LMAP_SLOT l.val) = slot.toNat ∧ SMap.find? t.lmapDue l.val = some slot.toNat ∧
        t.sameRegsBut s [Reg.LMAP_SLOT l.val] ∧ t.sameMemory s) ∧
    (s.lmapOk l.val slot.toNat = false → Completes (.lmapWrite l slot) s fun t => t = { s with lastStatus := .prot })) ∧
  (∀ (l : Fin 32) (slot : Nat) (s : State), SMap.find? s.lmapDue l.val = some slot → slot < 36 → s.time.run = true →
    Completes (.lmapApply l) s fun t =>
      t.time.tick = alignUp 1280 s.time.tick ∧ t.logl slot = l.val ∧ t.get (Reg.LMAP_SLOT l.val) = slot ∧ SMap.find? t.lmapDue l.val = none ∧ t.sameMemory s) ∧
  (∀ (g : Fin 16) (v : BitVec 32) (s : State), s.reachable (0x303000 + 4 * g.val) = true →
    Completes (.laneGroupWrite g v) s fun t =>
      if s.laneGroupOk g.val (v.toNat / 2 ^ 8 % 8) (v.toNat % 32) then
        t.lastStatus = .ok ∧ t.get (Reg.LG_CFG_EN g.val) = v.toNat / 2 ^ 31 ∧ t.get (Reg.LG_CFG_WCODE g.val) = v.toNat / 2 ^ 8 % 8 ∧
        t.get (Reg.LG_CFG_FIRST g.val) = v.toNat % 32 ∧
        t.sameRegsBut s [Reg.LG_CFG_EN g.val, Reg.LG_CFG_WCODE g.val, Reg.LG_CFG_FIRST g.val] ∧ t.sameMemory s
      else t = { s with lastStatus := .prot }) ∧
  (∀ (i : Fin 36) (s : State), s.reachable (0x301000 + 0x20 * i.val) = true →
    (∀ slip : BitVec 10, Completes (.slipWrite i slip) s fun t =>
      t.lastStatus = .ok ∧ t.get (Reg.LN_TXCTRL_SLIP i.val) = slip.toNat ∧
      t.sameRegsBut s [Reg.LN_TXCTRL_SLIP i.val, Reg.LN_TXSTAT_CSEL i.val] ∧ t.sameMemory s) ∧
    ∀ v : BitVec 32, Completes (.txCtrlWrite i v) s fun t =>
      t.lastStatus = .ok ∧ t.get (Reg.LN_TXCTRL_EN i.val) = v.toNat / 2 ^ 31 ∧ t.get (Reg.LN_TXCTRL_AUTO i.val) = v.toNat / 2 ^ 30 % 2 ∧
      t.get (Reg.LN_TXCTRL_CAND i.val) = v.toNat / 2 ^ 27 % 8 ∧ t.get (Reg.LN_TXCTRL_SLIP i.val) = v.toNat % 2 ^ 10 ∧ t.sameMemory s)

/-- R323, R335, R336: the states of an RX lane: OFF to HUNT on EN; MEASURE, UP and RELOCK on lock, that is when the blocks met have given
block lock and frame lock; the next candidate, the best or DOWN on a measurement or the 10 ms timer; RELOCK on loss of lock; training
again; a frame's reports wait in the deskew for the frames of the bonded lanes.
The model's choices it rests on: notes/assumptions/9.md, notes/assumptions/79.md, notes/assumptions/91.md. -/
def Obligations.RxLanesComplete : Prop :=
  ∀ (j : Fin 4) (s : State),
    let first := (s.rxTrain j.val).headD 0
    let next := (s.rxTrain j.val).find? (fun c => decide (c > (s.rx j.val).cand))
    let starts := fun (t : State) => t.rxState j.val = 2 ∧ t.get (Reg.LN_RXSTAT_CSEL j.val) = first % 8 ∧
      t.rx j.val = { s.rx j.val with cand := first, foms := [], at0 := t.time.tick, eq := s.rxWord j.val first } ∧
      t.sameRegsBut s [Reg.LN_RXSTAT_STATE j.val, Reg.LN_RXSTAT_CSEL j.val] ∧ t.sameMemory s
    let goes := fun (t : State) (st : Nat) => t.rxState j.val = st ∧ t.sameRegsBut s [Reg.LN_RXSTAT_STATE j.val] ∧ t.sameMemory s
    (s.get (Reg.LN_RXCTRL_EN j.val) = 1 → s.dom 30 = true → s.rxState j.val = 0 → Completes (.rxLaneEnable j) s starts) ∧
    (s.rxState j.val = 7 → Completes (.rxDownRetry j) s fun t => starts t ∧ (s.time.run = true →
      t.time.tick = max s.time.tick ((s.rx j.val).at0 + max 1 (s.get Reg.LN_GCTRL_RETRY) * 12500000))) ∧
    (s.reachable (0x302000 + 0x20 * j.val) = true → s.rxState j.val ≠ 0 → s.get (Reg.LN_RXCTRL_EN j.val) = 1 →
      Completes (.rxRetrain j) s fun t => t.rxState j.val = 2 ∧ t.get (Reg.LN_RXSTAT_CSEL j.val) = first % 8 ∧ t.sameRegsBut s
        [Reg.LN_RXSTAT_STATE j.val, Reg.LN_RXSTAT_CSEL j.val, Reg.TU_STAT_PRESENT, Reg.RM_DF_DF 2] ∧ t.sameMemory s) ∧
    (∀ bs : List RxBlk, s.rxState j.val ≠ 0 → (s.met j.val bs).locked = false → Completes (.rxLock ⟨j, bs⟩) s fun t =>
      goes t (s.rxState j.val) ∧ (t.rx j.val).lk = s.met j.val bs) ∧
    (∀ bs : List RxBlk, s.rxState j.val = 2 → (s.met j.val bs).locked = true → Completes (.rxLock ⟨j, bs⟩) s fun t =>
      goes t 3 ∧ (t.rx j.val).lk = s.met j.val bs) ∧
    (∀ bs : List RxBlk, s.rxState j.val = 6 → (s.met j.val bs).locked = true → Completes (.rxLock ⟨j, bs⟩) s fun t =>
      goes t 5 ∧ (t.rx j.val).lk = s.met j.val bs) ∧
    (∀ bs : List RxBlk, s.rxState j.val = 4 → (s.met j.val bs).locked = true → Completes (.rxLock ⟨j, bs⟩) s fun t =>
      t.rxState j.val = 5 ∧ t.get (Reg.LN_RXSTAT_CSEL j.val) = (s.rx j.val).cand % 8 ∧
      t.get (Reg.LN_RXSTAT_FOM j.val) = SMap.get (s.rx j.val).foms (s.rx j.val).cand 0 % 2 ^ 16 ∧ t.sameMemory s) ∧
    (s.rxState j.val = 6 → Completes (.rxLockTimeout j) s starts) ∧
    (s.rxState j.val = 4 → s.time.run = true → Completes (.rxLockTimeout j) s fun t =>
      goes t 7 ∧ t.time.tick = max s.time.tick ((s.rx j.val).at0 + 12500000)) ∧
    (s.rxState j.val = 2 → Completes (.rxLockTimeout j) s fun t =>
      t.rxState j.val = (if next.isSome then 2 else if (s.rx j.val).foms.isEmpty then 7 else 4) ∧
      (∀ c, next = some c → (t.rx j.val).cand = c ∧ t.get (Reg.LN_RXSTAT_CSEL j.val) = c % 8) ∧ t.sameMemory s) ∧
    (∀ h w : Fin 64, s.rxState j.val = 3 → Completes (.rxMeasureDone j h w) s fun t =>
      SMap.find? (t.rx j.val).foms (s.rx j.val).cand = some (s.get Reg.LN_GCTRL_WH * h.val + s.get Reg.LN_GCTRL_WW * w.val) ∧
      t.rxState j.val = (if next.isSome then 2 else 4) ∧ t.sameMemory s) ∧
    (∀ bs : List RxBlk, s.rxState j.val = 5 → (s.met j.val bs).locked = true → Completes (.rxLockLost ⟨j, bs⟩) s fun t => goes t 5) ∧
    (∀ bs : List RxBlk, s.rxState j.val = 5 → (s.met j.val bs).locked = false → Completes (.rxLockLost ⟨j, bs⟩) s fun t =>
      t.rxState j.val = 6 ∧ t.get (Reg.LN_RXLL_COUNT j.val) = satAdd 32 (s.get (Reg.LN_RXLL_COUNT j.val)) 1 ∧
      (j = 0 → (t.get Reg.TU_STAT_PRESENT).testBit 2 = false) ∧
      t.sameRegsBut s [Reg.LN_RXSTAT_STATE j.val, Reg.LN_RXLL_COUNT j.val, Reg.TU_STAT_PRESENT, Reg.RM_DF_DF 2] ∧ t.sameMemory s) ∧
    (∀ (time : Nat) (fcnt : BitVec 32) (tf : Bool) (w2 w3 w4 w5 w6 w7 : Word64), s.rxState j.val = 5 → s.time.run = true →
      Completes (.rxFrame j time fcnt tf w2 w3 w4 w5 w6 w7) s fun t =>
        let ws := [w2, w3, w4, w5, w6, w7]
        let reports := ws.filter (fun w => bits w.toNat 0 8 == 0x66)
        t.time.tick = max s.time.tick (time / tickU) ∧ (t.rx j.val).frame = some (fcnt.toNat, ws) ∧
        (t.rx j.val).ferr = (s.rx j.val).ferr + (ws.filter (fun w => !knownType w)).length ∧ t.sameMemory s ∧
        (s.get Reg.RX_CFG_RXW = 0 → (s.rx j.val).held = none → reports = [] → tf = false →
          (t.rx j.val).held = none ∧ t.sameRegsBut s []) ∧
        ((∃ x ∈ s.bonded j.val, x ≠ j.val ∧ s.rxState x = 5 ∧ s.rxHolds x fcnt.toNat = false) →
          (∀ x ∈ s.bonded j.val, s.rxStale x time = false) → tf = false →
          (t.rx j.val).held = some (fcnt.toNat, time, reports) ∧ t.sameRegsBut s []))

/-! ### Shared time -/

/-- R349, R350, R355 to R362, R367: SET sets the local clock 4 ticks on and SNAP captures it; a time frame yields an offset and a delay or
is missed; COARSE steps the clock; the servo coasts without measurements; the reference monitor's readings, holdover, the write of
REFSEL (a write that names an absent source is rejected), and the marks of the time-base PLL; transfer and monitor rest in STANDBY (R367).
The model's choices it rests on: notes/assumptions/8.md, notes/assumptions/33.md, notes/assumptions/39.md, notes/assumptions/93.md. -/
def Obligations.SharedTimeCompletes : Prop :=
  (∀ s : State, s.reachable 0x30000 = true → s.refselOk (s.get Reg.TU_CTRL_REFSEL) = true → s.servo.setAt = none →
    (s.get Reg.TU_SETV_NS_NS < 1000000000 →
      Completes .clockSet s fun t =>
        t.lastStatus = .ok ∧ t.get Reg.TU_CTRL_SET = 1 ∧ t.servo.setAt = some (s.time.tick + 4) ∧ t.time = s.time ∧ t.sameMemory s) ∧
    (1000000000 ≤ s.get Reg.TU_SETV_NS_NS → Completes .clockSet s fun t => t = { s with lastStatus := .prot })) ∧
  (∀ (s : State) (x : Nat), s.servo.setAt = some x → s.time.run = true → s.unwritten Reg.TU_CTRL_SET →
    Completes .setTick s fun t =>
      t.time.tick = max s.time.tick x ∧
      t.time.acc = (s.get Reg.TU_SETV_SEC_SEC * 1000000000 + s.get Reg.TU_SETV_NS_NS) * 2 ^ 32 ∧ t.get Reg.TU_CTRL_SET = 0 ∧
      t.servo.setAt = none ∧ (s.servoOn = true → t.servoState = 1) ∧ t.sameMemory s) ∧
  (∀ s : State, s.reachable 0x30000 = true → s.refselOk (s.get Reg.TU_CTRL_REFSEL) = true → s.servo.snapAt = none →
    Completes .clockSnap s fun t =>
      t.lastStatus = .ok ∧ t.get Reg.TU_CTRL_SNAP = 1 ∧ t.servo.snapAt = some (s.time.tick + 4) ∧ t.time = s.time ∧ t.sameMemory s) ∧
  (∀ (s : State) (x : Nat), s.servo.snapAt = some x → s.time.run = true → s.unwritten Reg.TU_CTRL_SNAP →
    Completes .snapTick s fun t =>
      t.time.tick = max s.time.tick x ∧ t.get Reg.TU_SNAP_TICK_TICK = t.time.tick % 2 ^ 56 ∧
      t.get Reg.TU_SNAP_SEC_SEC = t.time.acc / (1000000000 * 2 ^ 32) % 2 ^ 48 ∧
      t.get Reg.TU_SNAP_NS_NS = t.time.acc / 2 ^ 32 % 1000000000 ∧ t.get Reg.TU_SNAP_FRAC_FRAC = t.time.acc % 2 ^ 32 ∧
      t.get Reg.TU_CTRL_SNAP = 0 ∧ t.servo.snapAt = none ∧
      t.sameRegsBut s [Reg.TU_SNAP_TICK_TICK, Reg.TU_SNAP_SEC_SEC, Reg.TU_SNAP_NS_NS, Reg.TU_SNAP_FRAC_FRAC, Reg.TU_CTRL_SNAP] ∧
      t.sameMemory s) ∧
  (∀ (time : Nat) (fcnt : BitVec 32) (w2 w3 w4 w5 w6 w7 : Word64) (s : State), s.timeLaneUp = true → s.get Reg.TT_CFG_EN = 1 →
    Completes (.timeFrameRx time fcnt w2 w3 w4 w5 w6 w7) s fun t =>
      let ok := timeWordIs 1 w2 && timeWordIs 2 w3 && timeWordIs 3 w4 && timeWordIs 4 w5 && timeWordIs 5 w6 && timeWordIs 6 w7
        && (wordPay w7).testBit 0 && (wordPay w7).testBit 1
      t.time.tick = max s.time.tick (time / tickU) ∧ t.sameMemory s ∧
      (ok = false → t.get Reg.TT_CNT_MISS = satAdd 16 (s.get Reg.TT_CNT_MISS) 1 ∧ t.sameRegsBut s [Reg.TT_CNT_MISS]) ∧
      (∀ t2 t3 : Rat, ok = true → keptAt t.servo.t2s (bits (wordPay w6) 16 32) = some t2 →
        keptAt t.servo.t3s (bits (wordPay w7) 16 32) = some t3 →
        let ms := t2 - stampOf (wordPay w2) (wordPay w3)
        let sm := stampOf (wordPay w4) (wordPay w5) - t3
        0 ≤ ((ms + sm) / 2).floor →
        t.get Reg.TT_CNT_GOOD = satAdd 16 (s.get Reg.TT_CNT_GOOD) 1 ∧ t.get Reg.TT_DELAY_V = unsigned 64 ((ms + sm) / 2).floor ∧
        t.get Reg.TT_OFFSET_V = unsigned 64 ((ms - sm - (signed 32 (s.get Reg.TT_ASYM_ASYM) : Rat)) / 2).floor)) ∧
  (∀ (s : State) (x : Nat) (d : Int), s.servo.step = some (x, d) → s.time.run = true →
    Completes .servoStep s fun t =>
      t.time.tick = max s.time.tick x ∧ t.servo.step = none ∧ t.sameMemory s ∧
      t.time.acc = (if s.servo.setAt = some t.time.tick then (s.adv x).time.acc
        else (((s.adv x).time.acc : Int) + d * 65536).toNat)) ∧
  (∀ s : State, s.servoState = 2 ∨ s.servoState = 3 → s.time.run = true → s.armed = true →
    Completes .servoTimeout s fun t =>
      t.time.tick = max s.time.tick (s.servo.lastAt.getD s.time.tick + max 1 (s.get Reg.TT_CFG_MTO) * 1250000) ∧
      t.servoState = 4 ∧ t.sameMemory s) ∧
  (∀ (p : BitVec 3) (a b r : BitVec 16) (s : State), s.time.run = true → s.armed = true →
    Completes (.referenceCheck p a b r) s fun t =>
      let here := fun (x : Nat) => p.getLsbD x && (x != 2 || s.get (Reg.LN_RXSTAT_STATE 0) == 5)
      t.get (Reg.RM_DF_DF 0) = (if here 0 then a.toNat else 0x8000) ∧ t.get (Reg.RM_DF_DF 1) = (if here 1 then b.toNat else 0x8000) ∧
      t.get (Reg.RM_DF_DF 2) = (if here 2 then r.toNat else 0x8000) ∧
      (∀ x : Fin 3, (t.get Reg.TU_STAT_PRESENT).testBit x.val = here x.val) ∧ t.sameMemory s) ∧
  (∀ (p : BitVec 3) (a b r : BitVec 16) (s : State), (s.time.run && s.armed) = false → s.dom 2 = true →
    Completes (.referenceCheck p a b r) s fun t =>
      (∀ x : Fin 3, (t.get Reg.TU_STAT_PRESENT).testBit x.val =
        (p.getLsbD x.val && (x != 2 || s.get (Reg.LN_RXSTAT_STATE 0) == 5))) ∧
      t.sameRegsBut s [Reg.TU_STAT_PRESENT, Reg.RM_DF_DF 0, Reg.RM_DF_DF 1, Reg.RM_DF_DF 2] ∧ t.time = s.time ∧ t.sameMemory s) ∧
  (∀ s : State, s.time.run = false → s.dom 2 = true →
    Completes .referenceLoss s fun t =>
      (t.get Reg.TU_STAT_PRESENT).testBit s.srcActive = false ∧ t.sameRegsBut s [Reg.TU_STAT_PRESENT, Reg.RM_DF_DF s.srcActive] ∧
      t.sameMemory s) ∧
  (∀ s : State, s.time.run = true → s.get Reg.TU_STAT_HOLD = 0 →
    Completes .referenceLoss s fun t =>
      t.get Reg.TU_STAT_HOLD = 1 ∧ t.get Reg.RM_CNT_HOLDS = satAdd 8 (s.get Reg.RM_CNT_HOLDS) 1 ∧
      (t.get Reg.TU_STAT_PRESENT).testBit s.srcActive = false ∧ t.sameMemory s) ∧
  (∀ (x : BitVec 2) (s : State), s.reachable 0x30000 = true → s.refselOk x.toNat = true →
    Completes (.refselWrite x) s fun t =>
      t.lastStatus = .ok ∧ t.get Reg.TU_CTRL_REFSEL = x.toNat ∧ t.srcActive = (if x.toNat = 3 then 0 else x.toNat) ∧
      (s.get Reg.TU_STAT_HOLD = 1 → t.get Reg.TU_STAT_HOLD = 0) ∧ t.sameMemory s) ∧
  (∀ (x : BitVec 2) (s : State), s.reachable 0x30000 = true → s.refselOk x.toNat = false →
    Completes (.refselWrite x) s fun t => t = { s with lastStatus := .prot }) ∧
  (∀ s : State, s.get Reg.TU_STAT_PLLLOCK = 1 →
    Completes .pllUnlock s fun t =>
      t.get Reg.TU_STAT_PLLLOCK = 0 ∧ t.get Reg.RM_CNT_UNLOCKS = satAdd 8 (s.get Reg.RM_CNT_UNLOCKS) 1 ∧ t.pw.unlocked = true ∧
      t.sameMemory s) ∧
  (∀ s : State, s.get Reg.TU_STAT_PLLLOCK = 0 → s.dom 2 = true → s.time.run = true →
    Completes .pllRelock s fun t => t.get Reg.TU_STAT_PLLLOCK = 1 ∧ t.pw.unlocked = false ∧ t.sameMemory s)

/-! ### The tether and the control ports -/

/-- R368, R371 to R378, R384, R386, R387, R390: a command addressed to an inserted port joins its input queue with ACKB = 0xA5, one that fails its check
leaves with 0x3C and is counted, one for another port goes on, one that has passed 127 ports is removed; JOIN, LEAVE, NUMBER, PING,
insertion, removal and retries. The line may upset bits of the 8b/10b code groups of a message (R368).
The model's choices it rests on: notes/assumptions/66.md, notes/assumptions/80.md, notes/assumptions/82.md, notes/assumptions/92.md. -/
def Obligations.RingCompletes : Prop :=
  (∀ (p : Fin 2) (m0 m : Msg) (ackb hop : BitVec 8) (upsets : List Nat) (good : Bool) (s : State), received m0 upsets = (m, good) →
    s.dom 1 = true → (s.port p.val).inserted = true →
    Completes (.tetherMessage p m0 ackb hop upsets) s fun t =>
      t.get (Reg.TH_STAT_SYNC p.val) = 1 ∧ t.sameMemory s ∧
      (∀ e, s.pos p.val ≠ 0 → m.src.toNat = s.pos p.val → (s.port p.val).flight.find? (fun e => e.1 == m) = some e →
        (ackb = 0xA5 → (s.port p.val).notices = [] → (t.port p.val).flight = (s.port p.val).flight.erase e) ∧
        (ackb = 0xA5 → isNotice m = true → (t.port p.val).notices = (s.port p.val).notices.erase (keptNotice m)) ∧
        (ackb ≠ 0xA5 → (t.port p.val).flight = e :: (s.port p.val).flight.erase e)) ∧
      (m.src ≠ 0 → m.src.toNat ≠ s.pos p.val → hop.toNat < 127 → t.sent = s.sent ++ [⟨p.val, m, ackb.toNat, hop.toNat + 1⟩]) ∧
      (m.src.toNat ≠ s.pos p.val → 127 ≤ hop.toNat → t.sent = s.sent ∧
        t.get (Reg.TH_CNT_ORPH p.val) = satAdd 16 (s.get (Reg.TH_CNT_ORPH p.val)) 1) ∧
      (s.pos p.val ≠ 0 → m.src = 0 → m.dest.toNat = s.pos p.val → m.dest ≠ 0xFF → ackb = 0 → hop.toNat < 127 →
        (good = false → t.sent = s.sent ++ [⟨p.val, m, 0x3C, hop.toNat + 1⟩] ∧
          t.get (Reg.TH_CNT_BAD p.val) = satAdd 16 (s.get (Reg.TH_CNT_BAD p.val)) 1) ∧
        (good = true → (s.port p.val).inq.length < 4 → s.postedFull p.val m = false → knownOp m.opcode.toNat = true → m.opcode ≠ 9 →
          m.opcode ≠ 11 → t.sent.getLast? = some ⟨p.val, m, 0xA5, hop.toNat + 1⟩ ∧ (t.port p.val).inq = (s.port p.val).inq ++ [m] ∧
            t.get (Reg.TH_STAT_INQ p.val) = (s.port p.val).inq.length + 1))) ∧
  (∀ (m : Msg) (good : Bool) (s : State), s.get Reg.CC_CFG_EN = 1 → s.armed = true →
    (∃ j : Fin 4, s.get (Reg.LN_RXSTAT_STATE j.val) = 5) →
    Completes (.hostControlMessage m good) s fun t =>
      t.sameMemory s ∧
      (good = false → t.get Reg.CC_STAT_BAD = satAdd 16 (s.get Reg.CC_STAT_BAD) 1 ∧ t.sameRegsBut s [Reg.CC_STAT_BAD]) ∧
      (good = true → m.src ≠ 0 ∨ 64 ≤ m.dest.toNat ∧ m.dest ≠ 0xFF → t = s) ∧
      (good = true → m.src = 0 → m.dest.toNat < 64 → knownOp m.opcode.toNat = true → m.opcode ≠ 9 → m.opcode ≠ 11 → s.postedFull 2 m = false →
        (t.port 2).inq = (s.port 2).inq ++ [m] ∧ (s.isOwner 2 = true → t.leaseAt = s.time.tick ∧ t.leaseLoose = false) ∧
          t.sameRegsBut s [Reg.OWN_STAT_LEFT])) ∧
  (∀ (p : Fin 2) (s : State), s.dom 1 = true →
    Completes (.join p) s fun t =>
      t.get (Reg.TH_CTRL_EN p.val) = 1 ∧ t.get (Reg.TH_STAT_LONE p.val) = 0 ∧
      (t.port p.val).insertDue = (!(s.port p.val).inserted) ∧ (t.port p.val).removeDue = false ∧
      (s.isOwner p.val = true → t.leaseAt = s.time.tick ∧ t.leaseLoose = false) ∧
      t.sameRegsBut s [Reg.TH_CTRL_EN p.val, Reg.TH_STAT_LONE p.val, Reg.OWN_STAT_LEFT] ∧ t.sameMemory s) ∧
  (∀ (p : Fin 4) (m : Msg) (s : State), s.portUp p.val = true → m.payload = [] →
    Completes (.leave p m) s fun t =>
      t.lastStatus = (if s.isOwner p.val then .ok else .notOwner) ∧ t.sameMemory s ∧
      (p.val < 2 → if s.isOwner p.val then
          t.get (Reg.TH_CTRL_EN p.val) = 0 ∧ (t.port p.val).removeDue = (s.port p.val).inserted
        else t.get (Reg.TH_CTRL_EN p.val) = s.get (Reg.TH_CTRL_EN p.val) ∧ (t.port p.val).removeDue = (s.port p.val).removeDue)) ∧
  (∀ (p : Fin 2) (hop : BitVec 8) (s : State), s.dom 1 = true → (s.port p.val).inserted = true → s.ringPos = 0 →
    Completes (.number p hop) s fun t =>
      t.get (Reg.TH_CTRL_POS p.val) = (hop.toNat + 1) % 64 ∧ t.get (Reg.TH_STAT_LONE p.val) = 0 ∧
      (s.isOwner p.val = true → t.leaseAt = s.time.tick ∧ t.leaseLoose = false) ∧
      t.sameRegsBut s [Reg.TH_CTRL_POS p.val, Reg.TH_STAT_LONE p.val, Reg.OWN_STAT_LEFT] ∧ t.sameMemory s) ∧
  (∀ (p : Fin 4) (m : Msg) (s : State), s.portUp p.val = true →
    Completes (.ping p m) s fun t =>
      t.lastStatus = .ok ∧ t.sameMemory s ∧
      (p.val < 2 → (s.port p.val).inserted = true → m.dest ≠ 0xFF →
        ∃ r, t.sent = s.sent ++ [⟨p.val, r, 0, 0⟩] ∧ r.payload = m.payload ∧ r.opcode = 12 ∧ r.dest = m.src ∧ r.status = 0 ∧
          r.seq = m.seq)) ∧
  (∀ (p : Fin 2) (s : State), (s.port p.val).insertDue = true → s.dom 1 = true →
    Completes (.portInsert p) s fun t =>
      (t.port p.val).inserted = true ∧ (t.port p.val).insertDue = false ∧ t.sameRegsBut s [] ∧ t.sameMemory s) ∧
  (∀ (p : Fin 2) (s : State), (s.port p.val).removeDue = true →
    Completes (.portRemove p) s fun t =>
      t.port p.val = { s.port p.val with inserted := false, removeDue := false, flight := [] } ∧
      t.sameRegsBut s [Reg.TH_STAT_SYNC p.val] ∧ t.sameMemory s) ∧
  (∀ (p : Fin 2) (m : Msg) (n : Nat) (rest : List (Msg × Nat)) (s : State), (s.port p.val).flight = (m, n) :: rest →
    Completes (.noticeRetry p) s fun t =>
      t.sameMemory s ∧
      (n < 3 → let m1 := { m with src := BitVec.ofNat 8 (s.pos p.val) }
        t.sent = s.sent ++ [⟨p.val, m1, 0, 0⟩] ∧ (t.port p.val).flight = rest ++ [(m1, n + 1)] ∧ t.sameRegsBut s []) ∧
      (3 ≤ n → (t.port p.val).flight = rest ∧ t.sent = s.sent ∧
        (isNotice m = true → t.get (Reg.TH_STAT_LONE p.val) = 1) ∧
        (isNotice m = false → t.get (Reg.TH_CNT_RLOST p.val) = satAdd 16 (s.get (Reg.TH_CNT_RLOST p.val)) 1)))

/-- R10, R379, R382, R383, R390, R461: READ and WRITE of words by message end with the status and the data of their words, or wait at one;
a WRITE to registers without a rule of their own, at once or posted, leaves in each field what its access code says; a posted WRITE
enters the port's queue and, executed, ends or fails with its log entry; a fence answers once the writes ahead of it
are done; an access held too long ends with TIMEOUT.
The model's choices it rests on: notes/assumptions/35.md, notes/assumptions/36.md, notes/assumptions/46.md, notes/assumptions/48.md. -/
def Obligations.PortAccessesComplete : Prop :=
  (∀ (p : Fin 4) (m0 : Msg) (s : State), s.portUp p.val = true → let m := { m0 with opcode := 1 }
    let r := (s.renewNew p.val m).runRead p.val m
    (readShape m = false → Completes (.read p m0) s fun t => t.lastStatus = .badMsg ∧ t.sameMemory s) ∧
    (readShape m = true → ∀ st, r.ended = some st →
      Completes (.read p m0) s fun t =>
        t.lastStatus = st ∧ t.lastData = r.data ∧ (st = .ok → t.lastData.length = msgCount m) ∧ t.sameMemory r.after) ∧
    (readShape m = true → r.ended = none → Completes (.read p m0) s fun t => (t.port p.val).inq.head? = some m ∧ t.sameMemory s)) ∧
  (∀ (p : Fin 4) (m0 : Msg) (s : State), s.portUp p.val = true → let m := { m0 with opcode := 2 }
    let r := (s.renewNew p.val m).runWrite p.val m
    writeShape m = true →
    (msgNp m = true → s.isOwner p.val = true → (s.port p.val).posted = [] → ∀ st, r.ended = some st →
      Completes (.write p m0) s fun t => t.lastStatus = st ∧ t.sameMemory r.after) ∧
    (∀ fss, msgNp m = true → s.isOwner p.val = true → (s.port p.val).posted = [] →
      (s.renewNew p.val m).plainWords p.val (msgAddr m) (msgWords m) fss →
      Completes (.write p m0) s fun t =>
        t.lastStatus = .ok ∧ t.sameMemory s ∧
        (s.renewNew p.val m).plainWritten t (msgAddr m) (msgWords m) fss [Reg.TH_STAT_INQ p.val, Reg.CC_STAT_DROP]) ∧
    (msgNp m = true → s.isOwner p.val = true → (s.port p.val).posted = [] → r.ended = none →
      Completes (.write p m0) s fun t => (t.port p.val).inq.head? = some m ∧ t.sameMemory s) ∧
    (msgNp m = true → s.mayWrite p.val m = false →
      Completes (.write p m0) s fun t => t.lastStatus = .notOwner ∧ t.sameMemory s) ∧
    (msgNp m = false → s.isOwner p.val = true → (s.port p.val).posted.length < 16 →
      Completes (.write p m0) s fun t =>
        (t.port p.val).posted = (s.port p.val).posted ++ [⟨m.tagw.toNat % 4096, m.src.toNat, m.seq.toNat, m.epoch.toNat, msgAddr m,
          msgWords m⟩] ∧ t.sameMemory s)) ∧
  (∀ (p : Fin 4) (w : Posted) (rest : List Posted) (s : State), s.dom 1 = true → (s.port p.val).posted = w :: rest →
    let r := s.runPosted p.val w
    (r.ended = some .ok → Completes (.postedWriteExecute p) s fun t =>
      t.lastStatus = .ok ∧ (t.port p.val).posted = (r.after.port p.val).posted.tail ∧ t.sameMemory r.after) ∧
    (∀ st, r.ended = some st → st ≠ .ok → Completes (.postedWriteExecute p) s fun t =>
      let i := r.after.get Reg.PW_STAT_NEXT % 16
      t.lastStatus = st ∧ t.get (Reg.PW_LOG1_ADDR i) = (w.addr + 4 * r.done) % 2 ^ 32 ∧
      t.get (Reg.PW_LOG2_STATUS i) = st.code % 256 ∧ t.get (Reg.PW_LOG0_SEQ i) = w.seq % 2 ^ 16 ∧
      t.get Reg.PW_STAT_NEXT = (i + 1) % 16 ∧ t.sameMemory r.after) ∧
    (∀ fss, s.plainWords p.val w.addr w.words fss → (∀ v ∈ w.words, v < 2 ^ 32) → Completes (.postedWriteExecute p) s fun t =>
      t.lastStatus = .ok ∧ t.sameMemory s ∧ s.plainWritten t w.addr w.words fss []) ∧
    (r.ended = none → Completes (.postedWriteExecute p) s fun t => t = s)) ∧
  (∀ (p : Fin 4) (m0 : Msg) (s : State), s.portUp p.val = true → m0.payload = [] →
    Completes (.fence p m0) s fun t =>
      (t.port p.val).fence = (s.port p.val).fence ++ [({ m0 with opcode := 3 }, (s.port p.val).posted.length)] ∧ t.sameMemory s) ∧
  (∀ (p : Fin 4) (m : Msg) (rest : List (Msg × Nat)) (s : State), (s.port p.val).fence = (m, 0) :: rest →
    Completes (.fenceComplete p) s fun t =>
      t.lastStatus = .ok ∧ (t.port p.val).fence = rest ∧ (t.port p.val).fails = 0 ∧ t.sameMemory s ∧
      (p.val < 2 → (s.port p.val).inserted = true → m.dest ≠ 0xFF →
        ∃ r, t.sent = s.sent ++ [⟨p.val, r, 0, 0⟩] ∧ r.payload = leBytes 2 (s.port p.val).fails ++ leBytes 2 (s.port p.val).failSeq ++
          leBytes 1 (s.port p.val).failSts ++ [0, 0, 0])) ∧
  (∀ (p : Fin 4) (m : Msg) (rest : List Msg) (s : State), (s.port p.val).inq = m :: rest → m.opcode = 1 → readShape m = true →
    (s.runRead p.val m).ended = none →
    Completes (.accessTimeout ⟨p.val, by omega⟩ false) s fun t => t.lastStatus = .timeout ∧ t.lastData = (s.runRead p.val m).data) ∧
  (∀ (p : Fin 4) (w : Posted) (rest : List Posted) (s : State), (s.port p.val).posted = w :: rest →
    (s.runPosted p.val w).ended = none →
    Completes (.accessTimeout ⟨p.val, by omega⟩ true) s fun t => t.lastStatus = .timeout)

/-- R387 to R390, R477: CLAIM, HANDOVER, RELEASE and RESET under the ownership rules, the end of the lease and of the handover.
The model's choices it rests on: notes/assumptions/9.md, notes/assumptions/30.md, notes/assumptions/92.md. -/
def Obligations.OwnershipCompletes : Prop :=
  (∀ (p : Fin 4) (m : Msg) (late : Bool) (s : State), s.portUp p.val = true → s.eligible p.val = true → s.lc ≠ 4 →
    let owned := fun (t : State) => t.lastStatus = .ok ∧ t.ownState = 1 ∧ t.get Reg.OWN_STAT_OWNER = p.val ∧
      t.get Reg.OWN_STAT_LEFT = s.get Reg.OWN_CFG_LEASE % 2 ^ 16 ∧ t.leaseAt = s.time.tick ∧ t.leaseLoose = false ∧ t.sameMemory s
    let intime := fun (late : Bool) => !late && (s.port p.val).nonceAt.all (fun t0 => decide (s.time.tick ≤ t0 + 125000000))
    (s.ownState = 0 → s.lc ≠ 2 → m.payload = [] → Completes (.claim p m late) s owned) ∧
    (s.ownState = 0 → s.lc = 2 → m.payload = [] → s.get Reg.SEC_STAT_RNGFAIL = 0 →
      Completes (.claim p m late) s fun t =>
        t.lastStatus = .challenge ∧ (t.port p.val).nonce.isSome = true ∧ (t.port p.val).nonceAt = (if s.time.run then some s.time.tick else none) ∧ t.ownState = 0 ∧ t.sameMemory s) ∧
    (∀ n, s.ownState = 0 → s.lc = 2 → m.payload.length = 32 → (s.port p.val).nonce = some n → intime late = true →
      s.macOk p.val n m.payload = true → Completes (.claim p m late) s owned) ∧
    (∀ n, s.ownState = 0 → s.lc = 2 → m.payload.length = 32 → (s.port p.val).nonce = some n →
      intime late = false ∨ s.macOk p.val n m.payload = false →
      Completes (.claim p m late) s fun t =>
        t.lastStatus = .authFail ∧ (t.port p.val).nonce = none ∧ t.ownState = 0 ∧ t.sameMemory s) ∧
    (s.ownState = 1 → s.get Reg.OWN_STAT_OWNER ≠ p.val → m.payload = [] →
      Completes (.claim p m late) s fun t =>
        t.lastStatus = .owned ∧ t.ownState = 1 ∧ t.get Reg.OWN_STAT_OWNER = s.get Reg.OWN_STAT_OWNER ∧ t.sameMemory s)) ∧
  (∀ (p : Fin 4) (m : Msg) (q : BitVec 8) (s : State), s.portUp p.val = true → m.payload = [q] →
    (s.isOwner p.val = true → s.ownState = 1 → q.toNat ≤ 3 → s.eligible q.toNat = true →
      Completes (.handover p m) s fun t =>
        t.lastStatus = .ok ∧ t.ownState = 2 ∧ t.get Reg.OWN_STAT_TARGET = q.toNat ∧
        t.get Reg.OWN_STAT_OWNER = s.get Reg.OWN_STAT_OWNER ∧ t.sameMemory s) ∧
    (s.isOwner p.val = true → s.ownState = 2 → Completes (.handover p m) s fun t =>
      t.lastStatus = .ok ∧ t.ownState = 2 ∧ t.get Reg.OWN_STAT_TARGET = s.get Reg.OWN_STAT_TARGET ∧
      t.get Reg.OWN_STAT_OWNER = s.get Reg.OWN_STAT_OWNER ∧ t.sameMemory s) ∧
    (s.isOwner p.val = false → Completes (.handover p m) s fun t =>
      t.lastStatus = .notOwner ∧ t.ownState = s.ownState ∧ t.sameMemory s)) ∧
  (∀ (p : Fin 4) (m : Msg) (s : State), s.portUp p.val = true → m.payload = [] →
    (s.isOwner p.val = true → s.ownState = 1 → Completes (.release p m) s fun t =>
      t.lastStatus = .ok ∧ t.ownState = 0 ∧ t.get Reg.OWN_STAT_LEFT = 0 ∧ t.sameMemory s) ∧
    (s.isOwner p.val = true → s.dom 0 = true → Completes (.tetherReset p m) s fun t =>
      t.lastStatus = .ok ∧ t.pwr = 5 ∧ t.get Reg.PR_STATE_BUSY = 1 ∧ t.get Reg.PR_DOM_PG_PG = 1 ∧
      t.get Reg.PR_RST_CAUSE_TETHER = 1 ∧ t.ownState = 0 ∧ t.time.run = false ∧ t.time.tick = s.time.tick) ∧
    (s.isOwner p.val = false → s.ownState ≠ 0 → Completes (.tetherReset p m) s fun t =>
      t.lastStatus = .notOwner ∧ t.pwr = s.pwr ∧ t.sameMemory s)) ∧
  (∀ (p : Nat) (s : State), s.owner? = some p → s.get Reg.OWN_CFG_LEASE ≠ 0 →
    Completes .leaseExpiry s fun t => t.ownState = 0 ∧ t.get Reg.OWN_STAT_LEFT = 0 ∧ t.sameMemory s) ∧
  (∀ s : State, s.ownState = 2 →
    Completes .handoverTimeout s fun t =>
      t.ownState = 1 ∧ t.get Reg.OWN_STAT_TARGET = 0 ∧ t.sameRegsBut s [Reg.OWN_STAT_STATE, Reg.OWN_STAT_TARGET] ∧ t.sameMemory s)

/-! ### Keels and fail-over -/

/-- R400, R401, R406 to R410: a fault of the active keel: with a READY standby a fail-over begins (the grant falls, the epoch
advances, phase 1) and, 2,500 to 62,500 ticks later, the standby takes the grant; without one, a restart (phase 2), whose grant rises 62,500
ticks later; the commands of ARB_CTRL; faults of the standby.
The model's choices it rests on: notes/assumptions/8.md, notes/assumptions/32.md, notes/assumptions/55.md, notes/assumptions/59.md, notes/assumptions/81.md, notes/assumptions/100.md. -/
def Obligations.FailOverCompletes : Prop :=
  (∀ (k : Fin 2) (s : State), s.active? = some k.val → s.failover = none → s.dom (19 + k.val) = true →
    let went := fun (t : State) (cause d : Nat) =>
      t.get Reg.ARB_STAT_GRANT = 0 ∧ t.get Reg.ARB_STAT_EPOCH = (s.get Reg.ARB_STAT_EPOCH + 1) % 2 ^ 16 ∧
      t.get Reg.ARB_STAT_CAUSE = cause ∧ t.time.tick = d ∧
      (s.get (Reg.KL_STAT_READY (1 - k.val)) = 1 → t.get Reg.ARB_STAT_PHASE = 1 ∧ t.failover = some (d, 1 - k.val, false) ∧
        t.get Reg.ARB_LAST_D_T = d % 2 ^ 56 ∧ t.get Reg.ARB_CNT_FAILOVERS = satAdd 8 (s.get Reg.ARB_CNT_FAILOVERS) 1) ∧
      (s.get (Reg.KL_STAT_READY (1 - k.val)) ≠ 1 → t.get Reg.ARB_STAT_PHASE = 2 ∧ t.failover = some (d, k.val, false) ∧
        t.get Reg.ARB_CNT_RESTARTS = satAdd 8 (s.get Reg.ARB_CNT_RESTARTS) 1)
    (s.get (Reg.CD_CTRL_HBEN k.val) = 1 → s.condState k.val = 2 → s.time.run = true →
      Completes (.heartbeatTimeout k) s fun t => went t 1 (max s.time.tick ((s.core (1024 + k.val)).hbAt + 10000))) ∧
    (s.condState k.val = 2 → Completes (.lockstepMismatch k) s fun t =>
      went t 2 s.time.tick ∧ t.get Reg.ARB_CNT_LOCKSTEP = satAdd 8 (s.get Reg.ARB_CNT_LOCKSTEP) 1) ∧
    Completes (.selfcheck k) s (fun t => went t 3 s.time.tick)) ∧
  (∀ (k : Fin 2) (s : State), s.failover = none → s.active? ≠ some k.val → s.role k.val = 0 → s.dom (19 + k.val) = true →
    Completes (.selfcheck k) s fun t =>
      t.get Reg.ARB_STAT_CAUSE = 3 ∧ t.get Reg.ARB_CNT_STBYRST = satAdd 8 (s.get Reg.ARB_CNT_STBYRST) 1 ∧ (t.keel k.val).held = true ∧
      t.get Reg.ARB_STAT_GRANT = s.get Reg.ARB_STAT_GRANT) ∧
  (∀ (k n : Nat) (s : State), s.reachable 0x200 = true → s.active? = some k → s.standby? = some n → s.failover = none →
    (s.keelReady n = true → Completes .failoverCommand s fun t =>
      t.lastStatus = .ok ∧ t.get Reg.ARB_STAT_GRANT = 0 ∧ t.get Reg.ARB_STAT_PHASE = 1 ∧ t.get Reg.ARB_STAT_CAUSE = 5 ∧
      t.failover = some (s.time.tick, n, false)) ∧
    (s.keelReady n = false → Completes .failoverCommand s fun t => t = { s with lastStatus := .prot }) ∧
    s.otherKeel? = some n) ∧
  (∀ (n : Nat) (s : State), s.reachable 0x200 = true → s.otherKeel? = some n →
    Completes .standbyResetCommand s fun t =>
      t.lastStatus = .ok ∧ (t.keel n).held = true ∧ t.get Reg.ARB_CNT_STBYRST = satAdd 8 (s.get Reg.ARB_CNT_STBYRST) 1 ∧
      t.get Reg.ARB_STAT_GRANT = s.get Reg.ARB_STAT_GRANT) ∧
  (∀ (d k : Nat) (x : Bool) (s : State), s.failover = some (d, k, x) → k < 2 → s.get Reg.ARB_STAT_PHASE = 1 →
    (Completes .mirrorFrozen s fun t => t = { s with failover := some (d, k, true) }) ∧
    (x = false → Completes .grantRise s fun t => t = s) ∧
    (x = true → s.time.run = true → Completes .grantRise s fun t =>
      t.get Reg.ARB_STAT_GRANT = k + 1 ∧ t.get Reg.ARB_STAT_PHASE = 0 ∧ t.failover = none ∧ t.role k = 1 ∧
      (t.keel (1 - k)).testAt = t.time.tick + 1 ∧ max s.time.tick (d + 2500) ≤ t.time.tick ∧ t.time.tick ≤ max s.time.tick (d + 62500) ∧ t.get Reg.ARB_LAST_G_T = t.time.tick % 2 ^ 56 ∧ t.sameMemory s)) ∧
  (∀ (d k : Nat) (x : Bool) (s : State), s.failover = some (d, k, x) → k < 2 → s.get Reg.ARB_STAT_PHASE = 2 → s.time.run = true →
    s.dom (19 + k) = true →
    Completes .restartGrant s fun t =>
      t.get Reg.ARB_STAT_GRANT = k + 1 ∧ t.get Reg.ARB_STAT_PHASE = 0 ∧ t.failover = none ∧ t.role k = 1 ∧
      t.time.tick = max s.time.tick (d + 62500) ∧ t.sameMemory s)

/-- R396, R398, R399, R401 to R404, R415, R418: mirror frames and their age set and clear READY of the standby, a keel's self-test and its
loading; a conductor starts, halts, takes code words while HALTED (the active keel's reach the standby's conductor too), has its timer and its inbound queue of 256.
The model's choices it rests on: notes/assumptions/8.md, notes/assumptions/32.md, notes/assumptions/67.md, notes/assumptions/93.md, notes/assumptions/100.md. -/
def Obligations.StandbyAndConductorsComplete : Prop :=
  ((∀ (k o : Nat) (s : State), s.active? = some k → s.standby? = some o → s.time.run = true → (s.keel o).passed = true →
    (s.keel o).loaded = true →
    (Completes (.mirrorFrame true) s fun t =>
      t.time.tick = s.intervalEnd 1250 (s.keel o).frameAt ∧ (t.keel o).frameAt = t.time.tick ∧ (∃ m, (t.keel o).mirror = some m ∧ m.tick = t.time.tick) ∧
      t.get (Reg.KL_STAT_READY o) = 1 ∧ t.sameMemory s) ∧
    Completes (.mirrorFrame false) s fun t =>
      t.time.tick = s.intervalEnd 1250 (s.keel o).frameAt ∧ (t.keel o).frameAt = t.time.tick ∧
      t.get (Reg.KL_STAT_MIRBAD o) = satAdd 16 (s.get (Reg.KL_STAT_MIRBAD o)) 1 ∧ t.sameRegsBut s [Reg.KL_STAT_MIRBAD o] ∧
      t.sameMemory s) ∧
  (∀ (o : Nat) (m : Mirror) (s : State), s.standby? = some o → (s.keel o).mirror = some m → s.get (Reg.KL_STAT_READY o) = 1 →
    s.time.run = true →
    Completes .mirrorStale s fun t =>
      t.time.tick = max s.time.tick (m.tick + 5000) ∧ t.get (Reg.KL_STAT_READY o) = 0 ∧ t.sameMemory s) ∧
  (∀ (k : Fin 2) (s : State), (s.keel k.val).held = true → s.dom (19 + k.val) = true → s.testable k.val = true →
    Completes (.keelSelfTest k) s fun t =>
      t.role k.val = 3 ∧ t.get (Reg.KL_TEST_START k.val) = 1 ∧ (t.keel k.val).testing = some t.time.tick ∧
      t.time.tick = (if s.time.run then max s.time.tick (s.keel k.val).testAt else s.time.tick) ∧
      (t.keel k.val).passed = false ∧ (t.keel k.val).held = false ∧ t.sameMemory s) ∧
  (∀ (k : Fin 2) (fail : BitVec 16) (x : Nat) (s : State), (s.keel k.val).testing = some x → s.time.run = true →
    (s.escOf 1026).again = false → s.unwritten (Reg.KL_TEST_START k.val) → Completes (.keelSelfTestDone k fail) s fun t =>
      t.time.tick = max s.time.tick (x + 1625000) ∧ t.get (Reg.KL_TEST_DONE k.val) = 1 ∧
      t.get (Reg.KL_TEST_PASS k.val) = (if fail = 0 then 1 else 0) ∧ t.get (Reg.KL_TEST_FAIL k.val) = fail.toNat ∧
      t.get (Reg.KL_TEST_START k.val) = 0 ∧ (t.keel k.val).testing = none ∧ (fail ≠ 0 → t.role k.val = 2)) ∧
  (∀ (k : Fin 2) (a : Nat) (s : State), s.active? = some a → a ≠ k.val → s.role k.val = 0 → (s.keel k.val).passed = true →
    s.dom (19 + k.val) = true →
    Completes (.mirrorLoadDone k) s fun t =>
      (t.keel k.val).loaded = true ∧ (t.keel k.val).mirror.isSome = true ∧ t.get (Reg.KL_STAT_READY k.val) = 1 ∧ t.sameMemory s) ∧
  (∀ (k : Fin 2) (s : State), s.keelOpen k.val 0x50004 = true →
    (s.role k.val = 0 → s.testable k.val = false → Completes (.keelTestStart k) s fun t => t = { s with lastStatus := .prot }) ∧
    (s.role k.val = 0 → s.testable k.val = true → Completes (.keelTestStart k) s fun t =>
      t.lastStatus = .ok ∧ t.role k.val = 3 ∧ t.get (Reg.KL_TEST_START k.val) = 1 ∧ (t.keel k.val).testing = some s.time.tick) ∧
    (s.role k.val = 1 → Completes (.keelTestStart k) s fun t => t = { s with lastStatus := .prot }))) ∧
  ((∀ (k : Fin 2) (s : State), s.keelOpen k.val 0x50010 = true →
    (s.get (Reg.CD_CTRL_VALID k.val) = 1 → s.condState k.val = 1 → s.imageLoads (1024 + k.val) = false →
      Completes (.conductorGo k) s fun t =>
        t.lastStatus = .ok ∧ t.condState k.val = 2 ∧ (t.core (1024 + k.val)).pc = s.get (Reg.CD_ENTRY_IDX k.val) ∧
        (t.core (1024 + k.val)).g = [] ∧ t.sameMemory s) ∧
    (s.get (Reg.CD_CTRL_HBEN k.val) = 0 ∨ s.active? ≠ some k.val → s.condState k.val = 2 →
      Completes (.conductorHalt k) s fun t => t.lastStatus = .ok ∧ t.condState k.val = 1 ∧ t.sameMemory s) ∧
    (s.get (Reg.CD_CTRL_HBEN k.val) = 1 → s.active? = some k.val →
      Completes (.conductorHalt k) s fun t => t = { s with lastStatus := .prot })) ∧
  (∀ (k : Fin 2) (j : Fin 16384) (v : BitVec 32) (s : State), s.keelOpen k.val (0x60000 + 4 * j.val) = true → s.locked = false →
    s.imageLoads (1024 + k.val) = false → s.get (Reg.CD_CTRL_CPAGE k.val) < 4 →
    let at0 := fun (n : Nat) => condCode n + 0x10000 * s.get (Reg.CD_CTRL_CPAGE n) + 4 * j.val
    let a := at0 k.val
    let b := at0 (1 - k.val)
    (s.condState k.val = 1 → Completes (.conductorCodeWrite k j v) s fun t =>
      t.lastStatus = .ok ∧ t.readLe a 4 = v.toNat ∧
      (∀ x, x < a ∨ a + 4 ≤ x → t.readByte x = s.readByte x ∨
        s.active? = some k.val ∧ s.standby? = some (1 - k.val) ∧ b ≤ x ∧ x < b + 4 ∧ t.readLe b 4 = v.toNat) ∧
      t.get (Reg.CD_CTRL_VALID k.val) = 0 ∧ t.sameRegsBut s [Reg.CD_CTRL_VALID k.val, Reg.CD_CTRL_VALID (1 - k.val)]) ∧
    (s.condState k.val ≠ 1 → Completes (.conductorCodeWrite k j v) s fun t => t = { s with lastStatus := .prot })) ∧
  (∀ (k : Fin 2) (s : State), s.get (Reg.CD_TMR_PERIOD k.val) ≠ 0 → s.time.run = true → s.dom (19 + k.val) = true →
    Completes (.conductorTimer k) s fun t =>
      let due := SMap.get (s.core (1024 + k.val)).timers 0 0 + s.get (Reg.CD_TMR_PERIOD k.val)
      t.time.tick = max s.time.tick due ∧ (t.get (Reg.CD_EVT_EVT k.val)).testBit 1 = true ∧
      SMap.get (t.core (1024 + k.val)).timers 0 0 = due ∧ t.sameRegsBut s [Reg.CD_EVT_EVT k.val] ∧ t.sameMemory s) ∧
  (∀ (m : Word64 × Nat) (rest : List (Word64 × Nat)) (s : State), s.remsgs = m :: rest →
    Completes .conductorMessage s fun t =>
      t.remsgs = rest ∧ t.sameMemory s ∧
      (∀ k, s.active? = some k → (s.core (1024 + k)).inq.length < 256 →
        (t.core (1024 + k)).inq = (s.core (1024 + k)).inq ++ [m] ∧ t.sameRegsBut s []) ∧
      (∀ k, s.active? = some k → 256 ≤ (s.core (1024 + k)).inq.length →
        t.get (Reg.KL_MSGLOST_COUNT k) = satAdd 32 (s.get (Reg.KL_MSGLOST_COUNT k)) 1 ∧ t.cores = s.cores) ∧
      (s.active? = none → s.get Reg.ARB_STAT_PHASE = 1 →
        t.get Reg.ARB_MSGLOST_COUNT = satAdd 32 (s.get Reg.ARB_MSGLOST_COUNT) 1 ∧ t.cores = s.cores)))

/-! ### Monitor converter and I2C -/

/-- R421, R422, R427 to R436: a regular sequence starts at slot 0 on the tick it is due, or is late; a slot's result, of its averaged
conversions or of an open or shorted sensor, goes to MON_LAST and to the queue (or is counted), and the next slot begins; injected starts at a conversion boundary;
pops and clears of the queue; SNS_CFGn.
The model's choices it rests on: notes/assumptions/4.md, notes/assumptions/51.md, notes/assumptions/94.md. -/
def Obligations.MonitorCompletes : Prop :=
  (∀ (s : State), s.dom 34 = true → s.get Reg.MON_RCTRL_EN = 1 →
    Completes .regularSequenceStart s fun t =>
      t.sameMemory s ∧
      (s.mon.rslot = none → s.mon.islot = none → t.mon.rslot = some 0 ∧ t.get Reg.MON_STAT_SLOT = 0 ∧ t.time.tick = s.regularDue ∧
        t.mon.startAt = some s.regularDue ∧ t.mon.taken.1 = s.get (Reg.MON_RSLOT_TAG 0) ∧ t.mon.queue = s.mon.queue ∧
        t.sameRegsBut s [Reg.MON_STAT_SLOT]) ∧
      (s.mon.rslot = none → s.mon.islot.isSome = true →
        t = { s with time := t.time, mon := { s.mon with late := true, startAt := some s.regularDue } }) ∧
      (s.mon.rslot.isSome = true → s.get Reg.MON_RCTRL_PER = 0 → t = s) ∧
      (s.mon.rslot.isSome = true → s.get Reg.MON_RCTRL_PER ≠ 0 →
        t = { s with regs := t.regs, time := t.time, mon := { s.mon with late := true, startAt := some s.regularDue } } ∧
        t.time.tick = s.regularDue ∧ t.get Reg.MON_STAT_RLATE = satAdd 8 (s.get Reg.MON_STAT_RLATE) 1 ∧
        t.sameRegsBut s [Reg.MON_STAT_RLATE])) ∧
  (∀ (convs : List (BitVec 24)) (above below : Bool) (s : State) (i : Nat), s.dom 34 = true → s.time.run = true →
    convs.length = 2 ^ s.mon.shape.2 → s.mon.taken.1 < 48 →
    (s.mon.islot = some i ∨ (s.mon.islot = none ∧ s.mon.rslot = some i)) →
    Completes (.slotResult (.convs convs) above below) s fun t =>
      let at' := max s.time.tick s.slotEnd
      let tag := s.mon.taken.1
      let hi := above || satAbove tag s.mon.taken.2.1 convs
      let lo := below || satBelow tag s.mon.taken.2.1 convs
      let last := if s.mon.islot.isSome then decide (s.get Reg.MON_ICTRL_LEN ≤ i) else decide (s.get Reg.MON_RCTRL_LEN ≤ i)
      let rep := s.mon.islot.isNone && s.mon.again
      let v := t.get (Reg.MON_LAST_VALUE tag)
      let oor := t.get (Reg.MON_LAST_OOR tag)
      t.time.tick = at' ∧ t.sameMemory s ∧ t.get (Reg.MON_LAST_VALID tag) = 1 ∧
      (hi = true → lo = false → oor = 1 ∧ v = 0x7FFFFF) ∧ (lo = true → hi = false → oor = 1 ∧ v = 0x800000) ∧
      (hi = false → lo = false → tag < 40 →
        oor = b2n (heldTo (channelRange tag) (s.monMean convs)).1 ∧ v = (heldTo (channelRange tag) (s.monMean convs)).2) ∧
      (∃ m : MergeItem, SMap.get t.merge 34 [] = SMap.get s.merge 34 [] ++ [m] ∧ m.cls = .record ∧
        m.words = [BitVec.ofNat 64 (0xA * 2 ^ 60 + tag * 2 ^ 52 + b2n rep * 2 ^ 51 + oor * 2 ^ 50 + b2n last * 2 ^ 49 +
          b2n s.mon.islot.isSome * 2 ^ 48 + v * 2 ^ 24 + monTime at')]) ∧
      (s.get Reg.MON_QCTRL_EN = 1 → s.mon.queue.length < 64 →
        t.get Reg.MON_QSTAT_LEVEL = s.mon.queue.length + 1 ∧ t.mon.ovrNext = false ∧
        ∃ e : MonEntry, t.mon.queue = s.mon.queue ++ [e] ∧ e.epoch = (at' + 2) / 2 ^ 23 * 2 ^ 23 ∧
          e.word = BitVec.ofNat 64 (tag * 2 ^ 56 + b2n s.mon.ovrNext * 2 ^ 52 + b2n rep * 2 ^ 51 + oor * 2 ^ 50 + b2n last * 2 ^ 49 +
            b2n s.mon.islot.isSome * 2 ^ 48 + v * 2 ^ 24 + monTime at')) ∧
      (s.get Reg.MON_QCTRL_EN = 1 → 64 ≤ s.mon.queue.length →
        t.mon.queue = s.mon.queue ∧ t.mon.ovrNext = true ∧ t.get Reg.MON_QSTAT_OVF = satAdd 8 (s.get Reg.MON_QSTAT_OVF) 1) ∧
      (s.mon.islot = some i → i < s.get Reg.MON_ICTRL_LEN → t.mon.islot = some (i + 1)) ∧
      (s.mon.islot = some i → s.get Reg.MON_ICTRL_LEN ≤ i → s.get Reg.MON_STAT_IPEND ≠ 1 → s.mon.rslot.isSome = true →
        t.mon.islot = none ∧ t.mon.rslot = s.mon.rslot ∧ t.mon.again = s.mon.again ∧ t.get Reg.MON_STAT_IBUSY = 0) ∧
      (s.mon.islot = none → i < s.get Reg.MON_RCTRL_LEN → s.get Reg.MON_RCTRL_EN = 1 →
        t.mon.rslot = some (i + 1) ∧ t.mon.again = false) ∧
      (s.mon.islot = none → s.get Reg.MON_RCTRL_LEN ≤ i → s.get Reg.MON_RCTRL_EN = 1 →
        t.mon.rslot = if s.mon.late = true ∨ s.get Reg.MON_RCTRL_PER = 0 then some 0 else none)) ∧
  (∀ (above below : Bool) (s : State) (i : Nat), s.dom 34 = true → 40 ≤ s.mon.taken.1 → s.mon.taken.1 < 48 →
    (s.mon.islot = some i ∨ (s.mon.islot = none ∧ s.mon.rslot = some i)) →
    let tag := s.mon.taken.1
    let cfg := s.mon.taken.2.1
    let shows := fun (t : State) (oor value : Nat) => t.get (Reg.MON_LAST_OOR tag) = oor ∧ t.get (Reg.MON_LAST_VALUE tag) = value
    (bits cfg 27 2 ≠ 0 ∨ cfg.testBit 15 = true →
      Completes (.slotResult .opened above below) s fun t => shows t 1 0x7FFFFF ∧ t.get (Reg.MON_LAST_VALID tag) = 1) ∧
    (bits cfg 27 2 = 0 → cfg.testBit 15 = false →
      Completes (.slotResult .opened above below) s fun t => t.get (Reg.MON_LAST_OOR tag) = 0) ∧
    (bits cfg 29 3 = 1 ∨ bits cfg 29 3 = 2 ∨ bits cfg 29 3 = 3 →
      Completes (.slotResult .shorted false false) s fun t => shows t 1 0x800000)) ∧
  (∀ (x : DieTemp) (s : State),
    x.before < 1000 * (s.get Reg.MON_ICTRL_OT : Int) ∧ 1000 * (s.get Reg.MON_ICTRL_OT : Int) ≤ x.now ∨
      Completes (.overTemperature x) s fun t => t = s) ∧
  (∀ (x : DieTemp) (s : State), s.dom 34 = true → s.get Reg.MON_ICTRL_EN = 1 → s.get Reg.MON_ICTRL_OTEN = 1 →
    x.before < 1000 * (s.get Reg.MON_ICTRL_OT : Int) → 1000 * (s.get Reg.MON_ICTRL_OT : Int) ≤ x.now →
    Completes (.overTemperature x) s fun t =>
      t.sameMemory s ∧
      (s.mon.islot = none → t = { s with mon := { s.mon with ireq := true } }) ∧
      (s.mon.islot.isSome = true → s.get Reg.MON_STAT_IPEND ≠ 1 → t.get Reg.MON_STAT_IPEND = 1 ∧ t.sameRegsBut s [Reg.MON_STAT_IPEND]) ∧
      (s.mon.islot.isSome = true → s.get Reg.MON_STAT_IPEND = 1 → s.sameBoundary = true → t.sameRegsBut s []) ∧
      (s.mon.islot.isSome = true → s.get Reg.MON_STAT_IPEND = 1 → s.sameBoundary = false →
        t.get Reg.MON_STAT_IMISS = satAdd 8 (s.get Reg.MON_STAT_IMISS) 1 ∧ t.sameRegsBut s [Reg.MON_STAT_IMISS])) ∧
  (∀ (s : State), s.dom 34 = true → s.mon.ireq = true → s.mon.islot = none →
    Completes .injectedSequenceStart s fun t =>
      t.time.tick = max s.time.tick s.boundary ∧ t.mon.islot = some 0 ∧ t.mon.ireq = false ∧ t.mon.rslot = s.mon.rslot ∧ (s.mon.rslot.isSome = true → t.mon.again = true) ∧
      t.mon.taken.1 = s.get (Reg.MON_ISLOT_TAG 0) ∧ t.get Reg.MON_STAT_IBUSY = 1 ∧ t.sameRegsBut s [Reg.MON_STAT_IBUSY] ∧
      t.sameMemory s) ∧
  (∀ (m : Fin 7) (s : State), s.dom 34 = true → s.inReset 0x60108 = false → s.mon.queue.length ≤ 64 →
    Completes (.monQueuePop m) s fun t =>
      t.lastStatus = .ok ∧ t.sameMemory s ∧
      (s.mon.queue = [] → t.lastData = [0] ∧ t.mon = { s.mon with latches := SMap.ins s.mon.latches m.val (0xFF000000, 0) } ∧
        t.sameRegsBut s []) ∧
      (∀ e r, s.mon.queue = e :: r → t.mon.queue = r ∧ t.get Reg.MON_QSTAT_LEVEL = r.length ∧ t.lastData = [e.word.toNat % 2 ^ 32] ∧
        (e.poison = false → e.bad = false → t.sameRegsBut s [Reg.MON_QSTAT_LEVEL] ∧
          SMap.get t.mon.latches m.val (0, 0) = (e.word.toNat / 2 ^ 32, e.epoch % 2 ^ 56 / 2 ^ 23)) ∧
        (e.poison = true ∨ e.bad = true → t.get Reg.MON_QSTAT_PERR = 1 ∧
          SMap.get t.mon.latches m.val (0, 0) = ((e.word.toNat ||| 2 ^ 55) / 2 ^ 32, e.epoch % 2 ^ 56 / 2 ^ 23)))) ∧
  (∀ (s : State), s.reachable 0x60100 = true →
    Completes .monQueueClear s fun t =>
      t.lastStatus = .ok ∧ t.mon = { s.mon with queue := [] } ∧ t.get Reg.MON_QSTAT_LEVEL = 0 ∧ t.sameRegsBut s [Reg.MON_QSTAT_LEVEL] ∧
      t.sameMemory s) ∧
  (∀ (n : Fin 8) (v : BitVec 32) (s : State), s.reachable (0x60400 + 8 * n.val) = true →
    let fields := [Reg.SNS_CFG_CURVE n.val, Reg.SNS_CFG_WIRE n.val, Reg.SNS_CFG_ILVL n.val, Reg.SNS_CFG_GAIN n.val,
      Reg.SNS_CFG_FPIN n.val, Reg.SNS_CFG_CJ n.val, Reg.SNS_CFG_BIAS n.val]
    let curve := bits v.toNat 29 3
    let wire := bits v.toNat 27 2
    let bad := (wire = 3 ∧ (bits v.toNat 19 4 = 2 * n.val ∨ bits v.toNat 19 4 = 2 * n.val + 1)) ∨
      ((curve = 5 ∨ curve = 6) ∧ wire ≠ 0) ∨ (1 ≤ curve ∧ curve ≤ 4 ∧ wire = 0)
    (bad → Completes (.sensorConfigWrite n v) s fun t => t = { s with lastStatus := .prot }) ∧
    (¬ bad → Completes (.sensorConfigWrite n v) s fun t =>
      t.lastStatus = .ok ∧ fields.map t.get = [curve, wire, bits v.toNat 25 2, bits v.toNat 23 2, bits v.toNat 19 4, bits v.toNat 16 3,
        bits v.toNat 15 1] ∧ t.sameRegsBut s fields ∧ t.sameMemory s))

/-- R437, R438: a GO runs its command, recovers the bus first or waits for SCL; a GO while BUSY = 1 is rejected; a command ends with
its outcome and its byte count; timeouts; recovery ends; a rise of EN samples the bus.
The model's choices it rests on: notes/assumptions/9.md, notes/assumptions/64.md, notes/assumptions/93.md, notes/assumptions/94.md. -/
def Obligations.I2cCompletes : Prop :=
  (∀ (v : BitVec 32) (scl sda : Bool) (s : State), s.reachable 0x70004 = true → v.msb = true →
    (s.get Reg.I2C_STAT_BUSY = 1 → s.i2c.phase ≠ 3 → Completes (.i2cCommand v scl sda) s fun t =>
      t.lastStatus = .prot ∧ t.regs = s.regs ∧ t.i2c.phase = s.i2c.phase ∧ t.sameMemory s) ∧
    (s.get Reg.I2C_STAT_BUSY ≠ 1 → s.i2c.phase ≠ 3 → s.get Reg.I2C_CTRL_EN = 1 → s.get Reg.I2C_STAT_STUCK ≠ 1 →
      Completes (.i2cCommand v scl sda) s fun t =>
        let st := [Reg.I2C_STAT_NACK, Reg.I2C_STAT_ARBLOST, Reg.I2C_STAT_TMO, Reg.I2C_STAT_PECERR, Reg.I2C_STAT_BYTES]
        let cmd := [Reg.I2C_CMD_RSTART, Reg.I2C_CMD_ADDR, Reg.I2C_CMD_RLEN, Reg.I2C_CMD_WLEN]
        t.lastStatus = .ok ∧ t.get Reg.I2C_STAT_BUSY = 1 ∧
        cmd.map t.get = [bits v.toNat 30 1, bits v.toNat 16 7, bits v.toNat 8 8, bits v.toNat 0 8] ∧ st.map t.get = [0, 0, 0, 0, 0] ∧
        t.i2c = { s.i2c with phase := if scl then (if sda then 1 else 2) else 3, wants := !(scl && sda), scl := scl, sda := sda, sent := [] } ∧
        t.sameRegsBut s (Reg.I2C_STAT_BUSY :: (cmd ++ st)) ∧ t.sameMemory s)) ∧
  (∀ (nack arblost : Bool) (check : BitVec 8) (moved : Fin 67) (data : List Byte) (s : State), s.i2cRuns = true →
    s.get Reg.I2C_CTRL_PEC ≤ 1 →
    Completes (.i2cCommandDone nack arblost check moved data) s fun t =>
      let rst := s.get Reg.I2C_CMD_RSTART
      let pec := s.get Reg.I2C_CTRL_PEC
      let wrote := min 32 (s.get Reg.I2C_CMD_WLEN) + pec
      let whole := wrote + (if rst = 1 then min 32 (s.get Reg.I2C_CMD_RLEN) + pec else 0)
      t.i2c.phase = 0 ∧ t.get Reg.I2C_STAT_BUSY = 0 ∧ t.get Reg.I2C_STAT_DONE = 1 ∧ t.get Reg.I2C_STAT_NACK = b2n nack ∧
      (nack = false → arblost = false → t.i2c.sent = s.i2c.sent ++ s.i2cSyms) ∧
      (nack = true → arblost = false → t.i2c.sent.getLast? = some .stop) ∧
      t.get Reg.I2C_STAT_ARBLOST = b2n arblost ∧
      t.get Reg.I2C_STAT_PECERR = b2n (decide (pec = 1) && decide (rst = 1) && !nack && !arblost &&
        crc8 (s.i2cSent ++ data.take (min 32 (s.get Reg.I2C_CMD_RLEN))) != check.toNat) ∧
      t.get Reg.I2C_STAT_BYTES = (if nack || arblost then min moved.val whole else whole) ∧
      (rst = 1 → ∀ b r, data = b :: r → 0 < s.get Reg.I2C_CMD_RLEN → (nack = false ∧ arblost = false ∨ wrote < min moved.val whole) →
        s.metWrote (Reg.I2C_DATA_B0 0) = 0 → t.get (Reg.I2C_DATA_B0 0) = b.toNat) ∧
      (rst ≠ 1 → t.sameRegsBut s [Reg.I2C_STAT_BUSY, Reg.I2C_STAT_DONE, Reg.I2C_STAT_NACK, Reg.I2C_STAT_ARBLOST,
        Reg.I2C_STAT_PECERR, Reg.I2C_STAT_BYTES]) ∧ t.sameMemory s) ∧
  (∀ (s : State), s.i2c.phase = 1 ∨ s.i2c.phase = 3 →
    Completes .i2cTimeout s fun t =>
      t.i2c.phase = 0 ∧ t.get Reg.I2C_STAT_BUSY = 0 ∧ t.sameMemory s ∧
      (s.i2c.phase = 1 → t.get Reg.I2C_STAT_TMO = 1 ∧ t.get Reg.I2C_STAT_DONE = 1 ∧
        t.get Reg.I2C_STAT_BYTES ≤ s.i2cLength ∧
        t.sameRegsBut s [Reg.I2C_STAT_BUSY, Reg.I2C_STAT_TMO, Reg.I2C_STAT_DONE, Reg.I2C_STAT_BYTES]) ∧
      (s.i2c.phase = 3 → t.get Reg.I2C_STAT_STUCK = 1 ∧ t.get Reg.I2C_STAT_PULSES = 0 ∧
        t.sameRegsBut s [Reg.I2C_STAT_BUSY, Reg.I2C_STAT_STUCK, Reg.I2C_STAT_PULSES])) ∧
  (∀ (scl sda : Bool) (s : State), s.reachable 0x70000 = true → s.get Reg.I2C_CTRL_EN = 0 → s.i2c.wants = false → s.i2c.phase ≠ 3 →
    Completes (.i2cEnable scl sda) s fun t =>
      t.lastStatus = .ok ∧ t.get Reg.I2C_CTRL_EN = 1 ∧ t.get Reg.I2C_STAT_STUCK = 0 ∧
      t.i2c = { s.i2c with phase := if scl then (if sda then 0 else 2) else 3, scl := scl, sda := sda, sent := [] } ∧
      t.get Reg.I2C_STAT_BUSY = b2n !(scl && sda) ∧
      t.sameRegsBut s [Reg.I2C_CTRL_EN, Reg.I2C_STAT_STUCK, Reg.I2C_STAT_BUSY] ∧ t.sameMemory s) ∧
  (∀ (pulses : Fin 10) (s : State), s.i2c.phase = 2 ∨ s.i2c.phase = 3 →
    Completes (.busRecoveryDone pulses) s fun t =>
      (pulses ≠ 0 → t.get Reg.I2C_STAT_RECOV = 1 ∧ t.get Reg.I2C_STAT_PULSES = pulses.val ∧ t.sameMemory s ∧
        t.i2c = { s.i2c with phase := if s.i2c.wants then 1 else 0, wants := false, scl := true, sda := true, sent := s.i2c.sent ++ List.replicate pulses.val .pulse ++ [.stop] } ∧
        t.get Reg.I2C_STAT_BUSY = b2n s.i2c.wants ∧
        t.sameRegsBut s [Reg.I2C_STAT_RECOV, Reg.I2C_STAT_PULSES, Reg.I2C_STAT_BUSY]) ∧
      (pulses = 0 → t.get Reg.I2C_STAT_STUCK = 1 ∧ t.get Reg.I2C_STAT_PULSES = 9 ∧ t.get Reg.I2C_STAT_BUSY = 0 ∧ t.i2c.phase = 0 ∧
        t.i2c.wants = false ∧ t.get Reg.EL_STAT_NEXTSEQ = (s.get Reg.EL_STAT_NEXTSEQ + 1) % 2 ^ 16))

/-! ### Power, reset and boot -/

/-- R443 to R446, R374: a target written, each stage of the transitions, KEEP and the wake from it.
The model's choices it rests on: notes/assumptions/9.md, notes/assumptions/50.md, notes/assumptions/62.md, notes/assumptions/95.md. -/
def Obligations.PowerTransitionsComplete : Prop :=
  (∀ (x : BitVec 3) (s : State), s.reachable 0x20000 = true →
    (x = 0 ∨ 4 < x.toNat → Completes (.targetWrite x) s fun t => t = { s with lastStatus := .prot }) ∧
    ((x = 3 ∨ x = 4) → s.active? = none → Completes (.targetWrite x) s fun t =>
      t.lastStatus = .prot ∧ t.get Reg.PR_STATE_REFUSE = 1 ∧ t.sameRegsBut s [Reg.PR_STATE_REFUSE] ∧ t.sameMemory s) ∧
    ((x = 3 ∨ x = 4) → s.active?.isSome = true → s.refselOk (s.get Reg.TU_CTRL_REFSEL) = false → Completes (.targetWrite x) s fun t =>
      t.lastStatus = .prot ∧ t.get Reg.PR_STATE_REFUSE = 2 ∧ t.sameRegsBut s [Reg.PR_STATE_REFUSE] ∧ t.sameMemory s) ∧
    (1 ≤ x.toNat → x.toNat ≤ 4 → (x = 3 ∨ x = 4 → s.active?.isSome = true ∧ s.refselOk (s.get Reg.TU_CTRL_REFSEL) = true) →
      Completes (.targetWrite x) s fun t =>
        t.lastStatus = .ok ∧ t.get Reg.PR_STATE_TARGET = x.toNat ∧ t.pwr = s.pwr ∧ t.sameMemory s ∧
        (s.pwr ≠ x.toNat → t.get Reg.PR_STATE_BUSY = 1) ∧
        (s.pwr = x.toNat → s.pw.boot = 0 → s.pw.stage = 0 → t.get Reg.PR_STATE_BUSY = 0) ∧
        (s.pwr = 2 → s.pw.boot = 0 → s.pw.stage = 0 → 3 ≤ x.toNat → t.pw = { s.pw with stage := 1 }) ∧
        (s.pwr = 2 → s.pw.boot = 0 → s.pw.stage = 0 → x = 1 → t.pw = { s.pw with stage := 5 } ∧
          (s.dom 1 = true → s.get Reg.LL_STAT_BUSY = 0 → 0 ∉ s.checks → t.checks = s.checks ++ [0])))) ∧
  (∀ (s : State), s.pw.stage = 1 → s.dom 2 = true → s.settled (fun d => domArm d || domMem d) = true →
    Completes .timeBaseStart s fun t =>
      t.time = { s.time with run := true } ∧ t.pw.stage = 2 ∧ t.pwr = s.pwr ∧ t.sameMemory s ∧
      (s.get Reg.TT_CFG_EN = 1 → s.get Reg.TU_CTRL_SERVO_EN = 1 → t.get Reg.TU_STAT_SERVO = 1)) ∧
  (∀ (s : State), s.pw.stage = 2 → s.pw.boot = 0 → s.get Reg.TU_STAT_PLLLOCK = 1 → s.allBiased = true →
    Completes .armedEntry s fun t =>
      t.pwr = 3 ∧ t.pw.stage = 0 ∧ t.time = s.time ∧
      (s.target = 3 → s.get Reg.PR_STATE_BUSY = 1 → t.get Reg.PR_STATE_BUSY = 0 ∧ (t.get Reg.PR_IRQ_STAT_IRQ).testBit 7 = true) ∧
      (s.target = 4 → t.get Reg.PR_STATE_BUSY = s.get Reg.PR_STATE_BUSY)) ∧
  (∀ (s : State), s.pwr = 3 → s.target = 4 → s.get Reg.PR_STATE_BUSY = 1 → s.pw.stage = 0 → s.pw.boot = 0 → s.time.run = true →
    Completes .acquireEntry s fun t =>
      t.time.tick = s.time.tick + 1 ∧ t.pwr = 4 ∧ t.get Reg.PR_STATE_BUSY = 0 ∧ (t.get Reg.PR_IRQ_STAT_IRQ).testBit 7 = true ∧
      t.sameRegsBut s [Reg.PR_STATE_STATE, Reg.PR_STATE_BUSY, Reg.PR_IRQ_STAT_IRQ] ∧ t.sameMemory s) ∧
  (∀ (s : State), s.pwr = 4 → s.target ≤ 3 → s.time.run = true →
    Completes .acquireExit s fun t =>
      t.time.tick = s.time.tick + 1 ∧ t.pwr = 3 ∧
      ((∀ c, c < 1024 → s.get (Reg.CORE_CTRL_AUTO c) ≠ 1) → t.sameMemory s) ∧
      (∀ c : Fin 1024, s.get (Reg.CORE_CTRL_AUTO c.val) = 1 → s.coreState c.val = cHALTED → s.dom (domDig (stripeOf c.val)) = true →
        s.mayStart c.val = true → t.coreState c.val = cRUNNING) ∧
      (∀ k q, s.spillKeel? = some k → q < 64 → t.stState k q = if s.stState k q = 1 then 2 else s.stState k q) ∧
      (∀ (k : Nat) (p : Fin 2), t.active? = some k → (t.pin p.val).high = true → t.permitOk k p.val = true)) ∧
  (∀ (s : State), s.pwr = 3 → s.target ≤ 2 → s.pw.stage = 0 → s.get Reg.PR_STATE_BUSY = 1 →
    (∀ k, s.spillKeel? = some k → s.liveStreams k = []) →
    Completes .standbyDescent s fun t =>
      t.descent = some s.time.tick ∧ t.pw = { s.pw with stage := 3 } ∧ t.pwr = 3 ∧ t.time = s.time ∧ t.sameMemory s) ∧
  (∀ (s : State), s.pw.stage = 3 → (∀ c, c < 1024 → s.coreAlive c = false) → s.spillEmpty = true →
    Completes .quiesceDone s fun t =>
      t.pw.stage = 4 ∧ t.pwr = s.pwr ∧ (∀ d, domArm d = true → t.dom d = false) ∧
      (∀ st : Fin 8, t.get (Reg.STRIPE_STATE_BIAS st.val) = 0) ∧
      (s.get Reg.TU_CTRL_HOLDON ≠ 1 → t.time.run = false ∧ t.get Reg.TU_STAT_PLLLOCK = 0) ∧
      (s.get Reg.TU_CTRL_HOLDON = 1 → t.time.run = s.time.run) ∧
      (s.time.run = true → t.time.tick = s.time.tick + 1)) ∧
  (∀ (s : State), s.pw.stage = 4 → s.pw.boot = 0 → s.target = 2 → s.get Reg.PR_STATE_BUSY = 1 →
    Completes .standbyEntry s fun t =>
      t.pwr = 2 ∧ t.pw = { s.pw with stage := 0 } ∧ t.descent = none ∧ t.get Reg.PR_STATE_BUSY = 0 ∧
      (∀ p : Fin 2, (t.pin p.val).high = false) ∧ (t.get Reg.PR_IRQ_STAT_IRQ).testBit 7 = true ∧ t.sameMemory s) ∧
  (∀ (s : State), s.pw.stage = 5 → s.get Reg.LL_STAT_BUSY ≠ 1 → 0 ∉ s.checks → s.target = 1 → s.get Reg.PR_STATE_BUSY = 1 →
    Completes .keepEntry s fun t =>
      t.pwr = 1 ∧ t.get Reg.PR_DOM_PG_PG = 1 ∧ t.get Reg.PR_STATE_BUSY = 0 ∧ (t.get Reg.PR_IRQ_STAT_IRQ).testBit 7 = true ∧
      t.time = { s.time with run := false } ∧ t.pending = s.pending ∧ t.get Reg.PR_DOM_EN_EN = s.get Reg.PR_DOM_EN_EN) ∧
  (∀ (p : Fin 2) (chars : Nat) (s : State),
    (s.pwr ≠ 1 ∨ chars < 320 ∨ (s.get Reg.AON_WAKE_WAKE_EN).testBit p.val = false → Completes (.wake ⟨p, chars⟩) s fun t => t = s) ∧
    (s.pwr = 1 → 320 ≤ chars → (s.get Reg.AON_WAKE_WAKE_EN).testBit p.val = true → Completes (.wake ⟨p, chars⟩) s fun t =>
      t.pwr = 5 ∧ t.get Reg.PR_STATE_BUSY = 1 ∧ t.target = 2 ∧ (t.get Reg.AON_WAKE_SRC).testBit p.val = true ∧
      t.pw = { s.pw with boot := 4, cold := false } ∧
      t.sameRegsBut s [Reg.PR_STATE_STATE, Reg.PR_STATE_BUSY, Reg.PR_STATE_TARGET, Reg.AON_WAKE_SRC] ∧ t.sameMemory s))

/-- R442, R447 to R451, R458 to R460: domains turned on and off, started, at power-good or not; latch-up and repower; droop; a block's
software reset, at once or when it has acknowledged or its time is over.
The model's choices it rests on: notes/assumptions/49.md, notes/assumptions/50.md, notes/assumptions/54.md, notes/assumptions/60.md, notes/assumptions/93.md, notes/assumptions/95.md. -/
def Obligations.DomainsComplete : Prop :=
  (∀ (en : BitVec 36) (s : State), s.reachable 0x20008 = true → s.reachable 0x2000C = true →
    let falls := fun d : Nat => 3 ≤ d ∧ d < 36 ∧ (s.get Reg.PR_DOM_EN_EN).testBit (d - 3) = true ∧ en.getLsbD d = false
    (∀ k, s.active? = some k → falls (19 + k) → Completes (.domainEnableWrite en) s fun t =>
      t.lastStatus = .prot ∧ t.regs = s.regs ∧ t.sameMemory s) ∧
    ((∀ d, ¬ falls d) → Completes (.domainEnableWrite en) s fun t =>
      t.lastStatus = .ok ∧ t.get Reg.PR_DOM_EN_EN = en.toNat / 8 ∧ t.sameRegsBut s [Reg.PR_DOM_EN_EN] ∧ t.sameMemory s) ∧
    (∀ d, d ≤ 10 → falls d → (∀ e, falls e → e = d) → s.dom d = true → Completes (.domainEnableWrite en) s fun t =>
      t.lastStatus = .ok ∧ t.get Reg.PR_DOM_EN_EN = en.toNat / 8 ∧ t.dom d = false ∧ (∀ e, e < 36 → e ≠ d → t.dom e = s.dom e) ∧
      t.get (Reg.STRIPE_STATE_BIAS (d - 3)) = 0)) ∧
  (∀ (d : Fin 36) (s : State), s.wanting d.val = true → (∀ x, x < d.val → s.wanting x = false) →
    Completes (.domainPowerUp d) s fun t =>
      (∃ g, t = { s with pw := { s.pw with starting := s.pw.starting ++ [d.val], again := g } }) ∧
      (SMap.find? s.pw.again d.val = none → t.pw.again = s.pw.again) ∧
      (SMap.find? s.pw.again d.val ≠ none → SMap.find? t.pw.again d.val =
        some (if s.time.run then .since s.time.tick else .loose))) ∧
  (∀ (d : Fin 36) (s : State), s.pw.starting.contains d.val = true →
    (Completes (.domainPowerGood d) s fun t =>
      t.get Reg.PR_DOM_PG_PG = putBit (s.get Reg.PR_DOM_PG_PG) d.val true % 2 ^ 36 ∧
      t.pw.starting = s.pw.starting.filter (· != d.val) ∧
      (3 ≤ d.val → d.val ≤ 10 → s.armPower = true → s.dom (d.val + 8) = true → t.get (Reg.STRIPE_STATE_BIAS (d.val - 3)) = 1) ∧
      (d.val = 19 ∨ d.val = 20 → (t.keel (d.val - 19)).held = true) ∧
      (d.val = 30 ∨ d.val = 34 → t.sameRegsBut s [Reg.PR_DOM_PG_PG] ∧ t.sameMemory s)) ∧
    (s.dom d.val = false → Completes (.domainPowerFail d) s fun t =>
      t.dom d.val = false ∧ t.pw.starting = s.pw.starting.filter (· != d.val) ∧
      t.get Reg.PR_DOM_FAIL_FAIL = putBit (s.get Reg.PR_DOM_FAIL_FAIL) d.val true % 2 ^ 36 ∧
      (t.get Reg.PR_IRQ_STAT_IRQ).testBit 0 = true ∧ t.get Reg.EL_STAT_NEXTSEQ = (s.get Reg.EL_STAT_NEXTSEQ + 1) % 2 ^ 16 ∧
      t.sameMemory s)) ∧
  (∀ (d : Fin 36) (soon : Bool) (s : State), s.dom d.val = true →
    Completes (.latchUp d soon) s fun t =>
      let known := SMap.find? s.pw.again d.val
      let long := known = none ∨ known = some .cut ∨ (known = some .loose ∧ soon = false) ∨
        (s.time.run = false ∧ soon = false) ∨ ∃ a, known = some (.since a) ∧ s.time.run = true ∧ a + 1250000000 ≤ s.time.tick
      let short := (known = some .loose ∧ soon = true) ∨ (s.time.run = false ∧ soon = true ∧ ∃ a, known = some (.since a)) ∨
        ∃ a, known = some (.since a) ∧ s.time.run = true ∧ s.time.tick < a + 1250000000
      (d.val = 0 → t.pwr = 0 ∧ t.get Reg.PR_DOM_PG_PG = 0 ∧ t.pw.off = [0] ∧ (∀ p, t.permitPin p = .released) ∧
        (s.sec.op = none → ∀ a, lasting a = true → t.readByte a = s.readByte a)) ∧
      (d.val ≠ 0 → t.dom d.val = false ∧ t.get Reg.PR_LU_LAST_DOMAIN = d.val ∧ t.get Reg.PR_LU_LAST_TICK = s.time.tick % 2 ^ 56 ∧
        (t.get Reg.PR_IRQ_STAT_IRQ).testBit 3 = true ∧
        SMap.find? t.pw.again d.val = some .cut ∧
        (long → t.pw.off = s.pw.off ++ [d.val] ∧ t.get Reg.PR_DOM_FAIL_FAIL = s.get Reg.PR_DOM_FAIL_FAIL) ∧
        (short → t.pw.off = s.pw.off ∧ t.get Reg.PR_DOM_FAIL_FAIL = putBit (s.get Reg.PR_DOM_FAIL_FAIL) d.val true % 2 ^ 36)) ∧
      (11 ≤ d.val → d.val ≤ 18 → t.get (Reg.STRIPE_STATE_BIAS (d.val - 11)) = 0 ∧ ∀ j : Fin 128,
        let n := (d.val - 11) * 128 + j.val
        t.pw.dark.contains (d.val - 11) = true ∧ SMap.get t.pw.safe n 0 = SMap.get s.pw.safe n 0 ∧ ∀ o, o < 0x8000 → t.readByte (reWindow n + o) = 0)) ∧
  (∀ (d : Fin 36) (s : State), s.pw.off.contains d.val = true →
    (d.val = 0 → Completes (.latchUpRepower d) s fun t =>
      t.pwr = 5 ∧ t.get Reg.PR_RST_CAUSE_POR = 1 ∧ t.get Reg.PR_STATE_BUSY = 1 ∧ t.pw.boot = 2) ∧
    (d.val = 1 ∨ d.val = 2 → s.dom 0 = true → Completes (.latchUpRepower d) s fun t =>
      t.pwr = 5 ∧ t.get Reg.PR_RST_CAUSE_CUT = 1 ∧ t.get Reg.PR_STATE_BUSY = 1) ∧
    (3 ≤ d.val → s.allowed d.val = true → s.dom d.val = false → s.pw.starting.contains d.val = false →
      Completes (.latchUpRepower d) s fun t =>
        t = { s with pw := t.pw } ∧ t.pw.off = s.pw.off.filter (· != d.val) ∧ t.pw.starting = s.pw.starting ++ [d.val] ∧
        (SMap.find? s.pw.again d.val ≠ none → SMap.find? t.pw.again d.val =
          some (if s.time.run then .since s.time.tick else .loose))) ∧
    (3 ≤ d.val → s.allowed d.val = false → Completes (.latchUpRepower d) s fun t =>
      t = { s with pw := { s.pw with off := s.pw.off.filter (· != d.val) } })) ∧
  (∀ (d : Fin 36) (s : State), s.reachable 0x20018 = true → s.reachable 0x2001C = true →
    Completes (.domainFailClear d) s fun t =>
      t.lastStatus = .ok ∧ t.get Reg.PR_DOM_FAIL_FAIL = (if (s.metSets Reg.PR_DOM_FAIL_FAIL).testBit d.val then s.get Reg.PR_DOM_FAIL_FAIL
        else putBit (s.get Reg.PR_DOM_FAIL_FAIL) d.val false) % 2 ^ 36 ∧
      t.sameRegsBut s [Reg.PR_DOM_FAIL_FAIL] ∧ t.sameMemory s) ∧
  (∀ (p : Fin 12) (below ns : Nat) (s : State), s.dom 0 = true →
    (below ≤ s.get Reg.PR_DROOP_THR ∨ ns < 2000 → Completes (.droop ⟨p, below, ns⟩) s fun t => t = s) ∧
    (s.get Reg.PR_DROOP_THR < below → 2000 ≤ ns → Completes (.droop ⟨p, below, ns⟩) s fun t =>
      (t.get Reg.PR_IRQ_STAT_IRQ).testBit 6 = true ∧ t.get Reg.EL_STAT_NEXTSEQ = (s.get Reg.EL_STAT_NEXTSEQ + 1) % 2 ^ 16 ∧
      t.sameMemory s ∧
      (s.get Reg.MON_ICTRL_DREN = 1 → s.get Reg.MON_ICTRL_EN = 1 → s.dom 34 = true → s.mon.islot = none → t.mon.ireq = true) ∧
      (s.get Reg.MON_ICTRL_DREN ≠ 1 → t.mon = s.mon))) ∧
  (∀ (block : BitVec 11) (s : State), s.reachable 0x20030 = true →
    let b := block.toNat
    (s.get Reg.PR_SRST_STAT_BUSY = 1 ∨ blockCode b = false ∨ (∃ k, s.active? = some k ∧ k < 2 ∧ b = 0x400 + k) →
      Completes (.softwareReset block) s fun t => t = { s with lastStatus := .prot }) ∧
    (s.get Reg.PR_SRST_STAT_BUSY ≠ 1 → 0x400 ≤ b → blockCode b = true → (∀ k, s.active? = some k → b ≠ 0x400 + k) →
      Completes (.softwareReset block) s fun t =>
        let atOnce := (∀ i, i < 36 → b = 0x410 + i ∨ b = 0x450 → (s.tx i).payload = []) ∧ (b = 0x460 → s.spillEmpty = true) ∧
          (b = 0x462 → s.edgeTags = [] ∧ s.edgeStamps = []) ∧ (b = 0x463 → s.mon.rslot = none ∧ s.mon.islot = none) ∧
          (b = 0x464 → s.i2c.phase ≠ 1 ∧ s.i2c.phase ≠ 2) ∧
          (b = 0x465 → s.uart.line = [] ∧ s.uart.lines = [] ∧ s.uart.secWait = false) ∧
          (∀ p, p < 2 → b = 0x466 + p → (s.port p).inserted = false)
        t.lastStatus = .ok ∧ t.get Reg.PR_SRST_BLOCK = b ∧ t.get Reg.PR_SRST_STAT_BLOCK = b ∧
        (atOnce → t.get Reg.PR_SRST_STAT_BUSY = 0 ∧ t.get Reg.PR_SRST_STAT_DONE = 1 ∧ t.get Reg.PR_SRST_STAT_TMO = 0) ∧
        (¬ atOnce → t.get Reg.PR_SRST_STAT_BUSY = 1 ∧ t.quiesce = s.quiesce ++ [⟨b, 0, 0, false, s.clock?⟩] ∧
          t.sameRegsBut s [Reg.PR_SRST_BLOCK, Reg.PR_SRST_STAT_BUSY, Reg.PR_SRST_STAT_BLOCK] ∧ t.sameMemory s)) ∧
    (s.get Reg.PR_SRST_STAT_BUSY ≠ 1 → b < 1024 → s.coreAlive b = false →
      Completes (.softwareReset block) s fun t =>
        t.lastStatus = .ok ∧ t.get Reg.PR_SRST_STAT_BUSY = 0 ∧ t.get Reg.PR_SRST_STAT_DONE = 1 ∧ t.get Reg.PR_SRST_STAT_TMO = 0)) ∧
  (∀ (block : Fin 1129) (q : QuiesceSt) (s : State), s.asked block.val = some q →
    (q.why = 0 →
      (s.blockAcks block.val = true → Completes (.quiesceAcknowledge block) s fun t =>
        t.get Reg.PR_SRST_STAT_BUSY = 0 ∧ t.get Reg.PR_SRST_STAT_DONE = 1 ∧ t.get Reg.PR_SRST_STAT_TMO = 0) ∧
      Completes (.quiesceTimeout block) s fun t =>
        t.get Reg.PR_SRST_STAT_BUSY = 0 ∧ t.get Reg.PR_SRST_STAT_DONE = 1 ∧ t.get Reg.PR_SRST_STAT_TMO = 1) ∧
    (q.why = 2 → q.dom < 36 → s.quiesce.filter (fun x => x.why == 2 && x.dom == q.dom) = [q] →
      (s.blockAcks block.val = true → Completes (.quiesceAcknowledge block) s fun t => t.dom q.dom = false) ∧
      Completes (.quiesceTimeout block) s fun t => t.dom q.dom = false))

/-- R443, R448, R452 to R457, R469, R470: each reset source, the supply, the device watchdog, the steps of the boot, option programming.
The model's choices it rests on: notes/assumptions/9.md, notes/assumptions/15.md, notes/assumptions/52.md, notes/assumptions/56.md, notes/assumptions/93.md, notes/assumptions/95.md, notes/assumptions/103.md. -/
def Obligations.ResetsAndBootComplete : Prop :=
  (∀ (s : State), Completes .powerOnReset s fun t =>
    t.pwr = 5 ∧ t.get Reg.PR_STATE_BUSY = 1 ∧ t.pw.boot = 2 ∧ t.get Reg.PR_DOM_PG_PG = 1 ∧ t.time = State.reset.time ∧
    [Reg.PR_RST_CAUSE_POR, Reg.PR_RST_CAUSE_BOR, Reg.PR_RST_CAUSE_RESETN, Reg.PR_RST_CAUSE_TETHER, Reg.PR_RST_CAUSE_DWDOG,
      Reg.PR_RST_CAUSE_CUT].map t.get = [1, 0, 0, 0, 0, 0] ∧ t.pending = s.pending) ∧
  (∀ (s : State), s.dom 0 = true →
    let kept := fun (t : State) (f : Field) => t.get f = s.get f
    (Completes .brownOut s fun t =>
      t.pwr = 5 ∧ t.get Reg.PR_STATE_BUSY = 1 ∧ t.pw.boot = 3 ∧ t.get Reg.PR_DOM_PG_PG = 1 ∧ t.target = 2 ∧
      t.get Reg.PR_RST_CAUSE_BOR = 1 ∧ kept t Reg.PR_RST_CAUSE_POR ∧ kept t Reg.PR_RST_CAUSE_RESETN ∧ kept t Reg.SEC_STAT_LC ∧
      t.get Reg.PR_DOM_EN_EN = 2 ^ 33 - 1 ∧ t.time = { s.time with run := false } ∧ t.pending = s.pending) ∧
    (s.pwr ≠ 0 → Completes .resetNPin s fun t =>
      t.pwr = 5 ∧ t.get Reg.PR_STATE_BUSY = 1 ∧ t.pw.boot = (if s.pwr = 1 then 4 else 3) ∧ t.get Reg.PR_DOM_PG_PG = 1 ∧
      t.irqPin = .released ∧ t.get Reg.PR_RST_CAUSE_RESETN = 1 ∧ kept t Reg.PR_RST_CAUSE_POR ∧ kept t Reg.PR_RST_CAUSE_BOR ∧ kept t Reg.SEC_STAT_LC ∧
      kept t Reg.PR_DOM_EN_EN ∧ kept t Reg.EL_STAT_NEXTSEQ ∧ t.time = { s.time with run := false } ∧ t.pending = s.pending) ∧
    (s.get Reg.PR_DWDOG_EN = 1 → s.pwr = 2 ∨ s.pwr = 3 ∨ s.pwr = 4 → Completes .deviceWatchdog s fun t =>
      t.pwr = 5 ∧ t.get Reg.PR_STATE_BUSY = 1 ∧ t.pw.boot = 3 ∧ t.get Reg.PR_RST_CAUSE_DWDOG = 1 ∧ kept t Reg.PR_RST_CAUSE_RESETN ∧
      kept t Reg.PR_DOM_EN_EN ∧ t.time.run = false ∧
      (s.pw.dwAt = none ∨ s.time.run = false → t.time = { s.time with run := false }) ∧
      (∀ a, s.pw.dwAt = some a → s.time.run = true →
        t.time.tick = max s.time.tick (a + 12500000 * max 1 (s.get Reg.PR_DWDOG_PERIOD))))) ∧
  (∀ (s : State), Completes .supplyRemoved s fun t =>
    t.pwr = 0 ∧ t.get Reg.PR_DOM_PG_PG = 0 ∧ t.sec.flags = s.sec.flags ∧
    (s.spillKeel? = none → s.life.taken = none → t.errOrder = s.errOrder ∧
      (∀ f : Machine.Field, isErrLog f.key = true → t.get f = s.get f)) ∧
    (s.sec.op = none → ∀ a, lasting a = true → t.readByte a = s.readByte a)) ∧
  (∀ (s : State), s.pwr = 0 → 0 ∉ s.pw.off → Completes .resetNPin s fun t =>
    t.pwr = 5 ∧ t.get Reg.PR_STATE_BUSY = 1 ∧ t.pw.boot = 2 ∧ t.get Reg.PR_DOM_PG_PG = 1 ∧ t.get Reg.PR_RST_CAUSE_RESETN = 1 ∧
    t.pending = s.pending ∧
    (s.spillKeel? = none → s.life.taken = none → t.errOrder = s.errOrder ∧
      (∀ f : Machine.Field, isErrLog f.key = true → keyReach f.key = .por → t.get f = s.get f))) ∧
  (∀ (s : State), s.reachable 0x20044 = true → Completes .deviceWatchdogKick s fun t =>
    t = { s with lastStatus := .ok, pw := { s.pw with dwAt := if s.time.run then some s.time.tick else none } }) ∧
  (∀ (s : State), s.pw.boot = 2 →
    Completes .lifecycleSense s fun t =>
      t.get Reg.SEC_STAT_LC = (if s.sec.flags.testBit 3 then 4 else if s.sec.flags.testBit 2 then 3 else if s.sec.flags.testBit 1 then 2
        else if s.sec.flags.testBit 0 then 1 else 0) ∧
      t.pw = { s.pw with inReset := false, boot := 3 } ∧ t.sameRegsBut s [Reg.SEC_STAT_LC] ∧ t.sameMemory s) ∧
  (∀ (s : State), s.pw.boot = 3 → s.pw.stage = 0 →
    Completes .optionLoad s fun t =>
      let bs := if s.optGood 0 then s.readBytes (optCopy 0) 64 else if s.optGood 1 then s.readBytes (optCopy 1) 64 else safeBytes
      let b := fun i : Nat => (bs.getD i 0).toNat
      (∀ i, i < 64 → t.optByte i = b i) ∧ t.get Reg.PR_DWDOG_PERIOD = b 13 ∧ t.get Reg.PR_DWDOG_EN = b2n (b 13 != 0) ∧
      (s.pw.cold = true → t.get Reg.ARB_CTRL_PREF = b 14 % 2) ∧
      (s.pw.cold = false → t.get Reg.ARB_CTRL_PREF = s.get Reg.ARB_CTRL_PREF) ∧
      (b 12 ≠ 1 → t.pw.boot = 4 ∧ t.target = 2 ∧ t.pwr = s.pwr) ∧
      (b 12 = 1 → t.pw.boot = 0 ∧ t.target = 1 ∧ t.pwr = 1 ∧
        (s.get Reg.PR_STATE_BUSY = 1 → t.get Reg.PR_STATE_BUSY = 0 ∧ (t.get Reg.PR_IRQ_STAT_IRQ).testBit 7 = true))) ∧
  (∀ (s : State), s.pw.boot = 4 →
    Completes .clockPowerUp s fun t => t.dom 2 = true ∧ t.pw = { s.pw with inReset := false, boot := 5, again := t.pw.again } ∧
      (SMap.find? s.pw.again 2 = none → t.pw.again = s.pw.again) ∧
      (SMap.find? s.pw.again 2 ≠ none → SMap.find? t.pw.again 2 = some (if s.time.run then .since s.time.tick else .loose)) ∧
      t.sameRegsBut s [Reg.PR_DOM_PG_PG] ∧ t.sameMemory s) ∧
  (∀ (s : State), s.pw.boot = 5 →
    Completes .bootImage s fun t =>
      t.dom 1 = true ∧ t.pw.boot = 6 ∧ t.get (Reg.TH_CTRL_POS 0) = s.ringPos ∧ t.get (Reg.TH_CTRL_POS 1) = s.ringPos ∧
      (∀ i : Fin 16, t.get (Reg.OPT_BUF_W i.val) = s.optByte (4 * i.val) % 256 + 256 * (s.optByte (4 * i.val + 1) % 256) +
        65536 * (s.optByte (4 * i.val + 2) % 256) + 16777216 * (s.optByte (4 * i.val + 3) % 256))) ∧
  (∀ (s : State), s.pw.boot = 6 → Completes .keelPowerUp s fun t => t = { s with pw := { s.pw with inReset := false, boot := 7 } }) ∧
  (∀ (s : State), s.pw.boot = 7 → (∀ d, d = 19 ∨ d = 20 → s.dom d = true) →
    Completes .digitalPowerUp s fun t => t = { s with pw := { s.pw with inReset := false, boot := 8 } }) ∧
  (∀ (s : State), s.pw.boot = 8 → (∀ d, (11 ≤ d ∧ d ≤ 20) ∨ (33 ≤ d ∧ d ≤ 35) → s.dom d = true) →
    Completes .laneTableLoad s fun t => t.pw.boot = 9 ∧ t.get Reg.LN_GSTAT_TBL = s.optByte 4 % 256) ∧
  (∀ (s : State), s.pw.boot = 9 → s.pw.stage = 0 → s.target = 2 → s.get Reg.PR_STATE_BUSY = 1 →
    (∀ k, k < 2 → s.dom (19 + k) = true → (s.keel k).held = false ∧ (s.keel k).testing = none) →
    Completes .bootComplete s fun t =>
      t.pwr = 2 ∧ t.pw = { s.pw with inReset := false, boot := 0, bor := false } ∧ t.get Reg.PR_STATE_BUSY = 0 ∧
      (t.get Reg.PR_IRQ_STAT_IRQ).testBit 7 = true ∧ t.sameMemory s ∧
      (s.pw.bor = false → t.sameRegsBut s [Reg.PR_STATE_STATE, Reg.PR_STATE_BUSY, Reg.PR_IRQ_STAT_IRQ]) ∧
      (s.pw.bor = true → s.dom 1 = true → s.get Reg.LL_STAT_BUSY = 0 → 0 ∉ s.checks →
        t.get Reg.LL_STAT_PEND = 1 ∧ t.checks = s.checks ++ [0])) ∧
  (∀ (s : State), s.reachable 0x10180 = true → s.get Reg.OPT_CTRL_PROG = 0 →
    Completes .prog s fun t =>
      t.lastStatus = .ok ∧ t.get Reg.OPT_CTRL_PROG = 1 ∧ t.checks = s.checks ++ [1] ∧ t.sameRegsBut s [Reg.OPT_CTRL_PROG] ∧
      t.sameMemory s) ∧
  (∀ (good0 good1 : Bool) (s : State), s.get Reg.OPT_CTRL_PROG = 1 → 1 ∉ s.checks →
    Completes (.optionProgramDone good0 good1) s fun t =>
      let bs := (List.range 16).flatMap (fun i => leBytes 4 (s.get (Reg.OPT_BUF_W i)))
      (s.unwritten Reg.OPT_CTRL_PROG → t.get Reg.OPT_CTRL_PROG = 0) ∧ (good0 = false ∨ good1 = false → t.get Reg.OPT_STAT_PERR = 1) ∧
      (good0 = true → t.readBytes (optCopy 0) 64 = bs ∧ t.readLe (optCopy 0 + 64) 4 = crc32c bs % 2 ^ 32) ∧
      (good0 = true → good1 = true → t.readBytes (optCopy 1) 64 = bs ∧ t.readLe (optCopy 1 + 64) 4 = crc32c bs % 2 ^ 32) ∧
      (good0 = false → ∀ a, a < 68 → t.readByte (optCopy 1 + a) = s.readByte (optCopy 1 + a)) ∧
      (∀ a, a < optCopy 0 ∨ (optCopy 0 + 68 ≤ a ∧ a < optCopy 1) ∨ optCopy 1 + 68 ≤ a → t.readByte a = s.readByte a))

/-! ### Security, debug and the monitor -/

/-- R473 to R478, R481 to R483, R486, R500: every operation of SEC_CMD with its effect and result, the end of PROGRAM and of LOAD;
commands of conductors, while BUSY or outside an operation's lifecycles.
The model's choices it rests on: notes/assumptions/3.md, notes/assumptions/34.md, notes/assumptions/57.md, notes/assumptions/61.md, notes/assumptions/93.md, notes/assumptions/96.md. -/
def Obligations.SecurityCompletes : Prop :=
  (∀ (op : Fin 12) (m : Fin 7) (arg : BitVec 16) (s : State),
    let row : Instr := match op.val with
      | 0 => .program m arg
      | 1 => .erase m arg
      | 2 => .load m arg
      | 3 => .provision m arg
      | 4 => .sealPart m arg
      | 5 => .returnPart m arg
      | 6 => .voidPart m arg
      | 7 => .setkey m arg
      | 8 => .raiseSvn m arg
      | 9 => .unlock m arg
      | 10 => .lock m arg
      | _ => .attest m arg
    (s.reachable 0x90004 = true → 5 ≤ m.val ∨ s.get Reg.SEC_STAT_BUSY = 1 →
      Completes row s fun t => t = { s with lastStatus := .prot }) ∧
    (s.secReady m.val = true →
      let bad := match op.val with
        | 3 => s.lc ≠ 0
        | 4 => s.lc ≠ 1
        | 5 => s.lc ≠ 2
        | 7 => s.lc ≠ 1
        | 8 => s.lc ≠ 1 ∧ s.lc ≠ 2
        | 9 => s.lc ≠ 2 ∧ s.lc ≠ 3
        | 10 => False
        | 11 => s.lc ≠ 1 ∧ s.lc ≠ 2 ∧ s.lc ≠ 3
        | _ => s.lc = 4
      bad → Completes row s fun t => t.secEnded 7 false ∧ t.get Reg.SEC_STAT_LC = s.get Reg.SEC_STAT_LC ∧ t.sameMemory s)) ∧
  (∀ (m : Fin 7) (arg : BitVec 16) (s : State), s.secReady m.val = true → s.lc ≠ 4 →
    let slot := arg.toNat % 8
    let n := s.get Reg.SEC_LEN_LEN
    (∀ r c, s.checkContainer (s.stage 0 (min 49152 n)) n s.lc = (r, some c) → Completes (.program m arg) s fun t =>
      (r ≠ 0 → t.get Reg.SEC_STAT_UNSIGNED = 1) ∧ t.lastStatus = .ok ∧ t.get Reg.SEC_STAT_BUSY = 1 ∧ t.sec.op = some (0, slot + 8 * n, [], none, r) ∧ t.sameMemory s) ∧
    (∀ r, s.checkContainer (s.stage 0 (min 49152 n)) n s.lc = (r, none) → Completes (.program m arg) s fun t =>
      t.secEnded r false ∧ t.sameMemory s) ∧
    (Completes (.erase m arg) s fun t =>
      t.secEnded 0 false ∧ (∀ i, i < 49152 → t.readByte (imageSlot slot + i) = 0) ∧
      ∀ a, a < imageSlot slot ∨ imageSlot slot + 49152 ≤ a → t.readByte a = s.readByte a) ∧
    (∀ r, s.checkSlot slot s.lc = (r, none) → Completes (.load m arg) s fun t => t.secEnded r false ∧ t.sameMemory s) ∧
    (∀ r c, s.checkSlot slot s.lc = (r, some c) →
      (c.kind = 0 → Completes (.load m arg) s fun t => t.secEnded 1 (r != 0) ∧ (r ≠ 0 → t.get Reg.SEC_STAT_UNSIGNED = 1) ∧
        t.sameMemory s) ∧
      (∀ x, c.kind ≠ 0 → (targetsOf c).find? (fun y => !s.targetReady y) = some x → Completes (.load m arg) s fun t =>
        t.secEnded 6 (r != 0) ∧ (r ≠ 0 → t.get Reg.SEC_STAT_UNSIGNED = 1) ∧ t.get Reg.SEC_RES_DETAIL = targetDetail x ∧
        t.sameMemory s) ∧
      (c.kind ≠ 0 → (∀ y ∈ targetsOf c, s.targetReady y = true) → Completes (.load m arg) s fun t =>
        t.lastStatus = .ok ∧ t.get Reg.SEC_STAT_BUSY = 1 ∧ t.sec.op = some (2, slot, targetsOf c, none, r) ∧
        (∀ y ∈ targetsOf c, t.get (targetValid y) = 0) ∧ t.sameMemory s))) ∧
  (∀ (good : Bool) (slot len r : Nat) (ts : List Nat) (l : Option Nat) (s : State), s.sec.op = some (0, slot + 8 * len, ts, l, r) →
    slot < 8 → r < 12 → Completes (.programComplete good) s fun t =>
      let n := min 49152 len
      t.get Reg.SEC_STAT_BUSY = 0 ∧ t.sec.op = none ∧
      (∀ a, a < imageSlot slot ∨ imageSlot slot + 49152 ≤ a → t.readByte a = s.readByte a) ∧
      (good = true → t.get Reg.SEC_RES_CODE = r ∧ t.get Reg.SEC_RES_WARN = b2n (r != 0) ∧
        (r ≠ 0 → t.get Reg.SEC_STAT_UNSIGNED = 1) ∧
        (∀ i, i < n → t.readByte (imageSlot slot + i) = s.readByte (secStage + i)) ∧
        ∀ i, n ≤ i → i < 49152 → t.readByte (imageSlot slot + i) = 0) ∧
      (good = false → t.get Reg.SEC_RES_CODE = 9 ∧ t.get Reg.SEC_RES_WARN = b2n (r != 0) ∧ t.readLe (imageSlot slot) 4 = 0)) ∧
  (∀ (slot r n : Nat) (lost : Option Nat) (c : Container) (s : State), s.sec.op = some (2, slot, [n], lost, r) → n < 1024 → r < 12 →
    s.unwritten (Reg.CORE_CTRL_VALID n) → s.unwritten (Reg.ENTRY_IDX n) → s.unwritten (Reg.EXC_VEC_IDX n) →
    parseContainer (s.slotBytes slot) (168 + s.readLe (imageSlot slot + 36) 4) = some c → c.kind = 1 →
    Completes .loadComplete s fun t =>
      t.get Reg.SEC_STAT_BUSY = 0 ∧ t.sec.op = none ∧ t.get (Reg.CORE_CTRL_VALID n) = 1 ∧
      t.get (Reg.ENTRY_IDX n) = c.entry % 4096 ∧ t.get (Reg.EXC_VEC_IDX n) = c.vec % 4096 ∧
      (∀ i, i < 0x4000 → t.readByte (reWindow n + 0x8000 + i) = (c.body.take c.clen).getD i 0) ∧
      (∀ i, i < 0x8000 → t.readByte (reWindow n + i) = ((c.body.drop c.clen).take c.dlen).getD i 0) ∧
      (∀ a, a < reWindow n ∨ reWindow n + 0xC000 ≤ a → t.readByte a = s.readByte a) ∧
      (lost = none → t.get Reg.SEC_RES_CODE = r ∧ t.get Reg.SEC_RES_WARN = b2n (r != 0)) ∧
      (lost.isSome = true → t.get Reg.SEC_RES_CODE = 6 ∧ t.get Reg.SEC_RES_WARN = b2n (r != 0))) ∧
  (∀ (m : Fin 7) (arg : BitVec 16) (s : State), s.secReady m.val = true →
    let nonce := fun (t : State) => (List.range 4).map (fun i => t.get (Reg.SEC_NONCE_W i))
    (s.lc = 0 → s.get Reg.SEC_STAT_RNGFAIL = 1 → Completes (.provision m arg) s fun t => t.secEnded 11 false ∧ t.sameMemory s) ∧
    (s.lc = 0 → s.get Reg.SEC_STAT_RNGFAIL ≠ 1 → Completes (.provision m arg) s fun t => s.secWaits t 3) ∧
    (∀ r, s.lc = 1 → s.checkSlot (s.optByte 6 % 4) 2 = (r, none) → Completes (.sealPart m arg) s fun t => t.secEnded r false ∧
      t.sameMemory s) ∧
    (∀ r c, s.lc = 1 → s.checkSlot (s.optByte 6 % 4) 2 = (r, some c) → Completes (.sealPart m arg) s fun t => s.secWaits t 4) ∧
    (s.lc = 2 → s.tokenOk 1 (s.stage 0 164) = true → Completes (.returnPart m arg) s fun t => s.secWaits t 5) ∧
    (s.lc = 2 → s.tokenOk 1 (s.stage 0 164) = false → Completes (.returnPart m arg) s fun t =>
      t.secEnded 10 false ∧ (s.get Reg.SEC_STAT_RNGFAIL = 1 → nonce t = nonce s) ∧ t.sameMemory s) ∧
    (s.lc ≠ 4 → Completes (.voidPart m arg) s fun t => s.secWaits t 6) ∧
    (s.lc = 1 → Completes (.setkey m arg) s fun t => t.secEnded 0 false ∧ t.claimKey = ofLeBytes (s.stage 0 32) ∧ t.sameMemory s) ∧
    (s.lc = 1 ∨ s.lc = 2 → s.get Reg.SEC_MINSVN_N ≤ 32 → Completes (.raiseSvn m arg) s fun t =>
      t.secEnded 0 false ∧ t.get Reg.SEC_MINSVN_N = max (s.get Reg.SEC_MINSVN_N) (min arg.toNat (min 32 s.sec.svn)) ∧ t.sameMemory s) ∧
    (s.lc = 2 ∨ s.lc = 3 → s.tokenOk 0 (s.stage 0 164) = true → Completes (.unlock m arg) s fun t =>
      t.secEnded 0 false ∧ t.get Reg.SEC_STAT_GRANT = (fieldOf (s.stage 0 164) 32 2 &&& grantable s.lc) % 128 ∧ t.sameMemory s) ∧
    (s.lc = 2 ∨ s.lc = 3 → s.tokenOk 0 (s.stage 0 164) = false → Completes (.unlock m arg) s fun t =>
      t.secEnded 10 false ∧ t.get Reg.SEC_STAT_GRANT = s.get Reg.SEC_STAT_GRANT ∧
      (s.get Reg.SEC_STAT_RNGFAIL = 1 → nonce t = nonce s) ∧ t.sameMemory s) ∧
    (Completes (.lock m arg) s fun t => t.secEnded 0 false ∧ t.get Reg.SEC_STAT_GRANT = 0 ∧ t.sameMemory s) ∧
    (s.lc = 1 ∨ s.lc = 2 ∨ s.lc = 3 → Completes (.attest m arg) s fun t =>
      t.secEnded 0 false ∧ (∀ a, a < secStage ∨ secStage + 64 ≤ a → t.readByte a = s.readByte a) ∧
      t.readLe secStage 64 = (Config.ecdsaSign (BitVec.ofNat 256 s.sec.idKey) (s.stage 0 16 ++ leBytes 8 (s.get Reg.SEC_DEVID_ID) ++
        [BitVec.ofNat 8 s.lc, BitVec.ofNat 8 (s.get Reg.SEC_MINSVN_N)] ++ leBytes 32 s.sec.booted)).toNat)) ∧
  (∀ s : State, s.dom 1 = true → Completes .healthTestFail s fun t =>
    t.get Reg.SEC_STAT_RNGFAIL = 1 ∧ t.sameRegsBut s [Reg.SEC_STAT_RNGFAIL] ∧ t.sameMemory s)

/-- R489 to R493: engine debug from a port and through ENGDBG: the operations, and what refuses them; the other JTAG instructions, as
BYPASS with DENY where their facility is not available; how SRC_PERMIT stands under a boundary instruction (R462, R490).
The model's choices it rests on: notes/assumptions/38.md, notes/assumptions/42.md, notes/assumptions/104.md. -/
def Obligations.DebugCompletes : Prop :=
  (∀ (p : Fin 4) (m : Msg) (s : State), s.portUp p.val = true →
    (m.payload = [] → Completes (.dchal p m) s fun t => s.answers t p.val m .ok (s.regBytes Reg.SEC_NONCE_W 4) ∧ t.sameMemory s) ∧
    (s.sec.halted = true → s.isOwner p.val = true → s.dbgPermitted = true →
      (m.payload.length = 164 → Completes (.dunlock p m) s fun t => t.sec = s.sec ∧ t.sent = s.sent ∧
        t.sameRegsBut s [Reg.OWN_STAT_LEFT] ∧ t.sameMemory s) ∧
      (m.payload = [] → Completes (.dlock p m) s fun t => t.sec = s.sec ∧ t.sent = s.sent ∧ t.sameRegsBut s [Reg.OWN_STAT_LEFT] ∧
        t.sameMemory s)) ∧
    (m.payload.length = 164 → s.isOwner p.val = true → s.dbgPermitted = true → s.sec.halted = false → s.get Reg.SEC_STAT_BUSY ≠ 1 →
      (s.lc = 2 ∨ s.lc = 3 → s.tokenOk 0 m.payload = true → Completes (.dunlock p m) s fun t =>
        t.lastStatus = .ok ∧ t.get Reg.SEC_STAT_GRANT = (fieldOf m.payload 32 2 &&& grantable s.lc) % 128 ∧ t.sameMemory s) ∧
      ((s.lc ≠ 2 ∧ s.lc ≠ 3) ∨ s.tokenOk 0 m.payload = false → Completes (.dunlock p m) s fun t =>
        s.answers t p.val m (.dbg 0x11) [] ∧ t.get Reg.SEC_RES_CODE = (if s.lc ≠ 2 ∧ s.lc ≠ 3 then 7 else 10) ∧
        t.get Reg.SEC_STAT_GRANT = s.get Reg.SEC_STAT_GRANT ∧ t.sameMemory s)) ∧
    (m.payload = [] → s.isOwner p.val = true → s.dbgPermitted = true → s.sec.halted = false → s.get Reg.SEC_STAT_BUSY ≠ 1 →
      Completes (.dlock p m) s fun t =>
      s.answers t p.val m .ok [] ∧ t.get Reg.SEC_STAT_GRANT = 0 ∧ t.sameMemory s)) ∧
  (∀ (p : Fin 4) (m : Msg) (c : Fin 1026) (s : State), s.dbgReady p.val c.val = true →
    let k := s.core c.val
    let only := fun (t : State) => (∀ d, d ≠ c.val → t.core d = s.core d) ∧ t.sameMemory s
    (m.payload = leBytes 2 c.val → k.busr = none → k.bfence = false → (isCond c.val = true → s.get (Reg.CD_CTRL_HBEN (c.val - 1024)) ≠ 1) →
      Completes (.dhalt p m) s fun t => t.lastStatus = .ok ∧ (t.core c.val).dbgHalt = true ∧ only t ∧
        (s.romCore c.val = false → s.answers t p.val m .ok (leBytes 2 k.pc))) ∧
    (m.payload = leBytes 2 c.val → isCond c.val = true → s.get (Reg.CD_CTRL_HBEN (c.val - 1024)) = 1 →
      Completes (.dhalt p m) s fun t => s.answers t p.val m (.dbg 0x13) [] ∧ t.core c.val = k ∧ only t) ∧
    (m.payload = leBytes 2 c.val → k.dbgHalt = true → Completes (.drun p m) s fun t =>
      s.answers t p.val m .ok [] ∧ (t.core c.val).dbgHalt = false ∧ (t.core c.val).brkPass = true ∧ (t.core c.val).pc = k.pc ∧ only t) ∧
    (∀ (rd ra : BitVec 5), m.payload = leBytes 2 c.val ++ leBytes 2 1 → k.dbgHalt = true → s.romCore c.val = false →
      k.stepping = none → s.atBoundary c.val = true → s.irqDue c.val = false → s.eccAt (codeAddr c.val k.pc) = 0 →
      s.readLe (codeAddr c.val k.pc) 4 = wordI 0x3E rd.toNat ra.toNat 0 → legal c.val (wordI 0x3E rd.toNat ra.toNat 0) = true →
      Completes (.dstep p m) s fun t =>
        s.answers t p.val m .ok (leBytes 2 (s.pcNext c.val)) ∧ (t.core c.val).pc = s.pcNext c.val ∧ (t.core c.val).dbgHalt = true ∧
        only t) ∧
    (∀ (i : Fin 4) (en : Bool) (x : BitVec 16), m.payload = leBytes 2 c.val ++ [BitVec.ofNat 8 i.val, BitVec.ofNat 8 (b2n en)] ++
      leBytes 2 x.toNat → Completes (.dbrk p m) s fun t =>
        s.answers t p.val m .ok [] ∧ only t ∧
        (∀ b, b ∈ (t.core c.val).brks ↔ (b ∈ k.brks ∧ b / 65536 ≠ i.val) ∨ (en = true ∧ b = i.val * 65536 + x.toNat))) ∧
    (∀ (r : Fin 20), m.payload = leBytes 2 c.val ++ leBytes 2 r.val → k.dbgHalt = true → s.romCore c.val = false →
      Completes (.drd p m) s fun t => s.answers t p.val m .ok (leBytes 8 (k.reg r.val)) ∧ t.cores = s.cores ∧ t.sameMemory s) ∧
    (∀ (r : Fin 20) (v : Word64), m.payload = leBytes 2 c.val ++ leBytes 2 r.val ++ leBytes 8 v.toNat → k.dbgHalt = true →
      Completes (.dwr p m) s fun t => s.answers t p.val m .ok [] ∧ only t ∧
        ∀ x, (t.core c.val).reg x = if x = r.val ∧ x ≠ 0 then v.toNat else k.reg x) ∧
    (∀ (r : Fin 20), m.payload = leBytes 2 c.val ++ leBytes 2 r.val → k.dbgHalt = false →
      Completes (.drd p m) s fun t => s.answers t p.val m (.dbg 0x12) [] ∧ t.cores = s.cores ∧ t.sameMemory s)) ∧
  (∀ (p : Fin 4) (m : Msg) (c : BitVec 16) (s : State), s.portUp p.val = true → m.payload = leBytes 2 c.toNat →
    (s.isOwner p.val = false → Completes (.dhalt p m) s fun t => s.answers t p.val m .notOwner [] ∧ t.cores = s.cores) ∧
    (s.isOwner p.val = true → s.fac 2 = false → Completes (.dhalt p m) s fun t => s.answers t p.val m (.dbg 0x10) [] ∧ t.cores = s.cores) ∧
    (s.isOwner p.val = true → s.fac 2 = true → s.dbgReach c.toNat = false →
      Completes (.dhalt p m) s fun t => s.answers t p.val m (.dbg 0x14) [] ∧ t.cores = s.cores)) ∧
  (∀ (v : BoundScan) (s : State), s.dom 1 = true →
    let taken := fun (i : Instr) (ir : Nat) (bound : Bool) =>
      (s.fac (jtagFac ir) = true → Completes i s fun t =>
        t.get Reg.JTAG_STAT_IR = ir ∧
        t.jtag = (if bound then { s.jtag with bound := v.cells, irOut := 1, drOut := .cells (s.scanCells v.pins) }
          else { s.jtag with irOut := 1, drOut := .word (if ir = 2 then 0x1D13156B else 0) }) ∧
        (∀ q, t.scanDrives = true → pinDrives q = true → s.dom (pinDomain q) = true →
          t.scanPin q = some (match q, ir with
            | .permit _, _ => .low
            | _, 4 => .released
            | .tx _, 5 => .pulse (t.jtag.bound.contains q)
            | .tx _, 6 => .train (t.jtag.bound.contains q)
            | .scl, _ => if t.jtag.bound.contains q then .released else .low
            | .sda, _ => if t.jtag.bound.contains q then .released else .low
            | .irqN, _ => if t.jtag.bound.contains q then .released else .low
            | _, _ => if t.jtag.bound.contains q then .high else .low)) ∧
        t.sameRegsBut s [Reg.JTAG_STAT_IR] ∧ t.sameMemory s ∧ t.scanDrives = [0, 3, 4, 5, 6].contains ir ∧
        (t.scanDrives = true → s.dom 0 = true → ∀ q, t.permitPin q = .low)) ∧
      (s.fac (jtagFac ir) = false → Completes i s fun t =>
        t.get Reg.JTAG_STAT_IR = 0xFF ∧ t.get Reg.JTAG_STAT_DENY = 1 ∧ t.jtag = { s.jtag with irOut := 1, drOut := .word 0 } ∧
        t.sameRegsBut s [Reg.JTAG_STAT_IR, Reg.JTAG_STAT_DENY] ∧ t.sameMemory s)
    taken (.extest v) 0x00 true ∧ taken (.samplePreload v) 0x01 true ∧ taken .idcode 0x02 false ∧ taken .clamp 0x03 false ∧
    taken .highz 0x04 false ∧ taken (.extestPulse v) 0x05 true ∧ taken (.extestTrain v) 0x06 true ∧
    (∀ ir : BitVec 8, (6 < ir.toNat ∧ ir ≠ 0x10 ∧ ir ≠ 0xFF) ∨ (ir = 0xFF ∧ s.fac 0 = true) → Completes (.bypass ir) s fun t =>
      t.get Reg.JTAG_STAT_IR = 0xFF ∧ t.jtag = { s.jtag with irOut := 1, drOut := .word 0 } ∧ t.sameRegsBut s [Reg.JTAG_STAT_IR] ∧
      t.sameMemory s) ∧
    Completes .testLogicReset s (fun t => t.get Reg.JTAG_STAT_IR = 0x02 ∧ t.sameRegsBut s [Reg.JTAG_STAT_IR] ∧ t.sameMemory s)) ∧
  (∀ (target : BitVec 11) (arg : BitVec 13) (data : Word64) (s : State), s.dom 1 = true → s.jtag.op = none →
    (s.fac 2 = false → ∀ op, Completes (.engdbg op target arg data) s fun t =>
      t.get Reg.JTAG_STAT_IR = 0xFF ∧ t.get Reg.JTAG_STAT_DENY = 1 ∧ t.cores = s.cores ∧
      t.jtag = { s.jtag with irOut := 1, drOut := .word 0 }) ∧
    (s.fac 2 = true → ∀ op, Completes (.engdbg op target arg data) s fun t =>
      t.jtag.irOut = 1 ∧ t.jtag.drOut = .word (s.jtag.status * 2 ^ 88 + s.jtag.result % 2 ^ 64)) ∧
    (s.fac 2 = true → target.toNat < 0x402 → s.dbgReach target.toNat = false →
      Completes (.engdbg 0x13 target arg data) s fun t => t.jtag.status = 0x14 ∧ t.cores = s.cores ∧ t.get Reg.JTAG_STAT_IR = 0x10) ∧
    (s.fac 2 = true → target = 0x402 → Completes (.engdbg 0x13 target arg data) s fun t =>
      t.jtag.status = 0 ∧ t.sec.halted = true ∧ t.cores = s.cores) ∧
    (s.fac 2 = true → s.dbgReach target.toNat = true → (s.core target.toNat).dbgHalt = true → arg.toNat < 20 →
      (s.romCore target.toNat = false → Completes (.engdbg 0x17 target arg data) s fun t =>
        t.jtag.status = 0 ∧ t.jtag.result = (s.core target.toNat).reg arg.toNat ∧ t.cores = s.cores) ∧
      Completes (.engdbg 0x18 target arg data) s fun t =>
        t.jtag.status = 0 ∧ ∀ x, (t.core target.toNat).reg x =
          if x = arg.toNat ∧ x ≠ 0 then data.toNat else (s.core target.toNat).reg x))

/-- R495 to R499, R520: characters, framing errors and overruns of the receiver, a line and its answer, every command of the monitor,
and ERR 10 below its level.
The model's choices it rests on: notes/assumptions/43.md, notes/assumptions/45.md. -/
def Obligations.ConsoleCompletes : Prop :=
  (∀ (x : BitVec 153) (s : State), s.dom 1 = true →
    let b := uartByte x.toNat
    (x.getLsbD 0 = true ∨ x.getLsbD 8 = true → Completes (.uartCharacter x) s fun t => t = s) ∧
    (x.getLsbD 0 = false → x.getLsbD 8 = false → x.getLsbD 152 = false → Completes (.uartCharacter x) s fun t =>
      t.get Reg.UART_STAT_FE = 1 ∧ t.get Reg.UART_STAT_FECNT = satAdd 16 (s.get Reg.UART_STAT_FECNT) 1 ∧
      t.get Reg.UART_STAT_BRK = (if b = 0 then 1 else s.get Reg.UART_STAT_BRK) ∧ t.uart = s.uart ∧
      t.sameRegsBut s [Reg.UART_STAT_FE, Reg.UART_STAT_FECNT, Reg.UART_STAT_BRK] ∧ t.sameMemory s) ∧
    (x.getLsbD 0 = false → x.getLsbD 8 = false → x.getLsbD 152 = true → s.uartWaiting < 1024 → s.uart.spoilt = 0 → Completes (.uartCharacter x) s fun t =>
      t.sameRegsBut s [] ∧ t.sameMemory s ∧
      (b ≠ 13 → b ≠ 10 → s.uart.line.length < 600 → t.uart = { s.uart with line := s.uart.line ++ [b], cr := 0 }) ∧
      (b ≠ 13 → b ≠ 10 → 600 ≤ s.uart.line.length → t.uart.line = [] ∧ t.uart.spoilt = 2) ∧
      (b = 13 ∨ (b = 10 ∧ s.uart.cr = 0) → t.uart.line = [] ∧ t.uart.lines = s.uart.lines ++ [(0, s.uart.line)]) ∧
      (b = 10 → s.uart.cr ≠ 0 → t.uart = { s.uart with cr := 0 })) ∧
    (x.getLsbD 0 = false → x.getLsbD 8 = false → x.getLsbD 152 = true → 1024 ≤ s.uartWaiting → b ≠ 13 → b ≠ 10 → Completes (.uartCharacter x) s fun t =>
      t.get Reg.UART_STAT_ROVR = 1 ∧ t.uart.line = [] ∧ t.uart.spoilt = 1 ∧ t.uart.lines = s.uart.lines ∧
      t.sameRegsBut s [Reg.UART_STAT_ROVR]) ∧
    (x.getLsbD 0 = false → x.getLsbD 8 = false → x.getLsbD 152 = true → 1024 ≤ s.uartWaiting → b = 10 → s.uart.cr = 1 →
      Completes (.uartCharacter x) s fun t =>
        t.get Reg.UART_STAT_ROVR = 1 ∧ t.uart = { s.uart with cr := 0, lines := s.uart.lines.dropLast } ∧
        t.sameRegsBut s [Reg.UART_STAT_ROVR])) ∧
  (∀ (l : List Byte) (n : Nat) (rest : List (Nat × List Byte)) (s : State), s.uart.lines = (n, l) :: rest → s.monAlive = true →
    s.uart.secWait = false →
    Completes .monitorLine s fun t =>
      t.uart.lines = rest ∧
      (n ≠ 0 ∨ monParse l = none → s.prints t [ascii "ERR 0A"] ∧ t.sameRegsBut s [Reg.OWN_STAT_LEFT]) ∧
      (n = 0 → l = ascii "LEVEL 1" → s.levelOk 0 = true → s.fac 4 = true →
        s.prints t [ascii "OK"] ∧ t.get Reg.SEC_STAT_MLVL = 1)) ∧
  (∀ (i : Instr) (n : Nat) (s : State), s.monAlive = true → s.uart.secWait = false → s.levelOk n = false →
    (n = 1 ∧ (i = .monitorRelease ∨ i = .monitorFence ∨ i = .monitorReset ∨ (∃ x, i = .stateWrite x) ∨ (∃ a v, i = .wrWord a v) ∨
      (∃ q, i = .monitorHandover q) ∨ ∃ mac late, i = .monitorClaim mac late)) ∨
    (n = 2 ∧ ((∃ o bs, i = .stageBytes o bs) ∨ (∃ op a, i = .secCommand op a) ∨ ∃ op bs, i = .dbgOp op bs)) →
    Completes i s fun t => t.lastStatus = .dbg 0x10 ∧ s.prints t [ascii "ERR 10"] ∧ t.sameRegsBut s [Reg.OWN_STAT_LEFT] ∧ t.sameMemory s) ∧
  (∀ s : State, s.monReady 0 = true →
    (Completes .helpPrint s fun t =>
      s.prints t [okLine ((monNames.filter (fun e => decide (e.1 ≤ s.get Reg.SEC_STAT_MLVL))).map (fun e => ascii e.2))] ∧
      t.sameRegsBut s [Reg.OWN_STAT_LEFT] ∧ t.sameMemory s) ∧
    (Completes .idPrint s fun t =>
      s.prints t [okLine [hexOf 16 (s.get Reg.SEC_DEVID_ID), hexOf 2 s.lc, ascii "1D13156B", hexOf 2 (s.get Reg.SEC_MINSVN_N),
        hexOf 2 (s.get Reg.SEC_STAT_RECOV)]] ∧ t.sameRegsBut s [Reg.OWN_STAT_LEFT] ∧ t.sameMemory s) ∧
    (∀ (a : BitVec 32) (n : Fin 65), n ≠ 0 →
      let m := monMsg 1 (leBytes 4 a.toNat ++ leBytes 2 n.val)
      let r := ((s.renew 3).renewNew 3 m).runRead 3 m
      r.ended = some .ok → Completes (.rdWords a n) s fun t =>
        t.lastStatus = .ok ∧ t.lastData = r.data ∧ r.after.prints t [okLine (r.data.map (hexOf 8))]) ∧
    (Completes .statPrint s fun t =>
      s.prints t [okLine ([0x20000, 0x80084, 0x204, 0x90000].map (s.renew 3).monReg)] ∧ t.sameRegsBut s [Reg.OWN_STAT_LEFT] ∧ t.sameMemory s) ∧
    (Completes .logPrint s fun t => s.prints t (s.errOrder.map s.monEntry ++ [ascii "OK"]) ∧ t.sameRegsBut s [Reg.OWN_STAT_LEFT] ∧ t.sameMemory s) ∧
    (Completes .lifePrint s fun t =>
      s.prints t ((List.range 1024).map (fun i => hexOf 4 (32 * i) ++ 32 ::
        hexBytes (s.readBytes (lifeHalf (s.get Reg.LL_STAT_HALF) + 32 * i) 32)) ++ [ascii "OK"]) ∧ t.sameRegsBut s [Reg.OWN_STAT_LEFT] ∧ t.sameMemory s) ∧
    (Completes .chalPrint s fun t =>
      t.lastStatus = .ok ∧ s.prints t [okLine [hexBytes (s.regBytes Reg.SEC_NONCE_W 4)]] ∧ t.sameMemory s) ∧
    (∀ token : List Byte, token.length = 164 → s.isOwner 3 = true → s.dbgPermitted = true → s.get Reg.SEC_STAT_BUSY ≠ 1 →
      (s.lc = 2 ∨ s.lc = 3) → Completes (.monitorUnlock token) s fun t =>
        (s.tokenOk 0 token = true → t.lastStatus = .ok ∧
          t.get Reg.SEC_STAT_GRANT = (fieldOf token 32 2 &&& grantable s.lc) % 128) ∧
        (s.tokenOk 0 token = false → t.lastStatus = .dbg 0x11 ∧ s.prints t [ascii "ERR 11"])) ∧
    (∀ n : BitVec 8, (n.toNat ≤ 2 → s.fac (3 + n.toNat) = true → Completes (.levelSet n) s fun t =>
        t.get Reg.SEC_STAT_MLVL = n.toNat ∧ s.prints t [ascii "OK"] ∧ t.sameRegsBut s [Reg.SEC_STAT_MLVL, Reg.OWN_STAT_LEFT] ∧ t.sameMemory s) ∧
      (2 < n.toNat ∨ s.fac (3 + n.toNat) = false → Completes (.levelSet n) s fun t =>
        s.prints t [ascii "ERR 10"] ∧ t.sameRegsBut s [Reg.OWN_STAT_LEFT] ∧ t.sameMemory s))) ∧
  (∀ s : State, s.monReady 1 = true →
    (∀ late, s.eligible 3 = true → s.lc ≠ 4 → s.lc ≠ 2 → s.ownState = 0 → Completes (.monitorClaim [] late) s fun t =>
      t.lastStatus = .ok ∧ t.ownState = 1 ∧ t.get Reg.OWN_STAT_OWNER = 3 ∧ s.prints t [ascii "OK"]) ∧
    (s.isOwner 3 = true → s.ownState = 1 → Completes .monitorRelease s fun t => t.lastStatus = .ok ∧ t.ownState = 0 ∧ s.prints t [ascii "OK"]) ∧
    (∀ q : BitVec 8, s.isOwner 3 = true → s.ownState = 1 → q.toNat ≤ 3 → s.eligible q.toNat = true → Completes (.monitorHandover q) s fun t =>
      t.lastStatus = .ok ∧ t.ownState = 2 ∧ t.get Reg.OWN_STAT_TARGET = q.toNat ∧ s.prints t [ascii "OK"]) ∧
    (∀ a v : BitVec 32, s.isOwner 3 = true → (s.port 3).posted = [] →
      let m := monMsg 2 (leBytes 4 a.toNat ++ leBytes 4 v.toNat)
      let r := ((s.renew 3).renewNew 3 m).runWrite 3 m
      r.ended = some .ok → Completes (.wrWord a v) s fun t => t.lastStatus = .ok ∧ t.sameMemory r.after ∧ t.sameRegsBut r.after []) ∧
    (∀ a v : BitVec 32, s.isOwner 3 = false → Completes (.wrWord a v) s fun t =>
      t.lastStatus = .notOwner ∧ s.prints t [ascii "ERR 05"] ∧ t.sameRegsBut s [] ∧ t.sameMemory s) ∧
    (Completes .monitorFence s fun t =>
      (t.port 3).fence = (s.port 3).fence ++ [(monMsg 3 [], (s.port 3).posted.length)] ∧ t.sameMemory s) ∧
    (∀ x : BitVec 3, s.isOwner 3 = true → (s.port 3).posted = [] → s.reachable 0x20000 = true →
      (x = 1 ∨ x = 2 → Completes (.stateWrite x) s fun t => t.lastStatus = .ok ∧ t.target = x.toNat) ∧
      (x = 0 ∨ 4 < x.toNat → Completes (.stateWrite x) s fun t => t.lastStatus = .prot ∧ t.target = s.target)) ∧
    (s.isOwner 3 = true → s.dom 0 = true → Completes .monitorReset s fun t =>
      t.pwr = 5 ∧ t.get Reg.PR_RST_CAUSE_TETHER = 1 ∧ t.ownState = 0)) ∧
  (∀ s : State, s.monReady 2 = true → s.isOwner 3 = true →
    (∀ (o : BitVec 16) (bs : List Byte), o.toNat + bs.length ≤ 49152 → s.get Reg.SEC_STAT_BUSY ≠ 1 →
      Completes (.stageBytes o bs) s fun t =>
        t.lastStatus = .ok ∧ s.prints t [ascii "OK"] ∧ t.readBytes (secStage + o.toNat) bs.length = bs ∧
        ∀ a, a < secStage + o.toNat ∨ secStage + o.toNat + bs.length ≤ a → t.readByte a = s.readByte a) ∧
    (∀ arg : BitVec 16, s.get Reg.SEC_STAT_BUSY ≠ 1 → Completes (.secCommand 10 arg) s fun t =>
      t.lastStatus = .ok ∧ t.get Reg.SEC_STAT_GRANT = 0 ∧ s.prints t [ascii "OK 00000000"] ∧ t.uart.secWait = false) ∧
    (∀ arg : BitVec 16, s.get Reg.SEC_STAT_BUSY ≠ 1 → s.lc ≠ 4 → Completes (.secCommand 6 arg) s fun t =>
      t.lastStatus = .ok ∧ t.get Reg.SEC_STAT_BUSY = 1 ∧ s.prints t [] ∧ t.uart.secWait = true) ∧
    (∀ (c : Fin 1026), s.fac 2 = true → s.dbgReach c.val = true → (s.core c.val).dbgHalt = true →
      Completes (.dbgOp 0x14 (leBytes 2 c.val)) s fun t =>
        t.lastStatus = .ok ∧ (t.core c.val).dbgHalt = false ∧ s.prints t [ascii "OK"]))

/-! ### Scrubbing, the error log and the life log -/

/-- R501 to R504, R512, R534: the scrubber reads a word; an upset of a word that the scrubber does not read stays; a hit-queue word or a
monitor result has a bit reversed; a word of a record, a block, a brick or a lane's payload takes an error; a copy of triple-held state is rewritten, or, where all three copies differ, the field or state machine takes its
reset value, an error is logged, and, outside the keels, nothing else happens; a recovery period ends.
The model's choices it rests on: notes/assumptions/5.md, notes/assumptions/50.md, notes/assumptions/58.md, notes/assumptions/101.md, notes/assumptions/102.md. -/
def Obligations.ScrubbingCompletes : Prop :=
  (∀ (addr : Nat) (found : Fin 3) (s : State),
    let a := addr / 4 * 4
    (scrubMem a = none → unscrubbed a = false → Completes (.scrub (.word addr) found) s fun t => t = s) ∧
    (scrubMem a = none → unscrubbed a = true →
      s.dom (if a < 2 ^ 32 then addrDom a else if a < condData 1 then 19 else 20) = true →
      Completes (.scrub (.word addr) found) s fun t =>
        t.eccAt a = max found.val (s.eccAt a) ∧ (∀ x, x / 4 ≠ a / 4 → t.eccAt x = s.eccAt x) ∧ t.sameRegsBut s [] ∧ t.sameMemory s) ∧
    (∀ m, scrubMem a = some m →
      let on := s.dom (if a < 2 ^ 32 then addrDom a else if m.src = 11 then 19 + m.unit else if m.src = 14 then 34 else 1)
      (on = false → Completes (.scrub (.word addr) found) s fun t => t = s) ∧
      (on = true → max found.val (s.eccAt a) = 0 → Completes (.scrub (.word addr) found) s fun t => t = s) ∧
      (on = true → max found.val (s.eccAt a) = 1 → Completes (.scrub (.word addr) found) s fun t =>
        t.eccAt a = 0 ∧ t.get (Reg.EL_SEU_COUNT m.cls) = satAdd 32 (s.get (Reg.EL_SEU_COUNT m.cls)) 1 ∧
        t.sameRegsBut s [Reg.EL_SEU_COUNT m.cls] ∧ t.sameMemory s) ∧
      (on = true → 2 ≤ max found.val (s.eccAt a) → m.kind = .keep ∨ m.kind = .params → Completes (.scrub (.word addr) found) s fun t =>
        t.eccAt a = 2 ∧ t.get Reg.EL_STAT_NEXTSEQ = (s.get Reg.EL_STAT_NEXTSEQ + 1) % 2 ^ 16 ∧
        (t.get Reg.PR_IRQ_STAT_IRQ).testBit 0 = true ∧ t.sameMemory s) ∧
      (on = true → 2 ≤ max found.val (s.eccAt a) → m.kind = .reload → Completes (.scrub (.word addr) found) s fun t =>
        t.eccAt a = 0 ∧ t.get Reg.EL_STAT_NEXTSEQ = (s.get Reg.EL_STAT_NEXTSEQ + 1) % 2 ^ 16 ∧
        (t.get Reg.PR_IRQ_STAT_IRQ).testBit 0 = true ∧ t.sameMemory s) ∧
      (∀ u i act, on = true → 2 ≤ max found.val (s.eccAt a) → m.kind = .fret u i act → Completes (.scrub (.word addr) found) s fun t =>
        (t.interp u i).shd = [] ∧ (t.interp u i).act = (s.interp u i).act ∧ t.sameMemory s ∧
        t.get Reg.EL_STAT_NEXTSEQ = (s.get Reg.EL_STAT_NEXTSEQ + 1) % 2 ^ 16 ∧
        (act = true → (t.interp u i).nominalPending = true ∧ t.get (fAge u i) = s.get (fAge u i)) ∧
        (act = false → (t.interp u i).nominalPending = (s.interp u i).nominalPending ∧ t.get (fAge u i) = 0xFFFFFF ∧
          t.fbit (fStale u) i = true)))) ∧
  (∀ (n : Fin 1024) (i : Fin 64) (bit : Fin 66) (found : Fin 3) (h : HqWord) (s : State), found ≠ 0 → (s.region n.val).hq[i.val]? = some h →
    Completes (.scrub (.hit n i bit) found) s fun t =>
      t = s.setRegion n.val { s.region n.val with hq := (s.region n.val).hq.set i.val (h.flip bit.val) }) ∧
  (∀ (i : Fin 64) (bit : Fin 66) (found : Fin 3) (e : MonEntry) (s : State), found ≠ 0 → s.mon.queue[i.val]? = some e →
    Completes (.scrub (.result i bit) found) s fun t =>
      t = { s with mon := { s.mon with queue := s.mon.queue.set i.val (e.flip bit.val) } }) ∧
  (∀ (c : Fin 1024) (i : Fin 32) (w : Nat) (found : Fin 3) (x : OutEntry) (s : State), found ≠ 0 → (s.core c.val).outq[i.val]? = some x →
    w < x.words.length → Completes (.scrub (.output c i w) found) s fun t =>
      t.sameRegsBut s [] ∧ t.sameMemory s ∧ ∃ y, (t.core c.val).outq = (s.core c.val).outq.set i.val y ∧ y.ecc = max x.ecc found.val ∧
        wordsHit x.words y.words w found.val) ∧
  (∀ (src : Fin 35) (i w : Nat) (found : Fin 3) (x : MergeItem) (s : State), found ≠ 0 → (SMap.get s.merge src.val [])[i]? = some x →
    w < x.words.length → Completes (.scrub (.trunk src i w) found) s fun t =>
      t.sameRegsBut s [] ∧ t.sameMemory s ∧ ∃ y, SMap.get t.merge src.val [] = (SMap.get s.merge src.val []).set i y ∧
        y.ecc = max x.ecc found.val ∧ wordsHit x.words y.words w found.val) ∧
  (∀ (k : Fin 2) (q : Fin 64) (w : Nat) (found : Fin 3) (x : Block) (s : State), found ≠ 0 → w < x.words.length →
    ((s.stream k.val q.val).block = some x → Completes (.scrub (.staging k q 0 w) found) s fun t =>
      t.sameRegsBut s [] ∧ t.sameMemory s ∧ ∃ y, (t.stream k.val q.val).block = some y ∧ y.ecc = max x.ecc found.val ∧
        wordsHit x.words y.words w found.val) ∧
    (∀ i, (s.stream k.val q.val).wait[i]? = some x → Completes (.scrub (.staging k q (i + 1) w) found) s fun t =>
      t.sameRegsBut s [] ∧ t.sameMemory s ∧ ∃ y, (t.stream k.val q.val).wait = (s.stream k.val q.val).wait.set i y ∧
        y.ecc = max x.ecc found.val ∧ wordsHit x.words y.words w found.val) ∧
    (∀ (g : Fin 16) (i : Nat), (SMap.get (s.keel k.val).queues g.val [])[i]? = some x → Completes (.scrub (.queue k g i w) found) s fun t =>
      t.sameRegsBut s [] ∧ t.sameMemory s ∧ ∃ y, SMap.get (t.keel k.val).queues g.val [] = (SMap.get (s.keel k.val).queues g.val []).set i y ∧
        y.ecc = max x.ecc found.val ∧ wordsHit x.words y.words w found.val)) ∧
  (∀ (k : Fin 2) (i w : Nat) (found : Fin 3) (s : State), found ≠ 0 →
    (∀ x : Staged, (s.spill k.val).staged[i]? = some x → 8 * w < x.bytes.length → Completes (.scrub (.brick k i w) found) s fun t =>
      t.sameRegsBut s [] ∧ t.sameMemory s ∧ ∃ y, (t.spill k.val).staged = (s.spill k.val).staged.set i y ∧ y.ecc = max x.ecc found.val ∧
        bytesHit x.bytes y.bytes w found.val) ∧
    (∀ (g : Fin 16) (x : DrainBlk), (SMap.get (s.spill k.val).drained g.val [])[i]? = some x → 8 * w < x.bytes.length →
      Completes (.scrub (.drain k g i w) found) s fun t =>
        t.sameRegsBut s [] ∧ t.sameMemory s ∧ ∃ y, SMap.get (t.spill k.val).drained g.val [] =
          (SMap.get (s.spill k.val).drained g.val []).set i y ∧ y.ecc = max x.ecc found.val ∧ bytesHit x.bytes y.bytes w found.val)) ∧
  (∀ (i : Fin 36) (w : Nat) (found : Fin 3) (s : State), found ≠ 0 → w < (s.tx i.val).payload.length →
    Completes (.scrub (.lane i w) found) s fun t =>
      t.sameRegsBut s [] ∧ t.sameMemory s ∧ (t.tx i.val).ecc = (if found.val = 1 then w + 1 else (s.tx i.val).ecc) ∧
      wordsHit ((s.tx i.val).payload.map (·.2)) ((t.tx i.val).payload.map (·.2)) w found.val ∧
      (t.tx i.val).payload.map (·.1) = (s.tx i.val).payload.map (·.1)) ∧
  (∀ (x : Triple) (b : Bool) (s : State), tripleHeld x = false ∨ s.dom (addrDom (tripleAddr x)) = false →
    Completes (.tmrUpset x b) s fun t => t = s) ∧
  (∀ (x : Triple) (s : State), tripleHeld x = true → s.dom (addrDom (tripleAddr x)) = true → Completes (.tmrUpset x false) s fun t =>
    t.get (Reg.EL_SEU_COUNT 7) = satAdd 32 (s.get (Reg.EL_SEU_COUNT 7)) 1 ∧ t.sameRegsBut s [Reg.EL_SEU_COUNT 7] ∧ t.sameMemory s) ∧
  (∀ (f : Machine.Field) (s : State), fieldOfKey f.key = some f → f.triple = true → s.dom (addrDom (f.key / 8)) = true →
    tripleKeel? (.field f.key) = none → Completes (.tmrUpset (.field f.key) true) s fun t =>
      t.get f = s.resetValue f % 2 ^ f.width ∧ t.get (Reg.EL_SEU_COUNT 7) = satAdd 32 (s.get (Reg.EL_SEU_COUNT 7)) 1 ∧
      t.get Reg.EL_STAT_NEXTSEQ = (s.get Reg.EL_STAT_NEXTSEQ + 1) % 2 ^ 16 ∧ (t.get Reg.PR_IRQ_STAT_IRQ).testBit 0 = true ∧
      (∀ g : Machine.Field, fieldOfKey g.key = some g → g.triple = true → g.key ≠ f.key → t.get g = s.get g) ∧ t.sameMemory s) ∧
  (∀ (m : Control) (s : State), s.dom (addrDom (controlAddr m)) = true → tripleKeel? (.control m) = none →
    Completes (.tmrUpset (.control m) true) s fun t =>
      t.get Reg.EL_STAT_NEXTSEQ = (s.get Reg.EL_STAT_NEXTSEQ + 1) % 2 ^ 16 ∧ (t.get Reg.PR_IRQ_STAT_IRQ).testBit 0 = true ∧
      (m = .power → t.pwr = 5 ∧ t.pw.stage = 0 ∧ t.pw.boot = 3) ∧
      (m = .arbiter → t.get Reg.ARB_STAT_GRANT = 0 ∧ t.get Reg.ARB_STAT_PHASE = 0 ∧ t.failover = none) ∧
      (m = .memory → t.mc.step = 0) ∧ (m = .security → t.sec.op = none) ∧ (m = .digitiser → t.wave.phase = 0) ∧
      (∀ u i, m = .interpolator u i → t.interp u.val i.val = { s.interp u.val i.val with phase := .free })) ∧
  (∀ (b : Fin 1027) (s : State),
    ((s.escOf b.val).busy = true ∨ (s.escOf b.val).step = 0 → Completes (.recoveryPeriodEnd b) s fun t => t = s) ∧
    ((s.escOf b.val).busy = false → (s.escOf b.val).step ≠ 0 → Completes (.recoveryPeriodEnd b) s fun t =>
      t.escOf b.val = EscSt.reset ∧ (∀ c, c ≠ b.val → t.escOf c = s.escOf c) ∧ t.regs = s.regs ∧ t.mem = s.mem ∧
      (∀ d, (s.escOf b.val).doneAt = some d → s.time.run = true →
        t.time.tick = max s.time.tick (d + 1250000 * max 1 (s.get Reg.EL_ESC_WIN)))))

/-- R510: a read of word 0 of an entry latches words 1 to 3 for its master, and a read of one of them shows the latch; CLR empties every
slot, leaves SEQ, and an entry written after it stands.
The model's choices it rests on: notes/assumptions/93.md, notes/assumptions/105.md. -/
def Obligations.ErrorLogCompletes : Prop :=
  (∀ (s : State), s.reachable 0xA0004 = true → s.cycNow.errs = [] → Completes .errorLogClear s fun t =>
    t.lastStatus = .ok ∧ (∀ i, i < 32 → t.get (Reg.EL_ENTRY0_SEV i) = 0) ∧ t.get Reg.EL_STAT_COUNT = 0 ∧ t.errOrder = [] ∧
    t.get Reg.EL_STAT_NEXTSEQ = s.get Reg.EL_STAT_NEXTSEQ ∧ t.get Reg.EL_STAT_OVF = s.get Reg.EL_STAT_OVF ∧ t.sameMemory s ∧
    (∀ m i j, i < 32 → 1 ≤ j → j ≤ 3 →
      SMap.find? t.latchHi (m * 2 ^ 32 + (0xA0100 + 0x10 * i + 4 * j)) = SMap.find? s.latchHi (m * 2 ^ 32 + (0xA0100 + 0x10 * i + 4 * j))) ∧
    (∀ e : Err, (t.err e).get (Reg.EL_ENTRY0_SEV 0) = e.sev % 4 ∧ (t.err e).get (Reg.EL_ENTRY0_SEQ 0) = s.get Reg.EL_STAT_NEXTSEQ % 2 ^ 16)) ∧
  (∀ (s : State) (w0 w1 w2 w3 : Nat), s.reachable 0xA0004 = true → s.cycNow.errs = [[w0, w1, w2, w3]] → bits w0 14 2 ≠ 0 →
    Completes .errorLogClear s fun t =>
      t.errOrder = [0] ∧ t.get (Reg.EL_ENTRY0_SEV 0) = bits w0 14 2 ∧ t.get (Reg.EL_ENTRY0_SEQ 0) = bits w0 16 16 ∧
      t.get (Reg.EL_ENTRY1_INFO 0) = bits w1 0 22 ∧ t.get (Reg.EL_ENTRY2_SECS 0) = w2 % 2 ^ 32 ∧ t.get (Reg.EL_ENTRY3_NS 0) = bits w3 0 30 ∧
      t.get Reg.EL_STAT_COUNT = 1 ∧ (∀ i, 0 < i → i < 32 → t.get (Reg.EL_ENTRY0_SEV i) = 0) ∧ t.sameMemory s) ∧
  (∀ (m : Fin 7) (i : Fin 32) (s : State),
    let a := 0xA0100 + 0x10 * i.val
    s.reachable a = true → Completes (.errorEntryRead m i) s fun t =>
      t.lastStatus = .ok ∧
      t.lastData = [s.get (Reg.EL_ENTRY0_SEQ i.val) * 0x10000 + s.get (Reg.EL_ENTRY0_SEV i.val) * 0x4000 +
        s.get (Reg.EL_ENTRY0_SOURCE i.val) * 0x100 + s.get (Reg.EL_ENTRY0_CODE i.val)] ∧
      SMap.find? t.latchHi (m.val * 2 ^ 32 + a + 4) = some (s.get (Reg.EL_ENTRY1_UNIT i.val) * 2 ^ 22 + s.get (Reg.EL_ENTRY1_INFO i.val)) ∧
      SMap.find? t.latchHi (m.val * 2 ^ 32 + a + 8) = some (s.get (Reg.EL_ENTRY2_SECS i.val)) ∧
      SMap.find? t.latchHi (m.val * 2 ^ 32 + a + 12) =
        some (s.get (Reg.EL_ENTRY3_NEST i.val) * 2 ^ 31 + s.get (Reg.EL_ENTRY3_ESC i.val) * 2 ^ 30 + s.get (Reg.EL_ENTRY3_NS i.val)) ∧
      t.sameRegsBut s [] ∧ t.sameMemory s ∧
      (∀ (j : Fin 3) (u : State), u.reachable a = true → u.latchHi = t.latchHi →
        Completes (.lowWordRead m (BitVec.ofNat 32 (a + 4 * (j.val + 1)))) u fun w =>
          w.lastStatus = .ok ∧ some w.lastData = (SMap.find? t.latchHi (m.val * 2 ^ 32 + a + 4 * (j.val + 1))).map (fun x => [x])))

/-- R514 to R518: samples; a commit is asked for, waits for its hold-up check, retries and ends.
The model's choices it rests on: notes/assumptions/9.md, notes/assumptions/47.md, notes/assumptions/53.md, notes/assumptions/93.md, notes/assumptions/96.md. -/
def Obligations.LifeLogCompletes : Prop :=
  (∀ (p : Nat) (s : State), s.pwr = p → 1 ≤ p → p ≤ 4 → Completes .histogramSample s fun t =>
    SMap.get t.life.delta (8 + 4 * (p - 1)) 0 = SMap.get s.life.delta (8 + 4 * (p - 1)) 0 + 1 ∧ t.regs = s.regs ∧ t.mem = s.mem ∧
    (p = 1 → ∀ o, o ≠ 8 → SMap.get t.life.delta o 0 = SMap.get s.life.delta o 0)) ∧
  (∀ (s : State), s.dom 1 = true → s.get Reg.LL_STAT_BUSY ≠ 1 → 0 ∉ s.checks →
    (Completes .lifeLogCommit s fun t =>
      t.get Reg.LL_STAT_PEND = 1 ∧ t.checks = s.checks ++ [0] ∧ t.life = { s.life with notable := false } ∧
      t.sameRegsBut s [Reg.LL_STAT_PEND] ∧ t.sameMemory s) ∧
    (s.reachable 0xA0400 = true → Completes .commitRequest s fun t =>
      t.lastStatus = .ok ∧ t.get Reg.LL_CTRL_COMMIT = 1 ∧ t.get Reg.LL_STAT_PEND = 1 ∧ t.checks = s.checks ++ [0] ∧
      t.sameRegsBut s [Reg.LL_CTRL_COMMIT, Reg.LL_STAT_PEND] ∧ t.sameMemory s) ∧
    (s.get Reg.LL_STAT_PEND = 1 → Completes .deferredCommitRetry s fun t =>
      t.get Reg.LL_STAT_PEND = 1 ∧ t.checks = s.checks ++ [0] ∧ t.sameRegsBut s [Reg.LL_STAT_PEND] ∧ t.sameMemory s) ∧
    (s.get Reg.LL_STAT_PEND ≠ 1 → Completes .deferredCommitRetry s fun t => t = s)) ∧
  (∀ (delta : SMap Nat) (high : List (List Nat)) (temp : Option (Int × Nat)) (s : State),
    let h := s.get Reg.LL_STAT_HALF
    let b := lifeHalf (1 - h)
    s.life.taken = some (delta, high, temp) → s.get Reg.LL_STAT_BUSY = 1 → h ≤ 1 → s.memWf = true →
    (∀ e ∈ delta, 8 ≤ e.1 ∧ e.1 + 8 ≤ 0x580) → (∀ ws ∈ high, ws.length = 4) →
    (s.metWrote Reg.LL_CTRL_COMMIT ≠ 0 → s.dom 1 = true → 0 ∉ s.checks → Completes .lifeLogCommitDone s fun t =>
      t.get Reg.LL_STAT_HALF = 1 - h ∧ t.get Reg.LL_STAT_BUSY = 0 ∧ t.get Reg.LL_CTRL_COMMIT = 1 ∧ t.get Reg.LL_STAT_PEND = 1 ∧
      t.checks = s.checks ++ [0]) ∧
    (s.unwritten Reg.LL_CTRL_COMMIT → Completes .lifeLogCommitDone s fun t =>
      t.get Reg.LL_STAT_HALF = 1 - h ∧ t.get Reg.LL_STAT_BUSY = 0 ∧ t.get Reg.LL_STAT_PEND = 0 ∧ t.get Reg.LL_CTRL_COMMIT = 0 ∧
      t.life = { s.life with taken := none } ∧ t.halfGood (1 - h) = true ∧
      t.readLe (b + 4) 4 = (s.readLe (lifeHalf h + 4) 4 + 1) % 2 ^ 32 ∧
      (∀ o n, delta = [(o, n)] → temp = none →
        t.readLe (b + o) (lifeWidth o) = satAdd (8 * lifeWidth o) (s.readLe (lifeHalf h + o) (lifeWidth o)) n) ∧
      (∀ a, a < b ∨ b + 0x8000 ≤ a → t.readByte a = s.readByte a) ∧
      t.sameRegsBut s [Reg.LL_STAT_HALF, Reg.LL_STAT_BUSY, Reg.LL_STAT_PEND, Reg.LL_CTRL_COMMIT])) ∧
  (∀ (uv : BitVec 24) (cells : Fin 4) (z : Bool) (c : Nat) (rest : List Nat) (s : State), s.checks = c :: rest →
    let ok := s.holdupOk (if c = 0 then 2400 else if c = 1 then 600 else 1000) uv.toNat
    (c = 0 → ok = false → s.metWrote Reg.LL_CTRL_COMMIT ≠ 0 → s.dom 1 = true → s.get Reg.LL_STAT_BUSY ≠ 1 → 0 ∉ rest →
      Completes (.holdupCheck uv cells z) s fun t =>
        t.get Reg.LL_STAT_PEND = 1 ∧ t.get Reg.LL_CTRL_COMMIT = 1 ∧ t.checks = rest ++ [0] ∧ t.get Reg.LL_STAT_HPASS = 0) ∧
    (s.unwritten Reg.LL_CTRL_COMMIT → s.unwritten Reg.OPT_CTRL_PROG → Completes (.holdupCheck uv cells z) s fun t =>
      t.checks = rest ∧ t.get Reg.LL_STAT_HPASS = b2n ok ∧
      (s.dom 34 = true → t.get Reg.LL_STAT_VHOLD = uv.toNat / 1000 % 2 ^ 16) ∧
      (c = 0 → ok = true → t.get Reg.LL_STAT_BUSY = 1 ∧ t.life.delta = [] ∧ t.life.taken.isSome = true ∧ t.sameMemory s) ∧
      (c = 0 → ok = false → t.get Reg.LL_STAT_PEND = 1 ∧ t.get Reg.LL_CTRL_COMMIT = 0 ∧ t.sameMemory s ∧
        t.get Reg.LL_STAT_BUSY = s.get Reg.LL_STAT_BUSY) ∧
      (c = 1 → ok = true → t.sameRegsBut s [Reg.LL_STAT_HPASS, Reg.LL_STAT_VHOLD] ∧ t.sameMemory s) ∧
      (c = 1 → ok = false → t.get Reg.OPT_CTRL_PROG = 0 ∧ t.get Reg.OPT_STAT_PERR = 1 ∧ t.sameMemory s) ∧
      (∀ op sl ts lost r, 2 ≤ c → s.sec.op = some (op, sl, ts, lost, r) → 3 ≤ op → op ≤ 6 →
        let rng : Bool := op == 3 && s.get Reg.SEC_STAT_RNGFAIL == 1
        (ok = false → t.get Reg.SEC_RES_CODE = 8 ∧ t.get Reg.SEC_STAT_LC = s.get Reg.SEC_STAT_LC) ∧
        (ok = true → rng = true → t.get Reg.SEC_RES_CODE = 11 ∧ t.get Reg.SEC_STAT_LC = s.get Reg.SEC_STAT_LC) ∧
        (ok = true → rng = false → cells.val < 2 → t.get Reg.SEC_RES_CODE = 9 ∧ t.get Reg.SEC_STAT_LC = s.get Reg.SEC_STAT_LC) ∧
        (ok = true → rng = false → 2 ≤ cells.val → t.get Reg.SEC_RES_CODE = 0 ∧ t.get Reg.SEC_STAT_LC = lcOfFlags (setBit s.sec.flags (op - 3)) ∧
          t.get Reg.SEC_STAT_GRANT = 0 ∧ t.sec.flags = setBit s.sec.flags (op - 3)) ∧
        (ok = true → 2 ≤ cells.val → 5 ≤ op → (z = true → t.claimKey = 0 ∧ t.get Reg.SEC_STAT_ZPEND = 0) ∧
          (z = false → t.sec.zpend = true ∧ t.get Reg.SEC_STAT_ZPEND = 1)) ∧
        t.get Reg.SEC_STAT_BUSY = 0 ∧ t.sec.op = none)))

/-! ### The whole block -/

/-- What reset leaves: no command waits, nothing is listed in memory, every field reads its reset value, no keel holds the grant, no
port owns the device, the time base stands.
The model's choices it rests on: notes/assumptions/5.md, notes/assumptions/15.md. -/
def Obligations.ResetStateIsQuiet : Prop :=
  State.reset.pending = [] ∧ State.reset.mem = [] ∧ State.reset.memWf = true ∧ State.reset.grantWf = true ∧ State.reset.active? = none ∧
  State.reset.ownState = 0 ∧ State.reset.time.run = false ∧ State.reset.now = 0 ∧ (∀ f : Machine.Field, State.reset.get f = f.rst) ∧
  (∀ a, isCode a = false → State.reset.readByte a = 0)

/-- R122, R398, R500, R519: whatever command stands at the front, a step keeps the canonical form of the memory: addresses strictly
rising, and no data byte listed that reads as an unlisted one does.
The model's choices it rests on: notes/assumptions/5.md. -/
def Obligations.MemoryStaysCanonical : Prop := ∀ s t : State, s.memWf = true → step s = .next t → t.memWf = true

/-- R393: no step raises both grant lines: GRANT names no keel, keel A or keel B, and a fail-over or restart in progress is of one of
them. -/
def Obligations.OneGrantLineAtATime : Prop := ∀ s t : State, s.grantWf = true → step s = .next t → t.grantWf = true

/-- R274 to R285: the packer and the unpacker agree: of every block of whole records, with any header, what is sent unpacks to its
words. -/
def Obligations.PackedBlocksUnpack : Prop :=
  ∀ (b : Block) (spill : Bool), 1 ≤ b.words.length → b.words.length ≤ 512 → wholeRecords b.words.length b.words = true →
    unpackBlock (blockBytes b spill) = some b.words

/-- R153, R159, R493: an instruction row runs what the debugger's single step runs on the row's word: the two readings of the encoding,
by row and by word, agree.
The model's choices it rests on: notes/assumptions/37.md. -/
def Obligations.RowsRunTheirWords : Prop :=
  ∀ (i : Instr) (c w : Nat) (s : State), insnWord i = some (c, w) → s.readyFor c w = true → exec i s = .next ((s.fetched c).runWord c w)
end

