-- ==== Sys2Proof/Laws/State.lean ====
section
/-! SUPPORT. The laws of the state's updates: sparse tables read after they are set, registers read after they are put, what
each update leaves alone. -/
namespace Sys2Proof.Machine

/-! ### Sparse tables -/

theorem SMap.get_ins_same {α : Type} (m : SMap α) (k : Nat) (v d : α) : SMap.get (SMap.ins m k v) k d = v := by
  induction m with
  | nil => simp [SMap.ins, SMap.get]
  | cons e r ih =>
    obtain ⟨k', v'⟩ := e
    simp only [SMap.ins]
    split
    · simp [SMap.get]
    · split
      · simp [SMap.get]
      · simp [SMap.get, *]

theorem SMap.get_ins_ne {α : Type} (m : SMap α) {j k : Nat} (v d : α) (h : j ≠ k) :
    SMap.get (SMap.ins m k v) j d = SMap.get m j d := by
  induction m with
  | nil => simp [SMap.ins, SMap.get, h]
  | cons e r ih =>
    obtain ⟨k', v'⟩ := e
    simp only [SMap.ins]
    split
    · simp [SMap.get, h]
    · split
      · subst k'; simp [SMap.get, h]
      · simp [SMap.get, ih]

theorem SMap.get_erase_same {α : Type} (m : SMap α) (k : Nat) (d : α) : SMap.get (SMap.erase m k) k d = d := by
  induction m with
  | nil => rfl
  | cons e r ih =>
    obtain ⟨k', v'⟩ := e
    simp only [SMap.erase]
    split
    · exact ih
    · simp [SMap.get, *]

theorem SMap.get_erase_ne {α : Type} (m : SMap α) {j k : Nat} (d : α) (h : j ≠ k) :
    SMap.get (SMap.erase m k) j d = SMap.get m j d := by
  induction m with
  | nil => rfl
  | cons e r ih =>
    obtain ⟨k', v'⟩ := e
    simp only [SMap.erase]
    split
    · subst k'; simp [SMap.get, h, ih]
    · simp [SMap.get, ih]

@[simp] theorem SMap.get_set_same {α : Type} [DecidableEq α] (m : SMap α) (k : Nat) (v d : α) :
    SMap.get (SMap.set m k v d) k d = v := by
  unfold SMap.set
  split
  · subst v; exact SMap.get_erase_same m k d
  · exact SMap.get_ins_same m k v d

theorem SMap.get_set_ne {α : Type} [DecidableEq α] (m : SMap α) {j k : Nat} (v d d' : α) (h : j ≠ k) :
    SMap.get (SMap.set m k v d) j d' = SMap.get m j d' := by
  unfold SMap.set
  split
  · exact SMap.get_erase_ne m d' h
  · exact SMap.get_ins_ne m v d' h

@[simp] theorem SMap.find?_ins_same {α : Type} (m : SMap α) (k : Nat) (v : α) :
    SMap.find? (SMap.ins m k v) k = some v := by
  induction m with
  | nil => simp [SMap.ins, SMap.find?]
  | cons e r ih =>
    obtain ⟨k', v'⟩ := e
    simp only [SMap.ins]
    split
    · simp [SMap.find?]
    · split
      · simp [SMap.find?]
      · simp [SMap.find?, *]

theorem SMap.find?_ins_ne {α : Type} (m : SMap α) {j k : Nat} (v : α) (h : j ≠ k) :
    SMap.find? (SMap.ins m k v) j = SMap.find? m j := by
  induction m with
  | nil => simp [SMap.ins, SMap.find?, h]
  | cons e r ih =>
    obtain ⟨k', v'⟩ := e
    simp only [SMap.ins]
    split
    · simp [SMap.find?, h]
    · split
      · subst k'; simp [SMap.find?, h]
      · simp [SMap.find?, ih]

@[simp] theorem SMap.find?_erase_same {α : Type} (m : SMap α) (k : Nat) : SMap.find? (SMap.erase m k) k = none := by
  induction m with
  | nil => rfl
  | cons e r ih =>
    obtain ⟨k', v'⟩ := e
    simp only [SMap.erase]
    split
    · exact ih
    · simp [SMap.find?, *]

theorem SMap.find?_erase_ne {α : Type} (m : SMap α) {j k : Nat} (h : j ≠ k) :
    SMap.find? (SMap.erase m k) j = SMap.find? m j := by
  induction m with
  | nil => rfl
  | cons e r ih =>
    obtain ⟨k', v'⟩ := e
    simp only [SMap.erase]
    split
    · subst k'; simp [SMap.find?, h, ih]
    · simp [SMap.find?, ih]

/-! ### Registers -/

/-- A field reads what was put into it, cut to its width. -/
@[simp] theorem State.get_put_same (s : State) (f : Field) (v : Nat) : (s.put f v).get f = v % 2 ^ f.width := by
  simp [State.get, State.put]

/-- A field keeps its value when another is put. -/
theorem State.get_put_ne (s : State) {f g : Field} (v : Nat) (h : g.key ≠ f.key) : (s.put f v).get g = s.get g := by
  simp [State.get, State.put, SMap.get_set_ne _ _ _ _ h]

theorem State.get_put (s : State) (f g : Field) (v : Nat) :
    (s.put f v).get g = if g = f then v % 2 ^ f.width else if g.key = f.key then (s.put f v).get g else s.get g := by
  split
  · subst g; simp
  · split
    · rfl
    · exact State.get_put_ne s v ‹_›

/-- What a put leaves alone: everything but the registers. -/
theorem State.put_eq (s : State) (f : Field) (v : Nat) : s.put f v = { s with regs := (s.put f v).regs } := rfl

end Sys2Proof.Machine
end

