-- ==== Sys2Proof/Laws/Fields.lean ====
section
/-! SUPPORT. What each update of the state leaves alone: one lemma per field per update. -/
namespace Sys2Proof.Machine


/-! ### put -/

@[simp] theorem State.put_pending (s : State) (f : Field) (v : Nat) : (s.put f v).pending = s.pending := rfl
@[simp] theorem State.put_latchHi (s : State) (f : Field) (v : Nat) : (s.put f v).latchHi = s.latchHi := rfl
@[simp] theorem State.put_heldLo (s : State) (f : Field) (v : Nat) : (s.put f v).heldLo = s.heldLo := rfl
@[simp] theorem State.put_mem (s : State) (f : Field) (v : Nat) : (s.put f v).mem = s.mem := rfl
@[simp] theorem State.put_memGen (s : State) (f : Field) (v : Nat) : (s.put f v).memGen = s.memGen := rfl
@[simp] theorem State.put_ecc (s : State) (f : Field) (v : Nat) : (s.put f v).ecc = s.ecc := rfl
@[simp] theorem State.put_freeCtr (s : State) (f : Field) (v : Nat) : (s.put f v).freeCtr = s.freeCtr := rfl
@[simp] theorem State.put_lastStatus (s : State) (f : Field) (v : Nat) : (s.put f v).lastStatus = s.lastStatus := rfl
@[simp] theorem State.put_lastData (s : State) (f : Field) (v : Nat) : (s.put f v).lastData = s.lastData := rfl
@[simp] theorem State.put_time (s : State) (f : Field) (v : Nat) : (s.put f v).time = s.time := rfl
@[simp] theorem State.put_cyc (s : State) (f : Field) (v : Nat) : (s.put f v).cyc = s.cyc := rfl
@[simp] theorem State.put_errOrder (s : State) (f : Field) (v : Nat) : (s.put f v).errOrder = s.errOrder := rfl
@[simp] theorem State.put_errOpen (s : State) (f : Field) (v : Nat) : (s.put f v).errOpen = s.errOpen := rfl
@[simp] theorem State.put_life (s : State) (f : Field) (v : Nat) : (s.put f v).life = s.life := rfl
@[simp] theorem State.put_hitWords (s : State) (f : Field) (v : Nat) : (s.put f v).hitWords = s.hitWords := rfl
@[simp] theorem State.put_ports (s : State) (f : Field) (v : Nat) : (s.put f v).ports = s.ports := rfl
@[simp] theorem State.put_sent (s : State) (f : Field) (v : Nat) : (s.put f v).sent = s.sent := rfl
@[simp] theorem State.put_marks (s : State) (f : Field) (v : Nat) : (s.put f v).marks = s.marks := rfl
@[simp] theorem State.put_pixs (s : State) (f : Field) (v : Nat) : (s.put f v).pixs = s.pixs := rfl
@[simp] theorem State.put_latches (s : State) (f : Field) (v : Nat) : (s.put f v).latches = s.latches := rfl
@[simp] theorem State.put_hits (s : State) (f : Field) (v : Nat) : (s.put f v).hits = s.hits := rfl
@[simp] theorem State.put_trains (s : State) (f : Field) (v : Nat) : (s.put f v).trains = s.trains := rfl
@[simp] theorem State.put_injs (s : State) (f : Field) (v : Nat) : (s.put f v).injs = s.injs := rfl
@[simp] theorem State.put_thrMove (s : State) (f : Field) (v : Nat) : (s.put f v).thrMove = s.thrMove := rfl
@[simp] theorem State.put_fsumDue (s : State) (f : Field) (v : Nat) : (s.put f v).fsumDue = s.fsumDue := rfl
@[simp] theorem State.put_fsumSel (s : State) (f : Field) (v : Nat) : (s.put f v).fsumSel = s.fsumSel := rfl
@[simp] theorem State.put_fsumPeak (s : State) (f : Field) (v : Nat) : (s.put f v).fsumPeak = s.fsumPeak := rfl
@[simp] theorem State.put_descent (s : State) (f : Field) (v : Nat) : (s.put f v).descent = s.descent := rfl
@[simp] theorem State.put_interps (s : State) (f : Field) (v : Nat) : (s.put f v).interps = s.interps := rfl
@[simp] theorem State.put_edgeTags (s : State) (f : Field) (v : Nat) : (s.put f v).edgeTags = s.edgeTags := rfl
@[simp] theorem State.put_edgeStamps (s : State) (f : Field) (v : Nat) : (s.put f v).edgeStamps = s.edgeStamps := rfl
@[simp] theorem State.put_tins (s : State) (f : Field) (v : Nat) : (s.put f v).tins = s.tins := rfl
@[simp] theorem State.put_regions (s : State) (f : Field) (v : Nat) : (s.put f v).regions = s.regions := rfl
@[simp] theorem State.put_cores (s : State) (f : Field) (v : Nat) : (s.put f v).cores = s.cores := rfl
@[simp] theorem State.put_libs (s : State) (f : Field) (v : Nat) : (s.put f v).libs = s.libs := rfl
@[simp] theorem State.put_libPops (s : State) (f : Field) (v : Nat) : (s.put f v).libPops = s.libPops := rfl
@[simp] theorem State.put_rreqs (s : State) (f : Field) (v : Nat) : (s.put f v).rreqs = s.rreqs := rfl
@[simp] theorem State.put_sendMask (s : State) (f : Field) (v : Nat) : (s.put f v).sendMask = s.sendMask := rfl
@[simp] theorem State.put_merge (s : State) (f : Field) (v : Nat) : (s.put f v).merge = s.merge := rfl
@[simp] theorem State.put_keels (s : State) (f : Field) (v : Nat) : (s.put f v).keels = s.keels := rfl
@[simp] theorem State.put_retain (s : State) (f : Field) (v : Nat) : (s.put f v).retain = s.retain := rfl
@[simp] theorem State.put_dram (s : State) (f : Field) (v : Nat) : (s.put f v).dram = s.dram := rfl
@[simp] theorem State.put_pins (s : State) (f : Field) (v : Nat) : (s.put f v).pins = s.pins := rfl
@[simp] theorem State.put_failUndo (s : State) (f : Field) (v : Nat) : (s.put f v).failUndo = s.failUndo := rfl
@[simp] theorem State.put_failover (s : State) (f : Field) (v : Nat) : (s.put f v).failover = s.failover := rfl
@[simp] theorem State.put_remsgs (s : State) (f : Field) (v : Nat) : (s.put f v).remsgs = s.remsgs := rfl
@[simp] theorem State.put_epochDone (s : State) (f : Field) (v : Nat) : (s.put f v).epochDone = s.epochDone := rfl
@[simp] theorem State.put_ballastDone (s : State) (f : Field) (v : Nat) : (s.put f v).ballastDone = s.ballastDone := rfl
@[simp] theorem State.put_discardDone (s : State) (f : Field) (v : Nat) : (s.put f v).discardDone = s.discardDone := rfl
@[simp] theorem State.put_mc (s : State) (f : Field) (v : Nat) : (s.put f v).mc = s.mc := rfl
@[simp] theorem State.put_servo (s : State) (f : Field) (v : Nat) : (s.put f v).servo = s.servo := rfl
@[simp] theorem State.put_txs (s : State) (f : Field) (v : Nat) : (s.put f v).txs = s.txs := rfl
@[simp] theorem State.put_rxs (s : State) (f : Field) (v : Nat) : (s.put f v).rxs = s.rxs := rfl
@[simp] theorem State.put_laneCfg (s : State) (f : Field) (v : Nat) : (s.put f v).laneCfg = s.laneCfg := rfl
@[simp] theorem State.put_lmapDue (s : State) (f : Field) (v : Nat) : (s.put f v).lmapDue = s.lmapDue := rfl
@[simp] theorem State.put_subDue (s : State) (f : Field) (v : Nat) : (s.put f v).subDue = s.subDue := rfl
@[simp] theorem State.put_esc (s : State) (f : Field) (v : Nat) : (s.put f v).esc = s.esc := rfl
@[simp] theorem State.put_quiesce (s : State) (f : Field) (v : Nat) : (s.put f v).quiesce = s.quiesce := rfl
@[simp] theorem State.put_trgs (s : State) (f : Field) (v : Nat) : (s.put f v).trgs = s.trgs := rfl
@[simp] theorem State.put_firings (s : State) (f : Field) (v : Nat) : (s.put f v).firings = s.firings := rfl
@[simp] theorem State.put_wave (s : State) (f : Field) (v : Nat) : (s.put f v).wave = s.wave := rfl
@[simp] theorem State.put_units (s : State) (f : Field) (v : Nat) : (s.put f v).units = s.units := rfl
@[simp] theorem State.put_opts (s : State) (f : Field) (v : Nat) : (s.put f v).opts = s.opts := rfl
@[simp] theorem State.put_claimKey (s : State) (f : Field) (v : Nat) : (s.put f v).claimKey = s.claimKey := rfl
@[simp] theorem State.put_leaseAt (s : State) (f : Field) (v : Nat) : (s.put f v).leaseAt = s.leaseAt := rfl
@[simp] theorem State.put_leaseLoose (s : State) (f : Field) (v : Nat) : (s.put f v).leaseLoose = s.leaseLoose := rfl
@[simp] theorem State.put_mon (s : State) (f : Field) (v : Nat) : (s.put f v).mon = s.mon := rfl
@[simp] theorem State.put_i2c (s : State) (f : Field) (v : Nat) : (s.put f v).i2c = s.i2c := rfl
@[simp] theorem State.put_checks (s : State) (f : Field) (v : Nat) : (s.put f v).checks = s.checks := rfl
@[simp] theorem State.put_pw (s : State) (f : Field) (v : Nat) : (s.put f v).pw = s.pw := rfl
@[simp] theorem State.put_sec (s : State) (f : Field) (v : Nat) : (s.put f v).sec = s.sec := rfl
@[simp] theorem State.put_jtag (s : State) (f : Field) (v : Nat) : (s.put f v).jtag = s.jtag := rfl
@[simp] theorem State.put_uart (s : State) (f : Field) (v : Nat) : (s.put f v).uart = s.uart := rfl

/-! ### adv -/

@[simp] theorem State.adv_pending (s : State) (t : Nat) : (s.adv t).pending = s.pending := by unfold State.adv; simp only []; split <;> rfl
@[simp] theorem State.adv_regs (s : State) (t : Nat) : (s.adv t).regs = s.regs := by unfold State.adv; simp only []; split <;> rfl
@[simp] theorem State.adv_latchHi (s : State) (t : Nat) : (s.adv t).latchHi = s.latchHi := by unfold State.adv; simp only []; split <;> rfl
@[simp] theorem State.adv_heldLo (s : State) (t : Nat) : (s.adv t).heldLo = s.heldLo := by unfold State.adv; simp only []; split <;> rfl
@[simp] theorem State.adv_mem (s : State) (t : Nat) : (s.adv t).mem = s.mem := by unfold State.adv; simp only []; split <;> rfl
@[simp] theorem State.adv_memGen (s : State) (t : Nat) : (s.adv t).memGen = s.memGen := by unfold State.adv; simp only []; split <;> rfl
@[simp] theorem State.adv_ecc (s : State) (t : Nat) : (s.adv t).ecc = s.ecc := by unfold State.adv; simp only []; split <;> rfl
@[simp] theorem State.adv_freeCtr (s : State) (t : Nat) : (s.adv t).freeCtr = s.freeCtr := by unfold State.adv; simp only []; split <;> rfl
@[simp] theorem State.adv_lastStatus (s : State) (t : Nat) : (s.adv t).lastStatus = s.lastStatus := by unfold State.adv; simp only []; split <;> rfl
@[simp] theorem State.adv_lastData (s : State) (t : Nat) : (s.adv t).lastData = s.lastData := by unfold State.adv; simp only []; split <;> rfl
@[simp] theorem State.adv_cyc (s : State) (t : Nat) : (s.adv t).cyc = s.cyc := by unfold State.adv; simp only []; split <;> rfl
@[simp] theorem State.adv_errOrder (s : State) (t : Nat) : (s.adv t).errOrder = s.errOrder := by unfold State.adv; simp only []; split <;> rfl
@[simp] theorem State.adv_errOpen (s : State) (t : Nat) : (s.adv t).errOpen = s.errOpen := by unfold State.adv; simp only []; split <;> rfl
@[simp] theorem State.adv_life (s : State) (t : Nat) : (s.adv t).life = s.life := by unfold State.adv; simp only []; split <;> rfl
@[simp] theorem State.adv_hitWords (s : State) (t : Nat) : (s.adv t).hitWords = s.hitWords := by unfold State.adv; simp only []; split <;> rfl
@[simp] theorem State.adv_ports (s : State) (t : Nat) : (s.adv t).ports = s.ports := by unfold State.adv; simp only []; split <;> rfl
@[simp] theorem State.adv_sent (s : State) (t : Nat) : (s.adv t).sent = s.sent := by unfold State.adv; simp only []; split <;> rfl
@[simp] theorem State.adv_marks (s : State) (t : Nat) : (s.adv t).marks = s.marks := by unfold State.adv; simp only []; split <;> rfl
@[simp] theorem State.adv_pixs (s : State) (t : Nat) : (s.adv t).pixs = s.pixs := by unfold State.adv; simp only []; split <;> rfl
@[simp] theorem State.adv_latches (s : State) (t : Nat) : (s.adv t).latches = s.latches := by unfold State.adv; simp only []; split <;> rfl
@[simp] theorem State.adv_hits (s : State) (t : Nat) : (s.adv t).hits = s.hits := by unfold State.adv; simp only []; split <;> rfl
@[simp] theorem State.adv_trains (s : State) (t : Nat) : (s.adv t).trains = s.trains := by unfold State.adv; simp only []; split <;> rfl
@[simp] theorem State.adv_injs (s : State) (t : Nat) : (s.adv t).injs = s.injs := by unfold State.adv; simp only []; split <;> rfl
@[simp] theorem State.adv_thrMove (s : State) (t : Nat) : (s.adv t).thrMove = s.thrMove := by unfold State.adv; simp only []; split <;> rfl
@[simp] theorem State.adv_fsumDue (s : State) (t : Nat) : (s.adv t).fsumDue = s.fsumDue := by unfold State.adv; simp only []; split <;> rfl
@[simp] theorem State.adv_fsumSel (s : State) (t : Nat) : (s.adv t).fsumSel = s.fsumSel := by unfold State.adv; simp only []; split <;> rfl
@[simp] theorem State.adv_fsumPeak (s : State) (t : Nat) : (s.adv t).fsumPeak = s.fsumPeak := by unfold State.adv; simp only []; split <;> rfl
@[simp] theorem State.adv_descent (s : State) (t : Nat) : (s.adv t).descent = s.descent := by unfold State.adv; simp only []; split <;> rfl
@[simp] theorem State.adv_interps (s : State) (t : Nat) : (s.adv t).interps = s.interps := by unfold State.adv; simp only []; split <;> rfl
@[simp] theorem State.adv_edgeTags (s : State) (t : Nat) : (s.adv t).edgeTags = s.edgeTags := by unfold State.adv; simp only []; split <;> rfl
@[simp] theorem State.adv_edgeStamps (s : State) (t : Nat) : (s.adv t).edgeStamps = s.edgeStamps := by unfold State.adv; simp only []; split <;> rfl
@[simp] theorem State.adv_tins (s : State) (t : Nat) : (s.adv t).tins = s.tins := by unfold State.adv; simp only []; split <;> rfl
@[simp] theorem State.adv_regions (s : State) (t : Nat) : (s.adv t).regions = s.regions := by unfold State.adv; simp only []; split <;> rfl
@[simp] theorem State.adv_cores (s : State) (t : Nat) : (s.adv t).cores = s.cores := by unfold State.adv; simp only []; split <;> rfl
@[simp] theorem State.adv_libs (s : State) (t : Nat) : (s.adv t).libs = s.libs := by unfold State.adv; simp only []; split <;> rfl
@[simp] theorem State.adv_libPops (s : State) (t : Nat) : (s.adv t).libPops = s.libPops := by unfold State.adv; simp only []; split <;> rfl
@[simp] theorem State.adv_rreqs (s : State) (t : Nat) : (s.adv t).rreqs = s.rreqs := by unfold State.adv; simp only []; split <;> rfl
@[simp] theorem State.adv_sendMask (s : State) (t : Nat) : (s.adv t).sendMask = s.sendMask := by unfold State.adv; simp only []; split <;> rfl
@[simp] theorem State.adv_merge (s : State) (t : Nat) : (s.adv t).merge = s.merge := by unfold State.adv; simp only []; split <;> rfl
@[simp] theorem State.adv_keels (s : State) (t : Nat) : (s.adv t).keels = s.keels := by unfold State.adv; simp only []; split <;> rfl
@[simp] theorem State.adv_retain (s : State) (t : Nat) : (s.adv t).retain = s.retain := by unfold State.adv; simp only []; split <;> rfl
@[simp] theorem State.adv_dram (s : State) (t : Nat) : (s.adv t).dram = s.dram := by unfold State.adv; simp only []; split <;> rfl
@[simp] theorem State.adv_pins (s : State) (t : Nat) : (s.adv t).pins = s.pins := by unfold State.adv; simp only []; split <;> rfl
@[simp] theorem State.adv_failUndo (s : State) (t : Nat) : (s.adv t).failUndo = s.failUndo := by unfold State.adv; simp only []; split <;> rfl
@[simp] theorem State.adv_failover (s : State) (t : Nat) : (s.adv t).failover = s.failover := by unfold State.adv; simp only []; split <;> rfl
@[simp] theorem State.adv_remsgs (s : State) (t : Nat) : (s.adv t).remsgs = s.remsgs := by unfold State.adv; simp only []; split <;> rfl
@[simp] theorem State.adv_epochDone (s : State) (t : Nat) : (s.adv t).epochDone = s.epochDone := by unfold State.adv; simp only []; split <;> rfl
@[simp] theorem State.adv_ballastDone (s : State) (t : Nat) : (s.adv t).ballastDone = s.ballastDone := by unfold State.adv; simp only []; split <;> rfl
@[simp] theorem State.adv_discardDone (s : State) (t : Nat) : (s.adv t).discardDone = s.discardDone := by unfold State.adv; simp only []; split <;> rfl
@[simp] theorem State.adv_mc (s : State) (t : Nat) : (s.adv t).mc = s.mc := by unfold State.adv; simp only []; split <;> rfl
@[simp] theorem State.adv_servo (s : State) (t : Nat) : (s.adv t).servo = s.servo := by unfold State.adv; simp only []; split <;> rfl
@[simp] theorem State.adv_txs (s : State) (t : Nat) : (s.adv t).txs = s.txs := by unfold State.adv; simp only []; split <;> rfl
@[simp] theorem State.adv_rxs (s : State) (t : Nat) : (s.adv t).rxs = s.rxs := by unfold State.adv; simp only []; split <;> rfl
@[simp] theorem State.adv_laneCfg (s : State) (t : Nat) : (s.adv t).laneCfg = s.laneCfg := by unfold State.adv; simp only []; split <;> rfl
@[simp] theorem State.adv_lmapDue (s : State) (t : Nat) : (s.adv t).lmapDue = s.lmapDue := by unfold State.adv; simp only []; split <;> rfl
@[simp] theorem State.adv_subDue (s : State) (t : Nat) : (s.adv t).subDue = s.subDue := by unfold State.adv; simp only []; split <;> rfl
@[simp] theorem State.adv_esc (s : State) (t : Nat) : (s.adv t).esc = s.esc := by unfold State.adv; simp only []; split <;> rfl
@[simp] theorem State.adv_quiesce (s : State) (t : Nat) : (s.adv t).quiesce = s.quiesce := by unfold State.adv; simp only []; split <;> rfl
@[simp] theorem State.adv_trgs (s : State) (t : Nat) : (s.adv t).trgs = s.trgs := by unfold State.adv; simp only []; split <;> rfl
@[simp] theorem State.adv_firings (s : State) (t : Nat) : (s.adv t).firings = s.firings := by unfold State.adv; simp only []; split <;> rfl
@[simp] theorem State.adv_wave (s : State) (t : Nat) : (s.adv t).wave = s.wave := by unfold State.adv; simp only []; split <;> rfl
@[simp] theorem State.adv_units (s : State) (t : Nat) : (s.adv t).units = s.units := by unfold State.adv; simp only []; split <;> rfl
@[simp] theorem State.adv_opts (s : State) (t : Nat) : (s.adv t).opts = s.opts := by unfold State.adv; simp only []; split <;> rfl
@[simp] theorem State.adv_claimKey (s : State) (t : Nat) : (s.adv t).claimKey = s.claimKey := by unfold State.adv; simp only []; split <;> rfl
@[simp] theorem State.adv_leaseAt (s : State) (t : Nat) : (s.adv t).leaseAt = s.leaseAt := by unfold State.adv; simp only []; split <;> rfl
@[simp] theorem State.adv_leaseLoose (s : State) (t : Nat) : (s.adv t).leaseLoose = s.leaseLoose := by unfold State.adv; simp only []; split <;> rfl
@[simp] theorem State.adv_mon (s : State) (t : Nat) : (s.adv t).mon = s.mon := by unfold State.adv; simp only []; split <;> rfl
@[simp] theorem State.adv_i2c (s : State) (t : Nat) : (s.adv t).i2c = s.i2c := by unfold State.adv; simp only []; split <;> rfl
@[simp] theorem State.adv_checks (s : State) (t : Nat) : (s.adv t).checks = s.checks := by unfold State.adv; simp only []; split <;> rfl
@[simp] theorem State.adv_pw (s : State) (t : Nat) : (s.adv t).pw = s.pw := by unfold State.adv; simp only []; split <;> rfl
@[simp] theorem State.adv_sec (s : State) (t : Nat) : (s.adv t).sec = s.sec := by unfold State.adv; simp only []; split <;> rfl
@[simp] theorem State.adv_jtag (s : State) (t : Nat) : (s.adv t).jtag = s.jtag := by unfold State.adv; simp only []; split <;> rfl
@[simp] theorem State.adv_uart (s : State) (t : Nat) : (s.adv t).uart = s.uart := by unfold State.adv; simp only []; split <;> rfl
@[simp] theorem State.get_adv (s : State) (t : Nat) (g : Field) : (s.adv t).get g = s.get g := by simp [State.get]

/-! ### spend -/

@[simp] theorem State.spend_pending (s : State) : (s.spend).pending = s.pending := rfl
@[simp] theorem State.spend_regs (s : State) : (s.spend).regs = s.regs := rfl
@[simp] theorem State.spend_latchHi (s : State) : (s.spend).latchHi = s.latchHi := rfl
@[simp] theorem State.spend_heldLo (s : State) : (s.spend).heldLo = s.heldLo := rfl
@[simp] theorem State.spend_mem (s : State) : (s.spend).mem = s.mem := rfl
@[simp] theorem State.spend_memGen (s : State) : (s.spend).memGen = s.memGen := rfl
@[simp] theorem State.spend_ecc (s : State) : (s.spend).ecc = s.ecc := rfl
@[simp] theorem State.spend_lastStatus (s : State) : (s.spend).lastStatus = s.lastStatus := rfl
@[simp] theorem State.spend_lastData (s : State) : (s.spend).lastData = s.lastData := rfl
@[simp] theorem State.spend_time (s : State) : (s.spend).time = s.time := rfl
@[simp] theorem State.spend_cyc (s : State) : (s.spend).cyc = s.cyc := rfl
@[simp] theorem State.spend_errOrder (s : State) : (s.spend).errOrder = s.errOrder := rfl
@[simp] theorem State.spend_errOpen (s : State) : (s.spend).errOpen = s.errOpen := rfl
@[simp] theorem State.spend_life (s : State) : (s.spend).life = s.life := rfl
@[simp] theorem State.spend_hitWords (s : State) : (s.spend).hitWords = s.hitWords := rfl
@[simp] theorem State.spend_ports (s : State) : (s.spend).ports = s.ports := rfl
@[simp] theorem State.spend_sent (s : State) : (s.spend).sent = s.sent := rfl
@[simp] theorem State.spend_marks (s : State) : (s.spend).marks = s.marks := rfl
@[simp] theorem State.spend_pixs (s : State) : (s.spend).pixs = s.pixs := rfl
@[simp] theorem State.spend_latches (s : State) : (s.spend).latches = s.latches := rfl
@[simp] theorem State.spend_hits (s : State) : (s.spend).hits = s.hits := rfl
@[simp] theorem State.spend_trains (s : State) : (s.spend).trains = s.trains := rfl
@[simp] theorem State.spend_injs (s : State) : (s.spend).injs = s.injs := rfl
@[simp] theorem State.spend_thrMove (s : State) : (s.spend).thrMove = s.thrMove := rfl
@[simp] theorem State.spend_fsumDue (s : State) : (s.spend).fsumDue = s.fsumDue := rfl
@[simp] theorem State.spend_fsumSel (s : State) : (s.spend).fsumSel = s.fsumSel := rfl
@[simp] theorem State.spend_fsumPeak (s : State) : (s.spend).fsumPeak = s.fsumPeak := rfl
@[simp] theorem State.spend_descent (s : State) : (s.spend).descent = s.descent := rfl
@[simp] theorem State.spend_interps (s : State) : (s.spend).interps = s.interps := rfl
@[simp] theorem State.spend_edgeTags (s : State) : (s.spend).edgeTags = s.edgeTags := rfl
@[simp] theorem State.spend_edgeStamps (s : State) : (s.spend).edgeStamps = s.edgeStamps := rfl
@[simp] theorem State.spend_tins (s : State) : (s.spend).tins = s.tins := rfl
@[simp] theorem State.spend_regions (s : State) : (s.spend).regions = s.regions := rfl
@[simp] theorem State.spend_cores (s : State) : (s.spend).cores = s.cores := rfl
@[simp] theorem State.spend_libs (s : State) : (s.spend).libs = s.libs := rfl
@[simp] theorem State.spend_libPops (s : State) : (s.spend).libPops = s.libPops := rfl
@[simp] theorem State.spend_rreqs (s : State) : (s.spend).rreqs = s.rreqs := rfl
@[simp] theorem State.spend_sendMask (s : State) : (s.spend).sendMask = s.sendMask := rfl
@[simp] theorem State.spend_merge (s : State) : (s.spend).merge = s.merge := rfl
@[simp] theorem State.spend_keels (s : State) : (s.spend).keels = s.keels := rfl
@[simp] theorem State.spend_retain (s : State) : (s.spend).retain = s.retain := rfl
@[simp] theorem State.spend_dram (s : State) : (s.spend).dram = s.dram := rfl
@[simp] theorem State.spend_pins (s : State) : (s.spend).pins = s.pins := rfl
@[simp] theorem State.spend_failUndo (s : State) : (s.spend).failUndo = s.failUndo := rfl
@[simp] theorem State.spend_failover (s : State) : (s.spend).failover = s.failover := rfl
@[simp] theorem State.spend_remsgs (s : State) : (s.spend).remsgs = s.remsgs := rfl
@[simp] theorem State.spend_epochDone (s : State) : (s.spend).epochDone = s.epochDone := rfl
@[simp] theorem State.spend_ballastDone (s : State) : (s.spend).ballastDone = s.ballastDone := rfl
@[simp] theorem State.spend_discardDone (s : State) : (s.spend).discardDone = s.discardDone := rfl
@[simp] theorem State.spend_mc (s : State) : (s.spend).mc = s.mc := rfl
@[simp] theorem State.spend_servo (s : State) : (s.spend).servo = s.servo := rfl
@[simp] theorem State.spend_txs (s : State) : (s.spend).txs = s.txs := rfl
@[simp] theorem State.spend_rxs (s : State) : (s.spend).rxs = s.rxs := rfl
@[simp] theorem State.spend_laneCfg (s : State) : (s.spend).laneCfg = s.laneCfg := rfl
@[simp] theorem State.spend_lmapDue (s : State) : (s.spend).lmapDue = s.lmapDue := rfl
@[simp] theorem State.spend_subDue (s : State) : (s.spend).subDue = s.subDue := rfl
@[simp] theorem State.spend_esc (s : State) : (s.spend).esc = s.esc := rfl
@[simp] theorem State.spend_quiesce (s : State) : (s.spend).quiesce = s.quiesce := rfl
@[simp] theorem State.spend_trgs (s : State) : (s.spend).trgs = s.trgs := rfl
@[simp] theorem State.spend_firings (s : State) : (s.spend).firings = s.firings := rfl
@[simp] theorem State.spend_wave (s : State) : (s.spend).wave = s.wave := rfl
@[simp] theorem State.spend_units (s : State) : (s.spend).units = s.units := rfl
@[simp] theorem State.spend_opts (s : State) : (s.spend).opts = s.opts := rfl
@[simp] theorem State.spend_claimKey (s : State) : (s.spend).claimKey = s.claimKey := rfl
@[simp] theorem State.spend_leaseAt (s : State) : (s.spend).leaseAt = s.leaseAt := rfl
@[simp] theorem State.spend_leaseLoose (s : State) : (s.spend).leaseLoose = s.leaseLoose := rfl
@[simp] theorem State.spend_mon (s : State) : (s.spend).mon = s.mon := rfl
@[simp] theorem State.spend_i2c (s : State) : (s.spend).i2c = s.i2c := rfl
@[simp] theorem State.spend_checks (s : State) : (s.spend).checks = s.checks := rfl
@[simp] theorem State.spend_pw (s : State) : (s.spend).pw = s.pw := rfl
@[simp] theorem State.spend_sec (s : State) : (s.spend).sec = s.sec := rfl
@[simp] theorem State.spend_jtag (s : State) : (s.spend).jtag = s.jtag := rfl
@[simp] theorem State.spend_uart (s : State) : (s.spend).uart = s.uart := rfl
@[simp] theorem State.get_spend (s : State) (g : Field) : (s.spend).get g = s.get g := rfl

/-! ### putEcc -/

@[simp] theorem State.putEcc_pending (s : State) (a v : Nat) : (s.putEcc a v).pending = s.pending := rfl
@[simp] theorem State.putEcc_regs (s : State) (a v : Nat) : (s.putEcc a v).regs = s.regs := rfl
@[simp] theorem State.putEcc_latchHi (s : State) (a v : Nat) : (s.putEcc a v).latchHi = s.latchHi := rfl
@[simp] theorem State.putEcc_heldLo (s : State) (a v : Nat) : (s.putEcc a v).heldLo = s.heldLo := rfl
@[simp] theorem State.putEcc_mem (s : State) (a v : Nat) : (s.putEcc a v).mem = s.mem := rfl
@[simp] theorem State.putEcc_memGen (s : State) (a v : Nat) : (s.putEcc a v).memGen = s.memGen := rfl
@[simp] theorem State.putEcc_freeCtr (s : State) (a v : Nat) : (s.putEcc a v).freeCtr = s.freeCtr := rfl
@[simp] theorem State.putEcc_lastStatus (s : State) (a v : Nat) : (s.putEcc a v).lastStatus = s.lastStatus := rfl
@[simp] theorem State.putEcc_lastData (s : State) (a v : Nat) : (s.putEcc a v).lastData = s.lastData := rfl
@[simp] theorem State.putEcc_time (s : State) (a v : Nat) : (s.putEcc a v).time = s.time := rfl
@[simp] theorem State.putEcc_cyc (s : State) (a v : Nat) : (s.putEcc a v).cyc = s.cyc := rfl
@[simp] theorem State.putEcc_errOrder (s : State) (a v : Nat) : (s.putEcc a v).errOrder = s.errOrder := rfl
@[simp] theorem State.putEcc_errOpen (s : State) (a v : Nat) : (s.putEcc a v).errOpen = s.errOpen := rfl
@[simp] theorem State.putEcc_life (s : State) (a v : Nat) : (s.putEcc a v).life = s.life := rfl
@[simp] theorem State.putEcc_hitWords (s : State) (a v : Nat) : (s.putEcc a v).hitWords = s.hitWords := rfl
@[simp] theorem State.putEcc_ports (s : State) (a v : Nat) : (s.putEcc a v).ports = s.ports := rfl
@[simp] theorem State.putEcc_sent (s : State) (a v : Nat) : (s.putEcc a v).sent = s.sent := rfl
@[simp] theorem State.putEcc_marks (s : State) (a v : Nat) : (s.putEcc a v).marks = s.marks := rfl
@[simp] theorem State.putEcc_pixs (s : State) (a v : Nat) : (s.putEcc a v).pixs = s.pixs := rfl
@[simp] theorem State.putEcc_latches (s : State) (a v : Nat) : (s.putEcc a v).latches = s.latches := rfl
@[simp] theorem State.putEcc_hits (s : State) (a v : Nat) : (s.putEcc a v).hits = s.hits := rfl
@[simp] theorem State.putEcc_trains (s : State) (a v : Nat) : (s.putEcc a v).trains = s.trains := rfl
@[simp] theorem State.putEcc_injs (s : State) (a v : Nat) : (s.putEcc a v).injs = s.injs := rfl
@[simp] theorem State.putEcc_thrMove (s : State) (a v : Nat) : (s.putEcc a v).thrMove = s.thrMove := rfl
@[simp] theorem State.putEcc_fsumDue (s : State) (a v : Nat) : (s.putEcc a v).fsumDue = s.fsumDue := rfl
@[simp] theorem State.putEcc_fsumSel (s : State) (a v : Nat) : (s.putEcc a v).fsumSel = s.fsumSel := rfl
@[simp] theorem State.putEcc_fsumPeak (s : State) (a v : Nat) : (s.putEcc a v).fsumPeak = s.fsumPeak := rfl
@[simp] theorem State.putEcc_descent (s : State) (a v : Nat) : (s.putEcc a v).descent = s.descent := rfl
@[simp] theorem State.putEcc_interps (s : State) (a v : Nat) : (s.putEcc a v).interps = s.interps := rfl
@[simp] theorem State.putEcc_edgeTags (s : State) (a v : Nat) : (s.putEcc a v).edgeTags = s.edgeTags := rfl
@[simp] theorem State.putEcc_edgeStamps (s : State) (a v : Nat) : (s.putEcc a v).edgeStamps = s.edgeStamps := rfl
@[simp] theorem State.putEcc_tins (s : State) (a v : Nat) : (s.putEcc a v).tins = s.tins := rfl
@[simp] theorem State.putEcc_regions (s : State) (a v : Nat) : (s.putEcc a v).regions = s.regions := rfl
@[simp] theorem State.putEcc_cores (s : State) (a v : Nat) : (s.putEcc a v).cores = s.cores := rfl
@[simp] theorem State.putEcc_libs (s : State) (a v : Nat) : (s.putEcc a v).libs = s.libs := rfl
@[simp] theorem State.putEcc_libPops (s : State) (a v : Nat) : (s.putEcc a v).libPops = s.libPops := rfl
@[simp] theorem State.putEcc_rreqs (s : State) (a v : Nat) : (s.putEcc a v).rreqs = s.rreqs := rfl
@[simp] theorem State.putEcc_sendMask (s : State) (a v : Nat) : (s.putEcc a v).sendMask = s.sendMask := rfl
@[simp] theorem State.putEcc_merge (s : State) (a v : Nat) : (s.putEcc a v).merge = s.merge := rfl
@[simp] theorem State.putEcc_keels (s : State) (a v : Nat) : (s.putEcc a v).keels = s.keels := rfl
@[simp] theorem State.putEcc_retain (s : State) (a v : Nat) : (s.putEcc a v).retain = s.retain := rfl
@[simp] theorem State.putEcc_dram (s : State) (a v : Nat) : (s.putEcc a v).dram = s.dram := rfl
@[simp] theorem State.putEcc_pins (s : State) (a v : Nat) : (s.putEcc a v).pins = s.pins := rfl
@[simp] theorem State.putEcc_failUndo (s : State) (a v : Nat) : (s.putEcc a v).failUndo = s.failUndo := rfl
@[simp] theorem State.putEcc_failover (s : State) (a v : Nat) : (s.putEcc a v).failover = s.failover := rfl
@[simp] theorem State.putEcc_remsgs (s : State) (a v : Nat) : (s.putEcc a v).remsgs = s.remsgs := rfl
@[simp] theorem State.putEcc_epochDone (s : State) (a v : Nat) : (s.putEcc a v).epochDone = s.epochDone := rfl
@[simp] theorem State.putEcc_ballastDone (s : State) (a v : Nat) : (s.putEcc a v).ballastDone = s.ballastDone := rfl
@[simp] theorem State.putEcc_discardDone (s : State) (a v : Nat) : (s.putEcc a v).discardDone = s.discardDone := rfl
@[simp] theorem State.putEcc_mc (s : State) (a v : Nat) : (s.putEcc a v).mc = s.mc := rfl
@[simp] theorem State.putEcc_servo (s : State) (a v : Nat) : (s.putEcc a v).servo = s.servo := rfl
@[simp] theorem State.putEcc_txs (s : State) (a v : Nat) : (s.putEcc a v).txs = s.txs := rfl
@[simp] theorem State.putEcc_rxs (s : State) (a v : Nat) : (s.putEcc a v).rxs = s.rxs := rfl
@[simp] theorem State.putEcc_laneCfg (s : State) (a v : Nat) : (s.putEcc a v).laneCfg = s.laneCfg := rfl
@[simp] theorem State.putEcc_lmapDue (s : State) (a v : Nat) : (s.putEcc a v).lmapDue = s.lmapDue := rfl
@[simp] theorem State.putEcc_subDue (s : State) (a v : Nat) : (s.putEcc a v).subDue = s.subDue := rfl
@[simp] theorem State.putEcc_esc (s : State) (a v : Nat) : (s.putEcc a v).esc = s.esc := rfl
@[simp] theorem State.putEcc_quiesce (s : State) (a v : Nat) : (s.putEcc a v).quiesce = s.quiesce := rfl
@[simp] theorem State.putEcc_trgs (s : State) (a v : Nat) : (s.putEcc a v).trgs = s.trgs := rfl
@[simp] theorem State.putEcc_firings (s : State) (a v : Nat) : (s.putEcc a v).firings = s.firings := rfl
@[simp] theorem State.putEcc_wave (s : State) (a v : Nat) : (s.putEcc a v).wave = s.wave := rfl
@[simp] theorem State.putEcc_units (s : State) (a v : Nat) : (s.putEcc a v).units = s.units := rfl
@[simp] theorem State.putEcc_opts (s : State) (a v : Nat) : (s.putEcc a v).opts = s.opts := rfl
@[simp] theorem State.putEcc_claimKey (s : State) (a v : Nat) : (s.putEcc a v).claimKey = s.claimKey := rfl
@[simp] theorem State.putEcc_leaseAt (s : State) (a v : Nat) : (s.putEcc a v).leaseAt = s.leaseAt := rfl
@[simp] theorem State.putEcc_leaseLoose (s : State) (a v : Nat) : (s.putEcc a v).leaseLoose = s.leaseLoose := rfl
@[simp] theorem State.putEcc_mon (s : State) (a v : Nat) : (s.putEcc a v).mon = s.mon := rfl
@[simp] theorem State.putEcc_i2c (s : State) (a v : Nat) : (s.putEcc a v).i2c = s.i2c := rfl
@[simp] theorem State.putEcc_checks (s : State) (a v : Nat) : (s.putEcc a v).checks = s.checks := rfl
@[simp] theorem State.putEcc_pw (s : State) (a v : Nat) : (s.putEcc a v).pw = s.pw := rfl
@[simp] theorem State.putEcc_sec (s : State) (a v : Nat) : (s.putEcc a v).sec = s.sec := rfl
@[simp] theorem State.putEcc_jtag (s : State) (a v : Nat) : (s.putEcc a v).jtag = s.jtag := rfl
@[simp] theorem State.putEcc_uart (s : State) (a v : Nat) : (s.putEcc a v).uart = s.uart := rfl
@[simp] theorem State.get_putEcc (s : State) (a v : Nat) (g : Field) : (s.putEcc a v).get g = s.get g := rfl

/-! ### writeByte -/

@[simp] theorem State.writeByte_pending (s : State) (a : Nat) (b : Byte) : (s.writeByte a b).pending = s.pending := rfl
@[simp] theorem State.writeByte_regs (s : State) (a : Nat) (b : Byte) : (s.writeByte a b).regs = s.regs := rfl
@[simp] theorem State.writeByte_latchHi (s : State) (a : Nat) (b : Byte) : (s.writeByte a b).latchHi = s.latchHi := rfl
@[simp] theorem State.writeByte_heldLo (s : State) (a : Nat) (b : Byte) : (s.writeByte a b).heldLo = s.heldLo := rfl
@[simp] theorem State.writeByte_memGen (s : State) (a : Nat) (b : Byte) : (s.writeByte a b).memGen = s.memGen := rfl
@[simp] theorem State.writeByte_ecc (s : State) (a : Nat) (b : Byte) : (s.writeByte a b).ecc = s.ecc := rfl
@[simp] theorem State.writeByte_freeCtr (s : State) (a : Nat) (b : Byte) : (s.writeByte a b).freeCtr = s.freeCtr := rfl
@[simp] theorem State.writeByte_lastStatus (s : State) (a : Nat) (b : Byte) : (s.writeByte a b).lastStatus = s.lastStatus := rfl
@[simp] theorem State.writeByte_lastData (s : State) (a : Nat) (b : Byte) : (s.writeByte a b).lastData = s.lastData := rfl
@[simp] theorem State.writeByte_time (s : State) (a : Nat) (b : Byte) : (s.writeByte a b).time = s.time := rfl
@[simp] theorem State.writeByte_cyc (s : State) (a : Nat) (b : Byte) : (s.writeByte a b).cyc = s.cyc := rfl
@[simp] theorem State.writeByte_errOrder (s : State) (a : Nat) (b : Byte) : (s.writeByte a b).errOrder = s.errOrder := rfl
@[simp] theorem State.writeByte_errOpen (s : State) (a : Nat) (b : Byte) : (s.writeByte a b).errOpen = s.errOpen := rfl
@[simp] theorem State.writeByte_life (s : State) (a : Nat) (b : Byte) : (s.writeByte a b).life = s.life := rfl
@[simp] theorem State.writeByte_hitWords (s : State) (a : Nat) (b : Byte) : (s.writeByte a b).hitWords = s.hitWords := rfl
@[simp] theorem State.writeByte_ports (s : State) (a : Nat) (b : Byte) : (s.writeByte a b).ports = s.ports := rfl
@[simp] theorem State.writeByte_sent (s : State) (a : Nat) (b : Byte) : (s.writeByte a b).sent = s.sent := rfl
@[simp] theorem State.writeByte_marks (s : State) (a : Nat) (b : Byte) : (s.writeByte a b).marks = s.marks := rfl
@[simp] theorem State.writeByte_pixs (s : State) (a : Nat) (b : Byte) : (s.writeByte a b).pixs = s.pixs := rfl
@[simp] theorem State.writeByte_latches (s : State) (a : Nat) (b : Byte) : (s.writeByte a b).latches = s.latches := rfl
@[simp] theorem State.writeByte_hits (s : State) (a : Nat) (b : Byte) : (s.writeByte a b).hits = s.hits := rfl
@[simp] theorem State.writeByte_trains (s : State) (a : Nat) (b : Byte) : (s.writeByte a b).trains = s.trains := rfl
@[simp] theorem State.writeByte_injs (s : State) (a : Nat) (b : Byte) : (s.writeByte a b).injs = s.injs := rfl
@[simp] theorem State.writeByte_thrMove (s : State) (a : Nat) (b : Byte) : (s.writeByte a b).thrMove = s.thrMove := rfl
@[simp] theorem State.writeByte_fsumDue (s : State) (a : Nat) (b : Byte) : (s.writeByte a b).fsumDue = s.fsumDue := rfl
@[simp] theorem State.writeByte_fsumSel (s : State) (a : Nat) (b : Byte) : (s.writeByte a b).fsumSel = s.fsumSel := rfl
@[simp] theorem State.writeByte_fsumPeak (s : State) (a : Nat) (b : Byte) : (s.writeByte a b).fsumPeak = s.fsumPeak := rfl
@[simp] theorem State.writeByte_descent (s : State) (a : Nat) (b : Byte) : (s.writeByte a b).descent = s.descent := rfl
@[simp] theorem State.writeByte_interps (s : State) (a : Nat) (b : Byte) : (s.writeByte a b).interps = s.interps := rfl
@[simp] theorem State.writeByte_edgeTags (s : State) (a : Nat) (b : Byte) : (s.writeByte a b).edgeTags = s.edgeTags := rfl
@[simp] theorem State.writeByte_edgeStamps (s : State) (a : Nat) (b : Byte) : (s.writeByte a b).edgeStamps = s.edgeStamps := rfl
@[simp] theorem State.writeByte_tins (s : State) (a : Nat) (b : Byte) : (s.writeByte a b).tins = s.tins := rfl
@[simp] theorem State.writeByte_regions (s : State) (a : Nat) (b : Byte) : (s.writeByte a b).regions = s.regions := rfl
@[simp] theorem State.writeByte_cores (s : State) (a : Nat) (b : Byte) : (s.writeByte a b).cores = s.cores := rfl
@[simp] theorem State.writeByte_libs (s : State) (a : Nat) (b : Byte) : (s.writeByte a b).libs = s.libs := rfl
@[simp] theorem State.writeByte_libPops (s : State) (a : Nat) (b : Byte) : (s.writeByte a b).libPops = s.libPops := rfl
@[simp] theorem State.writeByte_rreqs (s : State) (a : Nat) (b : Byte) : (s.writeByte a b).rreqs = s.rreqs := rfl
@[simp] theorem State.writeByte_sendMask (s : State) (a : Nat) (b : Byte) : (s.writeByte a b).sendMask = s.sendMask := rfl
@[simp] theorem State.writeByte_merge (s : State) (a : Nat) (b : Byte) : (s.writeByte a b).merge = s.merge := rfl
@[simp] theorem State.writeByte_keels (s : State) (a : Nat) (b : Byte) : (s.writeByte a b).keels = s.keels := rfl
@[simp] theorem State.writeByte_retain (s : State) (a : Nat) (b : Byte) : (s.writeByte a b).retain = s.retain := rfl
@[simp] theorem State.writeByte_dram (s : State) (a : Nat) (b : Byte) : (s.writeByte a b).dram = s.dram := rfl
@[simp] theorem State.writeByte_pins (s : State) (a : Nat) (b : Byte) : (s.writeByte a b).pins = s.pins := rfl
@[simp] theorem State.writeByte_failUndo (s : State) (a : Nat) (b : Byte) : (s.writeByte a b).failUndo = s.failUndo := rfl
@[simp] theorem State.writeByte_failover (s : State) (a : Nat) (b : Byte) : (s.writeByte a b).failover = s.failover := rfl
@[simp] theorem State.writeByte_remsgs (s : State) (a : Nat) (b : Byte) : (s.writeByte a b).remsgs = s.remsgs := rfl
@[simp] theorem State.writeByte_epochDone (s : State) (a : Nat) (b : Byte) : (s.writeByte a b).epochDone = s.epochDone := rfl
@[simp] theorem State.writeByte_ballastDone (s : State) (a : Nat) (b : Byte) : (s.writeByte a b).ballastDone = s.ballastDone := rfl
@[simp] theorem State.writeByte_discardDone (s : State) (a : Nat) (b : Byte) : (s.writeByte a b).discardDone = s.discardDone := rfl
@[simp] theorem State.writeByte_mc (s : State) (a : Nat) (b : Byte) : (s.writeByte a b).mc = s.mc := rfl
@[simp] theorem State.writeByte_servo (s : State) (a : Nat) (b : Byte) : (s.writeByte a b).servo = s.servo := rfl
@[simp] theorem State.writeByte_txs (s : State) (a : Nat) (b : Byte) : (s.writeByte a b).txs = s.txs := rfl
@[simp] theorem State.writeByte_rxs (s : State) (a : Nat) (b : Byte) : (s.writeByte a b).rxs = s.rxs := rfl
@[simp] theorem State.writeByte_laneCfg (s : State) (a : Nat) (b : Byte) : (s.writeByte a b).laneCfg = s.laneCfg := rfl
@[simp] theorem State.writeByte_lmapDue (s : State) (a : Nat) (b : Byte) : (s.writeByte a b).lmapDue = s.lmapDue := rfl
@[simp] theorem State.writeByte_subDue (s : State) (a : Nat) (b : Byte) : (s.writeByte a b).subDue = s.subDue := rfl
@[simp] theorem State.writeByte_esc (s : State) (a : Nat) (b : Byte) : (s.writeByte a b).esc = s.esc := rfl
@[simp] theorem State.writeByte_quiesce (s : State) (a : Nat) (b : Byte) : (s.writeByte a b).quiesce = s.quiesce := rfl
@[simp] theorem State.writeByte_trgs (s : State) (a : Nat) (b : Byte) : (s.writeByte a b).trgs = s.trgs := rfl
@[simp] theorem State.writeByte_firings (s : State) (a : Nat) (b : Byte) : (s.writeByte a b).firings = s.firings := rfl
@[simp] theorem State.writeByte_wave (s : State) (a : Nat) (b : Byte) : (s.writeByte a b).wave = s.wave := rfl
@[simp] theorem State.writeByte_units (s : State) (a : Nat) (b : Byte) : (s.writeByte a b).units = s.units := rfl
@[simp] theorem State.writeByte_opts (s : State) (a : Nat) (b : Byte) : (s.writeByte a b).opts = s.opts := rfl
@[simp] theorem State.writeByte_claimKey (s : State) (a : Nat) (b : Byte) : (s.writeByte a b).claimKey = s.claimKey := rfl
@[simp] theorem State.writeByte_leaseAt (s : State) (a : Nat) (b : Byte) : (s.writeByte a b).leaseAt = s.leaseAt := rfl
@[simp] theorem State.writeByte_leaseLoose (s : State) (a : Nat) (b : Byte) : (s.writeByte a b).leaseLoose = s.leaseLoose := rfl
@[simp] theorem State.writeByte_mon (s : State) (a : Nat) (b : Byte) : (s.writeByte a b).mon = s.mon := rfl
@[simp] theorem State.writeByte_i2c (s : State) (a : Nat) (b : Byte) : (s.writeByte a b).i2c = s.i2c := rfl
@[simp] theorem State.writeByte_checks (s : State) (a : Nat) (b : Byte) : (s.writeByte a b).checks = s.checks := rfl
@[simp] theorem State.writeByte_pw (s : State) (a : Nat) (b : Byte) : (s.writeByte a b).pw = s.pw := rfl
@[simp] theorem State.writeByte_sec (s : State) (a : Nat) (b : Byte) : (s.writeByte a b).sec = s.sec := rfl
@[simp] theorem State.writeByte_jtag (s : State) (a : Nat) (b : Byte) : (s.writeByte a b).jtag = s.jtag := rfl
@[simp] theorem State.writeByte_uart (s : State) (a : Nat) (b : Byte) : (s.writeByte a b).uart = s.uart := rfl
@[simp] theorem State.get_writeByte (s : State) (a : Nat) (b : Byte) (g : Field) : (s.writeByte a b).get g = s.get g := rfl

/-! ### setPort -/

@[simp] theorem State.setPort_pending (s : State) (p : Nat) (v : PortSt) : (s.setPort p v).pending = s.pending := rfl
@[simp] theorem State.setPort_regs (s : State) (p : Nat) (v : PortSt) : (s.setPort p v).regs = s.regs := rfl
@[simp] theorem State.setPort_latchHi (s : State) (p : Nat) (v : PortSt) : (s.setPort p v).latchHi = s.latchHi := rfl
@[simp] theorem State.setPort_heldLo (s : State) (p : Nat) (v : PortSt) : (s.setPort p v).heldLo = s.heldLo := rfl
@[simp] theorem State.setPort_mem (s : State) (p : Nat) (v : PortSt) : (s.setPort p v).mem = s.mem := rfl
@[simp] theorem State.setPort_memGen (s : State) (p : Nat) (v : PortSt) : (s.setPort p v).memGen = s.memGen := rfl
@[simp] theorem State.setPort_ecc (s : State) (p : Nat) (v : PortSt) : (s.setPort p v).ecc = s.ecc := rfl
@[simp] theorem State.setPort_freeCtr (s : State) (p : Nat) (v : PortSt) : (s.setPort p v).freeCtr = s.freeCtr := rfl
@[simp] theorem State.setPort_lastStatus (s : State) (p : Nat) (v : PortSt) : (s.setPort p v).lastStatus = s.lastStatus := rfl
@[simp] theorem State.setPort_lastData (s : State) (p : Nat) (v : PortSt) : (s.setPort p v).lastData = s.lastData := rfl
@[simp] theorem State.setPort_time (s : State) (p : Nat) (v : PortSt) : (s.setPort p v).time = s.time := rfl
@[simp] theorem State.setPort_cyc (s : State) (p : Nat) (v : PortSt) : (s.setPort p v).cyc = s.cyc := rfl
@[simp] theorem State.setPort_errOrder (s : State) (p : Nat) (v : PortSt) : (s.setPort p v).errOrder = s.errOrder := rfl
@[simp] theorem State.setPort_errOpen (s : State) (p : Nat) (v : PortSt) : (s.setPort p v).errOpen = s.errOpen := rfl
@[simp] theorem State.setPort_life (s : State) (p : Nat) (v : PortSt) : (s.setPort p v).life = s.life := rfl
@[simp] theorem State.setPort_hitWords (s : State) (p : Nat) (v : PortSt) : (s.setPort p v).hitWords = s.hitWords := rfl
@[simp] theorem State.setPort_sent (s : State) (p : Nat) (v : PortSt) : (s.setPort p v).sent = s.sent := rfl
@[simp] theorem State.setPort_marks (s : State) (p : Nat) (v : PortSt) : (s.setPort p v).marks = s.marks := rfl
@[simp] theorem State.setPort_pixs (s : State) (p : Nat) (v : PortSt) : (s.setPort p v).pixs = s.pixs := rfl
@[simp] theorem State.setPort_latches (s : State) (p : Nat) (v : PortSt) : (s.setPort p v).latches = s.latches := rfl
@[simp] theorem State.setPort_hits (s : State) (p : Nat) (v : PortSt) : (s.setPort p v).hits = s.hits := rfl
@[simp] theorem State.setPort_trains (s : State) (p : Nat) (v : PortSt) : (s.setPort p v).trains = s.trains := rfl
@[simp] theorem State.setPort_injs (s : State) (p : Nat) (v : PortSt) : (s.setPort p v).injs = s.injs := rfl
@[simp] theorem State.setPort_thrMove (s : State) (p : Nat) (v : PortSt) : (s.setPort p v).thrMove = s.thrMove := rfl
@[simp] theorem State.setPort_fsumDue (s : State) (p : Nat) (v : PortSt) : (s.setPort p v).fsumDue = s.fsumDue := rfl
@[simp] theorem State.setPort_fsumSel (s : State) (p : Nat) (v : PortSt) : (s.setPort p v).fsumSel = s.fsumSel := rfl
@[simp] theorem State.setPort_fsumPeak (s : State) (p : Nat) (v : PortSt) : (s.setPort p v).fsumPeak = s.fsumPeak := rfl
@[simp] theorem State.setPort_descent (s : State) (p : Nat) (v : PortSt) : (s.setPort p v).descent = s.descent := rfl
@[simp] theorem State.setPort_interps (s : State) (p : Nat) (v : PortSt) : (s.setPort p v).interps = s.interps := rfl
@[simp] theorem State.setPort_edgeTags (s : State) (p : Nat) (v : PortSt) : (s.setPort p v).edgeTags = s.edgeTags := rfl
@[simp] theorem State.setPort_edgeStamps (s : State) (p : Nat) (v : PortSt) : (s.setPort p v).edgeStamps = s.edgeStamps := rfl
@[simp] theorem State.setPort_tins (s : State) (p : Nat) (v : PortSt) : (s.setPort p v).tins = s.tins := rfl
@[simp] theorem State.setPort_regions (s : State) (p : Nat) (v : PortSt) : (s.setPort p v).regions = s.regions := rfl
@[simp] theorem State.setPort_cores (s : State) (p : Nat) (v : PortSt) : (s.setPort p v).cores = s.cores := rfl
@[simp] theorem State.setPort_libs (s : State) (p : Nat) (v : PortSt) : (s.setPort p v).libs = s.libs := rfl
@[simp] theorem State.setPort_libPops (s : State) (p : Nat) (v : PortSt) : (s.setPort p v).libPops = s.libPops := rfl
@[simp] theorem State.setPort_rreqs (s : State) (p : Nat) (v : PortSt) : (s.setPort p v).rreqs = s.rreqs := rfl
@[simp] theorem State.setPort_sendMask (s : State) (p : Nat) (v : PortSt) : (s.setPort p v).sendMask = s.sendMask := rfl
@[simp] theorem State.setPort_merge (s : State) (p : Nat) (v : PortSt) : (s.setPort p v).merge = s.merge := rfl
@[simp] theorem State.setPort_keels (s : State) (p : Nat) (v : PortSt) : (s.setPort p v).keels = s.keels := rfl
@[simp] theorem State.setPort_retain (s : State) (p : Nat) (v : PortSt) : (s.setPort p v).retain = s.retain := rfl
@[simp] theorem State.setPort_dram (s : State) (p : Nat) (v : PortSt) : (s.setPort p v).dram = s.dram := rfl
@[simp] theorem State.setPort_pins (s : State) (p : Nat) (v : PortSt) : (s.setPort p v).pins = s.pins := rfl
@[simp] theorem State.setPort_failUndo (s : State) (p : Nat) (v : PortSt) : (s.setPort p v).failUndo = s.failUndo := rfl
@[simp] theorem State.setPort_failover (s : State) (p : Nat) (v : PortSt) : (s.setPort p v).failover = s.failover := rfl
@[simp] theorem State.setPort_remsgs (s : State) (p : Nat) (v : PortSt) : (s.setPort p v).remsgs = s.remsgs := rfl
@[simp] theorem State.setPort_epochDone (s : State) (p : Nat) (v : PortSt) : (s.setPort p v).epochDone = s.epochDone := rfl
@[simp] theorem State.setPort_ballastDone (s : State) (p : Nat) (v : PortSt) : (s.setPort p v).ballastDone = s.ballastDone := rfl
@[simp] theorem State.setPort_discardDone (s : State) (p : Nat) (v : PortSt) : (s.setPort p v).discardDone = s.discardDone := rfl
@[simp] theorem State.setPort_mc (s : State) (p : Nat) (v : PortSt) : (s.setPort p v).mc = s.mc := rfl
@[simp] theorem State.setPort_servo (s : State) (p : Nat) (v : PortSt) : (s.setPort p v).servo = s.servo := rfl
@[simp] theorem State.setPort_txs (s : State) (p : Nat) (v : PortSt) : (s.setPort p v).txs = s.txs := rfl
@[simp] theorem State.setPort_rxs (s : State) (p : Nat) (v : PortSt) : (s.setPort p v).rxs = s.rxs := rfl
@[simp] theorem State.setPort_laneCfg (s : State) (p : Nat) (v : PortSt) : (s.setPort p v).laneCfg = s.laneCfg := rfl
@[simp] theorem State.setPort_lmapDue (s : State) (p : Nat) (v : PortSt) : (s.setPort p v).lmapDue = s.lmapDue := rfl
@[simp] theorem State.setPort_subDue (s : State) (p : Nat) (v : PortSt) : (s.setPort p v).subDue = s.subDue := rfl
@[simp] theorem State.setPort_esc (s : State) (p : Nat) (v : PortSt) : (s.setPort p v).esc = s.esc := rfl
@[simp] theorem State.setPort_quiesce (s : State) (p : Nat) (v : PortSt) : (s.setPort p v).quiesce = s.quiesce := rfl
@[simp] theorem State.setPort_trgs (s : State) (p : Nat) (v : PortSt) : (s.setPort p v).trgs = s.trgs := rfl
@[simp] theorem State.setPort_firings (s : State) (p : Nat) (v : PortSt) : (s.setPort p v).firings = s.firings := rfl
@[simp] theorem State.setPort_wave (s : State) (p : Nat) (v : PortSt) : (s.setPort p v).wave = s.wave := rfl
@[simp] theorem State.setPort_units (s : State) (p : Nat) (v : PortSt) : (s.setPort p v).units = s.units := rfl
@[simp] theorem State.setPort_opts (s : State) (p : Nat) (v : PortSt) : (s.setPort p v).opts = s.opts := rfl
@[simp] theorem State.setPort_claimKey (s : State) (p : Nat) (v : PortSt) : (s.setPort p v).claimKey = s.claimKey := rfl
@[simp] theorem State.setPort_leaseAt (s : State) (p : Nat) (v : PortSt) : (s.setPort p v).leaseAt = s.leaseAt := rfl
@[simp] theorem State.setPort_leaseLoose (s : State) (p : Nat) (v : PortSt) : (s.setPort p v).leaseLoose = s.leaseLoose := rfl
@[simp] theorem State.setPort_mon (s : State) (p : Nat) (v : PortSt) : (s.setPort p v).mon = s.mon := rfl
@[simp] theorem State.setPort_i2c (s : State) (p : Nat) (v : PortSt) : (s.setPort p v).i2c = s.i2c := rfl
@[simp] theorem State.setPort_checks (s : State) (p : Nat) (v : PortSt) : (s.setPort p v).checks = s.checks := rfl
@[simp] theorem State.setPort_pw (s : State) (p : Nat) (v : PortSt) : (s.setPort p v).pw = s.pw := rfl
@[simp] theorem State.setPort_sec (s : State) (p : Nat) (v : PortSt) : (s.setPort p v).sec = s.sec := rfl
@[simp] theorem State.setPort_jtag (s : State) (p : Nat) (v : PortSt) : (s.setPort p v).jtag = s.jtag := rfl
@[simp] theorem State.setPort_uart (s : State) (p : Nat) (v : PortSt) : (s.setPort p v).uart = s.uart := rfl
@[simp] theorem State.get_setPort (s : State) (p : Nat) (v : PortSt) (g : Field) : (s.setPort p v).get g = s.get g := rfl

/-! ### setCore -/

@[simp] theorem State.setCore_pending (s : State) (c : Nat) (v : CoreSt) : (s.setCore c v).pending = s.pending := rfl
@[simp] theorem State.setCore_regs (s : State) (c : Nat) (v : CoreSt) : (s.setCore c v).regs = s.regs := rfl
@[simp] theorem State.setCore_latchHi (s : State) (c : Nat) (v : CoreSt) : (s.setCore c v).latchHi = s.latchHi := rfl
@[simp] theorem State.setCore_heldLo (s : State) (c : Nat) (v : CoreSt) : (s.setCore c v).heldLo = s.heldLo := rfl
@[simp] theorem State.setCore_mem (s : State) (c : Nat) (v : CoreSt) : (s.setCore c v).mem = s.mem := rfl
@[simp] theorem State.setCore_memGen (s : State) (c : Nat) (v : CoreSt) : (s.setCore c v).memGen = s.memGen := rfl
@[simp] theorem State.setCore_ecc (s : State) (c : Nat) (v : CoreSt) : (s.setCore c v).ecc = s.ecc := rfl
@[simp] theorem State.setCore_freeCtr (s : State) (c : Nat) (v : CoreSt) : (s.setCore c v).freeCtr = s.freeCtr := rfl
@[simp] theorem State.setCore_lastStatus (s : State) (c : Nat) (v : CoreSt) : (s.setCore c v).lastStatus = s.lastStatus := rfl
@[simp] theorem State.setCore_lastData (s : State) (c : Nat) (v : CoreSt) : (s.setCore c v).lastData = s.lastData := rfl
@[simp] theorem State.setCore_time (s : State) (c : Nat) (v : CoreSt) : (s.setCore c v).time = s.time := rfl
@[simp] theorem State.setCore_cyc (s : State) (c : Nat) (v : CoreSt) : (s.setCore c v).cyc = s.cyc := rfl
@[simp] theorem State.setCore_errOrder (s : State) (c : Nat) (v : CoreSt) : (s.setCore c v).errOrder = s.errOrder := rfl
@[simp] theorem State.setCore_errOpen (s : State) (c : Nat) (v : CoreSt) : (s.setCore c v).errOpen = s.errOpen := rfl
@[simp] theorem State.setCore_life (s : State) (c : Nat) (v : CoreSt) : (s.setCore c v).life = s.life := rfl
@[simp] theorem State.setCore_hitWords (s : State) (c : Nat) (v : CoreSt) : (s.setCore c v).hitWords = s.hitWords := rfl
@[simp] theorem State.setCore_ports (s : State) (c : Nat) (v : CoreSt) : (s.setCore c v).ports = s.ports := rfl
@[simp] theorem State.setCore_sent (s : State) (c : Nat) (v : CoreSt) : (s.setCore c v).sent = s.sent := rfl
@[simp] theorem State.setCore_marks (s : State) (c : Nat) (v : CoreSt) : (s.setCore c v).marks = s.marks := rfl
@[simp] theorem State.setCore_pixs (s : State) (c : Nat) (v : CoreSt) : (s.setCore c v).pixs = s.pixs := rfl
@[simp] theorem State.setCore_latches (s : State) (c : Nat) (v : CoreSt) : (s.setCore c v).latches = s.latches := rfl
@[simp] theorem State.setCore_hits (s : State) (c : Nat) (v : CoreSt) : (s.setCore c v).hits = s.hits := rfl
@[simp] theorem State.setCore_trains (s : State) (c : Nat) (v : CoreSt) : (s.setCore c v).trains = s.trains := rfl
@[simp] theorem State.setCore_injs (s : State) (c : Nat) (v : CoreSt) : (s.setCore c v).injs = s.injs := rfl
@[simp] theorem State.setCore_thrMove (s : State) (c : Nat) (v : CoreSt) : (s.setCore c v).thrMove = s.thrMove := rfl
@[simp] theorem State.setCore_fsumDue (s : State) (c : Nat) (v : CoreSt) : (s.setCore c v).fsumDue = s.fsumDue := rfl
@[simp] theorem State.setCore_fsumSel (s : State) (c : Nat) (v : CoreSt) : (s.setCore c v).fsumSel = s.fsumSel := rfl
@[simp] theorem State.setCore_fsumPeak (s : State) (c : Nat) (v : CoreSt) : (s.setCore c v).fsumPeak = s.fsumPeak := rfl
@[simp] theorem State.setCore_descent (s : State) (c : Nat) (v : CoreSt) : (s.setCore c v).descent = s.descent := rfl
@[simp] theorem State.setCore_interps (s : State) (c : Nat) (v : CoreSt) : (s.setCore c v).interps = s.interps := rfl
@[simp] theorem State.setCore_edgeTags (s : State) (c : Nat) (v : CoreSt) : (s.setCore c v).edgeTags = s.edgeTags := rfl
@[simp] theorem State.setCore_edgeStamps (s : State) (c : Nat) (v : CoreSt) : (s.setCore c v).edgeStamps = s.edgeStamps := rfl
@[simp] theorem State.setCore_tins (s : State) (c : Nat) (v : CoreSt) : (s.setCore c v).tins = s.tins := rfl
@[simp] theorem State.setCore_regions (s : State) (c : Nat) (v : CoreSt) : (s.setCore c v).regions = s.regions := rfl
@[simp] theorem State.setCore_libs (s : State) (c : Nat) (v : CoreSt) : (s.setCore c v).libs = s.libs := rfl
@[simp] theorem State.setCore_libPops (s : State) (c : Nat) (v : CoreSt) : (s.setCore c v).libPops = s.libPops := rfl
@[simp] theorem State.setCore_rreqs (s : State) (c : Nat) (v : CoreSt) : (s.setCore c v).rreqs = s.rreqs := rfl
@[simp] theorem State.setCore_sendMask (s : State) (c : Nat) (v : CoreSt) : (s.setCore c v).sendMask = s.sendMask := rfl
@[simp] theorem State.setCore_merge (s : State) (c : Nat) (v : CoreSt) : (s.setCore c v).merge = s.merge := rfl
@[simp] theorem State.setCore_keels (s : State) (c : Nat) (v : CoreSt) : (s.setCore c v).keels = s.keels := rfl
@[simp] theorem State.setCore_retain (s : State) (c : Nat) (v : CoreSt) : (s.setCore c v).retain = s.retain := rfl
@[simp] theorem State.setCore_dram (s : State) (c : Nat) (v : CoreSt) : (s.setCore c v).dram = s.dram := rfl
@[simp] theorem State.setCore_pins (s : State) (c : Nat) (v : CoreSt) : (s.setCore c v).pins = s.pins := rfl
@[simp] theorem State.setCore_failUndo (s : State) (c : Nat) (v : CoreSt) : (s.setCore c v).failUndo = s.failUndo := rfl
@[simp] theorem State.setCore_failover (s : State) (c : Nat) (v : CoreSt) : (s.setCore c v).failover = s.failover := rfl
@[simp] theorem State.setCore_remsgs (s : State) (c : Nat) (v : CoreSt) : (s.setCore c v).remsgs = s.remsgs := rfl
@[simp] theorem State.setCore_epochDone (s : State) (c : Nat) (v : CoreSt) : (s.setCore c v).epochDone = s.epochDone := rfl
@[simp] theorem State.setCore_ballastDone (s : State) (c : Nat) (v : CoreSt) : (s.setCore c v).ballastDone = s.ballastDone := rfl
@[simp] theorem State.setCore_discardDone (s : State) (c : Nat) (v : CoreSt) : (s.setCore c v).discardDone = s.discardDone := rfl
@[simp] theorem State.setCore_mc (s : State) (c : Nat) (v : CoreSt) : (s.setCore c v).mc = s.mc := rfl
@[simp] theorem State.setCore_servo (s : State) (c : Nat) (v : CoreSt) : (s.setCore c v).servo = s.servo := rfl
@[simp] theorem State.setCore_txs (s : State) (c : Nat) (v : CoreSt) : (s.setCore c v).txs = s.txs := rfl
@[simp] theorem State.setCore_rxs (s : State) (c : Nat) (v : CoreSt) : (s.setCore c v).rxs = s.rxs := rfl
@[simp] theorem State.setCore_laneCfg (s : State) (c : Nat) (v : CoreSt) : (s.setCore c v).laneCfg = s.laneCfg := rfl
@[simp] theorem State.setCore_lmapDue (s : State) (c : Nat) (v : CoreSt) : (s.setCore c v).lmapDue = s.lmapDue := rfl
@[simp] theorem State.setCore_subDue (s : State) (c : Nat) (v : CoreSt) : (s.setCore c v).subDue = s.subDue := rfl
@[simp] theorem State.setCore_esc (s : State) (c : Nat) (v : CoreSt) : (s.setCore c v).esc = s.esc := rfl
@[simp] theorem State.setCore_quiesce (s : State) (c : Nat) (v : CoreSt) : (s.setCore c v).quiesce = s.quiesce := rfl
@[simp] theorem State.setCore_trgs (s : State) (c : Nat) (v : CoreSt) : (s.setCore c v).trgs = s.trgs := rfl
@[simp] theorem State.setCore_firings (s : State) (c : Nat) (v : CoreSt) : (s.setCore c v).firings = s.firings := rfl
@[simp] theorem State.setCore_wave (s : State) (c : Nat) (v : CoreSt) : (s.setCore c v).wave = s.wave := rfl
@[simp] theorem State.setCore_units (s : State) (c : Nat) (v : CoreSt) : (s.setCore c v).units = s.units := rfl
@[simp] theorem State.setCore_opts (s : State) (c : Nat) (v : CoreSt) : (s.setCore c v).opts = s.opts := rfl
@[simp] theorem State.setCore_claimKey (s : State) (c : Nat) (v : CoreSt) : (s.setCore c v).claimKey = s.claimKey := rfl
@[simp] theorem State.setCore_leaseAt (s : State) (c : Nat) (v : CoreSt) : (s.setCore c v).leaseAt = s.leaseAt := rfl
@[simp] theorem State.setCore_leaseLoose (s : State) (c : Nat) (v : CoreSt) : (s.setCore c v).leaseLoose = s.leaseLoose := rfl
@[simp] theorem State.setCore_mon (s : State) (c : Nat) (v : CoreSt) : (s.setCore c v).mon = s.mon := rfl
@[simp] theorem State.setCore_i2c (s : State) (c : Nat) (v : CoreSt) : (s.setCore c v).i2c = s.i2c := rfl
@[simp] theorem State.setCore_checks (s : State) (c : Nat) (v : CoreSt) : (s.setCore c v).checks = s.checks := rfl
@[simp] theorem State.setCore_pw (s : State) (c : Nat) (v : CoreSt) : (s.setCore c v).pw = s.pw := rfl
@[simp] theorem State.setCore_sec (s : State) (c : Nat) (v : CoreSt) : (s.setCore c v).sec = s.sec := rfl
@[simp] theorem State.setCore_jtag (s : State) (c : Nat) (v : CoreSt) : (s.setCore c v).jtag = s.jtag := rfl
@[simp] theorem State.setCore_uart (s : State) (c : Nat) (v : CoreSt) : (s.setCore c v).uart = s.uart := rfl
@[simp] theorem State.get_setCore (s : State) (c : Nat) (v : CoreSt) (g : Field) : (s.setCore c v).get g = s.get g := rfl

/-! ### setRegion -/

@[simp] theorem State.setRegion_pending (s : State) (n : Nat) (v : RegionSt) : (s.setRegion n v).pending = s.pending := rfl
@[simp] theorem State.setRegion_regs (s : State) (n : Nat) (v : RegionSt) : (s.setRegion n v).regs = s.regs := rfl
@[simp] theorem State.setRegion_latchHi (s : State) (n : Nat) (v : RegionSt) : (s.setRegion n v).latchHi = s.latchHi := rfl
@[simp] theorem State.setRegion_heldLo (s : State) (n : Nat) (v : RegionSt) : (s.setRegion n v).heldLo = s.heldLo := rfl
@[simp] theorem State.setRegion_mem (s : State) (n : Nat) (v : RegionSt) : (s.setRegion n v).mem = s.mem := rfl
@[simp] theorem State.setRegion_memGen (s : State) (n : Nat) (v : RegionSt) : (s.setRegion n v).memGen = s.memGen := rfl
@[simp] theorem State.setRegion_ecc (s : State) (n : Nat) (v : RegionSt) : (s.setRegion n v).ecc = s.ecc := rfl
@[simp] theorem State.setRegion_freeCtr (s : State) (n : Nat) (v : RegionSt) : (s.setRegion n v).freeCtr = s.freeCtr := rfl
@[simp] theorem State.setRegion_lastStatus (s : State) (n : Nat) (v : RegionSt) : (s.setRegion n v).lastStatus = s.lastStatus := rfl
@[simp] theorem State.setRegion_lastData (s : State) (n : Nat) (v : RegionSt) : (s.setRegion n v).lastData = s.lastData := rfl
@[simp] theorem State.setRegion_time (s : State) (n : Nat) (v : RegionSt) : (s.setRegion n v).time = s.time := rfl
@[simp] theorem State.setRegion_cyc (s : State) (n : Nat) (v : RegionSt) : (s.setRegion n v).cyc = s.cyc := rfl
@[simp] theorem State.setRegion_errOrder (s : State) (n : Nat) (v : RegionSt) : (s.setRegion n v).errOrder = s.errOrder := rfl
@[simp] theorem State.setRegion_errOpen (s : State) (n : Nat) (v : RegionSt) : (s.setRegion n v).errOpen = s.errOpen := rfl
@[simp] theorem State.setRegion_life (s : State) (n : Nat) (v : RegionSt) : (s.setRegion n v).life = s.life := rfl
@[simp] theorem State.setRegion_hitWords (s : State) (n : Nat) (v : RegionSt) : (s.setRegion n v).hitWords = s.hitWords := rfl
@[simp] theorem State.setRegion_ports (s : State) (n : Nat) (v : RegionSt) : (s.setRegion n v).ports = s.ports := rfl
@[simp] theorem State.setRegion_sent (s : State) (n : Nat) (v : RegionSt) : (s.setRegion n v).sent = s.sent := rfl
@[simp] theorem State.setRegion_marks (s : State) (n : Nat) (v : RegionSt) : (s.setRegion n v).marks = s.marks := rfl
@[simp] theorem State.setRegion_pixs (s : State) (n : Nat) (v : RegionSt) : (s.setRegion n v).pixs = s.pixs := rfl
@[simp] theorem State.setRegion_latches (s : State) (n : Nat) (v : RegionSt) : (s.setRegion n v).latches = s.latches := rfl
@[simp] theorem State.setRegion_hits (s : State) (n : Nat) (v : RegionSt) : (s.setRegion n v).hits = s.hits := rfl
@[simp] theorem State.setRegion_trains (s : State) (n : Nat) (v : RegionSt) : (s.setRegion n v).trains = s.trains := rfl
@[simp] theorem State.setRegion_injs (s : State) (n : Nat) (v : RegionSt) : (s.setRegion n v).injs = s.injs := rfl
@[simp] theorem State.setRegion_thrMove (s : State) (n : Nat) (v : RegionSt) : (s.setRegion n v).thrMove = s.thrMove := rfl
@[simp] theorem State.setRegion_fsumDue (s : State) (n : Nat) (v : RegionSt) : (s.setRegion n v).fsumDue = s.fsumDue := rfl
@[simp] theorem State.setRegion_fsumSel (s : State) (n : Nat) (v : RegionSt) : (s.setRegion n v).fsumSel = s.fsumSel := rfl
@[simp] theorem State.setRegion_fsumPeak (s : State) (n : Nat) (v : RegionSt) : (s.setRegion n v).fsumPeak = s.fsumPeak := rfl
@[simp] theorem State.setRegion_descent (s : State) (n : Nat) (v : RegionSt) : (s.setRegion n v).descent = s.descent := rfl
@[simp] theorem State.setRegion_interps (s : State) (n : Nat) (v : RegionSt) : (s.setRegion n v).interps = s.interps := rfl
@[simp] theorem State.setRegion_edgeTags (s : State) (n : Nat) (v : RegionSt) : (s.setRegion n v).edgeTags = s.edgeTags := rfl
@[simp] theorem State.setRegion_edgeStamps (s : State) (n : Nat) (v : RegionSt) : (s.setRegion n v).edgeStamps = s.edgeStamps := rfl
@[simp] theorem State.setRegion_tins (s : State) (n : Nat) (v : RegionSt) : (s.setRegion n v).tins = s.tins := rfl
@[simp] theorem State.setRegion_cores (s : State) (n : Nat) (v : RegionSt) : (s.setRegion n v).cores = s.cores := rfl
@[simp] theorem State.setRegion_libs (s : State) (n : Nat) (v : RegionSt) : (s.setRegion n v).libs = s.libs := rfl
@[simp] theorem State.setRegion_libPops (s : State) (n : Nat) (v : RegionSt) : (s.setRegion n v).libPops = s.libPops := rfl
@[simp] theorem State.setRegion_rreqs (s : State) (n : Nat) (v : RegionSt) : (s.setRegion n v).rreqs = s.rreqs := rfl
@[simp] theorem State.setRegion_sendMask (s : State) (n : Nat) (v : RegionSt) : (s.setRegion n v).sendMask = s.sendMask := rfl
@[simp] theorem State.setRegion_merge (s : State) (n : Nat) (v : RegionSt) : (s.setRegion n v).merge = s.merge := rfl
@[simp] theorem State.setRegion_keels (s : State) (n : Nat) (v : RegionSt) : (s.setRegion n v).keels = s.keels := rfl
@[simp] theorem State.setRegion_retain (s : State) (n : Nat) (v : RegionSt) : (s.setRegion n v).retain = s.retain := rfl
@[simp] theorem State.setRegion_dram (s : State) (n : Nat) (v : RegionSt) : (s.setRegion n v).dram = s.dram := rfl
@[simp] theorem State.setRegion_pins (s : State) (n : Nat) (v : RegionSt) : (s.setRegion n v).pins = s.pins := rfl
@[simp] theorem State.setRegion_failUndo (s : State) (n : Nat) (v : RegionSt) : (s.setRegion n v).failUndo = s.failUndo := rfl
@[simp] theorem State.setRegion_failover (s : State) (n : Nat) (v : RegionSt) : (s.setRegion n v).failover = s.failover := rfl
@[simp] theorem State.setRegion_remsgs (s : State) (n : Nat) (v : RegionSt) : (s.setRegion n v).remsgs = s.remsgs := rfl
@[simp] theorem State.setRegion_epochDone (s : State) (n : Nat) (v : RegionSt) : (s.setRegion n v).epochDone = s.epochDone := rfl
@[simp] theorem State.setRegion_ballastDone (s : State) (n : Nat) (v : RegionSt) : (s.setRegion n v).ballastDone = s.ballastDone := rfl
@[simp] theorem State.setRegion_discardDone (s : State) (n : Nat) (v : RegionSt) : (s.setRegion n v).discardDone = s.discardDone := rfl
@[simp] theorem State.setRegion_mc (s : State) (n : Nat) (v : RegionSt) : (s.setRegion n v).mc = s.mc := rfl
@[simp] theorem State.setRegion_servo (s : State) (n : Nat) (v : RegionSt) : (s.setRegion n v).servo = s.servo := rfl
@[simp] theorem State.setRegion_txs (s : State) (n : Nat) (v : RegionSt) : (s.setRegion n v).txs = s.txs := rfl
@[simp] theorem State.setRegion_rxs (s : State) (n : Nat) (v : RegionSt) : (s.setRegion n v).rxs = s.rxs := rfl
@[simp] theorem State.setRegion_laneCfg (s : State) (n : Nat) (v : RegionSt) : (s.setRegion n v).laneCfg = s.laneCfg := rfl
@[simp] theorem State.setRegion_lmapDue (s : State) (n : Nat) (v : RegionSt) : (s.setRegion n v).lmapDue = s.lmapDue := rfl
@[simp] theorem State.setRegion_subDue (s : State) (n : Nat) (v : RegionSt) : (s.setRegion n v).subDue = s.subDue := rfl
@[simp] theorem State.setRegion_esc (s : State) (n : Nat) (v : RegionSt) : (s.setRegion n v).esc = s.esc := rfl
@[simp] theorem State.setRegion_quiesce (s : State) (n : Nat) (v : RegionSt) : (s.setRegion n v).quiesce = s.quiesce := rfl
@[simp] theorem State.setRegion_trgs (s : State) (n : Nat) (v : RegionSt) : (s.setRegion n v).trgs = s.trgs := rfl
@[simp] theorem State.setRegion_firings (s : State) (n : Nat) (v : RegionSt) : (s.setRegion n v).firings = s.firings := rfl
@[simp] theorem State.setRegion_wave (s : State) (n : Nat) (v : RegionSt) : (s.setRegion n v).wave = s.wave := rfl
@[simp] theorem State.setRegion_units (s : State) (n : Nat) (v : RegionSt) : (s.setRegion n v).units = s.units := rfl
@[simp] theorem State.setRegion_opts (s : State) (n : Nat) (v : RegionSt) : (s.setRegion n v).opts = s.opts := rfl
@[simp] theorem State.setRegion_claimKey (s : State) (n : Nat) (v : RegionSt) : (s.setRegion n v).claimKey = s.claimKey := rfl
@[simp] theorem State.setRegion_leaseAt (s : State) (n : Nat) (v : RegionSt) : (s.setRegion n v).leaseAt = s.leaseAt := rfl
@[simp] theorem State.setRegion_leaseLoose (s : State) (n : Nat) (v : RegionSt) : (s.setRegion n v).leaseLoose = s.leaseLoose := rfl
@[simp] theorem State.setRegion_mon (s : State) (n : Nat) (v : RegionSt) : (s.setRegion n v).mon = s.mon := rfl
@[simp] theorem State.setRegion_i2c (s : State) (n : Nat) (v : RegionSt) : (s.setRegion n v).i2c = s.i2c := rfl
@[simp] theorem State.setRegion_checks (s : State) (n : Nat) (v : RegionSt) : (s.setRegion n v).checks = s.checks := rfl
@[simp] theorem State.setRegion_pw (s : State) (n : Nat) (v : RegionSt) : (s.setRegion n v).pw = s.pw := rfl
@[simp] theorem State.setRegion_sec (s : State) (n : Nat) (v : RegionSt) : (s.setRegion n v).sec = s.sec := rfl
@[simp] theorem State.setRegion_jtag (s : State) (n : Nat) (v : RegionSt) : (s.setRegion n v).jtag = s.jtag := rfl
@[simp] theorem State.setRegion_uart (s : State) (n : Nat) (v : RegionSt) : (s.setRegion n v).uart = s.uart := rfl
@[simp] theorem State.get_setRegion (s : State) (n : Nat) (v : RegionSt) (g : Field) : (s.setRegion n v).get g = s.get g := rfl

/-! ### setInterp -/

@[simp] theorem State.setInterp_pending (s : State) (u i : Nat) (v : InterpSt) : (s.setInterp u i v).pending = s.pending := rfl
@[simp] theorem State.setInterp_regs (s : State) (u i : Nat) (v : InterpSt) : (s.setInterp u i v).regs = s.regs := rfl
@[simp] theorem State.setInterp_latchHi (s : State) (u i : Nat) (v : InterpSt) : (s.setInterp u i v).latchHi = s.latchHi := rfl
@[simp] theorem State.setInterp_heldLo (s : State) (u i : Nat) (v : InterpSt) : (s.setInterp u i v).heldLo = s.heldLo := rfl
@[simp] theorem State.setInterp_mem (s : State) (u i : Nat) (v : InterpSt) : (s.setInterp u i v).mem = s.mem := rfl
@[simp] theorem State.setInterp_memGen (s : State) (u i : Nat) (v : InterpSt) : (s.setInterp u i v).memGen = s.memGen := rfl
@[simp] theorem State.setInterp_ecc (s : State) (u i : Nat) (v : InterpSt) : (s.setInterp u i v).ecc = s.ecc := rfl
@[simp] theorem State.setInterp_freeCtr (s : State) (u i : Nat) (v : InterpSt) : (s.setInterp u i v).freeCtr = s.freeCtr := rfl
@[simp] theorem State.setInterp_lastStatus (s : State) (u i : Nat) (v : InterpSt) : (s.setInterp u i v).lastStatus = s.lastStatus := rfl
@[simp] theorem State.setInterp_lastData (s : State) (u i : Nat) (v : InterpSt) : (s.setInterp u i v).lastData = s.lastData := rfl
@[simp] theorem State.setInterp_time (s : State) (u i : Nat) (v : InterpSt) : (s.setInterp u i v).time = s.time := rfl
@[simp] theorem State.setInterp_cyc (s : State) (u i : Nat) (v : InterpSt) : (s.setInterp u i v).cyc = s.cyc := rfl
@[simp] theorem State.setInterp_errOrder (s : State) (u i : Nat) (v : InterpSt) : (s.setInterp u i v).errOrder = s.errOrder := rfl
@[simp] theorem State.setInterp_errOpen (s : State) (u i : Nat) (v : InterpSt) : (s.setInterp u i v).errOpen = s.errOpen := rfl
@[simp] theorem State.setInterp_life (s : State) (u i : Nat) (v : InterpSt) : (s.setInterp u i v).life = s.life := rfl
@[simp] theorem State.setInterp_hitWords (s : State) (u i : Nat) (v : InterpSt) : (s.setInterp u i v).hitWords = s.hitWords := rfl
@[simp] theorem State.setInterp_ports (s : State) (u i : Nat) (v : InterpSt) : (s.setInterp u i v).ports = s.ports := rfl
@[simp] theorem State.setInterp_sent (s : State) (u i : Nat) (v : InterpSt) : (s.setInterp u i v).sent = s.sent := rfl
@[simp] theorem State.setInterp_marks (s : State) (u i : Nat) (v : InterpSt) : (s.setInterp u i v).marks = s.marks := rfl
@[simp] theorem State.setInterp_pixs (s : State) (u i : Nat) (v : InterpSt) : (s.setInterp u i v).pixs = s.pixs := rfl
@[simp] theorem State.setInterp_latches (s : State) (u i : Nat) (v : InterpSt) : (s.setInterp u i v).latches = s.latches := rfl
@[simp] theorem State.setInterp_hits (s : State) (u i : Nat) (v : InterpSt) : (s.setInterp u i v).hits = s.hits := rfl
@[simp] theorem State.setInterp_trains (s : State) (u i : Nat) (v : InterpSt) : (s.setInterp u i v).trains = s.trains := rfl
@[simp] theorem State.setInterp_injs (s : State) (u i : Nat) (v : InterpSt) : (s.setInterp u i v).injs = s.injs := rfl
@[simp] theorem State.setInterp_thrMove (s : State) (u i : Nat) (v : InterpSt) : (s.setInterp u i v).thrMove = s.thrMove := rfl
@[simp] theorem State.setInterp_fsumDue (s : State) (u i : Nat) (v : InterpSt) : (s.setInterp u i v).fsumDue = s.fsumDue := rfl
@[simp] theorem State.setInterp_fsumSel (s : State) (u i : Nat) (v : InterpSt) : (s.setInterp u i v).fsumSel = s.fsumSel := rfl
@[simp] theorem State.setInterp_fsumPeak (s : State) (u i : Nat) (v : InterpSt) : (s.setInterp u i v).fsumPeak = s.fsumPeak := rfl
@[simp] theorem State.setInterp_descent (s : State) (u i : Nat) (v : InterpSt) : (s.setInterp u i v).descent = s.descent := rfl
@[simp] theorem State.setInterp_edgeTags (s : State) (u i : Nat) (v : InterpSt) : (s.setInterp u i v).edgeTags = s.edgeTags := rfl
@[simp] theorem State.setInterp_edgeStamps (s : State) (u i : Nat) (v : InterpSt) : (s.setInterp u i v).edgeStamps = s.edgeStamps := rfl
@[simp] theorem State.setInterp_tins (s : State) (u i : Nat) (v : InterpSt) : (s.setInterp u i v).tins = s.tins := rfl
@[simp] theorem State.setInterp_regions (s : State) (u i : Nat) (v : InterpSt) : (s.setInterp u i v).regions = s.regions := rfl
@[simp] theorem State.setInterp_cores (s : State) (u i : Nat) (v : InterpSt) : (s.setInterp u i v).cores = s.cores := rfl
@[simp] theorem State.setInterp_libs (s : State) (u i : Nat) (v : InterpSt) : (s.setInterp u i v).libs = s.libs := rfl
@[simp] theorem State.setInterp_libPops (s : State) (u i : Nat) (v : InterpSt) : (s.setInterp u i v).libPops = s.libPops := rfl
@[simp] theorem State.setInterp_rreqs (s : State) (u i : Nat) (v : InterpSt) : (s.setInterp u i v).rreqs = s.rreqs := rfl
@[simp] theorem State.setInterp_sendMask (s : State) (u i : Nat) (v : InterpSt) : (s.setInterp u i v).sendMask = s.sendMask := rfl
@[simp] theorem State.setInterp_merge (s : State) (u i : Nat) (v : InterpSt) : (s.setInterp u i v).merge = s.merge := rfl
@[simp] theorem State.setInterp_keels (s : State) (u i : Nat) (v : InterpSt) : (s.setInterp u i v).keels = s.keels := rfl
@[simp] theorem State.setInterp_retain (s : State) (u i : Nat) (v : InterpSt) : (s.setInterp u i v).retain = s.retain := rfl
@[simp] theorem State.setInterp_dram (s : State) (u i : Nat) (v : InterpSt) : (s.setInterp u i v).dram = s.dram := rfl
@[simp] theorem State.setInterp_pins (s : State) (u i : Nat) (v : InterpSt) : (s.setInterp u i v).pins = s.pins := rfl
@[simp] theorem State.setInterp_failUndo (s : State) (u i : Nat) (v : InterpSt) : (s.setInterp u i v).failUndo = s.failUndo := rfl
@[simp] theorem State.setInterp_failover (s : State) (u i : Nat) (v : InterpSt) : (s.setInterp u i v).failover = s.failover := rfl
@[simp] theorem State.setInterp_remsgs (s : State) (u i : Nat) (v : InterpSt) : (s.setInterp u i v).remsgs = s.remsgs := rfl
@[simp] theorem State.setInterp_epochDone (s : State) (u i : Nat) (v : InterpSt) : (s.setInterp u i v).epochDone = s.epochDone := rfl
@[simp] theorem State.setInterp_ballastDone (s : State) (u i : Nat) (v : InterpSt) : (s.setInterp u i v).ballastDone = s.ballastDone := rfl
@[simp] theorem State.setInterp_discardDone (s : State) (u i : Nat) (v : InterpSt) : (s.setInterp u i v).discardDone = s.discardDone := rfl
@[simp] theorem State.setInterp_mc (s : State) (u i : Nat) (v : InterpSt) : (s.setInterp u i v).mc = s.mc := rfl
@[simp] theorem State.setInterp_servo (s : State) (u i : Nat) (v : InterpSt) : (s.setInterp u i v).servo = s.servo := rfl
@[simp] theorem State.setInterp_txs (s : State) (u i : Nat) (v : InterpSt) : (s.setInterp u i v).txs = s.txs := rfl
@[simp] theorem State.setInterp_rxs (s : State) (u i : Nat) (v : InterpSt) : (s.setInterp u i v).rxs = s.rxs := rfl
@[simp] theorem State.setInterp_laneCfg (s : State) (u i : Nat) (v : InterpSt) : (s.setInterp u i v).laneCfg = s.laneCfg := rfl
@[simp] theorem State.setInterp_lmapDue (s : State) (u i : Nat) (v : InterpSt) : (s.setInterp u i v).lmapDue = s.lmapDue := rfl
@[simp] theorem State.setInterp_subDue (s : State) (u i : Nat) (v : InterpSt) : (s.setInterp u i v).subDue = s.subDue := rfl
@[simp] theorem State.setInterp_esc (s : State) (u i : Nat) (v : InterpSt) : (s.setInterp u i v).esc = s.esc := rfl
@[simp] theorem State.setInterp_quiesce (s : State) (u i : Nat) (v : InterpSt) : (s.setInterp u i v).quiesce = s.quiesce := rfl
@[simp] theorem State.setInterp_trgs (s : State) (u i : Nat) (v : InterpSt) : (s.setInterp u i v).trgs = s.trgs := rfl
@[simp] theorem State.setInterp_firings (s : State) (u i : Nat) (v : InterpSt) : (s.setInterp u i v).firings = s.firings := rfl
@[simp] theorem State.setInterp_wave (s : State) (u i : Nat) (v : InterpSt) : (s.setInterp u i v).wave = s.wave := rfl
@[simp] theorem State.setInterp_units (s : State) (u i : Nat) (v : InterpSt) : (s.setInterp u i v).units = s.units := rfl
@[simp] theorem State.setInterp_opts (s : State) (u i : Nat) (v : InterpSt) : (s.setInterp u i v).opts = s.opts := rfl
@[simp] theorem State.setInterp_claimKey (s : State) (u i : Nat) (v : InterpSt) : (s.setInterp u i v).claimKey = s.claimKey := rfl
@[simp] theorem State.setInterp_leaseAt (s : State) (u i : Nat) (v : InterpSt) : (s.setInterp u i v).leaseAt = s.leaseAt := rfl
@[simp] theorem State.setInterp_leaseLoose (s : State) (u i : Nat) (v : InterpSt) : (s.setInterp u i v).leaseLoose = s.leaseLoose := rfl
@[simp] theorem State.setInterp_mon (s : State) (u i : Nat) (v : InterpSt) : (s.setInterp u i v).mon = s.mon := rfl
@[simp] theorem State.setInterp_i2c (s : State) (u i : Nat) (v : InterpSt) : (s.setInterp u i v).i2c = s.i2c := rfl
@[simp] theorem State.setInterp_checks (s : State) (u i : Nat) (v : InterpSt) : (s.setInterp u i v).checks = s.checks := rfl
@[simp] theorem State.setInterp_pw (s : State) (u i : Nat) (v : InterpSt) : (s.setInterp u i v).pw = s.pw := rfl
@[simp] theorem State.setInterp_sec (s : State) (u i : Nat) (v : InterpSt) : (s.setInterp u i v).sec = s.sec := rfl
@[simp] theorem State.setInterp_jtag (s : State) (u i : Nat) (v : InterpSt) : (s.setInterp u i v).jtag = s.jtag := rfl
@[simp] theorem State.setInterp_uart (s : State) (u i : Nat) (v : InterpSt) : (s.setInterp u i v).uart = s.uart := rfl
@[simp] theorem State.get_setInterp (s : State) (u i : Nat) (v : InterpSt) (g : Field) : (s.setInterp u i v).get g = s.get g := rfl

/-! ### setKeel -/

@[simp] theorem State.setKeel_pending (s : State) (k : Nat) (v : KeelSt) : (s.setKeel k v).pending = s.pending := rfl
@[simp] theorem State.setKeel_regs (s : State) (k : Nat) (v : KeelSt) : (s.setKeel k v).regs = s.regs := rfl
@[simp] theorem State.setKeel_latchHi (s : State) (k : Nat) (v : KeelSt) : (s.setKeel k v).latchHi = s.latchHi := rfl
@[simp] theorem State.setKeel_heldLo (s : State) (k : Nat) (v : KeelSt) : (s.setKeel k v).heldLo = s.heldLo := rfl
@[simp] theorem State.setKeel_mem (s : State) (k : Nat) (v : KeelSt) : (s.setKeel k v).mem = s.mem := rfl
@[simp] theorem State.setKeel_memGen (s : State) (k : Nat) (v : KeelSt) : (s.setKeel k v).memGen = s.memGen := rfl
@[simp] theorem State.setKeel_ecc (s : State) (k : Nat) (v : KeelSt) : (s.setKeel k v).ecc = s.ecc := rfl
@[simp] theorem State.setKeel_freeCtr (s : State) (k : Nat) (v : KeelSt) : (s.setKeel k v).freeCtr = s.freeCtr := rfl
@[simp] theorem State.setKeel_lastStatus (s : State) (k : Nat) (v : KeelSt) : (s.setKeel k v).lastStatus = s.lastStatus := rfl
@[simp] theorem State.setKeel_lastData (s : State) (k : Nat) (v : KeelSt) : (s.setKeel k v).lastData = s.lastData := rfl
@[simp] theorem State.setKeel_time (s : State) (k : Nat) (v : KeelSt) : (s.setKeel k v).time = s.time := rfl
@[simp] theorem State.setKeel_cyc (s : State) (k : Nat) (v : KeelSt) : (s.setKeel k v).cyc = s.cyc := rfl
@[simp] theorem State.setKeel_errOrder (s : State) (k : Nat) (v : KeelSt) : (s.setKeel k v).errOrder = s.errOrder := rfl
@[simp] theorem State.setKeel_errOpen (s : State) (k : Nat) (v : KeelSt) : (s.setKeel k v).errOpen = s.errOpen := rfl
@[simp] theorem State.setKeel_life (s : State) (k : Nat) (v : KeelSt) : (s.setKeel k v).life = s.life := rfl
@[simp] theorem State.setKeel_hitWords (s : State) (k : Nat) (v : KeelSt) : (s.setKeel k v).hitWords = s.hitWords := rfl
@[simp] theorem State.setKeel_ports (s : State) (k : Nat) (v : KeelSt) : (s.setKeel k v).ports = s.ports := rfl
@[simp] theorem State.setKeel_sent (s : State) (k : Nat) (v : KeelSt) : (s.setKeel k v).sent = s.sent := rfl
@[simp] theorem State.setKeel_marks (s : State) (k : Nat) (v : KeelSt) : (s.setKeel k v).marks = s.marks := rfl
@[simp] theorem State.setKeel_pixs (s : State) (k : Nat) (v : KeelSt) : (s.setKeel k v).pixs = s.pixs := rfl
@[simp] theorem State.setKeel_latches (s : State) (k : Nat) (v : KeelSt) : (s.setKeel k v).latches = s.latches := rfl
@[simp] theorem State.setKeel_hits (s : State) (k : Nat) (v : KeelSt) : (s.setKeel k v).hits = s.hits := rfl
@[simp] theorem State.setKeel_trains (s : State) (k : Nat) (v : KeelSt) : (s.setKeel k v).trains = s.trains := rfl
@[simp] theorem State.setKeel_injs (s : State) (k : Nat) (v : KeelSt) : (s.setKeel k v).injs = s.injs := rfl
@[simp] theorem State.setKeel_thrMove (s : State) (k : Nat) (v : KeelSt) : (s.setKeel k v).thrMove = s.thrMove := rfl
@[simp] theorem State.setKeel_fsumDue (s : State) (k : Nat) (v : KeelSt) : (s.setKeel k v).fsumDue = s.fsumDue := rfl
@[simp] theorem State.setKeel_fsumSel (s : State) (k : Nat) (v : KeelSt) : (s.setKeel k v).fsumSel = s.fsumSel := rfl
@[simp] theorem State.setKeel_fsumPeak (s : State) (k : Nat) (v : KeelSt) : (s.setKeel k v).fsumPeak = s.fsumPeak := rfl
@[simp] theorem State.setKeel_descent (s : State) (k : Nat) (v : KeelSt) : (s.setKeel k v).descent = s.descent := rfl
@[simp] theorem State.setKeel_interps (s : State) (k : Nat) (v : KeelSt) : (s.setKeel k v).interps = s.interps := rfl
@[simp] theorem State.setKeel_edgeTags (s : State) (k : Nat) (v : KeelSt) : (s.setKeel k v).edgeTags = s.edgeTags := rfl
@[simp] theorem State.setKeel_edgeStamps (s : State) (k : Nat) (v : KeelSt) : (s.setKeel k v).edgeStamps = s.edgeStamps := rfl
@[simp] theorem State.setKeel_tins (s : State) (k : Nat) (v : KeelSt) : (s.setKeel k v).tins = s.tins := rfl
@[simp] theorem State.setKeel_regions (s : State) (k : Nat) (v : KeelSt) : (s.setKeel k v).regions = s.regions := rfl
@[simp] theorem State.setKeel_cores (s : State) (k : Nat) (v : KeelSt) : (s.setKeel k v).cores = s.cores := rfl
@[simp] theorem State.setKeel_libs (s : State) (k : Nat) (v : KeelSt) : (s.setKeel k v).libs = s.libs := rfl
@[simp] theorem State.setKeel_libPops (s : State) (k : Nat) (v : KeelSt) : (s.setKeel k v).libPops = s.libPops := rfl
@[simp] theorem State.setKeel_rreqs (s : State) (k : Nat) (v : KeelSt) : (s.setKeel k v).rreqs = s.rreqs := rfl
@[simp] theorem State.setKeel_sendMask (s : State) (k : Nat) (v : KeelSt) : (s.setKeel k v).sendMask = s.sendMask := rfl
@[simp] theorem State.setKeel_merge (s : State) (k : Nat) (v : KeelSt) : (s.setKeel k v).merge = s.merge := rfl
@[simp] theorem State.setKeel_retain (s : State) (k : Nat) (v : KeelSt) : (s.setKeel k v).retain = s.retain := rfl
@[simp] theorem State.setKeel_dram (s : State) (k : Nat) (v : KeelSt) : (s.setKeel k v).dram = s.dram := rfl
@[simp] theorem State.setKeel_pins (s : State) (k : Nat) (v : KeelSt) : (s.setKeel k v).pins = s.pins := rfl
@[simp] theorem State.setKeel_failUndo (s : State) (k : Nat) (v : KeelSt) : (s.setKeel k v).failUndo = s.failUndo := rfl
@[simp] theorem State.setKeel_failover (s : State) (k : Nat) (v : KeelSt) : (s.setKeel k v).failover = s.failover := rfl
@[simp] theorem State.setKeel_remsgs (s : State) (k : Nat) (v : KeelSt) : (s.setKeel k v).remsgs = s.remsgs := rfl
@[simp] theorem State.setKeel_epochDone (s : State) (k : Nat) (v : KeelSt) : (s.setKeel k v).epochDone = s.epochDone := rfl
@[simp] theorem State.setKeel_ballastDone (s : State) (k : Nat) (v : KeelSt) : (s.setKeel k v).ballastDone = s.ballastDone := rfl
@[simp] theorem State.setKeel_discardDone (s : State) (k : Nat) (v : KeelSt) : (s.setKeel k v).discardDone = s.discardDone := rfl
@[simp] theorem State.setKeel_mc (s : State) (k : Nat) (v : KeelSt) : (s.setKeel k v).mc = s.mc := rfl
@[simp] theorem State.setKeel_servo (s : State) (k : Nat) (v : KeelSt) : (s.setKeel k v).servo = s.servo := rfl
@[simp] theorem State.setKeel_txs (s : State) (k : Nat) (v : KeelSt) : (s.setKeel k v).txs = s.txs := rfl
@[simp] theorem State.setKeel_rxs (s : State) (k : Nat) (v : KeelSt) : (s.setKeel k v).rxs = s.rxs := rfl
@[simp] theorem State.setKeel_laneCfg (s : State) (k : Nat) (v : KeelSt) : (s.setKeel k v).laneCfg = s.laneCfg := rfl
@[simp] theorem State.setKeel_lmapDue (s : State) (k : Nat) (v : KeelSt) : (s.setKeel k v).lmapDue = s.lmapDue := rfl
@[simp] theorem State.setKeel_subDue (s : State) (k : Nat) (v : KeelSt) : (s.setKeel k v).subDue = s.subDue := rfl
@[simp] theorem State.setKeel_esc (s : State) (k : Nat) (v : KeelSt) : (s.setKeel k v).esc = s.esc := rfl
@[simp] theorem State.setKeel_quiesce (s : State) (k : Nat) (v : KeelSt) : (s.setKeel k v).quiesce = s.quiesce := rfl
@[simp] theorem State.setKeel_trgs (s : State) (k : Nat) (v : KeelSt) : (s.setKeel k v).trgs = s.trgs := rfl
@[simp] theorem State.setKeel_firings (s : State) (k : Nat) (v : KeelSt) : (s.setKeel k v).firings = s.firings := rfl
@[simp] theorem State.setKeel_wave (s : State) (k : Nat) (v : KeelSt) : (s.setKeel k v).wave = s.wave := rfl
@[simp] theorem State.setKeel_units (s : State) (k : Nat) (v : KeelSt) : (s.setKeel k v).units = s.units := rfl
@[simp] theorem State.setKeel_opts (s : State) (k : Nat) (v : KeelSt) : (s.setKeel k v).opts = s.opts := rfl
@[simp] theorem State.setKeel_claimKey (s : State) (k : Nat) (v : KeelSt) : (s.setKeel k v).claimKey = s.claimKey := rfl
@[simp] theorem State.setKeel_leaseAt (s : State) (k : Nat) (v : KeelSt) : (s.setKeel k v).leaseAt = s.leaseAt := rfl
@[simp] theorem State.setKeel_leaseLoose (s : State) (k : Nat) (v : KeelSt) : (s.setKeel k v).leaseLoose = s.leaseLoose := rfl
@[simp] theorem State.setKeel_mon (s : State) (k : Nat) (v : KeelSt) : (s.setKeel k v).mon = s.mon := rfl
@[simp] theorem State.setKeel_i2c (s : State) (k : Nat) (v : KeelSt) : (s.setKeel k v).i2c = s.i2c := rfl
@[simp] theorem State.setKeel_checks (s : State) (k : Nat) (v : KeelSt) : (s.setKeel k v).checks = s.checks := rfl
@[simp] theorem State.setKeel_pw (s : State) (k : Nat) (v : KeelSt) : (s.setKeel k v).pw = s.pw := rfl
@[simp] theorem State.setKeel_sec (s : State) (k : Nat) (v : KeelSt) : (s.setKeel k v).sec = s.sec := rfl
@[simp] theorem State.setKeel_jtag (s : State) (k : Nat) (v : KeelSt) : (s.setKeel k v).jtag = s.jtag := rfl
@[simp] theorem State.setKeel_uart (s : State) (k : Nat) (v : KeelSt) : (s.setKeel k v).uart = s.uart := rfl
@[simp] theorem State.get_setKeel (s : State) (k : Nat) (v : KeelSt) (g : Field) : (s.setKeel k v).get g = s.get g := rfl

/-! ### setStream -/

@[simp] theorem State.setStream_pending (s : State) (k q : Nat) (v : StreamSt) : (s.setStream k q v).pending = s.pending := rfl
@[simp] theorem State.setStream_regs (s : State) (k q : Nat) (v : StreamSt) : (s.setStream k q v).regs = s.regs := rfl
@[simp] theorem State.setStream_latchHi (s : State) (k q : Nat) (v : StreamSt) : (s.setStream k q v).latchHi = s.latchHi := rfl
@[simp] theorem State.setStream_heldLo (s : State) (k q : Nat) (v : StreamSt) : (s.setStream k q v).heldLo = s.heldLo := rfl
@[simp] theorem State.setStream_mem (s : State) (k q : Nat) (v : StreamSt) : (s.setStream k q v).mem = s.mem := rfl
@[simp] theorem State.setStream_memGen (s : State) (k q : Nat) (v : StreamSt) : (s.setStream k q v).memGen = s.memGen := rfl
@[simp] theorem State.setStream_ecc (s : State) (k q : Nat) (v : StreamSt) : (s.setStream k q v).ecc = s.ecc := rfl
@[simp] theorem State.setStream_freeCtr (s : State) (k q : Nat) (v : StreamSt) : (s.setStream k q v).freeCtr = s.freeCtr := rfl
@[simp] theorem State.setStream_lastStatus (s : State) (k q : Nat) (v : StreamSt) : (s.setStream k q v).lastStatus = s.lastStatus := rfl
@[simp] theorem State.setStream_lastData (s : State) (k q : Nat) (v : StreamSt) : (s.setStream k q v).lastData = s.lastData := rfl
@[simp] theorem State.setStream_time (s : State) (k q : Nat) (v : StreamSt) : (s.setStream k q v).time = s.time := rfl
@[simp] theorem State.setStream_cyc (s : State) (k q : Nat) (v : StreamSt) : (s.setStream k q v).cyc = s.cyc := rfl
@[simp] theorem State.setStream_errOrder (s : State) (k q : Nat) (v : StreamSt) : (s.setStream k q v).errOrder = s.errOrder := rfl
@[simp] theorem State.setStream_errOpen (s : State) (k q : Nat) (v : StreamSt) : (s.setStream k q v).errOpen = s.errOpen := rfl
@[simp] theorem State.setStream_life (s : State) (k q : Nat) (v : StreamSt) : (s.setStream k q v).life = s.life := rfl
@[simp] theorem State.setStream_hitWords (s : State) (k q : Nat) (v : StreamSt) : (s.setStream k q v).hitWords = s.hitWords := rfl
@[simp] theorem State.setStream_ports (s : State) (k q : Nat) (v : StreamSt) : (s.setStream k q v).ports = s.ports := rfl
@[simp] theorem State.setStream_sent (s : State) (k q : Nat) (v : StreamSt) : (s.setStream k q v).sent = s.sent := rfl
@[simp] theorem State.setStream_marks (s : State) (k q : Nat) (v : StreamSt) : (s.setStream k q v).marks = s.marks := rfl
@[simp] theorem State.setStream_pixs (s : State) (k q : Nat) (v : StreamSt) : (s.setStream k q v).pixs = s.pixs := rfl
@[simp] theorem State.setStream_latches (s : State) (k q : Nat) (v : StreamSt) : (s.setStream k q v).latches = s.latches := rfl
@[simp] theorem State.setStream_hits (s : State) (k q : Nat) (v : StreamSt) : (s.setStream k q v).hits = s.hits := rfl
@[simp] theorem State.setStream_trains (s : State) (k q : Nat) (v : StreamSt) : (s.setStream k q v).trains = s.trains := rfl
@[simp] theorem State.setStream_injs (s : State) (k q : Nat) (v : StreamSt) : (s.setStream k q v).injs = s.injs := rfl
@[simp] theorem State.setStream_thrMove (s : State) (k q : Nat) (v : StreamSt) : (s.setStream k q v).thrMove = s.thrMove := rfl
@[simp] theorem State.setStream_fsumDue (s : State) (k q : Nat) (v : StreamSt) : (s.setStream k q v).fsumDue = s.fsumDue := rfl
@[simp] theorem State.setStream_fsumSel (s : State) (k q : Nat) (v : StreamSt) : (s.setStream k q v).fsumSel = s.fsumSel := rfl
@[simp] theorem State.setStream_fsumPeak (s : State) (k q : Nat) (v : StreamSt) : (s.setStream k q v).fsumPeak = s.fsumPeak := rfl
@[simp] theorem State.setStream_descent (s : State) (k q : Nat) (v : StreamSt) : (s.setStream k q v).descent = s.descent := rfl
@[simp] theorem State.setStream_interps (s : State) (k q : Nat) (v : StreamSt) : (s.setStream k q v).interps = s.interps := rfl
@[simp] theorem State.setStream_edgeTags (s : State) (k q : Nat) (v : StreamSt) : (s.setStream k q v).edgeTags = s.edgeTags := rfl
@[simp] theorem State.setStream_edgeStamps (s : State) (k q : Nat) (v : StreamSt) : (s.setStream k q v).edgeStamps = s.edgeStamps := rfl
@[simp] theorem State.setStream_tins (s : State) (k q : Nat) (v : StreamSt) : (s.setStream k q v).tins = s.tins := rfl
@[simp] theorem State.setStream_regions (s : State) (k q : Nat) (v : StreamSt) : (s.setStream k q v).regions = s.regions := rfl
@[simp] theorem State.setStream_cores (s : State) (k q : Nat) (v : StreamSt) : (s.setStream k q v).cores = s.cores := rfl
@[simp] theorem State.setStream_libs (s : State) (k q : Nat) (v : StreamSt) : (s.setStream k q v).libs = s.libs := rfl
@[simp] theorem State.setStream_libPops (s : State) (k q : Nat) (v : StreamSt) : (s.setStream k q v).libPops = s.libPops := rfl
@[simp] theorem State.setStream_rreqs (s : State) (k q : Nat) (v : StreamSt) : (s.setStream k q v).rreqs = s.rreqs := rfl
@[simp] theorem State.setStream_sendMask (s : State) (k q : Nat) (v : StreamSt) : (s.setStream k q v).sendMask = s.sendMask := rfl
@[simp] theorem State.setStream_merge (s : State) (k q : Nat) (v : StreamSt) : (s.setStream k q v).merge = s.merge := rfl
@[simp] theorem State.setStream_retain (s : State) (k q : Nat) (v : StreamSt) : (s.setStream k q v).retain = s.retain := rfl
@[simp] theorem State.setStream_dram (s : State) (k q : Nat) (v : StreamSt) : (s.setStream k q v).dram = s.dram := rfl
@[simp] theorem State.setStream_pins (s : State) (k q : Nat) (v : StreamSt) : (s.setStream k q v).pins = s.pins := rfl
@[simp] theorem State.setStream_failUndo (s : State) (k q : Nat) (v : StreamSt) : (s.setStream k q v).failUndo = s.failUndo := rfl
@[simp] theorem State.setStream_failover (s : State) (k q : Nat) (v : StreamSt) : (s.setStream k q v).failover = s.failover := rfl
@[simp] theorem State.setStream_remsgs (s : State) (k q : Nat) (v : StreamSt) : (s.setStream k q v).remsgs = s.remsgs := rfl
@[simp] theorem State.setStream_epochDone (s : State) (k q : Nat) (v : StreamSt) : (s.setStream k q v).epochDone = s.epochDone := rfl
@[simp] theorem State.setStream_ballastDone (s : State) (k q : Nat) (v : StreamSt) : (s.setStream k q v).ballastDone = s.ballastDone := rfl
@[simp] theorem State.setStream_discardDone (s : State) (k q : Nat) (v : StreamSt) : (s.setStream k q v).discardDone = s.discardDone := rfl
@[simp] theorem State.setStream_mc (s : State) (k q : Nat) (v : StreamSt) : (s.setStream k q v).mc = s.mc := rfl
@[simp] theorem State.setStream_servo (s : State) (k q : Nat) (v : StreamSt) : (s.setStream k q v).servo = s.servo := rfl
@[simp] theorem State.setStream_txs (s : State) (k q : Nat) (v : StreamSt) : (s.setStream k q v).txs = s.txs := rfl
@[simp] theorem State.setStream_rxs (s : State) (k q : Nat) (v : StreamSt) : (s.setStream k q v).rxs = s.rxs := rfl
@[simp] theorem State.setStream_laneCfg (s : State) (k q : Nat) (v : StreamSt) : (s.setStream k q v).laneCfg = s.laneCfg := rfl
@[simp] theorem State.setStream_lmapDue (s : State) (k q : Nat) (v : StreamSt) : (s.setStream k q v).lmapDue = s.lmapDue := rfl
@[simp] theorem State.setStream_subDue (s : State) (k q : Nat) (v : StreamSt) : (s.setStream k q v).subDue = s.subDue := rfl
@[simp] theorem State.setStream_esc (s : State) (k q : Nat) (v : StreamSt) : (s.setStream k q v).esc = s.esc := rfl
@[simp] theorem State.setStream_quiesce (s : State) (k q : Nat) (v : StreamSt) : (s.setStream k q v).quiesce = s.quiesce := rfl
@[simp] theorem State.setStream_trgs (s : State) (k q : Nat) (v : StreamSt) : (s.setStream k q v).trgs = s.trgs := rfl
@[simp] theorem State.setStream_firings (s : State) (k q : Nat) (v : StreamSt) : (s.setStream k q v).firings = s.firings := rfl
@[simp] theorem State.setStream_wave (s : State) (k q : Nat) (v : StreamSt) : (s.setStream k q v).wave = s.wave := rfl
@[simp] theorem State.setStream_units (s : State) (k q : Nat) (v : StreamSt) : (s.setStream k q v).units = s.units := rfl
@[simp] theorem State.setStream_opts (s : State) (k q : Nat) (v : StreamSt) : (s.setStream k q v).opts = s.opts := rfl
@[simp] theorem State.setStream_claimKey (s : State) (k q : Nat) (v : StreamSt) : (s.setStream k q v).claimKey = s.claimKey := rfl
@[simp] theorem State.setStream_leaseAt (s : State) (k q : Nat) (v : StreamSt) : (s.setStream k q v).leaseAt = s.leaseAt := rfl
@[simp] theorem State.setStream_leaseLoose (s : State) (k q : Nat) (v : StreamSt) : (s.setStream k q v).leaseLoose = s.leaseLoose := rfl
@[simp] theorem State.setStream_mon (s : State) (k q : Nat) (v : StreamSt) : (s.setStream k q v).mon = s.mon := rfl
@[simp] theorem State.setStream_i2c (s : State) (k q : Nat) (v : StreamSt) : (s.setStream k q v).i2c = s.i2c := rfl
@[simp] theorem State.setStream_checks (s : State) (k q : Nat) (v : StreamSt) : (s.setStream k q v).checks = s.checks := rfl
@[simp] theorem State.setStream_pw (s : State) (k q : Nat) (v : StreamSt) : (s.setStream k q v).pw = s.pw := rfl
@[simp] theorem State.setStream_sec (s : State) (k q : Nat) (v : StreamSt) : (s.setStream k q v).sec = s.sec := rfl
@[simp] theorem State.setStream_jtag (s : State) (k q : Nat) (v : StreamSt) : (s.setStream k q v).jtag = s.jtag := rfl
@[simp] theorem State.setStream_uart (s : State) (k q : Nat) (v : StreamSt) : (s.setStream k q v).uart = s.uart := rfl
@[simp] theorem State.get_setStream (s : State) (k q : Nat) (v : StreamSt) (g : Field) : (s.setStream k q v).get g = s.get g := rfl

/-! ### setTin -/

@[simp] theorem State.setTin_pending (s : State) (i : Nat) (v : TinSt) : (s.setTin i v).pending = s.pending := rfl
@[simp] theorem State.setTin_regs (s : State) (i : Nat) (v : TinSt) : (s.setTin i v).regs = s.regs := rfl
@[simp] theorem State.setTin_latchHi (s : State) (i : Nat) (v : TinSt) : (s.setTin i v).latchHi = s.latchHi := rfl
@[simp] theorem State.setTin_heldLo (s : State) (i : Nat) (v : TinSt) : (s.setTin i v).heldLo = s.heldLo := rfl
@[simp] theorem State.setTin_mem (s : State) (i : Nat) (v : TinSt) : (s.setTin i v).mem = s.mem := rfl
@[simp] theorem State.setTin_memGen (s : State) (i : Nat) (v : TinSt) : (s.setTin i v).memGen = s.memGen := rfl
@[simp] theorem State.setTin_ecc (s : State) (i : Nat) (v : TinSt) : (s.setTin i v).ecc = s.ecc := rfl
@[simp] theorem State.setTin_freeCtr (s : State) (i : Nat) (v : TinSt) : (s.setTin i v).freeCtr = s.freeCtr := rfl
@[simp] theorem State.setTin_lastStatus (s : State) (i : Nat) (v : TinSt) : (s.setTin i v).lastStatus = s.lastStatus := rfl
@[simp] theorem State.setTin_lastData (s : State) (i : Nat) (v : TinSt) : (s.setTin i v).lastData = s.lastData := rfl
@[simp] theorem State.setTin_time (s : State) (i : Nat) (v : TinSt) : (s.setTin i v).time = s.time := rfl
@[simp] theorem State.setTin_cyc (s : State) (i : Nat) (v : TinSt) : (s.setTin i v).cyc = s.cyc := rfl
@[simp] theorem State.setTin_errOrder (s : State) (i : Nat) (v : TinSt) : (s.setTin i v).errOrder = s.errOrder := rfl
@[simp] theorem State.setTin_errOpen (s : State) (i : Nat) (v : TinSt) : (s.setTin i v).errOpen = s.errOpen := rfl
@[simp] theorem State.setTin_life (s : State) (i : Nat) (v : TinSt) : (s.setTin i v).life = s.life := rfl
@[simp] theorem State.setTin_hitWords (s : State) (i : Nat) (v : TinSt) : (s.setTin i v).hitWords = s.hitWords := rfl
@[simp] theorem State.setTin_ports (s : State) (i : Nat) (v : TinSt) : (s.setTin i v).ports = s.ports := rfl
@[simp] theorem State.setTin_sent (s : State) (i : Nat) (v : TinSt) : (s.setTin i v).sent = s.sent := rfl
@[simp] theorem State.setTin_marks (s : State) (i : Nat) (v : TinSt) : (s.setTin i v).marks = s.marks := rfl
@[simp] theorem State.setTin_pixs (s : State) (i : Nat) (v : TinSt) : (s.setTin i v).pixs = s.pixs := rfl
@[simp] theorem State.setTin_latches (s : State) (i : Nat) (v : TinSt) : (s.setTin i v).latches = s.latches := rfl
@[simp] theorem State.setTin_hits (s : State) (i : Nat) (v : TinSt) : (s.setTin i v).hits = s.hits := rfl
@[simp] theorem State.setTin_trains (s : State) (i : Nat) (v : TinSt) : (s.setTin i v).trains = s.trains := rfl
@[simp] theorem State.setTin_injs (s : State) (i : Nat) (v : TinSt) : (s.setTin i v).injs = s.injs := rfl
@[simp] theorem State.setTin_thrMove (s : State) (i : Nat) (v : TinSt) : (s.setTin i v).thrMove = s.thrMove := rfl
@[simp] theorem State.setTin_fsumDue (s : State) (i : Nat) (v : TinSt) : (s.setTin i v).fsumDue = s.fsumDue := rfl
@[simp] theorem State.setTin_fsumSel (s : State) (i : Nat) (v : TinSt) : (s.setTin i v).fsumSel = s.fsumSel := rfl
@[simp] theorem State.setTin_fsumPeak (s : State) (i : Nat) (v : TinSt) : (s.setTin i v).fsumPeak = s.fsumPeak := rfl
@[simp] theorem State.setTin_descent (s : State) (i : Nat) (v : TinSt) : (s.setTin i v).descent = s.descent := rfl
@[simp] theorem State.setTin_interps (s : State) (i : Nat) (v : TinSt) : (s.setTin i v).interps = s.interps := rfl
@[simp] theorem State.setTin_edgeTags (s : State) (i : Nat) (v : TinSt) : (s.setTin i v).edgeTags = s.edgeTags := rfl
@[simp] theorem State.setTin_edgeStamps (s : State) (i : Nat) (v : TinSt) : (s.setTin i v).edgeStamps = s.edgeStamps := rfl
@[simp] theorem State.setTin_regions (s : State) (i : Nat) (v : TinSt) : (s.setTin i v).regions = s.regions := rfl
@[simp] theorem State.setTin_cores (s : State) (i : Nat) (v : TinSt) : (s.setTin i v).cores = s.cores := rfl
@[simp] theorem State.setTin_libs (s : State) (i : Nat) (v : TinSt) : (s.setTin i v).libs = s.libs := rfl
@[simp] theorem State.setTin_libPops (s : State) (i : Nat) (v : TinSt) : (s.setTin i v).libPops = s.libPops := rfl
@[simp] theorem State.setTin_rreqs (s : State) (i : Nat) (v : TinSt) : (s.setTin i v).rreqs = s.rreqs := rfl
@[simp] theorem State.setTin_sendMask (s : State) (i : Nat) (v : TinSt) : (s.setTin i v).sendMask = s.sendMask := rfl
@[simp] theorem State.setTin_merge (s : State) (i : Nat) (v : TinSt) : (s.setTin i v).merge = s.merge := rfl
@[simp] theorem State.setTin_keels (s : State) (i : Nat) (v : TinSt) : (s.setTin i v).keels = s.keels := rfl
@[simp] theorem State.setTin_retain (s : State) (i : Nat) (v : TinSt) : (s.setTin i v).retain = s.retain := rfl
@[simp] theorem State.setTin_dram (s : State) (i : Nat) (v : TinSt) : (s.setTin i v).dram = s.dram := rfl
@[simp] theorem State.setTin_pins (s : State) (i : Nat) (v : TinSt) : (s.setTin i v).pins = s.pins := rfl
@[simp] theorem State.setTin_failUndo (s : State) (i : Nat) (v : TinSt) : (s.setTin i v).failUndo = s.failUndo := rfl
@[simp] theorem State.setTin_failover (s : State) (i : Nat) (v : TinSt) : (s.setTin i v).failover = s.failover := rfl
@[simp] theorem State.setTin_remsgs (s : State) (i : Nat) (v : TinSt) : (s.setTin i v).remsgs = s.remsgs := rfl
@[simp] theorem State.setTin_epochDone (s : State) (i : Nat) (v : TinSt) : (s.setTin i v).epochDone = s.epochDone := rfl
@[simp] theorem State.setTin_ballastDone (s : State) (i : Nat) (v : TinSt) : (s.setTin i v).ballastDone = s.ballastDone := rfl
@[simp] theorem State.setTin_discardDone (s : State) (i : Nat) (v : TinSt) : (s.setTin i v).discardDone = s.discardDone := rfl
@[simp] theorem State.setTin_mc (s : State) (i : Nat) (v : TinSt) : (s.setTin i v).mc = s.mc := rfl
@[simp] theorem State.setTin_servo (s : State) (i : Nat) (v : TinSt) : (s.setTin i v).servo = s.servo := rfl
@[simp] theorem State.setTin_txs (s : State) (i : Nat) (v : TinSt) : (s.setTin i v).txs = s.txs := rfl
@[simp] theorem State.setTin_rxs (s : State) (i : Nat) (v : TinSt) : (s.setTin i v).rxs = s.rxs := rfl
@[simp] theorem State.setTin_laneCfg (s : State) (i : Nat) (v : TinSt) : (s.setTin i v).laneCfg = s.laneCfg := rfl
@[simp] theorem State.setTin_lmapDue (s : State) (i : Nat) (v : TinSt) : (s.setTin i v).lmapDue = s.lmapDue := rfl
@[simp] theorem State.setTin_subDue (s : State) (i : Nat) (v : TinSt) : (s.setTin i v).subDue = s.subDue := rfl
@[simp] theorem State.setTin_esc (s : State) (i : Nat) (v : TinSt) : (s.setTin i v).esc = s.esc := rfl
@[simp] theorem State.setTin_quiesce (s : State) (i : Nat) (v : TinSt) : (s.setTin i v).quiesce = s.quiesce := rfl
@[simp] theorem State.setTin_trgs (s : State) (i : Nat) (v : TinSt) : (s.setTin i v).trgs = s.trgs := rfl
@[simp] theorem State.setTin_firings (s : State) (i : Nat) (v : TinSt) : (s.setTin i v).firings = s.firings := rfl
@[simp] theorem State.setTin_wave (s : State) (i : Nat) (v : TinSt) : (s.setTin i v).wave = s.wave := rfl
@[simp] theorem State.setTin_units (s : State) (i : Nat) (v : TinSt) : (s.setTin i v).units = s.units := rfl
@[simp] theorem State.setTin_opts (s : State) (i : Nat) (v : TinSt) : (s.setTin i v).opts = s.opts := rfl
@[simp] theorem State.setTin_claimKey (s : State) (i : Nat) (v : TinSt) : (s.setTin i v).claimKey = s.claimKey := rfl
@[simp] theorem State.setTin_leaseAt (s : State) (i : Nat) (v : TinSt) : (s.setTin i v).leaseAt = s.leaseAt := rfl
@[simp] theorem State.setTin_leaseLoose (s : State) (i : Nat) (v : TinSt) : (s.setTin i v).leaseLoose = s.leaseLoose := rfl
@[simp] theorem State.setTin_mon (s : State) (i : Nat) (v : TinSt) : (s.setTin i v).mon = s.mon := rfl
@[simp] theorem State.setTin_i2c (s : State) (i : Nat) (v : TinSt) : (s.setTin i v).i2c = s.i2c := rfl
@[simp] theorem State.setTin_checks (s : State) (i : Nat) (v : TinSt) : (s.setTin i v).checks = s.checks := rfl
@[simp] theorem State.setTin_pw (s : State) (i : Nat) (v : TinSt) : (s.setTin i v).pw = s.pw := rfl
@[simp] theorem State.setTin_sec (s : State) (i : Nat) (v : TinSt) : (s.setTin i v).sec = s.sec := rfl
@[simp] theorem State.setTin_jtag (s : State) (i : Nat) (v : TinSt) : (s.setTin i v).jtag = s.jtag := rfl
@[simp] theorem State.setTin_uart (s : State) (i : Nat) (v : TinSt) : (s.setTin i v).uart = s.uart := rfl
@[simp] theorem State.get_setTin (s : State) (i : Nat) (v : TinSt) (g : Field) : (s.setTin i v).get g = s.get g := rfl

/-! ### setPix -/

@[simp] theorem State.setPix_pending (s : State) (p : Nat) (v : PixOut) : (s.setPix p v).pending = s.pending := rfl
@[simp] theorem State.setPix_regs (s : State) (p : Nat) (v : PixOut) : (s.setPix p v).regs = s.regs := rfl
@[simp] theorem State.setPix_latchHi (s : State) (p : Nat) (v : PixOut) : (s.setPix p v).latchHi = s.latchHi := rfl
@[simp] theorem State.setPix_heldLo (s : State) (p : Nat) (v : PixOut) : (s.setPix p v).heldLo = s.heldLo := rfl
@[simp] theorem State.setPix_mem (s : State) (p : Nat) (v : PixOut) : (s.setPix p v).mem = s.mem := rfl
@[simp] theorem State.setPix_memGen (s : State) (p : Nat) (v : PixOut) : (s.setPix p v).memGen = s.memGen := rfl
@[simp] theorem State.setPix_ecc (s : State) (p : Nat) (v : PixOut) : (s.setPix p v).ecc = s.ecc := rfl
@[simp] theorem State.setPix_freeCtr (s : State) (p : Nat) (v : PixOut) : (s.setPix p v).freeCtr = s.freeCtr := rfl
@[simp] theorem State.setPix_lastStatus (s : State) (p : Nat) (v : PixOut) : (s.setPix p v).lastStatus = s.lastStatus := rfl
@[simp] theorem State.setPix_lastData (s : State) (p : Nat) (v : PixOut) : (s.setPix p v).lastData = s.lastData := rfl
@[simp] theorem State.setPix_time (s : State) (p : Nat) (v : PixOut) : (s.setPix p v).time = s.time := rfl
@[simp] theorem State.setPix_cyc (s : State) (p : Nat) (v : PixOut) : (s.setPix p v).cyc = s.cyc := rfl
@[simp] theorem State.setPix_errOrder (s : State) (p : Nat) (v : PixOut) : (s.setPix p v).errOrder = s.errOrder := rfl
@[simp] theorem State.setPix_errOpen (s : State) (p : Nat) (v : PixOut) : (s.setPix p v).errOpen = s.errOpen := rfl
@[simp] theorem State.setPix_life (s : State) (p : Nat) (v : PixOut) : (s.setPix p v).life = s.life := rfl
@[simp] theorem State.setPix_hitWords (s : State) (p : Nat) (v : PixOut) : (s.setPix p v).hitWords = s.hitWords := rfl
@[simp] theorem State.setPix_ports (s : State) (p : Nat) (v : PixOut) : (s.setPix p v).ports = s.ports := rfl
@[simp] theorem State.setPix_sent (s : State) (p : Nat) (v : PixOut) : (s.setPix p v).sent = s.sent := rfl
@[simp] theorem State.setPix_marks (s : State) (p : Nat) (v : PixOut) : (s.setPix p v).marks = s.marks := rfl
@[simp] theorem State.setPix_latches (s : State) (p : Nat) (v : PixOut) : (s.setPix p v).latches = s.latches := rfl
@[simp] theorem State.setPix_hits (s : State) (p : Nat) (v : PixOut) : (s.setPix p v).hits = s.hits := rfl
@[simp] theorem State.setPix_trains (s : State) (p : Nat) (v : PixOut) : (s.setPix p v).trains = s.trains := rfl
@[simp] theorem State.setPix_injs (s : State) (p : Nat) (v : PixOut) : (s.setPix p v).injs = s.injs := rfl
@[simp] theorem State.setPix_thrMove (s : State) (p : Nat) (v : PixOut) : (s.setPix p v).thrMove = s.thrMove := rfl
@[simp] theorem State.setPix_fsumDue (s : State) (p : Nat) (v : PixOut) : (s.setPix p v).fsumDue = s.fsumDue := rfl
@[simp] theorem State.setPix_fsumSel (s : State) (p : Nat) (v : PixOut) : (s.setPix p v).fsumSel = s.fsumSel := rfl
@[simp] theorem State.setPix_fsumPeak (s : State) (p : Nat) (v : PixOut) : (s.setPix p v).fsumPeak = s.fsumPeak := rfl
@[simp] theorem State.setPix_descent (s : State) (p : Nat) (v : PixOut) : (s.setPix p v).descent = s.descent := rfl
@[simp] theorem State.setPix_interps (s : State) (p : Nat) (v : PixOut) : (s.setPix p v).interps = s.interps := rfl
@[simp] theorem State.setPix_edgeTags (s : State) (p : Nat) (v : PixOut) : (s.setPix p v).edgeTags = s.edgeTags := rfl
@[simp] theorem State.setPix_edgeStamps (s : State) (p : Nat) (v : PixOut) : (s.setPix p v).edgeStamps = s.edgeStamps := rfl
@[simp] theorem State.setPix_tins (s : State) (p : Nat) (v : PixOut) : (s.setPix p v).tins = s.tins := rfl
@[simp] theorem State.setPix_regions (s : State) (p : Nat) (v : PixOut) : (s.setPix p v).regions = s.regions := rfl
@[simp] theorem State.setPix_cores (s : State) (p : Nat) (v : PixOut) : (s.setPix p v).cores = s.cores := rfl
@[simp] theorem State.setPix_libs (s : State) (p : Nat) (v : PixOut) : (s.setPix p v).libs = s.libs := rfl
@[simp] theorem State.setPix_libPops (s : State) (p : Nat) (v : PixOut) : (s.setPix p v).libPops = s.libPops := rfl
@[simp] theorem State.setPix_rreqs (s : State) (p : Nat) (v : PixOut) : (s.setPix p v).rreqs = s.rreqs := rfl
@[simp] theorem State.setPix_sendMask (s : State) (p : Nat) (v : PixOut) : (s.setPix p v).sendMask = s.sendMask := rfl
@[simp] theorem State.setPix_merge (s : State) (p : Nat) (v : PixOut) : (s.setPix p v).merge = s.merge := rfl
@[simp] theorem State.setPix_keels (s : State) (p : Nat) (v : PixOut) : (s.setPix p v).keels = s.keels := rfl
@[simp] theorem State.setPix_retain (s : State) (p : Nat) (v : PixOut) : (s.setPix p v).retain = s.retain := rfl
@[simp] theorem State.setPix_dram (s : State) (p : Nat) (v : PixOut) : (s.setPix p v).dram = s.dram := rfl
@[simp] theorem State.setPix_pins (s : State) (p : Nat) (v : PixOut) : (s.setPix p v).pins = s.pins := rfl
@[simp] theorem State.setPix_failUndo (s : State) (p : Nat) (v : PixOut) : (s.setPix p v).failUndo = s.failUndo := rfl
@[simp] theorem State.setPix_failover (s : State) (p : Nat) (v : PixOut) : (s.setPix p v).failover = s.failover := rfl
@[simp] theorem State.setPix_remsgs (s : State) (p : Nat) (v : PixOut) : (s.setPix p v).remsgs = s.remsgs := rfl
@[simp] theorem State.setPix_epochDone (s : State) (p : Nat) (v : PixOut) : (s.setPix p v).epochDone = s.epochDone := rfl
@[simp] theorem State.setPix_ballastDone (s : State) (p : Nat) (v : PixOut) : (s.setPix p v).ballastDone = s.ballastDone := rfl
@[simp] theorem State.setPix_discardDone (s : State) (p : Nat) (v : PixOut) : (s.setPix p v).discardDone = s.discardDone := rfl
@[simp] theorem State.setPix_mc (s : State) (p : Nat) (v : PixOut) : (s.setPix p v).mc = s.mc := rfl
@[simp] theorem State.setPix_servo (s : State) (p : Nat) (v : PixOut) : (s.setPix p v).servo = s.servo := rfl
@[simp] theorem State.setPix_txs (s : State) (p : Nat) (v : PixOut) : (s.setPix p v).txs = s.txs := rfl
@[simp] theorem State.setPix_rxs (s : State) (p : Nat) (v : PixOut) : (s.setPix p v).rxs = s.rxs := rfl
@[simp] theorem State.setPix_laneCfg (s : State) (p : Nat) (v : PixOut) : (s.setPix p v).laneCfg = s.laneCfg := rfl
@[simp] theorem State.setPix_lmapDue (s : State) (p : Nat) (v : PixOut) : (s.setPix p v).lmapDue = s.lmapDue := rfl
@[simp] theorem State.setPix_subDue (s : State) (p : Nat) (v : PixOut) : (s.setPix p v).subDue = s.subDue := rfl
@[simp] theorem State.setPix_esc (s : State) (p : Nat) (v : PixOut) : (s.setPix p v).esc = s.esc := rfl
@[simp] theorem State.setPix_quiesce (s : State) (p : Nat) (v : PixOut) : (s.setPix p v).quiesce = s.quiesce := rfl
@[simp] theorem State.setPix_trgs (s : State) (p : Nat) (v : PixOut) : (s.setPix p v).trgs = s.trgs := rfl
@[simp] theorem State.setPix_firings (s : State) (p : Nat) (v : PixOut) : (s.setPix p v).firings = s.firings := rfl
@[simp] theorem State.setPix_wave (s : State) (p : Nat) (v : PixOut) : (s.setPix p v).wave = s.wave := rfl
@[simp] theorem State.setPix_units (s : State) (p : Nat) (v : PixOut) : (s.setPix p v).units = s.units := rfl
@[simp] theorem State.setPix_opts (s : State) (p : Nat) (v : PixOut) : (s.setPix p v).opts = s.opts := rfl
@[simp] theorem State.setPix_claimKey (s : State) (p : Nat) (v : PixOut) : (s.setPix p v).claimKey = s.claimKey := rfl
@[simp] theorem State.setPix_leaseAt (s : State) (p : Nat) (v : PixOut) : (s.setPix p v).leaseAt = s.leaseAt := rfl
@[simp] theorem State.setPix_leaseLoose (s : State) (p : Nat) (v : PixOut) : (s.setPix p v).leaseLoose = s.leaseLoose := rfl
@[simp] theorem State.setPix_mon (s : State) (p : Nat) (v : PixOut) : (s.setPix p v).mon = s.mon := rfl
@[simp] theorem State.setPix_i2c (s : State) (p : Nat) (v : PixOut) : (s.setPix p v).i2c = s.i2c := rfl
@[simp] theorem State.setPix_checks (s : State) (p : Nat) (v : PixOut) : (s.setPix p v).checks = s.checks := rfl
@[simp] theorem State.setPix_pw (s : State) (p : Nat) (v : PixOut) : (s.setPix p v).pw = s.pw := rfl
@[simp] theorem State.setPix_sec (s : State) (p : Nat) (v : PixOut) : (s.setPix p v).sec = s.sec := rfl
@[simp] theorem State.setPix_jtag (s : State) (p : Nat) (v : PixOut) : (s.setPix p v).jtag = s.jtag := rfl
@[simp] theorem State.setPix_uart (s : State) (p : Nat) (v : PixOut) : (s.setPix p v).uart = s.uart := rfl
@[simp] theorem State.get_setPix (s : State) (p : Nat) (v : PixOut) (g : Field) : (s.setPix p v).get g = s.get g := rfl

/-! ### setHit -/

@[simp] theorem State.setHit_pending (s : State) (p : Nat) (v : HitSt) : (s.setHit p v).pending = s.pending := rfl
@[simp] theorem State.setHit_regs (s : State) (p : Nat) (v : HitSt) : (s.setHit p v).regs = s.regs := rfl
@[simp] theorem State.setHit_latchHi (s : State) (p : Nat) (v : HitSt) : (s.setHit p v).latchHi = s.latchHi := rfl
@[simp] theorem State.setHit_heldLo (s : State) (p : Nat) (v : HitSt) : (s.setHit p v).heldLo = s.heldLo := rfl
@[simp] theorem State.setHit_mem (s : State) (p : Nat) (v : HitSt) : (s.setHit p v).mem = s.mem := rfl
@[simp] theorem State.setHit_memGen (s : State) (p : Nat) (v : HitSt) : (s.setHit p v).memGen = s.memGen := rfl
@[simp] theorem State.setHit_ecc (s : State) (p : Nat) (v : HitSt) : (s.setHit p v).ecc = s.ecc := rfl
@[simp] theorem State.setHit_freeCtr (s : State) (p : Nat) (v : HitSt) : (s.setHit p v).freeCtr = s.freeCtr := rfl
@[simp] theorem State.setHit_lastStatus (s : State) (p : Nat) (v : HitSt) : (s.setHit p v).lastStatus = s.lastStatus := rfl
@[simp] theorem State.setHit_lastData (s : State) (p : Nat) (v : HitSt) : (s.setHit p v).lastData = s.lastData := rfl
@[simp] theorem State.setHit_time (s : State) (p : Nat) (v : HitSt) : (s.setHit p v).time = s.time := rfl
@[simp] theorem State.setHit_cyc (s : State) (p : Nat) (v : HitSt) : (s.setHit p v).cyc = s.cyc := rfl
@[simp] theorem State.setHit_errOrder (s : State) (p : Nat) (v : HitSt) : (s.setHit p v).errOrder = s.errOrder := rfl
@[simp] theorem State.setHit_errOpen (s : State) (p : Nat) (v : HitSt) : (s.setHit p v).errOpen = s.errOpen := rfl
@[simp] theorem State.setHit_life (s : State) (p : Nat) (v : HitSt) : (s.setHit p v).life = s.life := rfl
@[simp] theorem State.setHit_hitWords (s : State) (p : Nat) (v : HitSt) : (s.setHit p v).hitWords = s.hitWords := rfl
@[simp] theorem State.setHit_ports (s : State) (p : Nat) (v : HitSt) : (s.setHit p v).ports = s.ports := rfl
@[simp] theorem State.setHit_sent (s : State) (p : Nat) (v : HitSt) : (s.setHit p v).sent = s.sent := rfl
@[simp] theorem State.setHit_marks (s : State) (p : Nat) (v : HitSt) : (s.setHit p v).marks = s.marks := rfl
@[simp] theorem State.setHit_pixs (s : State) (p : Nat) (v : HitSt) : (s.setHit p v).pixs = s.pixs := rfl
@[simp] theorem State.setHit_latches (s : State) (p : Nat) (v : HitSt) : (s.setHit p v).latches = s.latches := rfl
@[simp] theorem State.setHit_trains (s : State) (p : Nat) (v : HitSt) : (s.setHit p v).trains = s.trains := rfl
@[simp] theorem State.setHit_injs (s : State) (p : Nat) (v : HitSt) : (s.setHit p v).injs = s.injs := rfl
@[simp] theorem State.setHit_thrMove (s : State) (p : Nat) (v : HitSt) : (s.setHit p v).thrMove = s.thrMove := rfl
@[simp] theorem State.setHit_fsumDue (s : State) (p : Nat) (v : HitSt) : (s.setHit p v).fsumDue = s.fsumDue := rfl
@[simp] theorem State.setHit_fsumSel (s : State) (p : Nat) (v : HitSt) : (s.setHit p v).fsumSel = s.fsumSel := rfl
@[simp] theorem State.setHit_fsumPeak (s : State) (p : Nat) (v : HitSt) : (s.setHit p v).fsumPeak = s.fsumPeak := rfl
@[simp] theorem State.setHit_descent (s : State) (p : Nat) (v : HitSt) : (s.setHit p v).descent = s.descent := rfl
@[simp] theorem State.setHit_interps (s : State) (p : Nat) (v : HitSt) : (s.setHit p v).interps = s.interps := rfl
@[simp] theorem State.setHit_edgeTags (s : State) (p : Nat) (v : HitSt) : (s.setHit p v).edgeTags = s.edgeTags := rfl
@[simp] theorem State.setHit_edgeStamps (s : State) (p : Nat) (v : HitSt) : (s.setHit p v).edgeStamps = s.edgeStamps := rfl
@[simp] theorem State.setHit_tins (s : State) (p : Nat) (v : HitSt) : (s.setHit p v).tins = s.tins := rfl
@[simp] theorem State.setHit_regions (s : State) (p : Nat) (v : HitSt) : (s.setHit p v).regions = s.regions := rfl
@[simp] theorem State.setHit_cores (s : State) (p : Nat) (v : HitSt) : (s.setHit p v).cores = s.cores := rfl
@[simp] theorem State.setHit_libs (s : State) (p : Nat) (v : HitSt) : (s.setHit p v).libs = s.libs := rfl
@[simp] theorem State.setHit_libPops (s : State) (p : Nat) (v : HitSt) : (s.setHit p v).libPops = s.libPops := rfl
@[simp] theorem State.setHit_rreqs (s : State) (p : Nat) (v : HitSt) : (s.setHit p v).rreqs = s.rreqs := rfl
@[simp] theorem State.setHit_sendMask (s : State) (p : Nat) (v : HitSt) : (s.setHit p v).sendMask = s.sendMask := rfl
@[simp] theorem State.setHit_merge (s : State) (p : Nat) (v : HitSt) : (s.setHit p v).merge = s.merge := rfl
@[simp] theorem State.setHit_keels (s : State) (p : Nat) (v : HitSt) : (s.setHit p v).keels = s.keels := rfl
@[simp] theorem State.setHit_retain (s : State) (p : Nat) (v : HitSt) : (s.setHit p v).retain = s.retain := rfl
@[simp] theorem State.setHit_dram (s : State) (p : Nat) (v : HitSt) : (s.setHit p v).dram = s.dram := rfl
@[simp] theorem State.setHit_pins (s : State) (p : Nat) (v : HitSt) : (s.setHit p v).pins = s.pins := rfl
@[simp] theorem State.setHit_failUndo (s : State) (p : Nat) (v : HitSt) : (s.setHit p v).failUndo = s.failUndo := rfl
@[simp] theorem State.setHit_failover (s : State) (p : Nat) (v : HitSt) : (s.setHit p v).failover = s.failover := rfl
@[simp] theorem State.setHit_remsgs (s : State) (p : Nat) (v : HitSt) : (s.setHit p v).remsgs = s.remsgs := rfl
@[simp] theorem State.setHit_epochDone (s : State) (p : Nat) (v : HitSt) : (s.setHit p v).epochDone = s.epochDone := rfl
@[simp] theorem State.setHit_ballastDone (s : State) (p : Nat) (v : HitSt) : (s.setHit p v).ballastDone = s.ballastDone := rfl
@[simp] theorem State.setHit_discardDone (s : State) (p : Nat) (v : HitSt) : (s.setHit p v).discardDone = s.discardDone := rfl
@[simp] theorem State.setHit_mc (s : State) (p : Nat) (v : HitSt) : (s.setHit p v).mc = s.mc := rfl
@[simp] theorem State.setHit_servo (s : State) (p : Nat) (v : HitSt) : (s.setHit p v).servo = s.servo := rfl
@[simp] theorem State.setHit_txs (s : State) (p : Nat) (v : HitSt) : (s.setHit p v).txs = s.txs := rfl
@[simp] theorem State.setHit_rxs (s : State) (p : Nat) (v : HitSt) : (s.setHit p v).rxs = s.rxs := rfl
@[simp] theorem State.setHit_laneCfg (s : State) (p : Nat) (v : HitSt) : (s.setHit p v).laneCfg = s.laneCfg := rfl
@[simp] theorem State.setHit_lmapDue (s : State) (p : Nat) (v : HitSt) : (s.setHit p v).lmapDue = s.lmapDue := rfl
@[simp] theorem State.setHit_subDue (s : State) (p : Nat) (v : HitSt) : (s.setHit p v).subDue = s.subDue := rfl
@[simp] theorem State.setHit_esc (s : State) (p : Nat) (v : HitSt) : (s.setHit p v).esc = s.esc := rfl
@[simp] theorem State.setHit_quiesce (s : State) (p : Nat) (v : HitSt) : (s.setHit p v).quiesce = s.quiesce := rfl
@[simp] theorem State.setHit_trgs (s : State) (p : Nat) (v : HitSt) : (s.setHit p v).trgs = s.trgs := rfl
@[simp] theorem State.setHit_firings (s : State) (p : Nat) (v : HitSt) : (s.setHit p v).firings = s.firings := rfl
@[simp] theorem State.setHit_wave (s : State) (p : Nat) (v : HitSt) : (s.setHit p v).wave = s.wave := rfl
@[simp] theorem State.setHit_units (s : State) (p : Nat) (v : HitSt) : (s.setHit p v).units = s.units := rfl
@[simp] theorem State.setHit_opts (s : State) (p : Nat) (v : HitSt) : (s.setHit p v).opts = s.opts := rfl
@[simp] theorem State.setHit_claimKey (s : State) (p : Nat) (v : HitSt) : (s.setHit p v).claimKey = s.claimKey := rfl
@[simp] theorem State.setHit_leaseAt (s : State) (p : Nat) (v : HitSt) : (s.setHit p v).leaseAt = s.leaseAt := rfl
@[simp] theorem State.setHit_leaseLoose (s : State) (p : Nat) (v : HitSt) : (s.setHit p v).leaseLoose = s.leaseLoose := rfl
@[simp] theorem State.setHit_mon (s : State) (p : Nat) (v : HitSt) : (s.setHit p v).mon = s.mon := rfl
@[simp] theorem State.setHit_i2c (s : State) (p : Nat) (v : HitSt) : (s.setHit p v).i2c = s.i2c := rfl
@[simp] theorem State.setHit_checks (s : State) (p : Nat) (v : HitSt) : (s.setHit p v).checks = s.checks := rfl
@[simp] theorem State.setHit_pw (s : State) (p : Nat) (v : HitSt) : (s.setHit p v).pw = s.pw := rfl
@[simp] theorem State.setHit_sec (s : State) (p : Nat) (v : HitSt) : (s.setHit p v).sec = s.sec := rfl
@[simp] theorem State.setHit_jtag (s : State) (p : Nat) (v : HitSt) : (s.setHit p v).jtag = s.jtag := rfl
@[simp] theorem State.setHit_uart (s : State) (p : Nat) (v : HitSt) : (s.setHit p v).uart = s.uart := rfl
@[simp] theorem State.get_setHit (s : State) (p : Nat) (v : HitSt) (g : Field) : (s.setHit p v).get g = s.get g := rfl

/-! ### dropHit -/

@[simp] theorem State.dropHit_pending (s : State) (p : Nat) : (s.dropHit p).pending = s.pending := rfl
@[simp] theorem State.dropHit_regs (s : State) (p : Nat) : (s.dropHit p).regs = s.regs := rfl
@[simp] theorem State.dropHit_latchHi (s : State) (p : Nat) : (s.dropHit p).latchHi = s.latchHi := rfl
@[simp] theorem State.dropHit_heldLo (s : State) (p : Nat) : (s.dropHit p).heldLo = s.heldLo := rfl
@[simp] theorem State.dropHit_mem (s : State) (p : Nat) : (s.dropHit p).mem = s.mem := rfl
@[simp] theorem State.dropHit_memGen (s : State) (p : Nat) : (s.dropHit p).memGen = s.memGen := rfl
@[simp] theorem State.dropHit_ecc (s : State) (p : Nat) : (s.dropHit p).ecc = s.ecc := rfl
@[simp] theorem State.dropHit_freeCtr (s : State) (p : Nat) : (s.dropHit p).freeCtr = s.freeCtr := rfl
@[simp] theorem State.dropHit_lastStatus (s : State) (p : Nat) : (s.dropHit p).lastStatus = s.lastStatus := rfl
@[simp] theorem State.dropHit_lastData (s : State) (p : Nat) : (s.dropHit p).lastData = s.lastData := rfl
@[simp] theorem State.dropHit_time (s : State) (p : Nat) : (s.dropHit p).time = s.time := rfl
@[simp] theorem State.dropHit_cyc (s : State) (p : Nat) : (s.dropHit p).cyc = s.cyc := rfl
@[simp] theorem State.dropHit_errOrder (s : State) (p : Nat) : (s.dropHit p).errOrder = s.errOrder := rfl
@[simp] theorem State.dropHit_errOpen (s : State) (p : Nat) : (s.dropHit p).errOpen = s.errOpen := rfl
@[simp] theorem State.dropHit_life (s : State) (p : Nat) : (s.dropHit p).life = s.life := rfl
@[simp] theorem State.dropHit_hitWords (s : State) (p : Nat) : (s.dropHit p).hitWords = s.hitWords := rfl
@[simp] theorem State.dropHit_ports (s : State) (p : Nat) : (s.dropHit p).ports = s.ports := rfl
@[simp] theorem State.dropHit_sent (s : State) (p : Nat) : (s.dropHit p).sent = s.sent := rfl
@[simp] theorem State.dropHit_marks (s : State) (p : Nat) : (s.dropHit p).marks = s.marks := rfl
@[simp] theorem State.dropHit_pixs (s : State) (p : Nat) : (s.dropHit p).pixs = s.pixs := rfl
@[simp] theorem State.dropHit_latches (s : State) (p : Nat) : (s.dropHit p).latches = s.latches := rfl
@[simp] theorem State.dropHit_trains (s : State) (p : Nat) : (s.dropHit p).trains = s.trains := rfl
@[simp] theorem State.dropHit_injs (s : State) (p : Nat) : (s.dropHit p).injs = s.injs := rfl
@[simp] theorem State.dropHit_thrMove (s : State) (p : Nat) : (s.dropHit p).thrMove = s.thrMove := rfl
@[simp] theorem State.dropHit_fsumDue (s : State) (p : Nat) : (s.dropHit p).fsumDue = s.fsumDue := rfl
@[simp] theorem State.dropHit_fsumSel (s : State) (p : Nat) : (s.dropHit p).fsumSel = s.fsumSel := rfl
@[simp] theorem State.dropHit_fsumPeak (s : State) (p : Nat) : (s.dropHit p).fsumPeak = s.fsumPeak := rfl
@[simp] theorem State.dropHit_descent (s : State) (p : Nat) : (s.dropHit p).descent = s.descent := rfl
@[simp] theorem State.dropHit_interps (s : State) (p : Nat) : (s.dropHit p).interps = s.interps := rfl
@[simp] theorem State.dropHit_edgeTags (s : State) (p : Nat) : (s.dropHit p).edgeTags = s.edgeTags := rfl
@[simp] theorem State.dropHit_edgeStamps (s : State) (p : Nat) : (s.dropHit p).edgeStamps = s.edgeStamps := rfl
@[simp] theorem State.dropHit_tins (s : State) (p : Nat) : (s.dropHit p).tins = s.tins := rfl
@[simp] theorem State.dropHit_regions (s : State) (p : Nat) : (s.dropHit p).regions = s.regions := rfl
@[simp] theorem State.dropHit_cores (s : State) (p : Nat) : (s.dropHit p).cores = s.cores := rfl
@[simp] theorem State.dropHit_libs (s : State) (p : Nat) : (s.dropHit p).libs = s.libs := rfl
@[simp] theorem State.dropHit_libPops (s : State) (p : Nat) : (s.dropHit p).libPops = s.libPops := rfl
@[simp] theorem State.dropHit_rreqs (s : State) (p : Nat) : (s.dropHit p).rreqs = s.rreqs := rfl
@[simp] theorem State.dropHit_sendMask (s : State) (p : Nat) : (s.dropHit p).sendMask = s.sendMask := rfl
@[simp] theorem State.dropHit_merge (s : State) (p : Nat) : (s.dropHit p).merge = s.merge := rfl
@[simp] theorem State.dropHit_keels (s : State) (p : Nat) : (s.dropHit p).keels = s.keels := rfl
@[simp] theorem State.dropHit_retain (s : State) (p : Nat) : (s.dropHit p).retain = s.retain := rfl
@[simp] theorem State.dropHit_dram (s : State) (p : Nat) : (s.dropHit p).dram = s.dram := rfl
@[simp] theorem State.dropHit_pins (s : State) (p : Nat) : (s.dropHit p).pins = s.pins := rfl
@[simp] theorem State.dropHit_failUndo (s : State) (p : Nat) : (s.dropHit p).failUndo = s.failUndo := rfl
@[simp] theorem State.dropHit_failover (s : State) (p : Nat) : (s.dropHit p).failover = s.failover := rfl
@[simp] theorem State.dropHit_remsgs (s : State) (p : Nat) : (s.dropHit p).remsgs = s.remsgs := rfl
@[simp] theorem State.dropHit_epochDone (s : State) (p : Nat) : (s.dropHit p).epochDone = s.epochDone := rfl
@[simp] theorem State.dropHit_ballastDone (s : State) (p : Nat) : (s.dropHit p).ballastDone = s.ballastDone := rfl
@[simp] theorem State.dropHit_discardDone (s : State) (p : Nat) : (s.dropHit p).discardDone = s.discardDone := rfl
@[simp] theorem State.dropHit_mc (s : State) (p : Nat) : (s.dropHit p).mc = s.mc := rfl
@[simp] theorem State.dropHit_servo (s : State) (p : Nat) : (s.dropHit p).servo = s.servo := rfl
@[simp] theorem State.dropHit_txs (s : State) (p : Nat) : (s.dropHit p).txs = s.txs := rfl
@[simp] theorem State.dropHit_rxs (s : State) (p : Nat) : (s.dropHit p).rxs = s.rxs := rfl
@[simp] theorem State.dropHit_laneCfg (s : State) (p : Nat) : (s.dropHit p).laneCfg = s.laneCfg := rfl
@[simp] theorem State.dropHit_lmapDue (s : State) (p : Nat) : (s.dropHit p).lmapDue = s.lmapDue := rfl
@[simp] theorem State.dropHit_subDue (s : State) (p : Nat) : (s.dropHit p).subDue = s.subDue := rfl
@[simp] theorem State.dropHit_esc (s : State) (p : Nat) : (s.dropHit p).esc = s.esc := rfl
@[simp] theorem State.dropHit_quiesce (s : State) (p : Nat) : (s.dropHit p).quiesce = s.quiesce := rfl
@[simp] theorem State.dropHit_trgs (s : State) (p : Nat) : (s.dropHit p).trgs = s.trgs := rfl
@[simp] theorem State.dropHit_firings (s : State) (p : Nat) : (s.dropHit p).firings = s.firings := rfl
@[simp] theorem State.dropHit_wave (s : State) (p : Nat) : (s.dropHit p).wave = s.wave := rfl
@[simp] theorem State.dropHit_units (s : State) (p : Nat) : (s.dropHit p).units = s.units := rfl
@[simp] theorem State.dropHit_opts (s : State) (p : Nat) : (s.dropHit p).opts = s.opts := rfl
@[simp] theorem State.dropHit_claimKey (s : State) (p : Nat) : (s.dropHit p).claimKey = s.claimKey := rfl
@[simp] theorem State.dropHit_leaseAt (s : State) (p : Nat) : (s.dropHit p).leaseAt = s.leaseAt := rfl
@[simp] theorem State.dropHit_leaseLoose (s : State) (p : Nat) : (s.dropHit p).leaseLoose = s.leaseLoose := rfl
@[simp] theorem State.dropHit_mon (s : State) (p : Nat) : (s.dropHit p).mon = s.mon := rfl
@[simp] theorem State.dropHit_i2c (s : State) (p : Nat) : (s.dropHit p).i2c = s.i2c := rfl
@[simp] theorem State.dropHit_checks (s : State) (p : Nat) : (s.dropHit p).checks = s.checks := rfl
@[simp] theorem State.dropHit_pw (s : State) (p : Nat) : (s.dropHit p).pw = s.pw := rfl
@[simp] theorem State.dropHit_sec (s : State) (p : Nat) : (s.dropHit p).sec = s.sec := rfl
@[simp] theorem State.dropHit_jtag (s : State) (p : Nat) : (s.dropHit p).jtag = s.jtag := rfl
@[simp] theorem State.dropHit_uart (s : State) (p : Nat) : (s.dropHit p).uart = s.uart := rfl
@[simp] theorem State.get_dropHit (s : State) (p : Nat) (g : Field) : (s.dropHit p).get g = s.get g := rfl

/-! ### setTx -/

@[simp] theorem State.setTx_pending (s : State) (i : Nat) (v : TxSt) : (s.setTx i v).pending = s.pending := rfl
@[simp] theorem State.setTx_regs (s : State) (i : Nat) (v : TxSt) : (s.setTx i v).regs = s.regs := rfl
@[simp] theorem State.setTx_latchHi (s : State) (i : Nat) (v : TxSt) : (s.setTx i v).latchHi = s.latchHi := rfl
@[simp] theorem State.setTx_heldLo (s : State) (i : Nat) (v : TxSt) : (s.setTx i v).heldLo = s.heldLo := rfl
@[simp] theorem State.setTx_mem (s : State) (i : Nat) (v : TxSt) : (s.setTx i v).mem = s.mem := rfl
@[simp] theorem State.setTx_memGen (s : State) (i : Nat) (v : TxSt) : (s.setTx i v).memGen = s.memGen := rfl
@[simp] theorem State.setTx_ecc (s : State) (i : Nat) (v : TxSt) : (s.setTx i v).ecc = s.ecc := rfl
@[simp] theorem State.setTx_freeCtr (s : State) (i : Nat) (v : TxSt) : (s.setTx i v).freeCtr = s.freeCtr := rfl
@[simp] theorem State.setTx_lastStatus (s : State) (i : Nat) (v : TxSt) : (s.setTx i v).lastStatus = s.lastStatus := rfl
@[simp] theorem State.setTx_lastData (s : State) (i : Nat) (v : TxSt) : (s.setTx i v).lastData = s.lastData := rfl
@[simp] theorem State.setTx_time (s : State) (i : Nat) (v : TxSt) : (s.setTx i v).time = s.time := rfl
@[simp] theorem State.setTx_cyc (s : State) (i : Nat) (v : TxSt) : (s.setTx i v).cyc = s.cyc := rfl
@[simp] theorem State.setTx_errOrder (s : State) (i : Nat) (v : TxSt) : (s.setTx i v).errOrder = s.errOrder := rfl
@[simp] theorem State.setTx_errOpen (s : State) (i : Nat) (v : TxSt) : (s.setTx i v).errOpen = s.errOpen := rfl
@[simp] theorem State.setTx_life (s : State) (i : Nat) (v : TxSt) : (s.setTx i v).life = s.life := rfl
@[simp] theorem State.setTx_hitWords (s : State) (i : Nat) (v : TxSt) : (s.setTx i v).hitWords = s.hitWords := rfl
@[simp] theorem State.setTx_ports (s : State) (i : Nat) (v : TxSt) : (s.setTx i v).ports = s.ports := rfl
@[simp] theorem State.setTx_sent (s : State) (i : Nat) (v : TxSt) : (s.setTx i v).sent = s.sent := rfl
@[simp] theorem State.setTx_marks (s : State) (i : Nat) (v : TxSt) : (s.setTx i v).marks = s.marks := rfl
@[simp] theorem State.setTx_pixs (s : State) (i : Nat) (v : TxSt) : (s.setTx i v).pixs = s.pixs := rfl
@[simp] theorem State.setTx_latches (s : State) (i : Nat) (v : TxSt) : (s.setTx i v).latches = s.latches := rfl
@[simp] theorem State.setTx_hits (s : State) (i : Nat) (v : TxSt) : (s.setTx i v).hits = s.hits := rfl
@[simp] theorem State.setTx_trains (s : State) (i : Nat) (v : TxSt) : (s.setTx i v).trains = s.trains := rfl
@[simp] theorem State.setTx_injs (s : State) (i : Nat) (v : TxSt) : (s.setTx i v).injs = s.injs := rfl
@[simp] theorem State.setTx_thrMove (s : State) (i : Nat) (v : TxSt) : (s.setTx i v).thrMove = s.thrMove := rfl
@[simp] theorem State.setTx_fsumDue (s : State) (i : Nat) (v : TxSt) : (s.setTx i v).fsumDue = s.fsumDue := rfl
@[simp] theorem State.setTx_fsumSel (s : State) (i : Nat) (v : TxSt) : (s.setTx i v).fsumSel = s.fsumSel := rfl
@[simp] theorem State.setTx_fsumPeak (s : State) (i : Nat) (v : TxSt) : (s.setTx i v).fsumPeak = s.fsumPeak := rfl
@[simp] theorem State.setTx_descent (s : State) (i : Nat) (v : TxSt) : (s.setTx i v).descent = s.descent := rfl
@[simp] theorem State.setTx_interps (s : State) (i : Nat) (v : TxSt) : (s.setTx i v).interps = s.interps := rfl
@[simp] theorem State.setTx_edgeTags (s : State) (i : Nat) (v : TxSt) : (s.setTx i v).edgeTags = s.edgeTags := rfl
@[simp] theorem State.setTx_edgeStamps (s : State) (i : Nat) (v : TxSt) : (s.setTx i v).edgeStamps = s.edgeStamps := rfl
@[simp] theorem State.setTx_tins (s : State) (i : Nat) (v : TxSt) : (s.setTx i v).tins = s.tins := rfl
@[simp] theorem State.setTx_regions (s : State) (i : Nat) (v : TxSt) : (s.setTx i v).regions = s.regions := rfl
@[simp] theorem State.setTx_cores (s : State) (i : Nat) (v : TxSt) : (s.setTx i v).cores = s.cores := rfl
@[simp] theorem State.setTx_libs (s : State) (i : Nat) (v : TxSt) : (s.setTx i v).libs = s.libs := rfl
@[simp] theorem State.setTx_libPops (s : State) (i : Nat) (v : TxSt) : (s.setTx i v).libPops = s.libPops := rfl
@[simp] theorem State.setTx_rreqs (s : State) (i : Nat) (v : TxSt) : (s.setTx i v).rreqs = s.rreqs := rfl
@[simp] theorem State.setTx_sendMask (s : State) (i : Nat) (v : TxSt) : (s.setTx i v).sendMask = s.sendMask := rfl
@[simp] theorem State.setTx_merge (s : State) (i : Nat) (v : TxSt) : (s.setTx i v).merge = s.merge := rfl
@[simp] theorem State.setTx_keels (s : State) (i : Nat) (v : TxSt) : (s.setTx i v).keels = s.keels := rfl
@[simp] theorem State.setTx_retain (s : State) (i : Nat) (v : TxSt) : (s.setTx i v).retain = s.retain := rfl
@[simp] theorem State.setTx_dram (s : State) (i : Nat) (v : TxSt) : (s.setTx i v).dram = s.dram := rfl
@[simp] theorem State.setTx_pins (s : State) (i : Nat) (v : TxSt) : (s.setTx i v).pins = s.pins := rfl
@[simp] theorem State.setTx_failUndo (s : State) (i : Nat) (v : TxSt) : (s.setTx i v).failUndo = s.failUndo := rfl
@[simp] theorem State.setTx_failover (s : State) (i : Nat) (v : TxSt) : (s.setTx i v).failover = s.failover := rfl
@[simp] theorem State.setTx_remsgs (s : State) (i : Nat) (v : TxSt) : (s.setTx i v).remsgs = s.remsgs := rfl
@[simp] theorem State.setTx_epochDone (s : State) (i : Nat) (v : TxSt) : (s.setTx i v).epochDone = s.epochDone := rfl
@[simp] theorem State.setTx_ballastDone (s : State) (i : Nat) (v : TxSt) : (s.setTx i v).ballastDone = s.ballastDone := rfl
@[simp] theorem State.setTx_discardDone (s : State) (i : Nat) (v : TxSt) : (s.setTx i v).discardDone = s.discardDone := rfl
@[simp] theorem State.setTx_mc (s : State) (i : Nat) (v : TxSt) : (s.setTx i v).mc = s.mc := rfl
@[simp] theorem State.setTx_servo (s : State) (i : Nat) (v : TxSt) : (s.setTx i v).servo = s.servo := rfl
@[simp] theorem State.setTx_rxs (s : State) (i : Nat) (v : TxSt) : (s.setTx i v).rxs = s.rxs := rfl
@[simp] theorem State.setTx_laneCfg (s : State) (i : Nat) (v : TxSt) : (s.setTx i v).laneCfg = s.laneCfg := rfl
@[simp] theorem State.setTx_lmapDue (s : State) (i : Nat) (v : TxSt) : (s.setTx i v).lmapDue = s.lmapDue := rfl
@[simp] theorem State.setTx_subDue (s : State) (i : Nat) (v : TxSt) : (s.setTx i v).subDue = s.subDue := rfl
@[simp] theorem State.setTx_esc (s : State) (i : Nat) (v : TxSt) : (s.setTx i v).esc = s.esc := rfl
@[simp] theorem State.setTx_quiesce (s : State) (i : Nat) (v : TxSt) : (s.setTx i v).quiesce = s.quiesce := rfl
@[simp] theorem State.setTx_trgs (s : State) (i : Nat) (v : TxSt) : (s.setTx i v).trgs = s.trgs := rfl
@[simp] theorem State.setTx_firings (s : State) (i : Nat) (v : TxSt) : (s.setTx i v).firings = s.firings := rfl
@[simp] theorem State.setTx_wave (s : State) (i : Nat) (v : TxSt) : (s.setTx i v).wave = s.wave := rfl
@[simp] theorem State.setTx_units (s : State) (i : Nat) (v : TxSt) : (s.setTx i v).units = s.units := rfl
@[simp] theorem State.setTx_opts (s : State) (i : Nat) (v : TxSt) : (s.setTx i v).opts = s.opts := rfl
@[simp] theorem State.setTx_claimKey (s : State) (i : Nat) (v : TxSt) : (s.setTx i v).claimKey = s.claimKey := rfl
@[simp] theorem State.setTx_leaseAt (s : State) (i : Nat) (v : TxSt) : (s.setTx i v).leaseAt = s.leaseAt := rfl
@[simp] theorem State.setTx_leaseLoose (s : State) (i : Nat) (v : TxSt) : (s.setTx i v).leaseLoose = s.leaseLoose := rfl
@[simp] theorem State.setTx_mon (s : State) (i : Nat) (v : TxSt) : (s.setTx i v).mon = s.mon := rfl
@[simp] theorem State.setTx_i2c (s : State) (i : Nat) (v : TxSt) : (s.setTx i v).i2c = s.i2c := rfl
@[simp] theorem State.setTx_checks (s : State) (i : Nat) (v : TxSt) : (s.setTx i v).checks = s.checks := rfl
@[simp] theorem State.setTx_pw (s : State) (i : Nat) (v : TxSt) : (s.setTx i v).pw = s.pw := rfl
@[simp] theorem State.setTx_sec (s : State) (i : Nat) (v : TxSt) : (s.setTx i v).sec = s.sec := rfl
@[simp] theorem State.setTx_jtag (s : State) (i : Nat) (v : TxSt) : (s.setTx i v).jtag = s.jtag := rfl
@[simp] theorem State.setTx_uart (s : State) (i : Nat) (v : TxSt) : (s.setTx i v).uart = s.uart := rfl
@[simp] theorem State.get_setTx (s : State) (i : Nat) (v : TxSt) (g : Field) : (s.setTx i v).get g = s.get g := rfl

/-! ### setRx -/

@[simp] theorem State.setRx_pending (s : State) (j : Nat) (v : RxSt) : (s.setRx j v).pending = s.pending := rfl
@[simp] theorem State.setRx_regs (s : State) (j : Nat) (v : RxSt) : (s.setRx j v).regs = s.regs := rfl
@[simp] theorem State.setRx_latchHi (s : State) (j : Nat) (v : RxSt) : (s.setRx j v).latchHi = s.latchHi := rfl
@[simp] theorem State.setRx_heldLo (s : State) (j : Nat) (v : RxSt) : (s.setRx j v).heldLo = s.heldLo := rfl
@[simp] theorem State.setRx_mem (s : State) (j : Nat) (v : RxSt) : (s.setRx j v).mem = s.mem := rfl
@[simp] theorem State.setRx_memGen (s : State) (j : Nat) (v : RxSt) : (s.setRx j v).memGen = s.memGen := rfl
@[simp] theorem State.setRx_ecc (s : State) (j : Nat) (v : RxSt) : (s.setRx j v).ecc = s.ecc := rfl
@[simp] theorem State.setRx_freeCtr (s : State) (j : Nat) (v : RxSt) : (s.setRx j v).freeCtr = s.freeCtr := rfl
@[simp] theorem State.setRx_lastStatus (s : State) (j : Nat) (v : RxSt) : (s.setRx j v).lastStatus = s.lastStatus := rfl
@[simp] theorem State.setRx_lastData (s : State) (j : Nat) (v : RxSt) : (s.setRx j v).lastData = s.lastData := rfl
@[simp] theorem State.setRx_time (s : State) (j : Nat) (v : RxSt) : (s.setRx j v).time = s.time := rfl
@[simp] theorem State.setRx_cyc (s : State) (j : Nat) (v : RxSt) : (s.setRx j v).cyc = s.cyc := rfl
@[simp] theorem State.setRx_errOrder (s : State) (j : Nat) (v : RxSt) : (s.setRx j v).errOrder = s.errOrder := rfl
@[simp] theorem State.setRx_errOpen (s : State) (j : Nat) (v : RxSt) : (s.setRx j v).errOpen = s.errOpen := rfl
@[simp] theorem State.setRx_life (s : State) (j : Nat) (v : RxSt) : (s.setRx j v).life = s.life := rfl
@[simp] theorem State.setRx_hitWords (s : State) (j : Nat) (v : RxSt) : (s.setRx j v).hitWords = s.hitWords := rfl
@[simp] theorem State.setRx_ports (s : State) (j : Nat) (v : RxSt) : (s.setRx j v).ports = s.ports := rfl
@[simp] theorem State.setRx_sent (s : State) (j : Nat) (v : RxSt) : (s.setRx j v).sent = s.sent := rfl
@[simp] theorem State.setRx_marks (s : State) (j : Nat) (v : RxSt) : (s.setRx j v).marks = s.marks := rfl
@[simp] theorem State.setRx_pixs (s : State) (j : Nat) (v : RxSt) : (s.setRx j v).pixs = s.pixs := rfl
@[simp] theorem State.setRx_latches (s : State) (j : Nat) (v : RxSt) : (s.setRx j v).latches = s.latches := rfl
@[simp] theorem State.setRx_hits (s : State) (j : Nat) (v : RxSt) : (s.setRx j v).hits = s.hits := rfl
@[simp] theorem State.setRx_trains (s : State) (j : Nat) (v : RxSt) : (s.setRx j v).trains = s.trains := rfl
@[simp] theorem State.setRx_injs (s : State) (j : Nat) (v : RxSt) : (s.setRx j v).injs = s.injs := rfl
@[simp] theorem State.setRx_thrMove (s : State) (j : Nat) (v : RxSt) : (s.setRx j v).thrMove = s.thrMove := rfl
@[simp] theorem State.setRx_fsumDue (s : State) (j : Nat) (v : RxSt) : (s.setRx j v).fsumDue = s.fsumDue := rfl
@[simp] theorem State.setRx_fsumSel (s : State) (j : Nat) (v : RxSt) : (s.setRx j v).fsumSel = s.fsumSel := rfl
@[simp] theorem State.setRx_fsumPeak (s : State) (j : Nat) (v : RxSt) : (s.setRx j v).fsumPeak = s.fsumPeak := rfl
@[simp] theorem State.setRx_descent (s : State) (j : Nat) (v : RxSt) : (s.setRx j v).descent = s.descent := rfl
@[simp] theorem State.setRx_interps (s : State) (j : Nat) (v : RxSt) : (s.setRx j v).interps = s.interps := rfl
@[simp] theorem State.setRx_edgeTags (s : State) (j : Nat) (v : RxSt) : (s.setRx j v).edgeTags = s.edgeTags := rfl
@[simp] theorem State.setRx_edgeStamps (s : State) (j : Nat) (v : RxSt) : (s.setRx j v).edgeStamps = s.edgeStamps := rfl
@[simp] theorem State.setRx_tins (s : State) (j : Nat) (v : RxSt) : (s.setRx j v).tins = s.tins := rfl
@[simp] theorem State.setRx_regions (s : State) (j : Nat) (v : RxSt) : (s.setRx j v).regions = s.regions := rfl
@[simp] theorem State.setRx_cores (s : State) (j : Nat) (v : RxSt) : (s.setRx j v).cores = s.cores := rfl
@[simp] theorem State.setRx_libs (s : State) (j : Nat) (v : RxSt) : (s.setRx j v).libs = s.libs := rfl
@[simp] theorem State.setRx_libPops (s : State) (j : Nat) (v : RxSt) : (s.setRx j v).libPops = s.libPops := rfl
@[simp] theorem State.setRx_rreqs (s : State) (j : Nat) (v : RxSt) : (s.setRx j v).rreqs = s.rreqs := rfl
@[simp] theorem State.setRx_sendMask (s : State) (j : Nat) (v : RxSt) : (s.setRx j v).sendMask = s.sendMask := rfl
@[simp] theorem State.setRx_merge (s : State) (j : Nat) (v : RxSt) : (s.setRx j v).merge = s.merge := rfl
@[simp] theorem State.setRx_keels (s : State) (j : Nat) (v : RxSt) : (s.setRx j v).keels = s.keels := rfl
@[simp] theorem State.setRx_retain (s : State) (j : Nat) (v : RxSt) : (s.setRx j v).retain = s.retain := rfl
@[simp] theorem State.setRx_dram (s : State) (j : Nat) (v : RxSt) : (s.setRx j v).dram = s.dram := rfl
@[simp] theorem State.setRx_pins (s : State) (j : Nat) (v : RxSt) : (s.setRx j v).pins = s.pins := rfl
@[simp] theorem State.setRx_failUndo (s : State) (j : Nat) (v : RxSt) : (s.setRx j v).failUndo = s.failUndo := rfl
@[simp] theorem State.setRx_failover (s : State) (j : Nat) (v : RxSt) : (s.setRx j v).failover = s.failover := rfl
@[simp] theorem State.setRx_remsgs (s : State) (j : Nat) (v : RxSt) : (s.setRx j v).remsgs = s.remsgs := rfl
@[simp] theorem State.setRx_epochDone (s : State) (j : Nat) (v : RxSt) : (s.setRx j v).epochDone = s.epochDone := rfl
@[simp] theorem State.setRx_ballastDone (s : State) (j : Nat) (v : RxSt) : (s.setRx j v).ballastDone = s.ballastDone := rfl
@[simp] theorem State.setRx_discardDone (s : State) (j : Nat) (v : RxSt) : (s.setRx j v).discardDone = s.discardDone := rfl
@[simp] theorem State.setRx_mc (s : State) (j : Nat) (v : RxSt) : (s.setRx j v).mc = s.mc := rfl
@[simp] theorem State.setRx_servo (s : State) (j : Nat) (v : RxSt) : (s.setRx j v).servo = s.servo := rfl
@[simp] theorem State.setRx_txs (s : State) (j : Nat) (v : RxSt) : (s.setRx j v).txs = s.txs := rfl
@[simp] theorem State.setRx_laneCfg (s : State) (j : Nat) (v : RxSt) : (s.setRx j v).laneCfg = s.laneCfg := rfl
@[simp] theorem State.setRx_lmapDue (s : State) (j : Nat) (v : RxSt) : (s.setRx j v).lmapDue = s.lmapDue := rfl
@[simp] theorem State.setRx_subDue (s : State) (j : Nat) (v : RxSt) : (s.setRx j v).subDue = s.subDue := rfl
@[simp] theorem State.setRx_esc (s : State) (j : Nat) (v : RxSt) : (s.setRx j v).esc = s.esc := rfl
@[simp] theorem State.setRx_quiesce (s : State) (j : Nat) (v : RxSt) : (s.setRx j v).quiesce = s.quiesce := rfl
@[simp] theorem State.setRx_trgs (s : State) (j : Nat) (v : RxSt) : (s.setRx j v).trgs = s.trgs := rfl
@[simp] theorem State.setRx_firings (s : State) (j : Nat) (v : RxSt) : (s.setRx j v).firings = s.firings := rfl
@[simp] theorem State.setRx_wave (s : State) (j : Nat) (v : RxSt) : (s.setRx j v).wave = s.wave := rfl
@[simp] theorem State.setRx_units (s : State) (j : Nat) (v : RxSt) : (s.setRx j v).units = s.units := rfl
@[simp] theorem State.setRx_opts (s : State) (j : Nat) (v : RxSt) : (s.setRx j v).opts = s.opts := rfl
@[simp] theorem State.setRx_claimKey (s : State) (j : Nat) (v : RxSt) : (s.setRx j v).claimKey = s.claimKey := rfl
@[simp] theorem State.setRx_leaseAt (s : State) (j : Nat) (v : RxSt) : (s.setRx j v).leaseAt = s.leaseAt := rfl
@[simp] theorem State.setRx_leaseLoose (s : State) (j : Nat) (v : RxSt) : (s.setRx j v).leaseLoose = s.leaseLoose := rfl
@[simp] theorem State.setRx_mon (s : State) (j : Nat) (v : RxSt) : (s.setRx j v).mon = s.mon := rfl
@[simp] theorem State.setRx_i2c (s : State) (j : Nat) (v : RxSt) : (s.setRx j v).i2c = s.i2c := rfl
@[simp] theorem State.setRx_checks (s : State) (j : Nat) (v : RxSt) : (s.setRx j v).checks = s.checks := rfl
@[simp] theorem State.setRx_pw (s : State) (j : Nat) (v : RxSt) : (s.setRx j v).pw = s.pw := rfl
@[simp] theorem State.setRx_sec (s : State) (j : Nat) (v : RxSt) : (s.setRx j v).sec = s.sec := rfl
@[simp] theorem State.setRx_jtag (s : State) (j : Nat) (v : RxSt) : (s.setRx j v).jtag = s.jtag := rfl
@[simp] theorem State.setRx_uart (s : State) (j : Nat) (v : RxSt) : (s.setRx j v).uart = s.uart := rfl
@[simp] theorem State.get_setRx (s : State) (j : Nat) (v : RxSt) (g : Field) : (s.setRx j v).get g = s.get g := rfl

/-! ### setLib -/

@[simp] theorem State.setLib_pending (s : State) (n i : Nat) (v : LibSlot) : (s.setLib n i v).pending = s.pending := rfl
@[simp] theorem State.setLib_regs (s : State) (n i : Nat) (v : LibSlot) : (s.setLib n i v).regs = s.regs := rfl
@[simp] theorem State.setLib_latchHi (s : State) (n i : Nat) (v : LibSlot) : (s.setLib n i v).latchHi = s.latchHi := rfl
@[simp] theorem State.setLib_heldLo (s : State) (n i : Nat) (v : LibSlot) : (s.setLib n i v).heldLo = s.heldLo := rfl
@[simp] theorem State.setLib_mem (s : State) (n i : Nat) (v : LibSlot) : (s.setLib n i v).mem = s.mem := rfl
@[simp] theorem State.setLib_memGen (s : State) (n i : Nat) (v : LibSlot) : (s.setLib n i v).memGen = s.memGen := rfl
@[simp] theorem State.setLib_ecc (s : State) (n i : Nat) (v : LibSlot) : (s.setLib n i v).ecc = s.ecc := rfl
@[simp] theorem State.setLib_freeCtr (s : State) (n i : Nat) (v : LibSlot) : (s.setLib n i v).freeCtr = s.freeCtr := rfl
@[simp] theorem State.setLib_lastStatus (s : State) (n i : Nat) (v : LibSlot) : (s.setLib n i v).lastStatus = s.lastStatus := rfl
@[simp] theorem State.setLib_lastData (s : State) (n i : Nat) (v : LibSlot) : (s.setLib n i v).lastData = s.lastData := rfl
@[simp] theorem State.setLib_time (s : State) (n i : Nat) (v : LibSlot) : (s.setLib n i v).time = s.time := rfl
@[simp] theorem State.setLib_cyc (s : State) (n i : Nat) (v : LibSlot) : (s.setLib n i v).cyc = s.cyc := rfl
@[simp] theorem State.setLib_errOrder (s : State) (n i : Nat) (v : LibSlot) : (s.setLib n i v).errOrder = s.errOrder := rfl
@[simp] theorem State.setLib_errOpen (s : State) (n i : Nat) (v : LibSlot) : (s.setLib n i v).errOpen = s.errOpen := rfl
@[simp] theorem State.setLib_life (s : State) (n i : Nat) (v : LibSlot) : (s.setLib n i v).life = s.life := rfl
@[simp] theorem State.setLib_hitWords (s : State) (n i : Nat) (v : LibSlot) : (s.setLib n i v).hitWords = s.hitWords := rfl
@[simp] theorem State.setLib_ports (s : State) (n i : Nat) (v : LibSlot) : (s.setLib n i v).ports = s.ports := rfl
@[simp] theorem State.setLib_sent (s : State) (n i : Nat) (v : LibSlot) : (s.setLib n i v).sent = s.sent := rfl
@[simp] theorem State.setLib_marks (s : State) (n i : Nat) (v : LibSlot) : (s.setLib n i v).marks = s.marks := rfl
@[simp] theorem State.setLib_pixs (s : State) (n i : Nat) (v : LibSlot) : (s.setLib n i v).pixs = s.pixs := rfl
@[simp] theorem State.setLib_latches (s : State) (n i : Nat) (v : LibSlot) : (s.setLib n i v).latches = s.latches := rfl
@[simp] theorem State.setLib_hits (s : State) (n i : Nat) (v : LibSlot) : (s.setLib n i v).hits = s.hits := rfl
@[simp] theorem State.setLib_trains (s : State) (n i : Nat) (v : LibSlot) : (s.setLib n i v).trains = s.trains := rfl
@[simp] theorem State.setLib_injs (s : State) (n i : Nat) (v : LibSlot) : (s.setLib n i v).injs = s.injs := rfl
@[simp] theorem State.setLib_thrMove (s : State) (n i : Nat) (v : LibSlot) : (s.setLib n i v).thrMove = s.thrMove := rfl
@[simp] theorem State.setLib_fsumDue (s : State) (n i : Nat) (v : LibSlot) : (s.setLib n i v).fsumDue = s.fsumDue := rfl
@[simp] theorem State.setLib_fsumSel (s : State) (n i : Nat) (v : LibSlot) : (s.setLib n i v).fsumSel = s.fsumSel := rfl
@[simp] theorem State.setLib_fsumPeak (s : State) (n i : Nat) (v : LibSlot) : (s.setLib n i v).fsumPeak = s.fsumPeak := rfl
@[simp] theorem State.setLib_descent (s : State) (n i : Nat) (v : LibSlot) : (s.setLib n i v).descent = s.descent := rfl
@[simp] theorem State.setLib_interps (s : State) (n i : Nat) (v : LibSlot) : (s.setLib n i v).interps = s.interps := rfl
@[simp] theorem State.setLib_edgeTags (s : State) (n i : Nat) (v : LibSlot) : (s.setLib n i v).edgeTags = s.edgeTags := rfl
@[simp] theorem State.setLib_edgeStamps (s : State) (n i : Nat) (v : LibSlot) : (s.setLib n i v).edgeStamps = s.edgeStamps := rfl
@[simp] theorem State.setLib_tins (s : State) (n i : Nat) (v : LibSlot) : (s.setLib n i v).tins = s.tins := rfl
@[simp] theorem State.setLib_regions (s : State) (n i : Nat) (v : LibSlot) : (s.setLib n i v).regions = s.regions := rfl
@[simp] theorem State.setLib_cores (s : State) (n i : Nat) (v : LibSlot) : (s.setLib n i v).cores = s.cores := rfl
@[simp] theorem State.setLib_libPops (s : State) (n i : Nat) (v : LibSlot) : (s.setLib n i v).libPops = s.libPops := rfl
@[simp] theorem State.setLib_rreqs (s : State) (n i : Nat) (v : LibSlot) : (s.setLib n i v).rreqs = s.rreqs := rfl
@[simp] theorem State.setLib_sendMask (s : State) (n i : Nat) (v : LibSlot) : (s.setLib n i v).sendMask = s.sendMask := rfl
@[simp] theorem State.setLib_merge (s : State) (n i : Nat) (v : LibSlot) : (s.setLib n i v).merge = s.merge := rfl
@[simp] theorem State.setLib_keels (s : State) (n i : Nat) (v : LibSlot) : (s.setLib n i v).keels = s.keels := rfl
@[simp] theorem State.setLib_retain (s : State) (n i : Nat) (v : LibSlot) : (s.setLib n i v).retain = s.retain := rfl
@[simp] theorem State.setLib_dram (s : State) (n i : Nat) (v : LibSlot) : (s.setLib n i v).dram = s.dram := rfl
@[simp] theorem State.setLib_pins (s : State) (n i : Nat) (v : LibSlot) : (s.setLib n i v).pins = s.pins := rfl
@[simp] theorem State.setLib_failUndo (s : State) (n i : Nat) (v : LibSlot) : (s.setLib n i v).failUndo = s.failUndo := rfl
@[simp] theorem State.setLib_failover (s : State) (n i : Nat) (v : LibSlot) : (s.setLib n i v).failover = s.failover := rfl
@[simp] theorem State.setLib_remsgs (s : State) (n i : Nat) (v : LibSlot) : (s.setLib n i v).remsgs = s.remsgs := rfl
@[simp] theorem State.setLib_epochDone (s : State) (n i : Nat) (v : LibSlot) : (s.setLib n i v).epochDone = s.epochDone := rfl
@[simp] theorem State.setLib_ballastDone (s : State) (n i : Nat) (v : LibSlot) : (s.setLib n i v).ballastDone = s.ballastDone := rfl
@[simp] theorem State.setLib_discardDone (s : State) (n i : Nat) (v : LibSlot) : (s.setLib n i v).discardDone = s.discardDone := rfl
@[simp] theorem State.setLib_mc (s : State) (n i : Nat) (v : LibSlot) : (s.setLib n i v).mc = s.mc := rfl
@[simp] theorem State.setLib_servo (s : State) (n i : Nat) (v : LibSlot) : (s.setLib n i v).servo = s.servo := rfl
@[simp] theorem State.setLib_txs (s : State) (n i : Nat) (v : LibSlot) : (s.setLib n i v).txs = s.txs := rfl
@[simp] theorem State.setLib_rxs (s : State) (n i : Nat) (v : LibSlot) : (s.setLib n i v).rxs = s.rxs := rfl
@[simp] theorem State.setLib_laneCfg (s : State) (n i : Nat) (v : LibSlot) : (s.setLib n i v).laneCfg = s.laneCfg := rfl
@[simp] theorem State.setLib_lmapDue (s : State) (n i : Nat) (v : LibSlot) : (s.setLib n i v).lmapDue = s.lmapDue := rfl
@[simp] theorem State.setLib_subDue (s : State) (n i : Nat) (v : LibSlot) : (s.setLib n i v).subDue = s.subDue := rfl
@[simp] theorem State.setLib_esc (s : State) (n i : Nat) (v : LibSlot) : (s.setLib n i v).esc = s.esc := rfl
@[simp] theorem State.setLib_quiesce (s : State) (n i : Nat) (v : LibSlot) : (s.setLib n i v).quiesce = s.quiesce := rfl
@[simp] theorem State.setLib_trgs (s : State) (n i : Nat) (v : LibSlot) : (s.setLib n i v).trgs = s.trgs := rfl
@[simp] theorem State.setLib_firings (s : State) (n i : Nat) (v : LibSlot) : (s.setLib n i v).firings = s.firings := rfl
@[simp] theorem State.setLib_wave (s : State) (n i : Nat) (v : LibSlot) : (s.setLib n i v).wave = s.wave := rfl
@[simp] theorem State.setLib_units (s : State) (n i : Nat) (v : LibSlot) : (s.setLib n i v).units = s.units := rfl
@[simp] theorem State.setLib_opts (s : State) (n i : Nat) (v : LibSlot) : (s.setLib n i v).opts = s.opts := rfl
@[simp] theorem State.setLib_claimKey (s : State) (n i : Nat) (v : LibSlot) : (s.setLib n i v).claimKey = s.claimKey := rfl
@[simp] theorem State.setLib_leaseAt (s : State) (n i : Nat) (v : LibSlot) : (s.setLib n i v).leaseAt = s.leaseAt := rfl
@[simp] theorem State.setLib_leaseLoose (s : State) (n i : Nat) (v : LibSlot) : (s.setLib n i v).leaseLoose = s.leaseLoose := rfl
@[simp] theorem State.setLib_mon (s : State) (n i : Nat) (v : LibSlot) : (s.setLib n i v).mon = s.mon := rfl
@[simp] theorem State.setLib_i2c (s : State) (n i : Nat) (v : LibSlot) : (s.setLib n i v).i2c = s.i2c := rfl
@[simp] theorem State.setLib_checks (s : State) (n i : Nat) (v : LibSlot) : (s.setLib n i v).checks = s.checks := rfl
@[simp] theorem State.setLib_pw (s : State) (n i : Nat) (v : LibSlot) : (s.setLib n i v).pw = s.pw := rfl
@[simp] theorem State.setLib_sec (s : State) (n i : Nat) (v : LibSlot) : (s.setLib n i v).sec = s.sec := rfl
@[simp] theorem State.setLib_jtag (s : State) (n i : Nat) (v : LibSlot) : (s.setLib n i v).jtag = s.jtag := rfl
@[simp] theorem State.setLib_uart (s : State) (n i : Nat) (v : LibSlot) : (s.setLib n i v).uart = s.uart := rfl
@[simp] theorem State.get_setLib (s : State) (n i : Nat) (v : LibSlot) (g : Field) : (s.setLib n i v).get g = s.get g := rfl

/-! ### setTrg -/

@[simp] theorem State.setTrg_pending (s : State) (n : Nat) (v : TrgSt) : (s.setTrg n v).pending = s.pending := rfl
@[simp] theorem State.setTrg_regs (s : State) (n : Nat) (v : TrgSt) : (s.setTrg n v).regs = s.regs := rfl
@[simp] theorem State.setTrg_latchHi (s : State) (n : Nat) (v : TrgSt) : (s.setTrg n v).latchHi = s.latchHi := rfl
@[simp] theorem State.setTrg_heldLo (s : State) (n : Nat) (v : TrgSt) : (s.setTrg n v).heldLo = s.heldLo := rfl
@[simp] theorem State.setTrg_mem (s : State) (n : Nat) (v : TrgSt) : (s.setTrg n v).mem = s.mem := rfl
@[simp] theorem State.setTrg_memGen (s : State) (n : Nat) (v : TrgSt) : (s.setTrg n v).memGen = s.memGen := rfl
@[simp] theorem State.setTrg_ecc (s : State) (n : Nat) (v : TrgSt) : (s.setTrg n v).ecc = s.ecc := rfl
@[simp] theorem State.setTrg_freeCtr (s : State) (n : Nat) (v : TrgSt) : (s.setTrg n v).freeCtr = s.freeCtr := rfl
@[simp] theorem State.setTrg_lastStatus (s : State) (n : Nat) (v : TrgSt) : (s.setTrg n v).lastStatus = s.lastStatus := rfl
@[simp] theorem State.setTrg_lastData (s : State) (n : Nat) (v : TrgSt) : (s.setTrg n v).lastData = s.lastData := rfl
@[simp] theorem State.setTrg_time (s : State) (n : Nat) (v : TrgSt) : (s.setTrg n v).time = s.time := rfl
@[simp] theorem State.setTrg_cyc (s : State) (n : Nat) (v : TrgSt) : (s.setTrg n v).cyc = s.cyc := rfl
@[simp] theorem State.setTrg_errOrder (s : State) (n : Nat) (v : TrgSt) : (s.setTrg n v).errOrder = s.errOrder := rfl
@[simp] theorem State.setTrg_errOpen (s : State) (n : Nat) (v : TrgSt) : (s.setTrg n v).errOpen = s.errOpen := rfl
@[simp] theorem State.setTrg_life (s : State) (n : Nat) (v : TrgSt) : (s.setTrg n v).life = s.life := rfl
@[simp] theorem State.setTrg_hitWords (s : State) (n : Nat) (v : TrgSt) : (s.setTrg n v).hitWords = s.hitWords := rfl
@[simp] theorem State.setTrg_ports (s : State) (n : Nat) (v : TrgSt) : (s.setTrg n v).ports = s.ports := rfl
@[simp] theorem State.setTrg_sent (s : State) (n : Nat) (v : TrgSt) : (s.setTrg n v).sent = s.sent := rfl
@[simp] theorem State.setTrg_marks (s : State) (n : Nat) (v : TrgSt) : (s.setTrg n v).marks = s.marks := rfl
@[simp] theorem State.setTrg_pixs (s : State) (n : Nat) (v : TrgSt) : (s.setTrg n v).pixs = s.pixs := rfl
@[simp] theorem State.setTrg_latches (s : State) (n : Nat) (v : TrgSt) : (s.setTrg n v).latches = s.latches := rfl
@[simp] theorem State.setTrg_hits (s : State) (n : Nat) (v : TrgSt) : (s.setTrg n v).hits = s.hits := rfl
@[simp] theorem State.setTrg_trains (s : State) (n : Nat) (v : TrgSt) : (s.setTrg n v).trains = s.trains := rfl
@[simp] theorem State.setTrg_injs (s : State) (n : Nat) (v : TrgSt) : (s.setTrg n v).injs = s.injs := rfl
@[simp] theorem State.setTrg_thrMove (s : State) (n : Nat) (v : TrgSt) : (s.setTrg n v).thrMove = s.thrMove := rfl
@[simp] theorem State.setTrg_fsumDue (s : State) (n : Nat) (v : TrgSt) : (s.setTrg n v).fsumDue = s.fsumDue := rfl
@[simp] theorem State.setTrg_fsumSel (s : State) (n : Nat) (v : TrgSt) : (s.setTrg n v).fsumSel = s.fsumSel := rfl
@[simp] theorem State.setTrg_fsumPeak (s : State) (n : Nat) (v : TrgSt) : (s.setTrg n v).fsumPeak = s.fsumPeak := rfl
@[simp] theorem State.setTrg_descent (s : State) (n : Nat) (v : TrgSt) : (s.setTrg n v).descent = s.descent := rfl
@[simp] theorem State.setTrg_interps (s : State) (n : Nat) (v : TrgSt) : (s.setTrg n v).interps = s.interps := rfl
@[simp] theorem State.setTrg_edgeTags (s : State) (n : Nat) (v : TrgSt) : (s.setTrg n v).edgeTags = s.edgeTags := rfl
@[simp] theorem State.setTrg_edgeStamps (s : State) (n : Nat) (v : TrgSt) : (s.setTrg n v).edgeStamps = s.edgeStamps := rfl
@[simp] theorem State.setTrg_tins (s : State) (n : Nat) (v : TrgSt) : (s.setTrg n v).tins = s.tins := rfl
@[simp] theorem State.setTrg_regions (s : State) (n : Nat) (v : TrgSt) : (s.setTrg n v).regions = s.regions := rfl
@[simp] theorem State.setTrg_cores (s : State) (n : Nat) (v : TrgSt) : (s.setTrg n v).cores = s.cores := rfl
@[simp] theorem State.setTrg_libs (s : State) (n : Nat) (v : TrgSt) : (s.setTrg n v).libs = s.libs := rfl
@[simp] theorem State.setTrg_libPops (s : State) (n : Nat) (v : TrgSt) : (s.setTrg n v).libPops = s.libPops := rfl
@[simp] theorem State.setTrg_rreqs (s : State) (n : Nat) (v : TrgSt) : (s.setTrg n v).rreqs = s.rreqs := rfl
@[simp] theorem State.setTrg_sendMask (s : State) (n : Nat) (v : TrgSt) : (s.setTrg n v).sendMask = s.sendMask := rfl
@[simp] theorem State.setTrg_merge (s : State) (n : Nat) (v : TrgSt) : (s.setTrg n v).merge = s.merge := rfl
@[simp] theorem State.setTrg_keels (s : State) (n : Nat) (v : TrgSt) : (s.setTrg n v).keels = s.keels := rfl
@[simp] theorem State.setTrg_retain (s : State) (n : Nat) (v : TrgSt) : (s.setTrg n v).retain = s.retain := rfl
@[simp] theorem State.setTrg_dram (s : State) (n : Nat) (v : TrgSt) : (s.setTrg n v).dram = s.dram := rfl
@[simp] theorem State.setTrg_pins (s : State) (n : Nat) (v : TrgSt) : (s.setTrg n v).pins = s.pins := rfl
@[simp] theorem State.setTrg_failUndo (s : State) (n : Nat) (v : TrgSt) : (s.setTrg n v).failUndo = s.failUndo := rfl
@[simp] theorem State.setTrg_failover (s : State) (n : Nat) (v : TrgSt) : (s.setTrg n v).failover = s.failover := rfl
@[simp] theorem State.setTrg_remsgs (s : State) (n : Nat) (v : TrgSt) : (s.setTrg n v).remsgs = s.remsgs := rfl
@[simp] theorem State.setTrg_epochDone (s : State) (n : Nat) (v : TrgSt) : (s.setTrg n v).epochDone = s.epochDone := rfl
@[simp] theorem State.setTrg_ballastDone (s : State) (n : Nat) (v : TrgSt) : (s.setTrg n v).ballastDone = s.ballastDone := rfl
@[simp] theorem State.setTrg_discardDone (s : State) (n : Nat) (v : TrgSt) : (s.setTrg n v).discardDone = s.discardDone := rfl
@[simp] theorem State.setTrg_mc (s : State) (n : Nat) (v : TrgSt) : (s.setTrg n v).mc = s.mc := rfl
@[simp] theorem State.setTrg_servo (s : State) (n : Nat) (v : TrgSt) : (s.setTrg n v).servo = s.servo := rfl
@[simp] theorem State.setTrg_txs (s : State) (n : Nat) (v : TrgSt) : (s.setTrg n v).txs = s.txs := rfl
@[simp] theorem State.setTrg_rxs (s : State) (n : Nat) (v : TrgSt) : (s.setTrg n v).rxs = s.rxs := rfl
@[simp] theorem State.setTrg_laneCfg (s : State) (n : Nat) (v : TrgSt) : (s.setTrg n v).laneCfg = s.laneCfg := rfl
@[simp] theorem State.setTrg_lmapDue (s : State) (n : Nat) (v : TrgSt) : (s.setTrg n v).lmapDue = s.lmapDue := rfl
@[simp] theorem State.setTrg_subDue (s : State) (n : Nat) (v : TrgSt) : (s.setTrg n v).subDue = s.subDue := rfl
@[simp] theorem State.setTrg_esc (s : State) (n : Nat) (v : TrgSt) : (s.setTrg n v).esc = s.esc := rfl
@[simp] theorem State.setTrg_quiesce (s : State) (n : Nat) (v : TrgSt) : (s.setTrg n v).quiesce = s.quiesce := rfl
@[simp] theorem State.setTrg_firings (s : State) (n : Nat) (v : TrgSt) : (s.setTrg n v).firings = s.firings := rfl
@[simp] theorem State.setTrg_wave (s : State) (n : Nat) (v : TrgSt) : (s.setTrg n v).wave = s.wave := rfl
@[simp] theorem State.setTrg_units (s : State) (n : Nat) (v : TrgSt) : (s.setTrg n v).units = s.units := rfl
@[simp] theorem State.setTrg_opts (s : State) (n : Nat) (v : TrgSt) : (s.setTrg n v).opts = s.opts := rfl
@[simp] theorem State.setTrg_claimKey (s : State) (n : Nat) (v : TrgSt) : (s.setTrg n v).claimKey = s.claimKey := rfl
@[simp] theorem State.setTrg_leaseAt (s : State) (n : Nat) (v : TrgSt) : (s.setTrg n v).leaseAt = s.leaseAt := rfl
@[simp] theorem State.setTrg_leaseLoose (s : State) (n : Nat) (v : TrgSt) : (s.setTrg n v).leaseLoose = s.leaseLoose := rfl
@[simp] theorem State.setTrg_mon (s : State) (n : Nat) (v : TrgSt) : (s.setTrg n v).mon = s.mon := rfl
@[simp] theorem State.setTrg_i2c (s : State) (n : Nat) (v : TrgSt) : (s.setTrg n v).i2c = s.i2c := rfl
@[simp] theorem State.setTrg_checks (s : State) (n : Nat) (v : TrgSt) : (s.setTrg n v).checks = s.checks := rfl
@[simp] theorem State.setTrg_pw (s : State) (n : Nat) (v : TrgSt) : (s.setTrg n v).pw = s.pw := rfl
@[simp] theorem State.setTrg_sec (s : State) (n : Nat) (v : TrgSt) : (s.setTrg n v).sec = s.sec := rfl
@[simp] theorem State.setTrg_jtag (s : State) (n : Nat) (v : TrgSt) : (s.setTrg n v).jtag = s.jtag := rfl
@[simp] theorem State.setTrg_uart (s : State) (n : Nat) (v : TrgSt) : (s.setTrg n v).uart = s.uart := rfl
@[simp] theorem State.get_setTrg (s : State) (n : Nat) (v : TrgSt) (g : Field) : (s.setTrg n v).get g = s.get g := rfl

/-! ### setWr -/

@[simp] theorem State.setWr_pending (s : State) (u : Nat) (v : WrSt) : (s.setWr u v).pending = s.pending := rfl
@[simp] theorem State.setWr_regs (s : State) (u : Nat) (v : WrSt) : (s.setWr u v).regs = s.regs := rfl
@[simp] theorem State.setWr_latchHi (s : State) (u : Nat) (v : WrSt) : (s.setWr u v).latchHi = s.latchHi := rfl
@[simp] theorem State.setWr_heldLo (s : State) (u : Nat) (v : WrSt) : (s.setWr u v).heldLo = s.heldLo := rfl
@[simp] theorem State.setWr_mem (s : State) (u : Nat) (v : WrSt) : (s.setWr u v).mem = s.mem := rfl
@[simp] theorem State.setWr_memGen (s : State) (u : Nat) (v : WrSt) : (s.setWr u v).memGen = s.memGen := rfl
@[simp] theorem State.setWr_ecc (s : State) (u : Nat) (v : WrSt) : (s.setWr u v).ecc = s.ecc := rfl
@[simp] theorem State.setWr_freeCtr (s : State) (u : Nat) (v : WrSt) : (s.setWr u v).freeCtr = s.freeCtr := rfl
@[simp] theorem State.setWr_lastStatus (s : State) (u : Nat) (v : WrSt) : (s.setWr u v).lastStatus = s.lastStatus := rfl
@[simp] theorem State.setWr_lastData (s : State) (u : Nat) (v : WrSt) : (s.setWr u v).lastData = s.lastData := rfl
@[simp] theorem State.setWr_time (s : State) (u : Nat) (v : WrSt) : (s.setWr u v).time = s.time := rfl
@[simp] theorem State.setWr_cyc (s : State) (u : Nat) (v : WrSt) : (s.setWr u v).cyc = s.cyc := rfl
@[simp] theorem State.setWr_errOrder (s : State) (u : Nat) (v : WrSt) : (s.setWr u v).errOrder = s.errOrder := rfl
@[simp] theorem State.setWr_errOpen (s : State) (u : Nat) (v : WrSt) : (s.setWr u v).errOpen = s.errOpen := rfl
@[simp] theorem State.setWr_life (s : State) (u : Nat) (v : WrSt) : (s.setWr u v).life = s.life := rfl
@[simp] theorem State.setWr_hitWords (s : State) (u : Nat) (v : WrSt) : (s.setWr u v).hitWords = s.hitWords := rfl
@[simp] theorem State.setWr_ports (s : State) (u : Nat) (v : WrSt) : (s.setWr u v).ports = s.ports := rfl
@[simp] theorem State.setWr_sent (s : State) (u : Nat) (v : WrSt) : (s.setWr u v).sent = s.sent := rfl
@[simp] theorem State.setWr_marks (s : State) (u : Nat) (v : WrSt) : (s.setWr u v).marks = s.marks := rfl
@[simp] theorem State.setWr_pixs (s : State) (u : Nat) (v : WrSt) : (s.setWr u v).pixs = s.pixs := rfl
@[simp] theorem State.setWr_latches (s : State) (u : Nat) (v : WrSt) : (s.setWr u v).latches = s.latches := rfl
@[simp] theorem State.setWr_hits (s : State) (u : Nat) (v : WrSt) : (s.setWr u v).hits = s.hits := rfl
@[simp] theorem State.setWr_trains (s : State) (u : Nat) (v : WrSt) : (s.setWr u v).trains = s.trains := rfl
@[simp] theorem State.setWr_injs (s : State) (u : Nat) (v : WrSt) : (s.setWr u v).injs = s.injs := rfl
@[simp] theorem State.setWr_thrMove (s : State) (u : Nat) (v : WrSt) : (s.setWr u v).thrMove = s.thrMove := rfl
@[simp] theorem State.setWr_fsumDue (s : State) (u : Nat) (v : WrSt) : (s.setWr u v).fsumDue = s.fsumDue := rfl
@[simp] theorem State.setWr_fsumSel (s : State) (u : Nat) (v : WrSt) : (s.setWr u v).fsumSel = s.fsumSel := rfl
@[simp] theorem State.setWr_fsumPeak (s : State) (u : Nat) (v : WrSt) : (s.setWr u v).fsumPeak = s.fsumPeak := rfl
@[simp] theorem State.setWr_descent (s : State) (u : Nat) (v : WrSt) : (s.setWr u v).descent = s.descent := rfl
@[simp] theorem State.setWr_interps (s : State) (u : Nat) (v : WrSt) : (s.setWr u v).interps = s.interps := rfl
@[simp] theorem State.setWr_edgeTags (s : State) (u : Nat) (v : WrSt) : (s.setWr u v).edgeTags = s.edgeTags := rfl
@[simp] theorem State.setWr_edgeStamps (s : State) (u : Nat) (v : WrSt) : (s.setWr u v).edgeStamps = s.edgeStamps := rfl
@[simp] theorem State.setWr_tins (s : State) (u : Nat) (v : WrSt) : (s.setWr u v).tins = s.tins := rfl
@[simp] theorem State.setWr_regions (s : State) (u : Nat) (v : WrSt) : (s.setWr u v).regions = s.regions := rfl
@[simp] theorem State.setWr_cores (s : State) (u : Nat) (v : WrSt) : (s.setWr u v).cores = s.cores := rfl
@[simp] theorem State.setWr_libs (s : State) (u : Nat) (v : WrSt) : (s.setWr u v).libs = s.libs := rfl
@[simp] theorem State.setWr_libPops (s : State) (u : Nat) (v : WrSt) : (s.setWr u v).libPops = s.libPops := rfl
@[simp] theorem State.setWr_rreqs (s : State) (u : Nat) (v : WrSt) : (s.setWr u v).rreqs = s.rreqs := rfl
@[simp] theorem State.setWr_sendMask (s : State) (u : Nat) (v : WrSt) : (s.setWr u v).sendMask = s.sendMask := rfl
@[simp] theorem State.setWr_merge (s : State) (u : Nat) (v : WrSt) : (s.setWr u v).merge = s.merge := rfl
@[simp] theorem State.setWr_keels (s : State) (u : Nat) (v : WrSt) : (s.setWr u v).keels = s.keels := rfl
@[simp] theorem State.setWr_retain (s : State) (u : Nat) (v : WrSt) : (s.setWr u v).retain = s.retain := rfl
@[simp] theorem State.setWr_dram (s : State) (u : Nat) (v : WrSt) : (s.setWr u v).dram = s.dram := rfl
@[simp] theorem State.setWr_pins (s : State) (u : Nat) (v : WrSt) : (s.setWr u v).pins = s.pins := rfl
@[simp] theorem State.setWr_failUndo (s : State) (u : Nat) (v : WrSt) : (s.setWr u v).failUndo = s.failUndo := rfl
@[simp] theorem State.setWr_failover (s : State) (u : Nat) (v : WrSt) : (s.setWr u v).failover = s.failover := rfl
@[simp] theorem State.setWr_remsgs (s : State) (u : Nat) (v : WrSt) : (s.setWr u v).remsgs = s.remsgs := rfl
@[simp] theorem State.setWr_epochDone (s : State) (u : Nat) (v : WrSt) : (s.setWr u v).epochDone = s.epochDone := rfl
@[simp] theorem State.setWr_ballastDone (s : State) (u : Nat) (v : WrSt) : (s.setWr u v).ballastDone = s.ballastDone := rfl
@[simp] theorem State.setWr_discardDone (s : State) (u : Nat) (v : WrSt) : (s.setWr u v).discardDone = s.discardDone := rfl
@[simp] theorem State.setWr_mc (s : State) (u : Nat) (v : WrSt) : (s.setWr u v).mc = s.mc := rfl
@[simp] theorem State.setWr_servo (s : State) (u : Nat) (v : WrSt) : (s.setWr u v).servo = s.servo := rfl
@[simp] theorem State.setWr_txs (s : State) (u : Nat) (v : WrSt) : (s.setWr u v).txs = s.txs := rfl
@[simp] theorem State.setWr_rxs (s : State) (u : Nat) (v : WrSt) : (s.setWr u v).rxs = s.rxs := rfl
@[simp] theorem State.setWr_laneCfg (s : State) (u : Nat) (v : WrSt) : (s.setWr u v).laneCfg = s.laneCfg := rfl
@[simp] theorem State.setWr_lmapDue (s : State) (u : Nat) (v : WrSt) : (s.setWr u v).lmapDue = s.lmapDue := rfl
@[simp] theorem State.setWr_subDue (s : State) (u : Nat) (v : WrSt) : (s.setWr u v).subDue = s.subDue := rfl
@[simp] theorem State.setWr_esc (s : State) (u : Nat) (v : WrSt) : (s.setWr u v).esc = s.esc := rfl
@[simp] theorem State.setWr_quiesce (s : State) (u : Nat) (v : WrSt) : (s.setWr u v).quiesce = s.quiesce := rfl
@[simp] theorem State.setWr_trgs (s : State) (u : Nat) (v : WrSt) : (s.setWr u v).trgs = s.trgs := rfl
@[simp] theorem State.setWr_firings (s : State) (u : Nat) (v : WrSt) : (s.setWr u v).firings = s.firings := rfl
@[simp] theorem State.setWr_wave (s : State) (u : Nat) (v : WrSt) : (s.setWr u v).wave = s.wave := rfl
@[simp] theorem State.setWr_opts (s : State) (u : Nat) (v : WrSt) : (s.setWr u v).opts = s.opts := rfl
@[simp] theorem State.setWr_claimKey (s : State) (u : Nat) (v : WrSt) : (s.setWr u v).claimKey = s.claimKey := rfl
@[simp] theorem State.setWr_leaseAt (s : State) (u : Nat) (v : WrSt) : (s.setWr u v).leaseAt = s.leaseAt := rfl
@[simp] theorem State.setWr_leaseLoose (s : State) (u : Nat) (v : WrSt) : (s.setWr u v).leaseLoose = s.leaseLoose := rfl
@[simp] theorem State.setWr_mon (s : State) (u : Nat) (v : WrSt) : (s.setWr u v).mon = s.mon := rfl
@[simp] theorem State.setWr_i2c (s : State) (u : Nat) (v : WrSt) : (s.setWr u v).i2c = s.i2c := rfl
@[simp] theorem State.setWr_checks (s : State) (u : Nat) (v : WrSt) : (s.setWr u v).checks = s.checks := rfl
@[simp] theorem State.setWr_pw (s : State) (u : Nat) (v : WrSt) : (s.setWr u v).pw = s.pw := rfl
@[simp] theorem State.setWr_sec (s : State) (u : Nat) (v : WrSt) : (s.setWr u v).sec = s.sec := rfl
@[simp] theorem State.setWr_jtag (s : State) (u : Nat) (v : WrSt) : (s.setWr u v).jtag = s.jtag := rfl
@[simp] theorem State.setWr_uart (s : State) (u : Nat) (v : WrSt) : (s.setWr u v).uart = s.uart := rfl
@[simp] theorem State.get_setWr (s : State) (u : Nat) (v : WrSt) (g : Field) : (s.setWr u v).get g = s.get g := rfl

/-! ### setEsc -/

@[simp] theorem State.setEsc_pending (s : State) (b : Nat) (v : EscSt) : (s.setEsc b v).pending = s.pending := rfl
@[simp] theorem State.setEsc_regs (s : State) (b : Nat) (v : EscSt) : (s.setEsc b v).regs = s.regs := rfl
@[simp] theorem State.setEsc_latchHi (s : State) (b : Nat) (v : EscSt) : (s.setEsc b v).latchHi = s.latchHi := rfl
@[simp] theorem State.setEsc_heldLo (s : State) (b : Nat) (v : EscSt) : (s.setEsc b v).heldLo = s.heldLo := rfl
@[simp] theorem State.setEsc_mem (s : State) (b : Nat) (v : EscSt) : (s.setEsc b v).mem = s.mem := rfl
@[simp] theorem State.setEsc_memGen (s : State) (b : Nat) (v : EscSt) : (s.setEsc b v).memGen = s.memGen := rfl
@[simp] theorem State.setEsc_ecc (s : State) (b : Nat) (v : EscSt) : (s.setEsc b v).ecc = s.ecc := rfl
@[simp] theorem State.setEsc_freeCtr (s : State) (b : Nat) (v : EscSt) : (s.setEsc b v).freeCtr = s.freeCtr := rfl
@[simp] theorem State.setEsc_lastStatus (s : State) (b : Nat) (v : EscSt) : (s.setEsc b v).lastStatus = s.lastStatus := rfl
@[simp] theorem State.setEsc_lastData (s : State) (b : Nat) (v : EscSt) : (s.setEsc b v).lastData = s.lastData := rfl
@[simp] theorem State.setEsc_time (s : State) (b : Nat) (v : EscSt) : (s.setEsc b v).time = s.time := rfl
@[simp] theorem State.setEsc_cyc (s : State) (b : Nat) (v : EscSt) : (s.setEsc b v).cyc = s.cyc := rfl
@[simp] theorem State.setEsc_errOrder (s : State) (b : Nat) (v : EscSt) : (s.setEsc b v).errOrder = s.errOrder := rfl
@[simp] theorem State.setEsc_errOpen (s : State) (b : Nat) (v : EscSt) : (s.setEsc b v).errOpen = s.errOpen := rfl
@[simp] theorem State.setEsc_life (s : State) (b : Nat) (v : EscSt) : (s.setEsc b v).life = s.life := rfl
@[simp] theorem State.setEsc_hitWords (s : State) (b : Nat) (v : EscSt) : (s.setEsc b v).hitWords = s.hitWords := rfl
@[simp] theorem State.setEsc_ports (s : State) (b : Nat) (v : EscSt) : (s.setEsc b v).ports = s.ports := rfl
@[simp] theorem State.setEsc_sent (s : State) (b : Nat) (v : EscSt) : (s.setEsc b v).sent = s.sent := rfl
@[simp] theorem State.setEsc_marks (s : State) (b : Nat) (v : EscSt) : (s.setEsc b v).marks = s.marks := rfl
@[simp] theorem State.setEsc_pixs (s : State) (b : Nat) (v : EscSt) : (s.setEsc b v).pixs = s.pixs := rfl
@[simp] theorem State.setEsc_latches (s : State) (b : Nat) (v : EscSt) : (s.setEsc b v).latches = s.latches := rfl
@[simp] theorem State.setEsc_hits (s : State) (b : Nat) (v : EscSt) : (s.setEsc b v).hits = s.hits := rfl
@[simp] theorem State.setEsc_trains (s : State) (b : Nat) (v : EscSt) : (s.setEsc b v).trains = s.trains := rfl
@[simp] theorem State.setEsc_injs (s : State) (b : Nat) (v : EscSt) : (s.setEsc b v).injs = s.injs := rfl
@[simp] theorem State.setEsc_thrMove (s : State) (b : Nat) (v : EscSt) : (s.setEsc b v).thrMove = s.thrMove := rfl
@[simp] theorem State.setEsc_fsumDue (s : State) (b : Nat) (v : EscSt) : (s.setEsc b v).fsumDue = s.fsumDue := rfl
@[simp] theorem State.setEsc_fsumSel (s : State) (b : Nat) (v : EscSt) : (s.setEsc b v).fsumSel = s.fsumSel := rfl
@[simp] theorem State.setEsc_fsumPeak (s : State) (b : Nat) (v : EscSt) : (s.setEsc b v).fsumPeak = s.fsumPeak := rfl
@[simp] theorem State.setEsc_descent (s : State) (b : Nat) (v : EscSt) : (s.setEsc b v).descent = s.descent := rfl
@[simp] theorem State.setEsc_interps (s : State) (b : Nat) (v : EscSt) : (s.setEsc b v).interps = s.interps := rfl
@[simp] theorem State.setEsc_edgeTags (s : State) (b : Nat) (v : EscSt) : (s.setEsc b v).edgeTags = s.edgeTags := rfl
@[simp] theorem State.setEsc_edgeStamps (s : State) (b : Nat) (v : EscSt) : (s.setEsc b v).edgeStamps = s.edgeStamps := rfl
@[simp] theorem State.setEsc_tins (s : State) (b : Nat) (v : EscSt) : (s.setEsc b v).tins = s.tins := rfl
@[simp] theorem State.setEsc_regions (s : State) (b : Nat) (v : EscSt) : (s.setEsc b v).regions = s.regions := rfl
@[simp] theorem State.setEsc_cores (s : State) (b : Nat) (v : EscSt) : (s.setEsc b v).cores = s.cores := rfl
@[simp] theorem State.setEsc_libs (s : State) (b : Nat) (v : EscSt) : (s.setEsc b v).libs = s.libs := rfl
@[simp] theorem State.setEsc_libPops (s : State) (b : Nat) (v : EscSt) : (s.setEsc b v).libPops = s.libPops := rfl
@[simp] theorem State.setEsc_rreqs (s : State) (b : Nat) (v : EscSt) : (s.setEsc b v).rreqs = s.rreqs := rfl
@[simp] theorem State.setEsc_sendMask (s : State) (b : Nat) (v : EscSt) : (s.setEsc b v).sendMask = s.sendMask := rfl
@[simp] theorem State.setEsc_merge (s : State) (b : Nat) (v : EscSt) : (s.setEsc b v).merge = s.merge := rfl
@[simp] theorem State.setEsc_keels (s : State) (b : Nat) (v : EscSt) : (s.setEsc b v).keels = s.keels := rfl
@[simp] theorem State.setEsc_retain (s : State) (b : Nat) (v : EscSt) : (s.setEsc b v).retain = s.retain := rfl
@[simp] theorem State.setEsc_dram (s : State) (b : Nat) (v : EscSt) : (s.setEsc b v).dram = s.dram := rfl
@[simp] theorem State.setEsc_pins (s : State) (b : Nat) (v : EscSt) : (s.setEsc b v).pins = s.pins := rfl
@[simp] theorem State.setEsc_failUndo (s : State) (b : Nat) (v : EscSt) : (s.setEsc b v).failUndo = s.failUndo := rfl
@[simp] theorem State.setEsc_failover (s : State) (b : Nat) (v : EscSt) : (s.setEsc b v).failover = s.failover := rfl
@[simp] theorem State.setEsc_remsgs (s : State) (b : Nat) (v : EscSt) : (s.setEsc b v).remsgs = s.remsgs := rfl
@[simp] theorem State.setEsc_epochDone (s : State) (b : Nat) (v : EscSt) : (s.setEsc b v).epochDone = s.epochDone := rfl
@[simp] theorem State.setEsc_ballastDone (s : State) (b : Nat) (v : EscSt) : (s.setEsc b v).ballastDone = s.ballastDone := rfl
@[simp] theorem State.setEsc_discardDone (s : State) (b : Nat) (v : EscSt) : (s.setEsc b v).discardDone = s.discardDone := rfl
@[simp] theorem State.setEsc_mc (s : State) (b : Nat) (v : EscSt) : (s.setEsc b v).mc = s.mc := rfl
@[simp] theorem State.setEsc_servo (s : State) (b : Nat) (v : EscSt) : (s.setEsc b v).servo = s.servo := rfl
@[simp] theorem State.setEsc_txs (s : State) (b : Nat) (v : EscSt) : (s.setEsc b v).txs = s.txs := rfl
@[simp] theorem State.setEsc_rxs (s : State) (b : Nat) (v : EscSt) : (s.setEsc b v).rxs = s.rxs := rfl
@[simp] theorem State.setEsc_laneCfg (s : State) (b : Nat) (v : EscSt) : (s.setEsc b v).laneCfg = s.laneCfg := rfl
@[simp] theorem State.setEsc_lmapDue (s : State) (b : Nat) (v : EscSt) : (s.setEsc b v).lmapDue = s.lmapDue := rfl
@[simp] theorem State.setEsc_subDue (s : State) (b : Nat) (v : EscSt) : (s.setEsc b v).subDue = s.subDue := rfl
@[simp] theorem State.setEsc_quiesce (s : State) (b : Nat) (v : EscSt) : (s.setEsc b v).quiesce = s.quiesce := rfl
@[simp] theorem State.setEsc_trgs (s : State) (b : Nat) (v : EscSt) : (s.setEsc b v).trgs = s.trgs := rfl
@[simp] theorem State.setEsc_firings (s : State) (b : Nat) (v : EscSt) : (s.setEsc b v).firings = s.firings := rfl
@[simp] theorem State.setEsc_wave (s : State) (b : Nat) (v : EscSt) : (s.setEsc b v).wave = s.wave := rfl
@[simp] theorem State.setEsc_units (s : State) (b : Nat) (v : EscSt) : (s.setEsc b v).units = s.units := rfl
@[simp] theorem State.setEsc_opts (s : State) (b : Nat) (v : EscSt) : (s.setEsc b v).opts = s.opts := rfl
@[simp] theorem State.setEsc_claimKey (s : State) (b : Nat) (v : EscSt) : (s.setEsc b v).claimKey = s.claimKey := rfl
@[simp] theorem State.setEsc_leaseAt (s : State) (b : Nat) (v : EscSt) : (s.setEsc b v).leaseAt = s.leaseAt := rfl
@[simp] theorem State.setEsc_leaseLoose (s : State) (b : Nat) (v : EscSt) : (s.setEsc b v).leaseLoose = s.leaseLoose := rfl
@[simp] theorem State.setEsc_mon (s : State) (b : Nat) (v : EscSt) : (s.setEsc b v).mon = s.mon := rfl
@[simp] theorem State.setEsc_i2c (s : State) (b : Nat) (v : EscSt) : (s.setEsc b v).i2c = s.i2c := rfl
@[simp] theorem State.setEsc_checks (s : State) (b : Nat) (v : EscSt) : (s.setEsc b v).checks = s.checks := rfl
@[simp] theorem State.setEsc_pw (s : State) (b : Nat) (v : EscSt) : (s.setEsc b v).pw = s.pw := rfl
@[simp] theorem State.setEsc_sec (s : State) (b : Nat) (v : EscSt) : (s.setEsc b v).sec = s.sec := rfl
@[simp] theorem State.setEsc_jtag (s : State) (b : Nat) (v : EscSt) : (s.setEsc b v).jtag = s.jtag := rfl
@[simp] theorem State.setEsc_uart (s : State) (b : Nat) (v : EscSt) : (s.setEsc b v).uart = s.uart := rfl
@[simp] theorem State.get_setEsc (s : State) (b : Nat) (v : EscSt) (g : Field) : (s.setEsc b v).get g = s.get g := rfl

/-! ### setRetained -/

@[simp] theorem State.setRetained_pending (s : State) (q : Nat) (v : Retain) : (s.setRetained q v).pending = s.pending := rfl
@[simp] theorem State.setRetained_regs (s : State) (q : Nat) (v : Retain) : (s.setRetained q v).regs = s.regs := rfl
@[simp] theorem State.setRetained_latchHi (s : State) (q : Nat) (v : Retain) : (s.setRetained q v).latchHi = s.latchHi := rfl
@[simp] theorem State.setRetained_heldLo (s : State) (q : Nat) (v : Retain) : (s.setRetained q v).heldLo = s.heldLo := rfl
@[simp] theorem State.setRetained_mem (s : State) (q : Nat) (v : Retain) : (s.setRetained q v).mem = s.mem := rfl
@[simp] theorem State.setRetained_memGen (s : State) (q : Nat) (v : Retain) : (s.setRetained q v).memGen = s.memGen := rfl
@[simp] theorem State.setRetained_ecc (s : State) (q : Nat) (v : Retain) : (s.setRetained q v).ecc = s.ecc := rfl
@[simp] theorem State.setRetained_freeCtr (s : State) (q : Nat) (v : Retain) : (s.setRetained q v).freeCtr = s.freeCtr := rfl
@[simp] theorem State.setRetained_lastStatus (s : State) (q : Nat) (v : Retain) : (s.setRetained q v).lastStatus = s.lastStatus := rfl
@[simp] theorem State.setRetained_lastData (s : State) (q : Nat) (v : Retain) : (s.setRetained q v).lastData = s.lastData := rfl
@[simp] theorem State.setRetained_time (s : State) (q : Nat) (v : Retain) : (s.setRetained q v).time = s.time := rfl
@[simp] theorem State.setRetained_cyc (s : State) (q : Nat) (v : Retain) : (s.setRetained q v).cyc = s.cyc := rfl
@[simp] theorem State.setRetained_errOrder (s : State) (q : Nat) (v : Retain) : (s.setRetained q v).errOrder = s.errOrder := rfl
@[simp] theorem State.setRetained_errOpen (s : State) (q : Nat) (v : Retain) : (s.setRetained q v).errOpen = s.errOpen := rfl
@[simp] theorem State.setRetained_life (s : State) (q : Nat) (v : Retain) : (s.setRetained q v).life = s.life := rfl
@[simp] theorem State.setRetained_hitWords (s : State) (q : Nat) (v : Retain) : (s.setRetained q v).hitWords = s.hitWords := rfl
@[simp] theorem State.setRetained_ports (s : State) (q : Nat) (v : Retain) : (s.setRetained q v).ports = s.ports := rfl
@[simp] theorem State.setRetained_sent (s : State) (q : Nat) (v : Retain) : (s.setRetained q v).sent = s.sent := rfl
@[simp] theorem State.setRetained_marks (s : State) (q : Nat) (v : Retain) : (s.setRetained q v).marks = s.marks := rfl
@[simp] theorem State.setRetained_pixs (s : State) (q : Nat) (v : Retain) : (s.setRetained q v).pixs = s.pixs := rfl
@[simp] theorem State.setRetained_latches (s : State) (q : Nat) (v : Retain) : (s.setRetained q v).latches = s.latches := rfl
@[simp] theorem State.setRetained_hits (s : State) (q : Nat) (v : Retain) : (s.setRetained q v).hits = s.hits := rfl
@[simp] theorem State.setRetained_trains (s : State) (q : Nat) (v : Retain) : (s.setRetained q v).trains = s.trains := rfl
@[simp] theorem State.setRetained_injs (s : State) (q : Nat) (v : Retain) : (s.setRetained q v).injs = s.injs := rfl
@[simp] theorem State.setRetained_thrMove (s : State) (q : Nat) (v : Retain) : (s.setRetained q v).thrMove = s.thrMove := rfl
@[simp] theorem State.setRetained_fsumDue (s : State) (q : Nat) (v : Retain) : (s.setRetained q v).fsumDue = s.fsumDue := rfl
@[simp] theorem State.setRetained_fsumSel (s : State) (q : Nat) (v : Retain) : (s.setRetained q v).fsumSel = s.fsumSel := rfl
@[simp] theorem State.setRetained_fsumPeak (s : State) (q : Nat) (v : Retain) : (s.setRetained q v).fsumPeak = s.fsumPeak := rfl
@[simp] theorem State.setRetained_descent (s : State) (q : Nat) (v : Retain) : (s.setRetained q v).descent = s.descent := rfl
@[simp] theorem State.setRetained_interps (s : State) (q : Nat) (v : Retain) : (s.setRetained q v).interps = s.interps := rfl
@[simp] theorem State.setRetained_edgeTags (s : State) (q : Nat) (v : Retain) : (s.setRetained q v).edgeTags = s.edgeTags := rfl
@[simp] theorem State.setRetained_edgeStamps (s : State) (q : Nat) (v : Retain) : (s.setRetained q v).edgeStamps = s.edgeStamps := rfl
@[simp] theorem State.setRetained_tins (s : State) (q : Nat) (v : Retain) : (s.setRetained q v).tins = s.tins := rfl
@[simp] theorem State.setRetained_regions (s : State) (q : Nat) (v : Retain) : (s.setRetained q v).regions = s.regions := rfl
@[simp] theorem State.setRetained_cores (s : State) (q : Nat) (v : Retain) : (s.setRetained q v).cores = s.cores := rfl
@[simp] theorem State.setRetained_libs (s : State) (q : Nat) (v : Retain) : (s.setRetained q v).libs = s.libs := rfl
@[simp] theorem State.setRetained_libPops (s : State) (q : Nat) (v : Retain) : (s.setRetained q v).libPops = s.libPops := rfl
@[simp] theorem State.setRetained_rreqs (s : State) (q : Nat) (v : Retain) : (s.setRetained q v).rreqs = s.rreqs := rfl
@[simp] theorem State.setRetained_sendMask (s : State) (q : Nat) (v : Retain) : (s.setRetained q v).sendMask = s.sendMask := rfl
@[simp] theorem State.setRetained_merge (s : State) (q : Nat) (v : Retain) : (s.setRetained q v).merge = s.merge := rfl
@[simp] theorem State.setRetained_keels (s : State) (q : Nat) (v : Retain) : (s.setRetained q v).keels = s.keels := rfl
@[simp] theorem State.setRetained_dram (s : State) (q : Nat) (v : Retain) : (s.setRetained q v).dram = s.dram := rfl
@[simp] theorem State.setRetained_pins (s : State) (q : Nat) (v : Retain) : (s.setRetained q v).pins = s.pins := rfl
@[simp] theorem State.setRetained_failUndo (s : State) (q : Nat) (v : Retain) : (s.setRetained q v).failUndo = s.failUndo := rfl
@[simp] theorem State.setRetained_failover (s : State) (q : Nat) (v : Retain) : (s.setRetained q v).failover = s.failover := rfl
@[simp] theorem State.setRetained_remsgs (s : State) (q : Nat) (v : Retain) : (s.setRetained q v).remsgs = s.remsgs := rfl
@[simp] theorem State.setRetained_epochDone (s : State) (q : Nat) (v : Retain) : (s.setRetained q v).epochDone = s.epochDone := rfl
@[simp] theorem State.setRetained_ballastDone (s : State) (q : Nat) (v : Retain) : (s.setRetained q v).ballastDone = s.ballastDone := rfl
@[simp] theorem State.setRetained_discardDone (s : State) (q : Nat) (v : Retain) : (s.setRetained q v).discardDone = s.discardDone := rfl
@[simp] theorem State.setRetained_mc (s : State) (q : Nat) (v : Retain) : (s.setRetained q v).mc = s.mc := rfl
@[simp] theorem State.setRetained_servo (s : State) (q : Nat) (v : Retain) : (s.setRetained q v).servo = s.servo := rfl
@[simp] theorem State.setRetained_txs (s : State) (q : Nat) (v : Retain) : (s.setRetained q v).txs = s.txs := rfl
@[simp] theorem State.setRetained_rxs (s : State) (q : Nat) (v : Retain) : (s.setRetained q v).rxs = s.rxs := rfl
@[simp] theorem State.setRetained_laneCfg (s : State) (q : Nat) (v : Retain) : (s.setRetained q v).laneCfg = s.laneCfg := rfl
@[simp] theorem State.setRetained_lmapDue (s : State) (q : Nat) (v : Retain) : (s.setRetained q v).lmapDue = s.lmapDue := rfl
@[simp] theorem State.setRetained_subDue (s : State) (q : Nat) (v : Retain) : (s.setRetained q v).subDue = s.subDue := rfl
@[simp] theorem State.setRetained_esc (s : State) (q : Nat) (v : Retain) : (s.setRetained q v).esc = s.esc := rfl
@[simp] theorem State.setRetained_quiesce (s : State) (q : Nat) (v : Retain) : (s.setRetained q v).quiesce = s.quiesce := rfl
@[simp] theorem State.setRetained_trgs (s : State) (q : Nat) (v : Retain) : (s.setRetained q v).trgs = s.trgs := rfl
@[simp] theorem State.setRetained_firings (s : State) (q : Nat) (v : Retain) : (s.setRetained q v).firings = s.firings := rfl
@[simp] theorem State.setRetained_wave (s : State) (q : Nat) (v : Retain) : (s.setRetained q v).wave = s.wave := rfl
@[simp] theorem State.setRetained_units (s : State) (q : Nat) (v : Retain) : (s.setRetained q v).units = s.units := rfl
@[simp] theorem State.setRetained_opts (s : State) (q : Nat) (v : Retain) : (s.setRetained q v).opts = s.opts := rfl
@[simp] theorem State.setRetained_claimKey (s : State) (q : Nat) (v : Retain) : (s.setRetained q v).claimKey = s.claimKey := rfl
@[simp] theorem State.setRetained_leaseAt (s : State) (q : Nat) (v : Retain) : (s.setRetained q v).leaseAt = s.leaseAt := rfl
@[simp] theorem State.setRetained_leaseLoose (s : State) (q : Nat) (v : Retain) : (s.setRetained q v).leaseLoose = s.leaseLoose := rfl
@[simp] theorem State.setRetained_mon (s : State) (q : Nat) (v : Retain) : (s.setRetained q v).mon = s.mon := rfl
@[simp] theorem State.setRetained_i2c (s : State) (q : Nat) (v : Retain) : (s.setRetained q v).i2c = s.i2c := rfl
@[simp] theorem State.setRetained_checks (s : State) (q : Nat) (v : Retain) : (s.setRetained q v).checks = s.checks := rfl
@[simp] theorem State.setRetained_pw (s : State) (q : Nat) (v : Retain) : (s.setRetained q v).pw = s.pw := rfl
@[simp] theorem State.setRetained_sec (s : State) (q : Nat) (v : Retain) : (s.setRetained q v).sec = s.sec := rfl
@[simp] theorem State.setRetained_jtag (s : State) (q : Nat) (v : Retain) : (s.setRetained q v).jtag = s.jtag := rfl
@[simp] theorem State.setRetained_uart (s : State) (q : Nat) (v : Retain) : (s.setRetained q v).uart = s.uart := rfl
@[simp] theorem State.get_setRetained (s : State) (q : Nat) (v : Retain) (g : Field) : (s.setRetained q v).get g = s.get g := rfl

/-! ### setWave -/

@[simp] theorem State.setWave_pending (s : State) (w : WaveSt) : (s.setWave w).pending = s.pending := rfl
@[simp] theorem State.setWave_regs (s : State) (w : WaveSt) : (s.setWave w).regs = s.regs := rfl
@[simp] theorem State.setWave_latchHi (s : State) (w : WaveSt) : (s.setWave w).latchHi = s.latchHi := rfl
@[simp] theorem State.setWave_heldLo (s : State) (w : WaveSt) : (s.setWave w).heldLo = s.heldLo := rfl
@[simp] theorem State.setWave_mem (s : State) (w : WaveSt) : (s.setWave w).mem = s.mem := rfl
@[simp] theorem State.setWave_memGen (s : State) (w : WaveSt) : (s.setWave w).memGen = s.memGen := rfl
@[simp] theorem State.setWave_ecc (s : State) (w : WaveSt) : (s.setWave w).ecc = s.ecc := rfl
@[simp] theorem State.setWave_freeCtr (s : State) (w : WaveSt) : (s.setWave w).freeCtr = s.freeCtr := rfl
@[simp] theorem State.setWave_lastStatus (s : State) (w : WaveSt) : (s.setWave w).lastStatus = s.lastStatus := rfl
@[simp] theorem State.setWave_lastData (s : State) (w : WaveSt) : (s.setWave w).lastData = s.lastData := rfl
@[simp] theorem State.setWave_time (s : State) (w : WaveSt) : (s.setWave w).time = s.time := rfl
@[simp] theorem State.setWave_cyc (s : State) (w : WaveSt) : (s.setWave w).cyc = s.cyc := rfl
@[simp] theorem State.setWave_errOrder (s : State) (w : WaveSt) : (s.setWave w).errOrder = s.errOrder := rfl
@[simp] theorem State.setWave_errOpen (s : State) (w : WaveSt) : (s.setWave w).errOpen = s.errOpen := rfl
@[simp] theorem State.setWave_life (s : State) (w : WaveSt) : (s.setWave w).life = s.life := rfl
@[simp] theorem State.setWave_hitWords (s : State) (w : WaveSt) : (s.setWave w).hitWords = s.hitWords := rfl
@[simp] theorem State.setWave_ports (s : State) (w : WaveSt) : (s.setWave w).ports = s.ports := rfl
@[simp] theorem State.setWave_sent (s : State) (w : WaveSt) : (s.setWave w).sent = s.sent := rfl
@[simp] theorem State.setWave_marks (s : State) (w : WaveSt) : (s.setWave w).marks = s.marks := rfl
@[simp] theorem State.setWave_pixs (s : State) (w : WaveSt) : (s.setWave w).pixs = s.pixs := rfl
@[simp] theorem State.setWave_latches (s : State) (w : WaveSt) : (s.setWave w).latches = s.latches := rfl
@[simp] theorem State.setWave_hits (s : State) (w : WaveSt) : (s.setWave w).hits = s.hits := rfl
@[simp] theorem State.setWave_trains (s : State) (w : WaveSt) : (s.setWave w).trains = s.trains := rfl
@[simp] theorem State.setWave_injs (s : State) (w : WaveSt) : (s.setWave w).injs = s.injs := rfl
@[simp] theorem State.setWave_thrMove (s : State) (w : WaveSt) : (s.setWave w).thrMove = s.thrMove := rfl
@[simp] theorem State.setWave_fsumDue (s : State) (w : WaveSt) : (s.setWave w).fsumDue = s.fsumDue := rfl
@[simp] theorem State.setWave_fsumSel (s : State) (w : WaveSt) : (s.setWave w).fsumSel = s.fsumSel := rfl
@[simp] theorem State.setWave_fsumPeak (s : State) (w : WaveSt) : (s.setWave w).fsumPeak = s.fsumPeak := rfl
@[simp] theorem State.setWave_descent (s : State) (w : WaveSt) : (s.setWave w).descent = s.descent := rfl
@[simp] theorem State.setWave_interps (s : State) (w : WaveSt) : (s.setWave w).interps = s.interps := rfl
@[simp] theorem State.setWave_edgeTags (s : State) (w : WaveSt) : (s.setWave w).edgeTags = s.edgeTags := rfl
@[simp] theorem State.setWave_edgeStamps (s : State) (w : WaveSt) : (s.setWave w).edgeStamps = s.edgeStamps := rfl
@[simp] theorem State.setWave_tins (s : State) (w : WaveSt) : (s.setWave w).tins = s.tins := rfl
@[simp] theorem State.setWave_regions (s : State) (w : WaveSt) : (s.setWave w).regions = s.regions := rfl
@[simp] theorem State.setWave_cores (s : State) (w : WaveSt) : (s.setWave w).cores = s.cores := rfl
@[simp] theorem State.setWave_libs (s : State) (w : WaveSt) : (s.setWave w).libs = s.libs := rfl
@[simp] theorem State.setWave_libPops (s : State) (w : WaveSt) : (s.setWave w).libPops = s.libPops := rfl
@[simp] theorem State.setWave_rreqs (s : State) (w : WaveSt) : (s.setWave w).rreqs = s.rreqs := rfl
@[simp] theorem State.setWave_sendMask (s : State) (w : WaveSt) : (s.setWave w).sendMask = s.sendMask := rfl
@[simp] theorem State.setWave_merge (s : State) (w : WaveSt) : (s.setWave w).merge = s.merge := rfl
@[simp] theorem State.setWave_keels (s : State) (w : WaveSt) : (s.setWave w).keels = s.keels := rfl
@[simp] theorem State.setWave_retain (s : State) (w : WaveSt) : (s.setWave w).retain = s.retain := rfl
@[simp] theorem State.setWave_dram (s : State) (w : WaveSt) : (s.setWave w).dram = s.dram := rfl
@[simp] theorem State.setWave_pins (s : State) (w : WaveSt) : (s.setWave w).pins = s.pins := rfl
@[simp] theorem State.setWave_failUndo (s : State) (w : WaveSt) : (s.setWave w).failUndo = s.failUndo := rfl
@[simp] theorem State.setWave_failover (s : State) (w : WaveSt) : (s.setWave w).failover = s.failover := rfl
@[simp] theorem State.setWave_remsgs (s : State) (w : WaveSt) : (s.setWave w).remsgs = s.remsgs := rfl
@[simp] theorem State.setWave_epochDone (s : State) (w : WaveSt) : (s.setWave w).epochDone = s.epochDone := rfl
@[simp] theorem State.setWave_ballastDone (s : State) (w : WaveSt) : (s.setWave w).ballastDone = s.ballastDone := rfl
@[simp] theorem State.setWave_discardDone (s : State) (w : WaveSt) : (s.setWave w).discardDone = s.discardDone := rfl
@[simp] theorem State.setWave_mc (s : State) (w : WaveSt) : (s.setWave w).mc = s.mc := rfl
@[simp] theorem State.setWave_servo (s : State) (w : WaveSt) : (s.setWave w).servo = s.servo := rfl
@[simp] theorem State.setWave_txs (s : State) (w : WaveSt) : (s.setWave w).txs = s.txs := rfl
@[simp] theorem State.setWave_rxs (s : State) (w : WaveSt) : (s.setWave w).rxs = s.rxs := rfl
@[simp] theorem State.setWave_laneCfg (s : State) (w : WaveSt) : (s.setWave w).laneCfg = s.laneCfg := rfl
@[simp] theorem State.setWave_lmapDue (s : State) (w : WaveSt) : (s.setWave w).lmapDue = s.lmapDue := rfl
@[simp] theorem State.setWave_subDue (s : State) (w : WaveSt) : (s.setWave w).subDue = s.subDue := rfl
@[simp] theorem State.setWave_esc (s : State) (w : WaveSt) : (s.setWave w).esc = s.esc := rfl
@[simp] theorem State.setWave_quiesce (s : State) (w : WaveSt) : (s.setWave w).quiesce = s.quiesce := rfl
@[simp] theorem State.setWave_trgs (s : State) (w : WaveSt) : (s.setWave w).trgs = s.trgs := rfl
@[simp] theorem State.setWave_firings (s : State) (w : WaveSt) : (s.setWave w).firings = s.firings := rfl
@[simp] theorem State.setWave_units (s : State) (w : WaveSt) : (s.setWave w).units = s.units := rfl
@[simp] theorem State.setWave_opts (s : State) (w : WaveSt) : (s.setWave w).opts = s.opts := rfl
@[simp] theorem State.setWave_claimKey (s : State) (w : WaveSt) : (s.setWave w).claimKey = s.claimKey := rfl
@[simp] theorem State.setWave_leaseAt (s : State) (w : WaveSt) : (s.setWave w).leaseAt = s.leaseAt := rfl
@[simp] theorem State.setWave_leaseLoose (s : State) (w : WaveSt) : (s.setWave w).leaseLoose = s.leaseLoose := rfl
@[simp] theorem State.setWave_mon (s : State) (w : WaveSt) : (s.setWave w).mon = s.mon := rfl
@[simp] theorem State.setWave_i2c (s : State) (w : WaveSt) : (s.setWave w).i2c = s.i2c := rfl
@[simp] theorem State.setWave_checks (s : State) (w : WaveSt) : (s.setWave w).checks = s.checks := rfl
@[simp] theorem State.setWave_pw (s : State) (w : WaveSt) : (s.setWave w).pw = s.pw := rfl
@[simp] theorem State.setWave_sec (s : State) (w : WaveSt) : (s.setWave w).sec = s.sec := rfl
@[simp] theorem State.setWave_jtag (s : State) (w : WaveSt) : (s.setWave w).jtag = s.jtag := rfl
@[simp] theorem State.setWave_uart (s : State) (w : WaveSt) : (s.setWave w).uart = s.uart := rfl
@[simp] theorem State.get_setWave (s : State) (w : WaveSt) (g : Field) : (s.setWave w).get g = s.get g := rfl

/-! ### place -/

@[simp] theorem State.place_pending (s : State) (i : Nat) (bs : List Byte) : (s.place i bs).pending = s.pending := rfl
@[simp] theorem State.place_regs (s : State) (i : Nat) (bs : List Byte) : (s.place i bs).regs = s.regs := rfl
@[simp] theorem State.place_latchHi (s : State) (i : Nat) (bs : List Byte) : (s.place i bs).latchHi = s.latchHi := rfl
@[simp] theorem State.place_heldLo (s : State) (i : Nat) (bs : List Byte) : (s.place i bs).heldLo = s.heldLo := rfl
@[simp] theorem State.place_mem (s : State) (i : Nat) (bs : List Byte) : (s.place i bs).mem = s.mem := rfl
@[simp] theorem State.place_memGen (s : State) (i : Nat) (bs : List Byte) : (s.place i bs).memGen = s.memGen := rfl
@[simp] theorem State.place_ecc (s : State) (i : Nat) (bs : List Byte) : (s.place i bs).ecc = s.ecc := rfl
@[simp] theorem State.place_freeCtr (s : State) (i : Nat) (bs : List Byte) : (s.place i bs).freeCtr = s.freeCtr := rfl
@[simp] theorem State.place_lastStatus (s : State) (i : Nat) (bs : List Byte) : (s.place i bs).lastStatus = s.lastStatus := rfl
@[simp] theorem State.place_lastData (s : State) (i : Nat) (bs : List Byte) : (s.place i bs).lastData = s.lastData := rfl
@[simp] theorem State.place_time (s : State) (i : Nat) (bs : List Byte) : (s.place i bs).time = s.time := rfl
@[simp] theorem State.place_cyc (s : State) (i : Nat) (bs : List Byte) : (s.place i bs).cyc = s.cyc := rfl
@[simp] theorem State.place_errOrder (s : State) (i : Nat) (bs : List Byte) : (s.place i bs).errOrder = s.errOrder := rfl
@[simp] theorem State.place_errOpen (s : State) (i : Nat) (bs : List Byte) : (s.place i bs).errOpen = s.errOpen := rfl
@[simp] theorem State.place_life (s : State) (i : Nat) (bs : List Byte) : (s.place i bs).life = s.life := rfl
@[simp] theorem State.place_hitWords (s : State) (i : Nat) (bs : List Byte) : (s.place i bs).hitWords = s.hitWords := rfl
@[simp] theorem State.place_ports (s : State) (i : Nat) (bs : List Byte) : (s.place i bs).ports = s.ports := rfl
@[simp] theorem State.place_sent (s : State) (i : Nat) (bs : List Byte) : (s.place i bs).sent = s.sent := rfl
@[simp] theorem State.place_marks (s : State) (i : Nat) (bs : List Byte) : (s.place i bs).marks = s.marks := rfl
@[simp] theorem State.place_pixs (s : State) (i : Nat) (bs : List Byte) : (s.place i bs).pixs = s.pixs := rfl
@[simp] theorem State.place_latches (s : State) (i : Nat) (bs : List Byte) : (s.place i bs).latches = s.latches := rfl
@[simp] theorem State.place_hits (s : State) (i : Nat) (bs : List Byte) : (s.place i bs).hits = s.hits := rfl
@[simp] theorem State.place_trains (s : State) (i : Nat) (bs : List Byte) : (s.place i bs).trains = s.trains := rfl
@[simp] theorem State.place_injs (s : State) (i : Nat) (bs : List Byte) : (s.place i bs).injs = s.injs := rfl
@[simp] theorem State.place_thrMove (s : State) (i : Nat) (bs : List Byte) : (s.place i bs).thrMove = s.thrMove := rfl
@[simp] theorem State.place_fsumDue (s : State) (i : Nat) (bs : List Byte) : (s.place i bs).fsumDue = s.fsumDue := rfl
@[simp] theorem State.place_fsumSel (s : State) (i : Nat) (bs : List Byte) : (s.place i bs).fsumSel = s.fsumSel := rfl
@[simp] theorem State.place_fsumPeak (s : State) (i : Nat) (bs : List Byte) : (s.place i bs).fsumPeak = s.fsumPeak := rfl
@[simp] theorem State.place_descent (s : State) (i : Nat) (bs : List Byte) : (s.place i bs).descent = s.descent := rfl
@[simp] theorem State.place_interps (s : State) (i : Nat) (bs : List Byte) : (s.place i bs).interps = s.interps := rfl
@[simp] theorem State.place_edgeTags (s : State) (i : Nat) (bs : List Byte) : (s.place i bs).edgeTags = s.edgeTags := rfl
@[simp] theorem State.place_edgeStamps (s : State) (i : Nat) (bs : List Byte) : (s.place i bs).edgeStamps = s.edgeStamps := rfl
@[simp] theorem State.place_tins (s : State) (i : Nat) (bs : List Byte) : (s.place i bs).tins = s.tins := rfl
@[simp] theorem State.place_regions (s : State) (i : Nat) (bs : List Byte) : (s.place i bs).regions = s.regions := rfl
@[simp] theorem State.place_cores (s : State) (i : Nat) (bs : List Byte) : (s.place i bs).cores = s.cores := rfl
@[simp] theorem State.place_libs (s : State) (i : Nat) (bs : List Byte) : (s.place i bs).libs = s.libs := rfl
@[simp] theorem State.place_libPops (s : State) (i : Nat) (bs : List Byte) : (s.place i bs).libPops = s.libPops := rfl
@[simp] theorem State.place_rreqs (s : State) (i : Nat) (bs : List Byte) : (s.place i bs).rreqs = s.rreqs := rfl
@[simp] theorem State.place_sendMask (s : State) (i : Nat) (bs : List Byte) : (s.place i bs).sendMask = s.sendMask := rfl
@[simp] theorem State.place_merge (s : State) (i : Nat) (bs : List Byte) : (s.place i bs).merge = s.merge := rfl
@[simp] theorem State.place_keels (s : State) (i : Nat) (bs : List Byte) : (s.place i bs).keels = s.keels := rfl
@[simp] theorem State.place_retain (s : State) (i : Nat) (bs : List Byte) : (s.place i bs).retain = s.retain := rfl
@[simp] theorem State.place_dram (s : State) (i : Nat) (bs : List Byte) : (s.place i bs).dram = s.dram := rfl
@[simp] theorem State.place_pins (s : State) (i : Nat) (bs : List Byte) : (s.place i bs).pins = s.pins := rfl
@[simp] theorem State.place_failUndo (s : State) (i : Nat) (bs : List Byte) : (s.place i bs).failUndo = s.failUndo := rfl
@[simp] theorem State.place_failover (s : State) (i : Nat) (bs : List Byte) : (s.place i bs).failover = s.failover := rfl
@[simp] theorem State.place_remsgs (s : State) (i : Nat) (bs : List Byte) : (s.place i bs).remsgs = s.remsgs := rfl
@[simp] theorem State.place_epochDone (s : State) (i : Nat) (bs : List Byte) : (s.place i bs).epochDone = s.epochDone := rfl
@[simp] theorem State.place_ballastDone (s : State) (i : Nat) (bs : List Byte) : (s.place i bs).ballastDone = s.ballastDone := rfl
@[simp] theorem State.place_discardDone (s : State) (i : Nat) (bs : List Byte) : (s.place i bs).discardDone = s.discardDone := rfl
@[simp] theorem State.place_mc (s : State) (i : Nat) (bs : List Byte) : (s.place i bs).mc = s.mc := rfl
@[simp] theorem State.place_servo (s : State) (i : Nat) (bs : List Byte) : (s.place i bs).servo = s.servo := rfl
@[simp] theorem State.place_rxs (s : State) (i : Nat) (bs : List Byte) : (s.place i bs).rxs = s.rxs := rfl
@[simp] theorem State.place_laneCfg (s : State) (i : Nat) (bs : List Byte) : (s.place i bs).laneCfg = s.laneCfg := rfl
@[simp] theorem State.place_lmapDue (s : State) (i : Nat) (bs : List Byte) : (s.place i bs).lmapDue = s.lmapDue := rfl
@[simp] theorem State.place_subDue (s : State) (i : Nat) (bs : List Byte) : (s.place i bs).subDue = s.subDue := rfl
@[simp] theorem State.place_esc (s : State) (i : Nat) (bs : List Byte) : (s.place i bs).esc = s.esc := rfl
@[simp] theorem State.place_quiesce (s : State) (i : Nat) (bs : List Byte) : (s.place i bs).quiesce = s.quiesce := rfl
@[simp] theorem State.place_trgs (s : State) (i : Nat) (bs : List Byte) : (s.place i bs).trgs = s.trgs := rfl
@[simp] theorem State.place_firings (s : State) (i : Nat) (bs : List Byte) : (s.place i bs).firings = s.firings := rfl
@[simp] theorem State.place_wave (s : State) (i : Nat) (bs : List Byte) : (s.place i bs).wave = s.wave := rfl
@[simp] theorem State.place_units (s : State) (i : Nat) (bs : List Byte) : (s.place i bs).units = s.units := rfl
@[simp] theorem State.place_opts (s : State) (i : Nat) (bs : List Byte) : (s.place i bs).opts = s.opts := rfl
@[simp] theorem State.place_claimKey (s : State) (i : Nat) (bs : List Byte) : (s.place i bs).claimKey = s.claimKey := rfl
@[simp] theorem State.place_leaseAt (s : State) (i : Nat) (bs : List Byte) : (s.place i bs).leaseAt = s.leaseAt := rfl
@[simp] theorem State.place_leaseLoose (s : State) (i : Nat) (bs : List Byte) : (s.place i bs).leaseLoose = s.leaseLoose := rfl
@[simp] theorem State.place_mon (s : State) (i : Nat) (bs : List Byte) : (s.place i bs).mon = s.mon := rfl
@[simp] theorem State.place_i2c (s : State) (i : Nat) (bs : List Byte) : (s.place i bs).i2c = s.i2c := rfl
@[simp] theorem State.place_checks (s : State) (i : Nat) (bs : List Byte) : (s.place i bs).checks = s.checks := rfl
@[simp] theorem State.place_pw (s : State) (i : Nat) (bs : List Byte) : (s.place i bs).pw = s.pw := rfl
@[simp] theorem State.place_sec (s : State) (i : Nat) (bs : List Byte) : (s.place i bs).sec = s.sec := rfl
@[simp] theorem State.place_jtag (s : State) (i : Nat) (bs : List Byte) : (s.place i bs).jtag = s.jtag := rfl
@[simp] theorem State.place_uart (s : State) (i : Nat) (bs : List Byte) : (s.place i bs).uart = s.uart := rfl
@[simp] theorem State.get_place (s : State) (i : Nat) (bs : List Byte) (g : Field) : (s.place i bs).get g = s.get g := rfl

/-! ### emit -/

@[simp] theorem State.emit_pending (s : State) (p : Nat) (m : Msg) : (s.emit p m).pending = s.pending := by unfold State.emit; simp only []; split <;> rfl
@[simp] theorem State.emit_regs (s : State) (p : Nat) (m : Msg) : (s.emit p m).regs = s.regs := by unfold State.emit; simp only []; split <;> rfl
@[simp] theorem State.emit_latchHi (s : State) (p : Nat) (m : Msg) : (s.emit p m).latchHi = s.latchHi := by unfold State.emit; simp only []; split <;> rfl
@[simp] theorem State.emit_heldLo (s : State) (p : Nat) (m : Msg) : (s.emit p m).heldLo = s.heldLo := by unfold State.emit; simp only []; split <;> rfl
@[simp] theorem State.emit_mem (s : State) (p : Nat) (m : Msg) : (s.emit p m).mem = s.mem := by unfold State.emit; simp only []; split <;> rfl
@[simp] theorem State.emit_memGen (s : State) (p : Nat) (m : Msg) : (s.emit p m).memGen = s.memGen := by unfold State.emit; simp only []; split <;> rfl
@[simp] theorem State.emit_ecc (s : State) (p : Nat) (m : Msg) : (s.emit p m).ecc = s.ecc := by unfold State.emit; simp only []; split <;> rfl
@[simp] theorem State.emit_freeCtr (s : State) (p : Nat) (m : Msg) : (s.emit p m).freeCtr = s.freeCtr := by unfold State.emit; simp only []; split <;> rfl
@[simp] theorem State.emit_lastStatus (s : State) (p : Nat) (m : Msg) : (s.emit p m).lastStatus = s.lastStatus := by unfold State.emit; simp only []; split <;> rfl
@[simp] theorem State.emit_lastData (s : State) (p : Nat) (m : Msg) : (s.emit p m).lastData = s.lastData := by unfold State.emit; simp only []; split <;> rfl
@[simp] theorem State.emit_time (s : State) (p : Nat) (m : Msg) : (s.emit p m).time = s.time := by unfold State.emit; simp only []; split <;> rfl
@[simp] theorem State.emit_cyc (s : State) (p : Nat) (m : Msg) : (s.emit p m).cyc = s.cyc := by unfold State.emit; simp only []; split <;> rfl
@[simp] theorem State.emit_errOrder (s : State) (p : Nat) (m : Msg) : (s.emit p m).errOrder = s.errOrder := by unfold State.emit; simp only []; split <;> rfl
@[simp] theorem State.emit_errOpen (s : State) (p : Nat) (m : Msg) : (s.emit p m).errOpen = s.errOpen := by unfold State.emit; simp only []; split <;> rfl
@[simp] theorem State.emit_life (s : State) (p : Nat) (m : Msg) : (s.emit p m).life = s.life := by unfold State.emit; simp only []; split <;> rfl
@[simp] theorem State.emit_hitWords (s : State) (p : Nat) (m : Msg) : (s.emit p m).hitWords = s.hitWords := by unfold State.emit; simp only []; split <;> rfl
@[simp] theorem State.emit_ports (s : State) (p : Nat) (m : Msg) : (s.emit p m).ports = s.ports := by unfold State.emit; simp only []; split <;> rfl
@[simp] theorem State.emit_marks (s : State) (p : Nat) (m : Msg) : (s.emit p m).marks = s.marks := by unfold State.emit; simp only []; split <;> rfl
@[simp] theorem State.emit_pixs (s : State) (p : Nat) (m : Msg) : (s.emit p m).pixs = s.pixs := by unfold State.emit; simp only []; split <;> rfl
@[simp] theorem State.emit_latches (s : State) (p : Nat) (m : Msg) : (s.emit p m).latches = s.latches := by unfold State.emit; simp only []; split <;> rfl
@[simp] theorem State.emit_hits (s : State) (p : Nat) (m : Msg) : (s.emit p m).hits = s.hits := by unfold State.emit; simp only []; split <;> rfl
@[simp] theorem State.emit_trains (s : State) (p : Nat) (m : Msg) : (s.emit p m).trains = s.trains := by unfold State.emit; simp only []; split <;> rfl
@[simp] theorem State.emit_injs (s : State) (p : Nat) (m : Msg) : (s.emit p m).injs = s.injs := by unfold State.emit; simp only []; split <;> rfl
@[simp] theorem State.emit_thrMove (s : State) (p : Nat) (m : Msg) : (s.emit p m).thrMove = s.thrMove := by unfold State.emit; simp only []; split <;> rfl
@[simp] theorem State.emit_fsumDue (s : State) (p : Nat) (m : Msg) : (s.emit p m).fsumDue = s.fsumDue := by unfold State.emit; simp only []; split <;> rfl
@[simp] theorem State.emit_fsumSel (s : State) (p : Nat) (m : Msg) : (s.emit p m).fsumSel = s.fsumSel := by unfold State.emit; simp only []; split <;> rfl
@[simp] theorem State.emit_fsumPeak (s : State) (p : Nat) (m : Msg) : (s.emit p m).fsumPeak = s.fsumPeak := by unfold State.emit; simp only []; split <;> rfl
@[simp] theorem State.emit_descent (s : State) (p : Nat) (m : Msg) : (s.emit p m).descent = s.descent := by unfold State.emit; simp only []; split <;> rfl
@[simp] theorem State.emit_interps (s : State) (p : Nat) (m : Msg) : (s.emit p m).interps = s.interps := by unfold State.emit; simp only []; split <;> rfl
@[simp] theorem State.emit_edgeTags (s : State) (p : Nat) (m : Msg) : (s.emit p m).edgeTags = s.edgeTags := by unfold State.emit; simp only []; split <;> rfl
@[simp] theorem State.emit_edgeStamps (s : State) (p : Nat) (m : Msg) : (s.emit p m).edgeStamps = s.edgeStamps := by unfold State.emit; simp only []; split <;> rfl
@[simp] theorem State.emit_tins (s : State) (p : Nat) (m : Msg) : (s.emit p m).tins = s.tins := by unfold State.emit; simp only []; split <;> rfl
@[simp] theorem State.emit_regions (s : State) (p : Nat) (m : Msg) : (s.emit p m).regions = s.regions := by unfold State.emit; simp only []; split <;> rfl
@[simp] theorem State.emit_cores (s : State) (p : Nat) (m : Msg) : (s.emit p m).cores = s.cores := by unfold State.emit; simp only []; split <;> rfl
@[simp] theorem State.emit_libs (s : State) (p : Nat) (m : Msg) : (s.emit p m).libs = s.libs := by unfold State.emit; simp only []; split <;> rfl
@[simp] theorem State.emit_libPops (s : State) (p : Nat) (m : Msg) : (s.emit p m).libPops = s.libPops := by unfold State.emit; simp only []; split <;> rfl
@[simp] theorem State.emit_rreqs (s : State) (p : Nat) (m : Msg) : (s.emit p m).rreqs = s.rreqs := by unfold State.emit; simp only []; split <;> rfl
@[simp] theorem State.emit_sendMask (s : State) (p : Nat) (m : Msg) : (s.emit p m).sendMask = s.sendMask := by unfold State.emit; simp only []; split <;> rfl
@[simp] theorem State.emit_merge (s : State) (p : Nat) (m : Msg) : (s.emit p m).merge = s.merge := by unfold State.emit; simp only []; split <;> rfl
@[simp] theorem State.emit_keels (s : State) (p : Nat) (m : Msg) : (s.emit p m).keels = s.keels := by unfold State.emit; simp only []; split <;> rfl
@[simp] theorem State.emit_retain (s : State) (p : Nat) (m : Msg) : (s.emit p m).retain = s.retain := by unfold State.emit; simp only []; split <;> rfl
@[simp] theorem State.emit_dram (s : State) (p : Nat) (m : Msg) : (s.emit p m).dram = s.dram := by unfold State.emit; simp only []; split <;> rfl
@[simp] theorem State.emit_pins (s : State) (p : Nat) (m : Msg) : (s.emit p m).pins = s.pins := by unfold State.emit; simp only []; split <;> rfl
@[simp] theorem State.emit_failUndo (s : State) (p : Nat) (m : Msg) : (s.emit p m).failUndo = s.failUndo := by unfold State.emit; simp only []; split <;> rfl
@[simp] theorem State.emit_failover (s : State) (p : Nat) (m : Msg) : (s.emit p m).failover = s.failover := by unfold State.emit; simp only []; split <;> rfl
@[simp] theorem State.emit_remsgs (s : State) (p : Nat) (m : Msg) : (s.emit p m).remsgs = s.remsgs := by unfold State.emit; simp only []; split <;> rfl
@[simp] theorem State.emit_epochDone (s : State) (p : Nat) (m : Msg) : (s.emit p m).epochDone = s.epochDone := by unfold State.emit; simp only []; split <;> rfl
@[simp] theorem State.emit_ballastDone (s : State) (p : Nat) (m : Msg) : (s.emit p m).ballastDone = s.ballastDone := by unfold State.emit; simp only []; split <;> rfl
@[simp] theorem State.emit_discardDone (s : State) (p : Nat) (m : Msg) : (s.emit p m).discardDone = s.discardDone := by unfold State.emit; simp only []; split <;> rfl
@[simp] theorem State.emit_mc (s : State) (p : Nat) (m : Msg) : (s.emit p m).mc = s.mc := by unfold State.emit; simp only []; split <;> rfl
@[simp] theorem State.emit_servo (s : State) (p : Nat) (m : Msg) : (s.emit p m).servo = s.servo := by unfold State.emit; simp only []; split <;> rfl
@[simp] theorem State.emit_rxs (s : State) (p : Nat) (m : Msg) : (s.emit p m).rxs = s.rxs := by unfold State.emit; simp only []; split <;> rfl
@[simp] theorem State.emit_laneCfg (s : State) (p : Nat) (m : Msg) : (s.emit p m).laneCfg = s.laneCfg := by unfold State.emit; simp only []; split <;> rfl
@[simp] theorem State.emit_lmapDue (s : State) (p : Nat) (m : Msg) : (s.emit p m).lmapDue = s.lmapDue := by unfold State.emit; simp only []; split <;> rfl
@[simp] theorem State.emit_subDue (s : State) (p : Nat) (m : Msg) : (s.emit p m).subDue = s.subDue := by unfold State.emit; simp only []; split <;> rfl
@[simp] theorem State.emit_esc (s : State) (p : Nat) (m : Msg) : (s.emit p m).esc = s.esc := by unfold State.emit; simp only []; split <;> rfl
@[simp] theorem State.emit_quiesce (s : State) (p : Nat) (m : Msg) : (s.emit p m).quiesce = s.quiesce := by unfold State.emit; simp only []; split <;> rfl
@[simp] theorem State.emit_trgs (s : State) (p : Nat) (m : Msg) : (s.emit p m).trgs = s.trgs := by unfold State.emit; simp only []; split <;> rfl
@[simp] theorem State.emit_firings (s : State) (p : Nat) (m : Msg) : (s.emit p m).firings = s.firings := by unfold State.emit; simp only []; split <;> rfl
@[simp] theorem State.emit_wave (s : State) (p : Nat) (m : Msg) : (s.emit p m).wave = s.wave := by unfold State.emit; simp only []; split <;> rfl
@[simp] theorem State.emit_units (s : State) (p : Nat) (m : Msg) : (s.emit p m).units = s.units := by unfold State.emit; simp only []; split <;> rfl
@[simp] theorem State.emit_opts (s : State) (p : Nat) (m : Msg) : (s.emit p m).opts = s.opts := by unfold State.emit; simp only []; split <;> rfl
@[simp] theorem State.emit_claimKey (s : State) (p : Nat) (m : Msg) : (s.emit p m).claimKey = s.claimKey := by unfold State.emit; simp only []; split <;> rfl
@[simp] theorem State.emit_leaseAt (s : State) (p : Nat) (m : Msg) : (s.emit p m).leaseAt = s.leaseAt := by unfold State.emit; simp only []; split <;> rfl
@[simp] theorem State.emit_leaseLoose (s : State) (p : Nat) (m : Msg) : (s.emit p m).leaseLoose = s.leaseLoose := by unfold State.emit; simp only []; split <;> rfl
@[simp] theorem State.emit_mon (s : State) (p : Nat) (m : Msg) : (s.emit p m).mon = s.mon := by unfold State.emit; simp only []; split <;> rfl
@[simp] theorem State.emit_i2c (s : State) (p : Nat) (m : Msg) : (s.emit p m).i2c = s.i2c := by unfold State.emit; simp only []; split <;> rfl
@[simp] theorem State.emit_checks (s : State) (p : Nat) (m : Msg) : (s.emit p m).checks = s.checks := by unfold State.emit; simp only []; split <;> rfl
@[simp] theorem State.emit_pw (s : State) (p : Nat) (m : Msg) : (s.emit p m).pw = s.pw := by unfold State.emit; simp only []; split <;> rfl
@[simp] theorem State.emit_sec (s : State) (p : Nat) (m : Msg) : (s.emit p m).sec = s.sec := by unfold State.emit; simp only []; split <;> rfl
@[simp] theorem State.emit_jtag (s : State) (p : Nat) (m : Msg) : (s.emit p m).jtag = s.jtag := by unfold State.emit; simp only []; split <;> rfl
@[simp] theorem State.emit_uart (s : State) (p : Nat) (m : Msg) : (s.emit p m).uart = s.uart := by unfold State.emit; simp only []; split <;> rfl
@[simp] theorem State.get_emit (s : State) (p : Nat) (m : Msg) (g : Field) : (s.emit p m).get g = s.get g := by simp [State.get]

end Sys2Proof.Machine
end

