-- ==== Sys2Proof/Laws/Tables.lean ====
section
/-! SUPPORT. What was set is read back, and what lies under another key stays. -/
namespace Sys2Proof.Machine

@[simp] theorem State.core_setCore_same (s : State) (c : Nat) (v : CoreSt) : (s.setCore c v).core c = v := by
  simp [State.core, State.setCore]
theorem State.core_setCore_ne (s : State) {c j' : Nat} (v : CoreSt) (h : j' ≠ c) : (s.setCore c v).core j' = s.core j' := by
  simp [State.core, State.setCore, SMap.get_set_ne _ _ _ _ h]
@[simp] theorem State.region_setRegion_same (s : State) (n : Nat) (v : RegionSt) : (s.setRegion n v).region n = v := by
  simp [State.region, State.setRegion]
theorem State.region_setRegion_ne (s : State) {n j' : Nat} (v : RegionSt) (h : j' ≠ n) : (s.setRegion n v).region j' = s.region j' := by
  simp [State.region, State.setRegion, SMap.get_set_ne _ _ _ _ h]
@[simp] theorem State.keel_setKeel_same (s : State) (k : Nat) (v : KeelSt) : (s.setKeel k v).keel k = v := by
  simp [State.keel, State.setKeel]
theorem State.keel_setKeel_ne (s : State) {k j' : Nat} (v : KeelSt) (h : j' ≠ k) : (s.setKeel k v).keel j' = s.keel j' := by
  simp [State.keel, State.setKeel, SMap.get_set_ne _ _ _ _ h]
@[simp] theorem State.tin_setTin_same (s : State) (i : Nat) (v : TinSt) : (s.setTin i v).tin i = v := by
  simp [State.tin, State.setTin]
theorem State.tin_setTin_ne (s : State) {i j' : Nat} (v : TinSt) (h : j' ≠ i) : (s.setTin i v).tin j' = s.tin j' := by
  simp [State.tin, State.setTin, SMap.get_set_ne _ _ _ _ h]
@[simp] theorem State.pix_setPix_same (s : State) (p : Nat) (v : PixOut) : (s.setPix p v).pix p = v := by
  simp [State.pix, State.setPix]
theorem State.pix_setPix_ne (s : State) {p j' : Nat} (v : PixOut) (h : j' ≠ p) : (s.setPix p v).pix j' = s.pix j' := by
  simp [State.pix, State.setPix, SMap.get_set_ne _ _ _ _ h]
@[simp] theorem State.tx_setTx_same (s : State) (i : Nat) (v : TxSt) : (s.setTx i v).tx i = v := by
  simp [State.tx, State.setTx]
theorem State.tx_setTx_ne (s : State) {i j' : Nat} (v : TxSt) (h : j' ≠ i) : (s.setTx i v).tx j' = s.tx j' := by
  simp [State.tx, State.setTx, SMap.get_set_ne _ _ _ _ h]
@[simp] theorem State.rx_setRx_same (s : State) (j : Nat) (v : RxSt) : (s.setRx j v).rx j = v := by
  simp [State.rx, State.setRx]
theorem State.rx_setRx_ne (s : State) {j j' : Nat} (v : RxSt) (h : j' ≠ j) : (s.setRx j v).rx j' = s.rx j' := by
  simp [State.rx, State.setRx, SMap.get_set_ne _ _ _ _ h]
@[simp] theorem State.trg_setTrg_same (s : State) (n : Nat) (v : TrgSt) : (s.setTrg n v).trg n = v := by
  simp [State.trg, State.setTrg]
theorem State.trg_setTrg_ne (s : State) {n j' : Nat} (v : TrgSt) (h : j' ≠ n) : (s.setTrg n v).trg j' = s.trg j' := by
  simp [State.trg, State.setTrg, SMap.get_set_ne _ _ _ _ h]
@[simp] theorem State.escOf_setEsc_same (s : State) (b : Nat) (v : EscSt) : (s.setEsc b v).escOf b = v := by
  simp [State.escOf, State.setEsc]
theorem State.escOf_setEsc_ne (s : State) {b j' : Nat} (v : EscSt) (h : j' ≠ b) : (s.setEsc b v).escOf j' = s.escOf j' := by
  simp [State.escOf, State.setEsc, SMap.get_set_ne _ _ _ _ h]
@[simp] theorem State.port_setPort_same (s : State) (p : Nat) (v : PortSt) : (s.setPort p v).port p = v := by
  simp [State.port, State.setPort]
theorem State.port_setPort_ne (s : State) {p j' : Nat} (v : PortSt) (h : j' ≠ p) : (s.setPort p v).port j' = s.port j' := by
  simp [State.port, State.setPort, SMap.get_set_ne _ _ _ _ h]
@[simp] theorem State.retained_setRetained_same (s : State) (q : Nat) (v : Retain) : (s.setRetained q v).retained q = v := by
  simp [State.retained, State.setRetained]
theorem State.retained_setRetained_ne (s : State) {q j' : Nat} (v : Retain) (h : j' ≠ q) : (s.setRetained q v).retained j' = s.retained j' := by
  simp [State.retained, State.setRetained, SMap.get_set_ne _ _ _ _ h]
@[simp] theorem State.interp_setInterp_same (s : State) (u i : Nat) (v : InterpSt) : (s.setInterp u i v).interp u i = v := by
  simp [State.interp, State.setInterp]
@[simp] theorem State.lib_setLib_same (s : State) (n i : Nat) (v : LibSlot) : (s.setLib n i v).lib n i = v := by
  simp [State.lib, State.setLib]
@[simp] theorem State.stream_setStream_same (s : State) (k q : Nat) (v : StreamSt) : (s.setStream k q v).stream k q = v := by
  simp [State.stream, State.setStream]
@[simp] theorem State.hit_setHit_same (s : State) (p : Nat) (h : HitSt) : (s.setHit p h).hit? p = some h := by
  simp [State.hit?, State.setHit]
@[simp] theorem State.hit_dropHit_same (s : State) (p : Nat) : (s.dropHit p).hit? p = none := by
  simp [State.hit?, State.dropHit]

@[simp] theorem State.core_put (s : State) (f : Field) (v : Nat) (c' : Nat) : (s.put f v).core c' = s.core c' := rfl
@[simp] theorem State.region_put (s : State) (f : Field) (v : Nat) (n' : Nat) : (s.put f v).region n' = s.region n' := rfl
@[simp] theorem State.keel_put (s : State) (f : Field) (v : Nat) (k' : Nat) : (s.put f v).keel k' = s.keel k' := rfl
@[simp] theorem State.tin_put (s : State) (f : Field) (v : Nat) (i' : Nat) : (s.put f v).tin i' = s.tin i' := rfl
@[simp] theorem State.pix_put (s : State) (f : Field) (v : Nat) (p' : Nat) : (s.put f v).pix p' = s.pix p' := rfl
@[simp] theorem State.tx_put (s : State) (f : Field) (v : Nat) (i' : Nat) : (s.put f v).tx i' = s.tx i' := rfl
@[simp] theorem State.rx_put (s : State) (f : Field) (v : Nat) (j' : Nat) : (s.put f v).rx j' = s.rx j' := rfl
@[simp] theorem State.trg_put (s : State) (f : Field) (v : Nat) (n' : Nat) : (s.put f v).trg n' = s.trg n' := rfl
@[simp] theorem State.escOf_put (s : State) (f : Field) (v : Nat) (b' : Nat) : (s.put f v).escOf b' = s.escOf b' := rfl
@[simp] theorem State.port_put (s : State) (f : Field) (v : Nat) (p' : Nat) : (s.put f v).port p' = s.port p' := rfl
@[simp] theorem State.retained_put (s : State) (f : Field) (v : Nat) (q' : Nat) : (s.put f v).retained q' = s.retained q' := rfl
@[simp] theorem State.interp_put (s : State) (f : Field) (v : Nat) (u' i' : Nat) : (s.put f v).interp u' i' = s.interp u' i' := rfl
@[simp] theorem State.lib_put (s : State) (f : Field) (v : Nat) (n' i' : Nat) : (s.put f v).lib n' i' = s.lib n' i' := rfl
@[simp] theorem State.core_adv (s : State) (t : Nat) (c' : Nat) : (s.adv t).core c' = s.core c' := by simp [State.core]
@[simp] theorem State.region_adv (s : State) (t : Nat) (n' : Nat) : (s.adv t).region n' = s.region n' := by simp [State.region]
@[simp] theorem State.keel_adv (s : State) (t : Nat) (k' : Nat) : (s.adv t).keel k' = s.keel k' := by simp [State.keel]
@[simp] theorem State.tin_adv (s : State) (t : Nat) (i' : Nat) : (s.adv t).tin i' = s.tin i' := by simp [State.tin]
@[simp] theorem State.pix_adv (s : State) (t : Nat) (p' : Nat) : (s.adv t).pix p' = s.pix p' := by simp [State.pix]
@[simp] theorem State.tx_adv (s : State) (t : Nat) (i' : Nat) : (s.adv t).tx i' = s.tx i' := by simp [State.tx]
@[simp] theorem State.rx_adv (s : State) (t : Nat) (j' : Nat) : (s.adv t).rx j' = s.rx j' := by simp [State.rx]
@[simp] theorem State.trg_adv (s : State) (t : Nat) (n' : Nat) : (s.adv t).trg n' = s.trg n' := by simp [State.trg]
@[simp] theorem State.escOf_adv (s : State) (t : Nat) (b' : Nat) : (s.adv t).escOf b' = s.escOf b' := by simp [State.escOf]
@[simp] theorem State.port_adv (s : State) (t : Nat) (p' : Nat) : (s.adv t).port p' = s.port p' := by simp [State.port]
@[simp] theorem State.retained_adv (s : State) (t : Nat) (q' : Nat) : (s.adv t).retained q' = s.retained q' := by simp [State.retained]
@[simp] theorem State.interp_adv (s : State) (t : Nat) (u' i' : Nat) : (s.adv t).interp u' i' = s.interp u' i' := by simp [State.interp]
@[simp] theorem State.lib_adv (s : State) (t : Nat) (n' i' : Nat) : (s.adv t).lib n' i' = s.lib n' i' := by simp [State.lib]
@[simp] theorem State.core_spend (s : State) (c' : Nat) : (s.spend).core c' = s.core c' := rfl
@[simp] theorem State.region_spend (s : State) (n' : Nat) : (s.spend).region n' = s.region n' := rfl
@[simp] theorem State.keel_spend (s : State) (k' : Nat) : (s.spend).keel k' = s.keel k' := rfl
@[simp] theorem State.tin_spend (s : State) (i' : Nat) : (s.spend).tin i' = s.tin i' := rfl
@[simp] theorem State.pix_spend (s : State) (p' : Nat) : (s.spend).pix p' = s.pix p' := rfl
@[simp] theorem State.tx_spend (s : State) (i' : Nat) : (s.spend).tx i' = s.tx i' := rfl
@[simp] theorem State.rx_spend (s : State) (j' : Nat) : (s.spend).rx j' = s.rx j' := rfl
@[simp] theorem State.trg_spend (s : State) (n' : Nat) : (s.spend).trg n' = s.trg n' := rfl
@[simp] theorem State.escOf_spend (s : State) (b' : Nat) : (s.spend).escOf b' = s.escOf b' := rfl
@[simp] theorem State.port_spend (s : State) (p' : Nat) : (s.spend).port p' = s.port p' := rfl
@[simp] theorem State.retained_spend (s : State) (q' : Nat) : (s.spend).retained q' = s.retained q' := rfl
@[simp] theorem State.interp_spend (s : State) (u' i' : Nat) : (s.spend).interp u' i' = s.interp u' i' := rfl
@[simp] theorem State.lib_spend (s : State) (n' i' : Nat) : (s.spend).lib n' i' = s.lib n' i' := rfl
@[simp] theorem State.core_putEcc (s : State) (a v : Nat) (c' : Nat) : (s.putEcc a v).core c' = s.core c' := rfl
@[simp] theorem State.region_putEcc (s : State) (a v : Nat) (n' : Nat) : (s.putEcc a v).region n' = s.region n' := rfl
@[simp] theorem State.keel_putEcc (s : State) (a v : Nat) (k' : Nat) : (s.putEcc a v).keel k' = s.keel k' := rfl
@[simp] theorem State.tin_putEcc (s : State) (a v : Nat) (i' : Nat) : (s.putEcc a v).tin i' = s.tin i' := rfl
@[simp] theorem State.pix_putEcc (s : State) (a v : Nat) (p' : Nat) : (s.putEcc a v).pix p' = s.pix p' := rfl
@[simp] theorem State.tx_putEcc (s : State) (a v : Nat) (i' : Nat) : (s.putEcc a v).tx i' = s.tx i' := rfl
@[simp] theorem State.rx_putEcc (s : State) (a v : Nat) (j' : Nat) : (s.putEcc a v).rx j' = s.rx j' := rfl
@[simp] theorem State.trg_putEcc (s : State) (a v : Nat) (n' : Nat) : (s.putEcc a v).trg n' = s.trg n' := rfl
@[simp] theorem State.escOf_putEcc (s : State) (a v : Nat) (b' : Nat) : (s.putEcc a v).escOf b' = s.escOf b' := rfl
@[simp] theorem State.port_putEcc (s : State) (a v : Nat) (p' : Nat) : (s.putEcc a v).port p' = s.port p' := rfl
@[simp] theorem State.retained_putEcc (s : State) (a v : Nat) (q' : Nat) : (s.putEcc a v).retained q' = s.retained q' := rfl
@[simp] theorem State.interp_putEcc (s : State) (a v : Nat) (u' i' : Nat) : (s.putEcc a v).interp u' i' = s.interp u' i' := rfl
@[simp] theorem State.lib_putEcc (s : State) (a v : Nat) (n' i' : Nat) : (s.putEcc a v).lib n' i' = s.lib n' i' := rfl
@[simp] theorem State.core_writeByte (s : State) (a : Nat) (b : Byte) (c' : Nat) : (s.writeByte a b).core c' = s.core c' := rfl
@[simp] theorem State.region_writeByte (s : State) (a : Nat) (b : Byte) (n' : Nat) : (s.writeByte a b).region n' = s.region n' := rfl
@[simp] theorem State.keel_writeByte (s : State) (a : Nat) (b : Byte) (k' : Nat) : (s.writeByte a b).keel k' = s.keel k' := rfl
@[simp] theorem State.tin_writeByte (s : State) (a : Nat) (b : Byte) (i' : Nat) : (s.writeByte a b).tin i' = s.tin i' := rfl
@[simp] theorem State.pix_writeByte (s : State) (a : Nat) (b : Byte) (p' : Nat) : (s.writeByte a b).pix p' = s.pix p' := rfl
@[simp] theorem State.tx_writeByte (s : State) (a : Nat) (b : Byte) (i' : Nat) : (s.writeByte a b).tx i' = s.tx i' := rfl
@[simp] theorem State.rx_writeByte (s : State) (a : Nat) (b : Byte) (j' : Nat) : (s.writeByte a b).rx j' = s.rx j' := rfl
@[simp] theorem State.trg_writeByte (s : State) (a : Nat) (b : Byte) (n' : Nat) : (s.writeByte a b).trg n' = s.trg n' := rfl
@[simp] theorem State.escOf_writeByte (s : State) (a : Nat) (b : Byte) (b' : Nat) : (s.writeByte a b).escOf b' = s.escOf b' := rfl
@[simp] theorem State.port_writeByte (s : State) (a : Nat) (b : Byte) (p' : Nat) : (s.writeByte a b).port p' = s.port p' := rfl
@[simp] theorem State.retained_writeByte (s : State) (a : Nat) (b : Byte) (q' : Nat) : (s.writeByte a b).retained q' = s.retained q' := rfl
@[simp] theorem State.interp_writeByte (s : State) (a : Nat) (b : Byte) (u' i' : Nat) : (s.writeByte a b).interp u' i' = s.interp u' i' := rfl
@[simp] theorem State.lib_writeByte (s : State) (a : Nat) (b : Byte) (n' i' : Nat) : (s.writeByte a b).lib n' i' = s.lib n' i' := rfl
@[simp] theorem State.core_setPort (s : State) (p : Nat) (v : PortSt) (c' : Nat) : (s.setPort p v).core c' = s.core c' := rfl
@[simp] theorem State.region_setPort (s : State) (p : Nat) (v : PortSt) (n' : Nat) : (s.setPort p v).region n' = s.region n' := rfl
@[simp] theorem State.keel_setPort (s : State) (p : Nat) (v : PortSt) (k' : Nat) : (s.setPort p v).keel k' = s.keel k' := rfl
@[simp] theorem State.tin_setPort (s : State) (p : Nat) (v : PortSt) (i' : Nat) : (s.setPort p v).tin i' = s.tin i' := rfl
@[simp] theorem State.pix_setPort (s : State) (p : Nat) (v : PortSt) (p' : Nat) : (s.setPort p v).pix p' = s.pix p' := rfl
@[simp] theorem State.tx_setPort (s : State) (p : Nat) (v : PortSt) (i' : Nat) : (s.setPort p v).tx i' = s.tx i' := rfl
@[simp] theorem State.rx_setPort (s : State) (p : Nat) (v : PortSt) (j' : Nat) : (s.setPort p v).rx j' = s.rx j' := rfl
@[simp] theorem State.trg_setPort (s : State) (p : Nat) (v : PortSt) (n' : Nat) : (s.setPort p v).trg n' = s.trg n' := rfl
@[simp] theorem State.escOf_setPort (s : State) (p : Nat) (v : PortSt) (b' : Nat) : (s.setPort p v).escOf b' = s.escOf b' := rfl
@[simp] theorem State.retained_setPort (s : State) (p : Nat) (v : PortSt) (q' : Nat) : (s.setPort p v).retained q' = s.retained q' := rfl
@[simp] theorem State.interp_setPort (s : State) (p : Nat) (v : PortSt) (u' i' : Nat) : (s.setPort p v).interp u' i' = s.interp u' i' := rfl
@[simp] theorem State.lib_setPort (s : State) (p : Nat) (v : PortSt) (n' i' : Nat) : (s.setPort p v).lib n' i' = s.lib n' i' := rfl
@[simp] theorem State.region_setCore (s : State) (c : Nat) (v : CoreSt) (n' : Nat) : (s.setCore c v).region n' = s.region n' := rfl
@[simp] theorem State.keel_setCore (s : State) (c : Nat) (v : CoreSt) (k' : Nat) : (s.setCore c v).keel k' = s.keel k' := rfl
@[simp] theorem State.tin_setCore (s : State) (c : Nat) (v : CoreSt) (i' : Nat) : (s.setCore c v).tin i' = s.tin i' := rfl
@[simp] theorem State.pix_setCore (s : State) (c : Nat) (v : CoreSt) (p' : Nat) : (s.setCore c v).pix p' = s.pix p' := rfl
@[simp] theorem State.tx_setCore (s : State) (c : Nat) (v : CoreSt) (i' : Nat) : (s.setCore c v).tx i' = s.tx i' := rfl
@[simp] theorem State.rx_setCore (s : State) (c : Nat) (v : CoreSt) (j' : Nat) : (s.setCore c v).rx j' = s.rx j' := rfl
@[simp] theorem State.trg_setCore (s : State) (c : Nat) (v : CoreSt) (n' : Nat) : (s.setCore c v).trg n' = s.trg n' := rfl
@[simp] theorem State.escOf_setCore (s : State) (c : Nat) (v : CoreSt) (b' : Nat) : (s.setCore c v).escOf b' = s.escOf b' := rfl
@[simp] theorem State.port_setCore (s : State) (c : Nat) (v : CoreSt) (p' : Nat) : (s.setCore c v).port p' = s.port p' := rfl
@[simp] theorem State.retained_setCore (s : State) (c : Nat) (v : CoreSt) (q' : Nat) : (s.setCore c v).retained q' = s.retained q' := rfl
@[simp] theorem State.interp_setCore (s : State) (c : Nat) (v : CoreSt) (u' i' : Nat) : (s.setCore c v).interp u' i' = s.interp u' i' := rfl
@[simp] theorem State.lib_setCore (s : State) (c : Nat) (v : CoreSt) (n' i' : Nat) : (s.setCore c v).lib n' i' = s.lib n' i' := rfl
@[simp] theorem State.core_setRegion (s : State) (n : Nat) (v : RegionSt) (c' : Nat) : (s.setRegion n v).core c' = s.core c' := rfl
@[simp] theorem State.keel_setRegion (s : State) (n : Nat) (v : RegionSt) (k' : Nat) : (s.setRegion n v).keel k' = s.keel k' := rfl
@[simp] theorem State.tin_setRegion (s : State) (n : Nat) (v : RegionSt) (i' : Nat) : (s.setRegion n v).tin i' = s.tin i' := rfl
@[simp] theorem State.pix_setRegion (s : State) (n : Nat) (v : RegionSt) (p' : Nat) : (s.setRegion n v).pix p' = s.pix p' := rfl
@[simp] theorem State.tx_setRegion (s : State) (n : Nat) (v : RegionSt) (i' : Nat) : (s.setRegion n v).tx i' = s.tx i' := rfl
@[simp] theorem State.rx_setRegion (s : State) (n : Nat) (v : RegionSt) (j' : Nat) : (s.setRegion n v).rx j' = s.rx j' := rfl
@[simp] theorem State.trg_setRegion (s : State) (n : Nat) (v : RegionSt) (n' : Nat) : (s.setRegion n v).trg n' = s.trg n' := rfl
@[simp] theorem State.escOf_setRegion (s : State) (n : Nat) (v : RegionSt) (b' : Nat) : (s.setRegion n v).escOf b' = s.escOf b' := rfl
@[simp] theorem State.port_setRegion (s : State) (n : Nat) (v : RegionSt) (p' : Nat) : (s.setRegion n v).port p' = s.port p' := rfl
@[simp] theorem State.retained_setRegion (s : State) (n : Nat) (v : RegionSt) (q' : Nat) : (s.setRegion n v).retained q' = s.retained q' := rfl
@[simp] theorem State.interp_setRegion (s : State) (n : Nat) (v : RegionSt) (u' i' : Nat) : (s.setRegion n v).interp u' i' = s.interp u' i' := rfl
@[simp] theorem State.lib_setRegion (s : State) (n : Nat) (v : RegionSt) (n' i' : Nat) : (s.setRegion n v).lib n' i' = s.lib n' i' := rfl
@[simp] theorem State.core_setInterp (s : State) (u i : Nat) (v : InterpSt) (c' : Nat) : (s.setInterp u i v).core c' = s.core c' := rfl
@[simp] theorem State.region_setInterp (s : State) (u i : Nat) (v : InterpSt) (n' : Nat) : (s.setInterp u i v).region n' = s.region n' := rfl
@[simp] theorem State.keel_setInterp (s : State) (u i : Nat) (v : InterpSt) (k' : Nat) : (s.setInterp u i v).keel k' = s.keel k' := rfl
@[simp] theorem State.tin_setInterp (s : State) (u i : Nat) (v : InterpSt) (i' : Nat) : (s.setInterp u i v).tin i' = s.tin i' := rfl
@[simp] theorem State.pix_setInterp (s : State) (u i : Nat) (v : InterpSt) (p' : Nat) : (s.setInterp u i v).pix p' = s.pix p' := rfl
@[simp] theorem State.tx_setInterp (s : State) (u i : Nat) (v : InterpSt) (i' : Nat) : (s.setInterp u i v).tx i' = s.tx i' := rfl
@[simp] theorem State.rx_setInterp (s : State) (u i : Nat) (v : InterpSt) (j' : Nat) : (s.setInterp u i v).rx j' = s.rx j' := rfl
@[simp] theorem State.trg_setInterp (s : State) (u i : Nat) (v : InterpSt) (n' : Nat) : (s.setInterp u i v).trg n' = s.trg n' := rfl
@[simp] theorem State.escOf_setInterp (s : State) (u i : Nat) (v : InterpSt) (b' : Nat) : (s.setInterp u i v).escOf b' = s.escOf b' := rfl
@[simp] theorem State.port_setInterp (s : State) (u i : Nat) (v : InterpSt) (p' : Nat) : (s.setInterp u i v).port p' = s.port p' := rfl
@[simp] theorem State.retained_setInterp (s : State) (u i : Nat) (v : InterpSt) (q' : Nat) : (s.setInterp u i v).retained q' = s.retained q' := rfl
@[simp] theorem State.lib_setInterp (s : State) (u i : Nat) (v : InterpSt) (n' i' : Nat) : (s.setInterp u i v).lib n' i' = s.lib n' i' := rfl
@[simp] theorem State.core_setKeel (s : State) (k : Nat) (v : KeelSt) (c' : Nat) : (s.setKeel k v).core c' = s.core c' := rfl
@[simp] theorem State.region_setKeel (s : State) (k : Nat) (v : KeelSt) (n' : Nat) : (s.setKeel k v).region n' = s.region n' := rfl
@[simp] theorem State.tin_setKeel (s : State) (k : Nat) (v : KeelSt) (i' : Nat) : (s.setKeel k v).tin i' = s.tin i' := rfl
@[simp] theorem State.pix_setKeel (s : State) (k : Nat) (v : KeelSt) (p' : Nat) : (s.setKeel k v).pix p' = s.pix p' := rfl
@[simp] theorem State.tx_setKeel (s : State) (k : Nat) (v : KeelSt) (i' : Nat) : (s.setKeel k v).tx i' = s.tx i' := rfl
@[simp] theorem State.rx_setKeel (s : State) (k : Nat) (v : KeelSt) (j' : Nat) : (s.setKeel k v).rx j' = s.rx j' := rfl
@[simp] theorem State.trg_setKeel (s : State) (k : Nat) (v : KeelSt) (n' : Nat) : (s.setKeel k v).trg n' = s.trg n' := rfl
@[simp] theorem State.escOf_setKeel (s : State) (k : Nat) (v : KeelSt) (b' : Nat) : (s.setKeel k v).escOf b' = s.escOf b' := rfl
@[simp] theorem State.port_setKeel (s : State) (k : Nat) (v : KeelSt) (p' : Nat) : (s.setKeel k v).port p' = s.port p' := rfl
@[simp] theorem State.retained_setKeel (s : State) (k : Nat) (v : KeelSt) (q' : Nat) : (s.setKeel k v).retained q' = s.retained q' := rfl
@[simp] theorem State.interp_setKeel (s : State) (k : Nat) (v : KeelSt) (u' i' : Nat) : (s.setKeel k v).interp u' i' = s.interp u' i' := rfl
@[simp] theorem State.lib_setKeel (s : State) (k : Nat) (v : KeelSt) (n' i' : Nat) : (s.setKeel k v).lib n' i' = s.lib n' i' := rfl
@[simp] theorem State.core_setStream (s : State) (k q : Nat) (v : StreamSt) (c' : Nat) : (s.setStream k q v).core c' = s.core c' := rfl
@[simp] theorem State.region_setStream (s : State) (k q : Nat) (v : StreamSt) (n' : Nat) : (s.setStream k q v).region n' = s.region n' := rfl
@[simp] theorem State.tin_setStream (s : State) (k q : Nat) (v : StreamSt) (i' : Nat) : (s.setStream k q v).tin i' = s.tin i' := rfl
@[simp] theorem State.pix_setStream (s : State) (k q : Nat) (v : StreamSt) (p' : Nat) : (s.setStream k q v).pix p' = s.pix p' := rfl
@[simp] theorem State.tx_setStream (s : State) (k q : Nat) (v : StreamSt) (i' : Nat) : (s.setStream k q v).tx i' = s.tx i' := rfl
@[simp] theorem State.rx_setStream (s : State) (k q : Nat) (v : StreamSt) (j' : Nat) : (s.setStream k q v).rx j' = s.rx j' := rfl
@[simp] theorem State.trg_setStream (s : State) (k q : Nat) (v : StreamSt) (n' : Nat) : (s.setStream k q v).trg n' = s.trg n' := rfl
@[simp] theorem State.escOf_setStream (s : State) (k q : Nat) (v : StreamSt) (b' : Nat) : (s.setStream k q v).escOf b' = s.escOf b' := rfl
@[simp] theorem State.port_setStream (s : State) (k q : Nat) (v : StreamSt) (p' : Nat) : (s.setStream k q v).port p' = s.port p' := rfl
@[simp] theorem State.retained_setStream (s : State) (k q : Nat) (v : StreamSt) (q' : Nat) : (s.setStream k q v).retained q' = s.retained q' := rfl
@[simp] theorem State.interp_setStream (s : State) (k q : Nat) (v : StreamSt) (u' i' : Nat) : (s.setStream k q v).interp u' i' = s.interp u' i' := rfl
@[simp] theorem State.lib_setStream (s : State) (k q : Nat) (v : StreamSt) (n' i' : Nat) : (s.setStream k q v).lib n' i' = s.lib n' i' := rfl
@[simp] theorem State.core_setTin (s : State) (i : Nat) (v : TinSt) (c' : Nat) : (s.setTin i v).core c' = s.core c' := rfl
@[simp] theorem State.region_setTin (s : State) (i : Nat) (v : TinSt) (n' : Nat) : (s.setTin i v).region n' = s.region n' := rfl
@[simp] theorem State.keel_setTin (s : State) (i : Nat) (v : TinSt) (k' : Nat) : (s.setTin i v).keel k' = s.keel k' := rfl
@[simp] theorem State.pix_setTin (s : State) (i : Nat) (v : TinSt) (p' : Nat) : (s.setTin i v).pix p' = s.pix p' := rfl
@[simp] theorem State.tx_setTin (s : State) (i : Nat) (v : TinSt) (i' : Nat) : (s.setTin i v).tx i' = s.tx i' := rfl
@[simp] theorem State.rx_setTin (s : State) (i : Nat) (v : TinSt) (j' : Nat) : (s.setTin i v).rx j' = s.rx j' := rfl
@[simp] theorem State.trg_setTin (s : State) (i : Nat) (v : TinSt) (n' : Nat) : (s.setTin i v).trg n' = s.trg n' := rfl
@[simp] theorem State.escOf_setTin (s : State) (i : Nat) (v : TinSt) (b' : Nat) : (s.setTin i v).escOf b' = s.escOf b' := rfl
@[simp] theorem State.port_setTin (s : State) (i : Nat) (v : TinSt) (p' : Nat) : (s.setTin i v).port p' = s.port p' := rfl
@[simp] theorem State.retained_setTin (s : State) (i : Nat) (v : TinSt) (q' : Nat) : (s.setTin i v).retained q' = s.retained q' := rfl
@[simp] theorem State.interp_setTin (s : State) (i : Nat) (v : TinSt) (u' i' : Nat) : (s.setTin i v).interp u' i' = s.interp u' i' := rfl
@[simp] theorem State.lib_setTin (s : State) (i : Nat) (v : TinSt) (n' i' : Nat) : (s.setTin i v).lib n' i' = s.lib n' i' := rfl
@[simp] theorem State.core_setPix (s : State) (p : Nat) (v : PixOut) (c' : Nat) : (s.setPix p v).core c' = s.core c' := rfl
@[simp] theorem State.region_setPix (s : State) (p : Nat) (v : PixOut) (n' : Nat) : (s.setPix p v).region n' = s.region n' := rfl
@[simp] theorem State.keel_setPix (s : State) (p : Nat) (v : PixOut) (k' : Nat) : (s.setPix p v).keel k' = s.keel k' := rfl
@[simp] theorem State.tin_setPix (s : State) (p : Nat) (v : PixOut) (i' : Nat) : (s.setPix p v).tin i' = s.tin i' := rfl
@[simp] theorem State.tx_setPix (s : State) (p : Nat) (v : PixOut) (i' : Nat) : (s.setPix p v).tx i' = s.tx i' := rfl
@[simp] theorem State.rx_setPix (s : State) (p : Nat) (v : PixOut) (j' : Nat) : (s.setPix p v).rx j' = s.rx j' := rfl
@[simp] theorem State.trg_setPix (s : State) (p : Nat) (v : PixOut) (n' : Nat) : (s.setPix p v).trg n' = s.trg n' := rfl
@[simp] theorem State.escOf_setPix (s : State) (p : Nat) (v : PixOut) (b' : Nat) : (s.setPix p v).escOf b' = s.escOf b' := rfl
@[simp] theorem State.port_setPix (s : State) (p : Nat) (v : PixOut) (p' : Nat) : (s.setPix p v).port p' = s.port p' := rfl
@[simp] theorem State.retained_setPix (s : State) (p : Nat) (v : PixOut) (q' : Nat) : (s.setPix p v).retained q' = s.retained q' := rfl
@[simp] theorem State.interp_setPix (s : State) (p : Nat) (v : PixOut) (u' i' : Nat) : (s.setPix p v).interp u' i' = s.interp u' i' := rfl
@[simp] theorem State.lib_setPix (s : State) (p : Nat) (v : PixOut) (n' i' : Nat) : (s.setPix p v).lib n' i' = s.lib n' i' := rfl
@[simp] theorem State.core_setHit (s : State) (p : Nat) (v : HitSt) (c' : Nat) : (s.setHit p v).core c' = s.core c' := rfl
@[simp] theorem State.region_setHit (s : State) (p : Nat) (v : HitSt) (n' : Nat) : (s.setHit p v).region n' = s.region n' := rfl
@[simp] theorem State.keel_setHit (s : State) (p : Nat) (v : HitSt) (k' : Nat) : (s.setHit p v).keel k' = s.keel k' := rfl
@[simp] theorem State.tin_setHit (s : State) (p : Nat) (v : HitSt) (i' : Nat) : (s.setHit p v).tin i' = s.tin i' := rfl
@[simp] theorem State.pix_setHit (s : State) (p : Nat) (v : HitSt) (p' : Nat) : (s.setHit p v).pix p' = s.pix p' := rfl
@[simp] theorem State.tx_setHit (s : State) (p : Nat) (v : HitSt) (i' : Nat) : (s.setHit p v).tx i' = s.tx i' := rfl
@[simp] theorem State.rx_setHit (s : State) (p : Nat) (v : HitSt) (j' : Nat) : (s.setHit p v).rx j' = s.rx j' := rfl
@[simp] theorem State.trg_setHit (s : State) (p : Nat) (v : HitSt) (n' : Nat) : (s.setHit p v).trg n' = s.trg n' := rfl
@[simp] theorem State.escOf_setHit (s : State) (p : Nat) (v : HitSt) (b' : Nat) : (s.setHit p v).escOf b' = s.escOf b' := rfl
@[simp] theorem State.port_setHit (s : State) (p : Nat) (v : HitSt) (p' : Nat) : (s.setHit p v).port p' = s.port p' := rfl
@[simp] theorem State.retained_setHit (s : State) (p : Nat) (v : HitSt) (q' : Nat) : (s.setHit p v).retained q' = s.retained q' := rfl
@[simp] theorem State.interp_setHit (s : State) (p : Nat) (v : HitSt) (u' i' : Nat) : (s.setHit p v).interp u' i' = s.interp u' i' := rfl
@[simp] theorem State.lib_setHit (s : State) (p : Nat) (v : HitSt) (n' i' : Nat) : (s.setHit p v).lib n' i' = s.lib n' i' := rfl
@[simp] theorem State.core_dropHit (s : State) (p : Nat) (c' : Nat) : (s.dropHit p).core c' = s.core c' := rfl
@[simp] theorem State.region_dropHit (s : State) (p : Nat) (n' : Nat) : (s.dropHit p).region n' = s.region n' := rfl
@[simp] theorem State.keel_dropHit (s : State) (p : Nat) (k' : Nat) : (s.dropHit p).keel k' = s.keel k' := rfl
@[simp] theorem State.tin_dropHit (s : State) (p : Nat) (i' : Nat) : (s.dropHit p).tin i' = s.tin i' := rfl
@[simp] theorem State.pix_dropHit (s : State) (p : Nat) (p' : Nat) : (s.dropHit p).pix p' = s.pix p' := rfl
@[simp] theorem State.tx_dropHit (s : State) (p : Nat) (i' : Nat) : (s.dropHit p).tx i' = s.tx i' := rfl
@[simp] theorem State.rx_dropHit (s : State) (p : Nat) (j' : Nat) : (s.dropHit p).rx j' = s.rx j' := rfl
@[simp] theorem State.trg_dropHit (s : State) (p : Nat) (n' : Nat) : (s.dropHit p).trg n' = s.trg n' := rfl
@[simp] theorem State.escOf_dropHit (s : State) (p : Nat) (b' : Nat) : (s.dropHit p).escOf b' = s.escOf b' := rfl
@[simp] theorem State.port_dropHit (s : State) (p : Nat) (p' : Nat) : (s.dropHit p).port p' = s.port p' := rfl
@[simp] theorem State.retained_dropHit (s : State) (p : Nat) (q' : Nat) : (s.dropHit p).retained q' = s.retained q' := rfl
@[simp] theorem State.interp_dropHit (s : State) (p : Nat) (u' i' : Nat) : (s.dropHit p).interp u' i' = s.interp u' i' := rfl
@[simp] theorem State.lib_dropHit (s : State) (p : Nat) (n' i' : Nat) : (s.dropHit p).lib n' i' = s.lib n' i' := rfl
@[simp] theorem State.core_setTx (s : State) (i : Nat) (v : TxSt) (c' : Nat) : (s.setTx i v).core c' = s.core c' := rfl
@[simp] theorem State.region_setTx (s : State) (i : Nat) (v : TxSt) (n' : Nat) : (s.setTx i v).region n' = s.region n' := rfl
@[simp] theorem State.keel_setTx (s : State) (i : Nat) (v : TxSt) (k' : Nat) : (s.setTx i v).keel k' = s.keel k' := rfl
@[simp] theorem State.tin_setTx (s : State) (i : Nat) (v : TxSt) (i' : Nat) : (s.setTx i v).tin i' = s.tin i' := rfl
@[simp] theorem State.pix_setTx (s : State) (i : Nat) (v : TxSt) (p' : Nat) : (s.setTx i v).pix p' = s.pix p' := rfl
@[simp] theorem State.rx_setTx (s : State) (i : Nat) (v : TxSt) (j' : Nat) : (s.setTx i v).rx j' = s.rx j' := rfl
@[simp] theorem State.trg_setTx (s : State) (i : Nat) (v : TxSt) (n' : Nat) : (s.setTx i v).trg n' = s.trg n' := rfl
@[simp] theorem State.escOf_setTx (s : State) (i : Nat) (v : TxSt) (b' : Nat) : (s.setTx i v).escOf b' = s.escOf b' := rfl
@[simp] theorem State.port_setTx (s : State) (i : Nat) (v : TxSt) (p' : Nat) : (s.setTx i v).port p' = s.port p' := rfl
@[simp] theorem State.retained_setTx (s : State) (i : Nat) (v : TxSt) (q' : Nat) : (s.setTx i v).retained q' = s.retained q' := rfl
@[simp] theorem State.interp_setTx (s : State) (i : Nat) (v : TxSt) (u' i' : Nat) : (s.setTx i v).interp u' i' = s.interp u' i' := rfl
@[simp] theorem State.lib_setTx (s : State) (i : Nat) (v : TxSt) (n' i' : Nat) : (s.setTx i v).lib n' i' = s.lib n' i' := rfl
@[simp] theorem State.core_setRx (s : State) (j : Nat) (v : RxSt) (c' : Nat) : (s.setRx j v).core c' = s.core c' := rfl
@[simp] theorem State.region_setRx (s : State) (j : Nat) (v : RxSt) (n' : Nat) : (s.setRx j v).region n' = s.region n' := rfl
@[simp] theorem State.keel_setRx (s : State) (j : Nat) (v : RxSt) (k' : Nat) : (s.setRx j v).keel k' = s.keel k' := rfl
@[simp] theorem State.tin_setRx (s : State) (j : Nat) (v : RxSt) (i' : Nat) : (s.setRx j v).tin i' = s.tin i' := rfl
@[simp] theorem State.pix_setRx (s : State) (j : Nat) (v : RxSt) (p' : Nat) : (s.setRx j v).pix p' = s.pix p' := rfl
@[simp] theorem State.tx_setRx (s : State) (j : Nat) (v : RxSt) (i' : Nat) : (s.setRx j v).tx i' = s.tx i' := rfl
@[simp] theorem State.trg_setRx (s : State) (j : Nat) (v : RxSt) (n' : Nat) : (s.setRx j v).trg n' = s.trg n' := rfl
@[simp] theorem State.escOf_setRx (s : State) (j : Nat) (v : RxSt) (b' : Nat) : (s.setRx j v).escOf b' = s.escOf b' := rfl
@[simp] theorem State.port_setRx (s : State) (j : Nat) (v : RxSt) (p' : Nat) : (s.setRx j v).port p' = s.port p' := rfl
@[simp] theorem State.retained_setRx (s : State) (j : Nat) (v : RxSt) (q' : Nat) : (s.setRx j v).retained q' = s.retained q' := rfl
@[simp] theorem State.interp_setRx (s : State) (j : Nat) (v : RxSt) (u' i' : Nat) : (s.setRx j v).interp u' i' = s.interp u' i' := rfl
@[simp] theorem State.lib_setRx (s : State) (j : Nat) (v : RxSt) (n' i' : Nat) : (s.setRx j v).lib n' i' = s.lib n' i' := rfl
@[simp] theorem State.core_setLib (s : State) (n i : Nat) (v : LibSlot) (c' : Nat) : (s.setLib n i v).core c' = s.core c' := rfl
@[simp] theorem State.region_setLib (s : State) (n i : Nat) (v : LibSlot) (n' : Nat) : (s.setLib n i v).region n' = s.region n' := rfl
@[simp] theorem State.keel_setLib (s : State) (n i : Nat) (v : LibSlot) (k' : Nat) : (s.setLib n i v).keel k' = s.keel k' := rfl
@[simp] theorem State.tin_setLib (s : State) (n i : Nat) (v : LibSlot) (i' : Nat) : (s.setLib n i v).tin i' = s.tin i' := rfl
@[simp] theorem State.pix_setLib (s : State) (n i : Nat) (v : LibSlot) (p' : Nat) : (s.setLib n i v).pix p' = s.pix p' := rfl
@[simp] theorem State.tx_setLib (s : State) (n i : Nat) (v : LibSlot) (i' : Nat) : (s.setLib n i v).tx i' = s.tx i' := rfl
@[simp] theorem State.rx_setLib (s : State) (n i : Nat) (v : LibSlot) (j' : Nat) : (s.setLib n i v).rx j' = s.rx j' := rfl
@[simp] theorem State.trg_setLib (s : State) (n i : Nat) (v : LibSlot) (n' : Nat) : (s.setLib n i v).trg n' = s.trg n' := rfl
@[simp] theorem State.escOf_setLib (s : State) (n i : Nat) (v : LibSlot) (b' : Nat) : (s.setLib n i v).escOf b' = s.escOf b' := rfl
@[simp] theorem State.port_setLib (s : State) (n i : Nat) (v : LibSlot) (p' : Nat) : (s.setLib n i v).port p' = s.port p' := rfl
@[simp] theorem State.retained_setLib (s : State) (n i : Nat) (v : LibSlot) (q' : Nat) : (s.setLib n i v).retained q' = s.retained q' := rfl
@[simp] theorem State.interp_setLib (s : State) (n i : Nat) (v : LibSlot) (u' i' : Nat) : (s.setLib n i v).interp u' i' = s.interp u' i' := rfl
@[simp] theorem State.core_setTrg (s : State) (n : Nat) (v : TrgSt) (c' : Nat) : (s.setTrg n v).core c' = s.core c' := rfl
@[simp] theorem State.region_setTrg (s : State) (n : Nat) (v : TrgSt) (n' : Nat) : (s.setTrg n v).region n' = s.region n' := rfl
@[simp] theorem State.keel_setTrg (s : State) (n : Nat) (v : TrgSt) (k' : Nat) : (s.setTrg n v).keel k' = s.keel k' := rfl
@[simp] theorem State.tin_setTrg (s : State) (n : Nat) (v : TrgSt) (i' : Nat) : (s.setTrg n v).tin i' = s.tin i' := rfl
@[simp] theorem State.pix_setTrg (s : State) (n : Nat) (v : TrgSt) (p' : Nat) : (s.setTrg n v).pix p' = s.pix p' := rfl
@[simp] theorem State.tx_setTrg (s : State) (n : Nat) (v : TrgSt) (i' : Nat) : (s.setTrg n v).tx i' = s.tx i' := rfl
@[simp] theorem State.rx_setTrg (s : State) (n : Nat) (v : TrgSt) (j' : Nat) : (s.setTrg n v).rx j' = s.rx j' := rfl
@[simp] theorem State.escOf_setTrg (s : State) (n : Nat) (v : TrgSt) (b' : Nat) : (s.setTrg n v).escOf b' = s.escOf b' := rfl
@[simp] theorem State.port_setTrg (s : State) (n : Nat) (v : TrgSt) (p' : Nat) : (s.setTrg n v).port p' = s.port p' := rfl
@[simp] theorem State.retained_setTrg (s : State) (n : Nat) (v : TrgSt) (q' : Nat) : (s.setTrg n v).retained q' = s.retained q' := rfl
@[simp] theorem State.interp_setTrg (s : State) (n : Nat) (v : TrgSt) (u' i' : Nat) : (s.setTrg n v).interp u' i' = s.interp u' i' := rfl
@[simp] theorem State.lib_setTrg (s : State) (n : Nat) (v : TrgSt) (n' i' : Nat) : (s.setTrg n v).lib n' i' = s.lib n' i' := rfl
@[simp] theorem State.core_setWr (s : State) (u : Nat) (v : WrSt) (c' : Nat) : (s.setWr u v).core c' = s.core c' := rfl
@[simp] theorem State.region_setWr (s : State) (u : Nat) (v : WrSt) (n' : Nat) : (s.setWr u v).region n' = s.region n' := rfl
@[simp] theorem State.keel_setWr (s : State) (u : Nat) (v : WrSt) (k' : Nat) : (s.setWr u v).keel k' = s.keel k' := rfl
@[simp] theorem State.tin_setWr (s : State) (u : Nat) (v : WrSt) (i' : Nat) : (s.setWr u v).tin i' = s.tin i' := rfl
@[simp] theorem State.pix_setWr (s : State) (u : Nat) (v : WrSt) (p' : Nat) : (s.setWr u v).pix p' = s.pix p' := rfl
@[simp] theorem State.tx_setWr (s : State) (u : Nat) (v : WrSt) (i' : Nat) : (s.setWr u v).tx i' = s.tx i' := rfl
@[simp] theorem State.rx_setWr (s : State) (u : Nat) (v : WrSt) (j' : Nat) : (s.setWr u v).rx j' = s.rx j' := rfl
@[simp] theorem State.trg_setWr (s : State) (u : Nat) (v : WrSt) (n' : Nat) : (s.setWr u v).trg n' = s.trg n' := rfl
@[simp] theorem State.escOf_setWr (s : State) (u : Nat) (v : WrSt) (b' : Nat) : (s.setWr u v).escOf b' = s.escOf b' := rfl
@[simp] theorem State.port_setWr (s : State) (u : Nat) (v : WrSt) (p' : Nat) : (s.setWr u v).port p' = s.port p' := rfl
@[simp] theorem State.retained_setWr (s : State) (u : Nat) (v : WrSt) (q' : Nat) : (s.setWr u v).retained q' = s.retained q' := rfl
@[simp] theorem State.interp_setWr (s : State) (u : Nat) (v : WrSt) (u' i' : Nat) : (s.setWr u v).interp u' i' = s.interp u' i' := rfl
@[simp] theorem State.lib_setWr (s : State) (u : Nat) (v : WrSt) (n' i' : Nat) : (s.setWr u v).lib n' i' = s.lib n' i' := rfl
@[simp] theorem State.core_setEsc (s : State) (b : Nat) (v : EscSt) (c' : Nat) : (s.setEsc b v).core c' = s.core c' := rfl
@[simp] theorem State.region_setEsc (s : State) (b : Nat) (v : EscSt) (n' : Nat) : (s.setEsc b v).region n' = s.region n' := rfl
@[simp] theorem State.keel_setEsc (s : State) (b : Nat) (v : EscSt) (k' : Nat) : (s.setEsc b v).keel k' = s.keel k' := rfl
@[simp] theorem State.tin_setEsc (s : State) (b : Nat) (v : EscSt) (i' : Nat) : (s.setEsc b v).tin i' = s.tin i' := rfl
@[simp] theorem State.pix_setEsc (s : State) (b : Nat) (v : EscSt) (p' : Nat) : (s.setEsc b v).pix p' = s.pix p' := rfl
@[simp] theorem State.tx_setEsc (s : State) (b : Nat) (v : EscSt) (i' : Nat) : (s.setEsc b v).tx i' = s.tx i' := rfl
@[simp] theorem State.rx_setEsc (s : State) (b : Nat) (v : EscSt) (j' : Nat) : (s.setEsc b v).rx j' = s.rx j' := rfl
@[simp] theorem State.trg_setEsc (s : State) (b : Nat) (v : EscSt) (n' : Nat) : (s.setEsc b v).trg n' = s.trg n' := rfl
@[simp] theorem State.port_setEsc (s : State) (b : Nat) (v : EscSt) (p' : Nat) : (s.setEsc b v).port p' = s.port p' := rfl
@[simp] theorem State.retained_setEsc (s : State) (b : Nat) (v : EscSt) (q' : Nat) : (s.setEsc b v).retained q' = s.retained q' := rfl
@[simp] theorem State.interp_setEsc (s : State) (b : Nat) (v : EscSt) (u' i' : Nat) : (s.setEsc b v).interp u' i' = s.interp u' i' := rfl
@[simp] theorem State.lib_setEsc (s : State) (b : Nat) (v : EscSt) (n' i' : Nat) : (s.setEsc b v).lib n' i' = s.lib n' i' := rfl
@[simp] theorem State.core_setRetained (s : State) (q : Nat) (v : Retain) (c' : Nat) : (s.setRetained q v).core c' = s.core c' := rfl
@[simp] theorem State.region_setRetained (s : State) (q : Nat) (v : Retain) (n' : Nat) : (s.setRetained q v).region n' = s.region n' := rfl
@[simp] theorem State.keel_setRetained (s : State) (q : Nat) (v : Retain) (k' : Nat) : (s.setRetained q v).keel k' = s.keel k' := rfl
@[simp] theorem State.tin_setRetained (s : State) (q : Nat) (v : Retain) (i' : Nat) : (s.setRetained q v).tin i' = s.tin i' := rfl
@[simp] theorem State.pix_setRetained (s : State) (q : Nat) (v : Retain) (p' : Nat) : (s.setRetained q v).pix p' = s.pix p' := rfl
@[simp] theorem State.tx_setRetained (s : State) (q : Nat) (v : Retain) (i' : Nat) : (s.setRetained q v).tx i' = s.tx i' := rfl
@[simp] theorem State.rx_setRetained (s : State) (q : Nat) (v : Retain) (j' : Nat) : (s.setRetained q v).rx j' = s.rx j' := rfl
@[simp] theorem State.trg_setRetained (s : State) (q : Nat) (v : Retain) (n' : Nat) : (s.setRetained q v).trg n' = s.trg n' := rfl
@[simp] theorem State.escOf_setRetained (s : State) (q : Nat) (v : Retain) (b' : Nat) : (s.setRetained q v).escOf b' = s.escOf b' := rfl
@[simp] theorem State.port_setRetained (s : State) (q : Nat) (v : Retain) (p' : Nat) : (s.setRetained q v).port p' = s.port p' := rfl
@[simp] theorem State.interp_setRetained (s : State) (q : Nat) (v : Retain) (u' i' : Nat) : (s.setRetained q v).interp u' i' = s.interp u' i' := rfl
@[simp] theorem State.lib_setRetained (s : State) (q : Nat) (v : Retain) (n' i' : Nat) : (s.setRetained q v).lib n' i' = s.lib n' i' := rfl
@[simp] theorem State.core_setWave (s : State) (w : WaveSt) (c' : Nat) : (s.setWave w).core c' = s.core c' := rfl
@[simp] theorem State.region_setWave (s : State) (w : WaveSt) (n' : Nat) : (s.setWave w).region n' = s.region n' := rfl
@[simp] theorem State.keel_setWave (s : State) (w : WaveSt) (k' : Nat) : (s.setWave w).keel k' = s.keel k' := rfl
@[simp] theorem State.tin_setWave (s : State) (w : WaveSt) (i' : Nat) : (s.setWave w).tin i' = s.tin i' := rfl
@[simp] theorem State.pix_setWave (s : State) (w : WaveSt) (p' : Nat) : (s.setWave w).pix p' = s.pix p' := rfl
@[simp] theorem State.tx_setWave (s : State) (w : WaveSt) (i' : Nat) : (s.setWave w).tx i' = s.tx i' := rfl
@[simp] theorem State.rx_setWave (s : State) (w : WaveSt) (j' : Nat) : (s.setWave w).rx j' = s.rx j' := rfl
@[simp] theorem State.trg_setWave (s : State) (w : WaveSt) (n' : Nat) : (s.setWave w).trg n' = s.trg n' := rfl
@[simp] theorem State.escOf_setWave (s : State) (w : WaveSt) (b' : Nat) : (s.setWave w).escOf b' = s.escOf b' := rfl
@[simp] theorem State.port_setWave (s : State) (w : WaveSt) (p' : Nat) : (s.setWave w).port p' = s.port p' := rfl
@[simp] theorem State.retained_setWave (s : State) (w : WaveSt) (q' : Nat) : (s.setWave w).retained q' = s.retained q' := rfl
@[simp] theorem State.interp_setWave (s : State) (w : WaveSt) (u' i' : Nat) : (s.setWave w).interp u' i' = s.interp u' i' := rfl
@[simp] theorem State.lib_setWave (s : State) (w : WaveSt) (n' i' : Nat) : (s.setWave w).lib n' i' = s.lib n' i' := rfl
@[simp] theorem State.core_place (s : State) (i : Nat) (bs : List Byte) (c' : Nat) : (s.place i bs).core c' = s.core c' := rfl
@[simp] theorem State.region_place (s : State) (i : Nat) (bs : List Byte) (n' : Nat) : (s.place i bs).region n' = s.region n' := rfl
@[simp] theorem State.keel_place (s : State) (i : Nat) (bs : List Byte) (k' : Nat) : (s.place i bs).keel k' = s.keel k' := rfl
@[simp] theorem State.tin_place (s : State) (i : Nat) (bs : List Byte) (i' : Nat) : (s.place i bs).tin i' = s.tin i' := rfl
@[simp] theorem State.pix_place (s : State) (i : Nat) (bs : List Byte) (p' : Nat) : (s.place i bs).pix p' = s.pix p' := rfl
@[simp] theorem State.rx_place (s : State) (i : Nat) (bs : List Byte) (j' : Nat) : (s.place i bs).rx j' = s.rx j' := rfl
@[simp] theorem State.trg_place (s : State) (i : Nat) (bs : List Byte) (n' : Nat) : (s.place i bs).trg n' = s.trg n' := rfl
@[simp] theorem State.escOf_place (s : State) (i : Nat) (bs : List Byte) (b' : Nat) : (s.place i bs).escOf b' = s.escOf b' := rfl
@[simp] theorem State.port_place (s : State) (i : Nat) (bs : List Byte) (p' : Nat) : (s.place i bs).port p' = s.port p' := rfl
@[simp] theorem State.retained_place (s : State) (i : Nat) (bs : List Byte) (q' : Nat) : (s.place i bs).retained q' = s.retained q' := rfl
@[simp] theorem State.interp_place (s : State) (i : Nat) (bs : List Byte) (u' i' : Nat) : (s.place i bs).interp u' i' = s.interp u' i' := rfl
@[simp] theorem State.lib_place (s : State) (i : Nat) (bs : List Byte) (n' i' : Nat) : (s.place i bs).lib n' i' = s.lib n' i' := rfl
@[simp] theorem State.core_emit (s : State) (p : Nat) (m : Msg) (c' : Nat) : (s.emit p m).core c' = s.core c' := by simp [State.core]
@[simp] theorem State.region_emit (s : State) (p : Nat) (m : Msg) (n' : Nat) : (s.emit p m).region n' = s.region n' := by simp [State.region]
@[simp] theorem State.keel_emit (s : State) (p : Nat) (m : Msg) (k' : Nat) : (s.emit p m).keel k' = s.keel k' := by simp [State.keel]
@[simp] theorem State.tin_emit (s : State) (p : Nat) (m : Msg) (i' : Nat) : (s.emit p m).tin i' = s.tin i' := by simp [State.tin]
@[simp] theorem State.pix_emit (s : State) (p : Nat) (m : Msg) (p' : Nat) : (s.emit p m).pix p' = s.pix p' := by simp [State.pix]
@[simp] theorem State.rx_emit (s : State) (p : Nat) (m : Msg) (j' : Nat) : (s.emit p m).rx j' = s.rx j' := by simp [State.rx]
@[simp] theorem State.trg_emit (s : State) (p : Nat) (m : Msg) (n' : Nat) : (s.emit p m).trg n' = s.trg n' := by simp [State.trg]
@[simp] theorem State.escOf_emit (s : State) (p : Nat) (m : Msg) (b' : Nat) : (s.emit p m).escOf b' = s.escOf b' := by simp [State.escOf]
@[simp] theorem State.port_emit (s : State) (p : Nat) (m : Msg) (p' : Nat) : (s.emit p m).port p' = s.port p' := by simp [State.port]
@[simp] theorem State.retained_emit (s : State) (p : Nat) (m : Msg) (q' : Nat) : (s.emit p m).retained q' = s.retained q' := by simp [State.retained]
@[simp] theorem State.interp_emit (s : State) (p : Nat) (m : Msg) (u' i' : Nat) : (s.emit p m).interp u' i' = s.interp u' i' := by simp [State.interp]
@[simp] theorem State.lib_emit (s : State) (p : Nat) (m : Msg) (n' i' : Nat) : (s.emit p m).lib n' i' = s.lib n' i' := by simp [State.lib]

end Sys2Proof.Machine
end

