-- ==== Sys2Proof/Laws/Cycle.lean ====
section
/-! SUPPORT. What meets in one cycle: the hardware's sets, updates and clears beside the writes of the same tick (R11, R12, R538). -/
namespace Sys2Proof.Machine

/-- A field that no write of the recorded cycle has set has met none in the current cycle either. -/
theorem State.metWrote_of_unwritten {s : State} {f : Field} (h : s.unwritten f) : s.metWrote f = 0 := by
  unfold State.metWrote State.cycNow
  split
  · exact h
  · rfl

/-- With the time base stopped nothing meets. -/
theorem State.metWrote_stopped {s : State} (f : Field) (h : s.time.run = false) : s.metWrote f = 0 := by
  simp [State.metWrote, State.cycNow, h, SMap.get]

theorem State.metSets_stopped {s : State} (f : Field) (h : s.time.run = false) : s.metSets f = 0 := by
  simp [State.metSets, State.cycNow, h, SMap.get]

/-- The hardware's update takes effect where no write has set the field, and is lost where one has. -/
theorem State.hwPut_unwritten {s : State} {f : Field} (v : Nat) (h : s.unwritten f) : s.hwPut f v = s.put f v := by
  simp [State.hwPut, State.metWrote_of_unwritten h]

theorem State.hwPut_met {s : State} {f : Field} (v : Nat) (h : s.metWrote f ≠ 0) : s.hwPut f v = s := by
  simp [State.hwPut, h]

/-- The hardware's set is a put of the bits joined, and notes them for the cycle. -/
theorem State.hwSet_eq (s : State) (f : Field) (v : Nat) :
    s.hwSet f v = { s.put f (s.get f ||| v) with cyc := (s.hwSet f v).cyc } := by
  unfold State.hwSet
  simp only []
  split <;> rfl

@[simp] theorem State.get_hwSet_same (s : State) (f : Field) (v : Nat) :
    (s.hwSet f v).get f = (s.get f ||| v) % 2 ^ f.width := by
  rw [State.hwSet_eq]
  exact State.get_put_same s f _

theorem State.get_hwSet_ne (s : State) {f g : Field} (v : Nat) (h : g.key ≠ f.key) : (s.hwSet f v).get g = s.get g := by
  rw [State.hwSet_eq]
  exact State.get_put_ne s _ h

/-- The hardware's clear of a field that no write has set clears the bits it names. -/
theorem State.hwClear_unwritten {s : State} {f : Field} (v : Nat) (h : s.unwritten f) :
    s.hwClear f v = s.put f (s.get f - (s.get f &&& v)) := by
  simp [State.hwClear, State.metWrote_of_unwritten h]

end Sys2Proof.Machine
end

