-- ==== Sys2Proof/Laws/Map.lean ====
section
/-! SUPPORT. The address map: which register lies at an address, and what a write or a read of it through the map does. -/
namespace Sys2Proof.Machine

/-- Where a word at offset `o` of a region engine's window lies in a row. -/
def RegRow.inWindow (r : RegRow) (o : Nat) : Option (Nat × Nat) :=
  if 0x40000000 ≤ r.base ∧ r.base - 0x40000000 ≤ o then
    let x := o - (r.base - 0x40000000)
    let j := x / r.s2
    let y := x - j * r.s2
    if j < r.n2 ∧ y < 4 * r.words then some (j, y / 4) else none
  else none

/-- A row lies below the windows, or repeats in every window inside it. -/
def RegRow.windowed (r : RegRow) : Bool :=
  (decide (0 < r.s1) && decide (0 < r.s2) && decide (0 < r.n1)) && (decide (r.base + r.n1 * r.s1 ≤ 0x40000000) ||
    (decide (0x40000000 ≤ r.base) && r.n1 == 1024 && r.s1 == 0x10000 &&
      decide (r.base - 0x40000000 + r.n2 * r.s2 ≤ 0x10000) && decide (4 * r.words ≤ r.s2)))

/-- The fields of the register at offset `o` of the window of region `n`. -/
def windowAt (n o : Nat) : List RegRow → Option (List Field × Nat × Nat)
  | [] => none
  | r :: rest =>
    match r.inWindow o with
    | some (j, w) => some (r.fields n j, (reWindow n + o) / 4 * 4 - 4 * w, r.words)
    | none => windowAt n o rest

theorem RegRow.index_window (r : RegRow) (n o : Nat) (hn : n < 1024) (ho : o < 0x10000) (h : r.windowed = true) :
    r.index (reWindow n + o) = (r.inWindow o).map (fun e => (n, e.1, e.2)) := by
  simp only [RegRow.windowed, Bool.and_eq_true, Bool.or_eq_true, decide_eq_true_eq, beq_iff_eq] at h
  obtain ⟨⟨⟨p1, p2⟩, p3⟩, h | ⟨⟨⟨⟨h1, h2⟩, h3⟩, h4⟩, h5⟩⟩ := h
  · have hm := Nat.mul_pos p3 p1
    have hi : r.n1 ≤ (reWindow n + o - r.base) / r.s1 := by
      rw [Nat.le_div_iff_mul_le p1]; unfold reWindow; omega
    have e1 : r.inWindow o = none := if_neg (by omega)
    have e2 : ¬ reWindow n + o < r.base := by unfold reWindow; omega
    rw [e1]
    unfold RegRow.index
    rw [if_neg e2]
    exact if_neg (fun c => absurd c.1 (Nat.not_lt.mpr hi))
  · unfold RegRow.index RegRow.inWindow
    by_cases hb : r.base - 0x40000000 ≤ o
    · have e1 : ¬ reWindow n + o < r.base := by unfold reWindow; omega
      have e2 : (reWindow n + o - r.base) / 0x10000 = n := by unfold reWindow; omega
      have e3 : reWindow n + o - r.base - n * 0x10000 = o - (r.base - 0x40000000) := by unfold reWindow; omega
      rw [if_neg e1]
      simp only [h2, h3, e2, e3]
      rw [if_pos (show 0x40000000 ≤ r.base ∧ r.base - 0x40000000 ≤ o from ⟨h1, hb⟩)]
      simp only [hn, true_and]
      split <;> rfl
    · rw [if_neg (show ¬ (0x40000000 ≤ r.base ∧ r.base - 0x40000000 ≤ o) from fun c => hb c.2)]
      by_cases hl : reWindow n + o < r.base
      · rw [if_pos hl]; rfl
      · rw [if_neg hl]
        have e2 : (reWindow n + o - r.base) / 0x10000 = n - 1 := by unfold reWindow at *; omega
        have e3 : r.n2 * r.s2 ≤ reWindow n + o - r.base - (n - 1) * 0x10000 := by unfold reWindow at *; omega
        simp only [h3, e2]
        refine if_neg (fun c => absurd c.2.1 (Nat.not_lt.mpr ?_))
        rw [Nat.le_div_iff_mul_le p2]; exact e3

theorem fieldsAt_window (n o : Nat) (hn : n < 1024) (ho : o < 0x10000) (rows : List RegRow)
    (h : rows.all RegRow.windowed = true) : fieldsAt (reWindow n + o) rows = windowAt n o rows := by
  induction rows with
  | nil => rfl
  | cons r rest ih =>
    simp only [List.all_cons, Bool.and_eq_true] at h
    unfold fieldsAt windowAt
    rw [RegRow.index_window r n o hn ho h.1]
    cases hr : r.inWindow o with
    | none => simpa using ih h.2
    | some e => simp

theorem regRows_windowed : regRows.all RegRow.windowed = true := by decide +kernel

/-- The register at an offset of a region engine's window. -/
theorem regAt_window (n o : Nat) (hn : n < 1024) (ho : o < 0x10000) : regAt (reWindow n + o) = windowAt n o regRows :=
  fieldsAt_window n o hn ho regRows regRows_windowed

/-- R43, R468: an address below the windows and outside the keels leads to its own word when its domain is on and its block is
not being reset. -/
theorem State.route_plain (s : State) (e : Option Nat) (w : Bool) (a : Nat) (h4 : a % 4 = 0) (hr : (rangeOf a).isSome = true)
    (hlo : a < 0x100000 ∨ (0x300000 ≤ a ∧ a < 0x50000000)) (hd : s.dom (addrDom a) = true) (hq : s.inReset a = false) :
    s.route e w a = .word a := by
  have h1 : ¬ (a % 4 ≠ 0 ∨ (rangeOf a).isNone = true) := by
    rw [← Option.not_isSome]; simp [h4, hr]
  have h2 : ¬ (0x200000 ≤ a ∧ a < 0x300000) := by omega
  have h3 : ¬ 0x50000000 ≤ a := by omega
  have h5 : ¬ (0x100000 ≤ a ∧ a < 0x200000 ∧ s.role ((a - 0x100000) / 0x80000) ≥ rRESET) := by omega
  unfold State.route
  rw [if_neg h1, if_neg h2, if_neg h3]
  unfold State.physical
  rw [if_neg (by simp [hd]), if_neg h5, if_neg (by simp [hq])]

/-- R402: a word outside the keels is not mirrored. -/
theorem State.mirrorWrite_out (s : State) (a v : Nat) (h : a < 0x100000 ∨ 0x200000 ≤ a) : s.mirrorWrite a v = s := by
  unfold State.mirrorWrite
  split
  · rename_i k n h1 h2
    have hk : k ≤ 1 := by
      unfold State.active? at h1
      split at h1 <;> simp_all; all_goals omega
    rw [if_neg (by omega)]
  · rfl

/-- R244, R293: a word outside the keels is no stream register and no declaration of the bridle. -/
theorem State.wordShut_out (s : State) (a : Nat) (h : a < 0x100000 ∨ 0x200000 ≤ a) : s.wordShut a = false := by
  rcases h with h | h
  · have : ¬ 0x100000 ≤ a := by omega
    simp [State.wordShut, State.streamShut, State.declShut, this]
  · have : ¬ a < 0x200000 := by omega
    simp [State.wordShut, State.streamShut, State.declShut, this]

/-- R9, R10: a write of a 32-bit register that its chapter's rule accepts. -/
theorem State.writeAt_hook (s t : State) (a v : Nat) (fs : List Field) (hv : v < 2 ^ 32)
    (hr : s.route none true a = .word a) (hm : s.memWord a = none) (hg : regAt a = some (fs, a, 1))
    (hb : s.forBuddy a = false)
    (hl : s.rwlRefused a v fs = false) (hh : s.hooked 0 a v false = some (t, .ok)) (hs : scrubMem a = none)
    (hn : s.wordShut a = false) (hk : (t.noteWrite s a v fs).mirrorWrite a v = t.noteWrite s a v fs) :
    s.writeAt a v = { t.noteWrite s a v fs with lastStatus := .ok } := by
  have hv' : v % 4294967296 = v := Nat.mod_eq_of_lt hv
  simp [State.writeAt, State.busWrite, hr, hb, State.wordWrite, hm, State.regWrite, hg, State.regApply, hv',
    hl, hh, hs, hn, hk, State.wrote]

/-- R9, R10: a write of a 32-bit register by its access codes alone. -/
theorem State.writeAt_codes (s : State) (a v : Nat) (fs : List Field) (hv : v < 2 ^ 32)
    (hr : s.route none true a = .word a) (hm : s.memWord a = none) (hg : regAt a = some (fs, a, 1))
    (hb : s.forBuddy a = false)
    (hl : s.rwlRefused a v fs = false) (hh : s.hooked 0 a v false = none) (hs : scrubMem a = none)
    (hn : s.wordShut a = false)
    (hk : ((s.putFields a v fs).noteWrite s a v fs).mirrorWrite a v = (s.putFields a v fs).noteWrite s a v fs) :
    s.writeAt a v = { (s.putFields a v fs).noteWrite s a v fs with lastStatus := .ok } := by
  have hv' : v % 4294967296 = v := Nat.mod_eq_of_lt hv
  simp [State.writeAt, State.busWrite, hr, hb, State.wordWrite, hm, State.regWrite, hg, State.regApply, hv',
    hl, hh, hs, hn, hk, State.wrote]

/-- A word of the map below the keels that is no memory. -/
def plainWord (a : Nat) : Bool :=
  a % 4 == 0 && (rangeOf a).isSome && (scrubMem a).isNone &&
    ((decide (a < 0x41000) || (decide (0x43A00 ≤ a) && decide (a < 0x94000)) || (decide (0xA0000 ≤ a) && decide (a < 0xA8000))
      || (decide (0x300000 ≤ a) && decide (a < 0x400000))))

theorem State.memWord_plain (s : State) {a : Nat} (h : plainWord a = true) : s.memWord a = none := by
  simp only [plainWord, Bool.and_eq_true, Bool.or_eq_true, decide_eq_true_eq] at h
  unfold State.memWord
  simp only []
  repeat (first | rfl | rw [if_neg (by first | omega | (simp only [secStage]; omega))])

theorem State.route_word (s : State) (e : Option Nat) (w : Bool) {a : Nat} (h : plainWord a = true)
    (hd : s.dom (addrDom a) = true) (hq : s.inReset a = false) : s.route e w a = .word a := by
  simp only [plainWord, Bool.and_eq_true, Bool.or_eq_true, decide_eq_true_eq, beq_iff_eq] at h
  exact State.route_plain s e w a h.1.1.1 h.1.1.2 (by omega) hd hq

theorem plainWord_scrub {a : Nat} (h : plainWord a = true) : scrubMem a = none := by
  simp only [plainWord, Bool.and_eq_true, Option.isNone_iff_eq_none] at h
  exact h.1.2

theorem State.forBuddy_plain (s : State) {a : Nat} (h : plainWord a = true) : s.forBuddy a = false := by
  simp only [plainWord, Bool.and_eq_true, Bool.or_eq_true, decide_eq_true_eq, beq_iff_eq] at h
  unfold State.forBuddy
  rw [decide_eq_false (by omega)]; rfl

theorem State.mirrorWrite_plain (s : State) {a : Nat} (v : Nat) (h : plainWord a = true) : s.mirrorWrite a v = s := by
  simp only [plainWord, Bool.and_eq_true, Bool.or_eq_true, decide_eq_true_eq, beq_iff_eq] at h
  exact State.mirrorWrite_out s a v (by omega)

theorem State.wordShut_plain (s : State) {a : Nat} (h : plainWord a = true) : s.wordShut a = false := by
  simp only [plainWord, Bool.and_eq_true, Bool.or_eq_true, decide_eq_true_eq, beq_iff_eq] at h
  exact State.wordShut_out s a (by omega)

/-- A field no lifecycle locks: its register's writes are not refused (R539). -/
theorem State.rwlRefused_free (s : State) (a v : Nat) (fs : List Field) (h : fs.all (fun f => f.acc != .rwl) = true) :
    s.rwlRefused a v fs = false := by
  simp only [State.rwlRefused, Bool.and_eq_false_iff, List.any_eq_false]
  right
  intro f hf
  have := List.all_eq_true.mp h f hf
  simp_all

/-- R9, R10: a write of a 32-bit register outside the windows and the keels, with its chapter's rule. -/
theorem State.writeAt_plain (s t : State) (a v : Nat) (fs : List Field) (hp : plainWord a = true) (hv : v < 2 ^ 32)
    (hd : s.dom (addrDom a) = true) (hq : s.inReset a = false) (hg : regAt a = some (fs, a, 1))
    (hl : fs.all (fun f => f.acc != .rwl) = true) (hh : s.hooked 0 a v false = some (t, .ok)) :
    s.writeAt a v = { t.noteWrite s a v fs with lastStatus := .ok } :=
  State.writeAt_hook s t a v fs hv (s.route_word none true hp hd hq) (s.memWord_plain hp) hg (s.forBuddy_plain hp)
    (s.rwlRefused_free a v fs hl) hh (plainWord_scrub hp) (s.wordShut_plain hp) ((t.noteWrite s a v fs).mirrorWrite_plain v hp)

/-- The same by access codes alone. -/
theorem State.writeAt_plainCodes (s : State) (a v : Nat) (fs : List Field) (hp : plainWord a = true) (hv : v < 2 ^ 32)
    (hd : s.dom (addrDom a) = true) (hq : s.inReset a = false) (hg : regAt a = some (fs, a, 1))
    (hl : fs.all (fun f => f.acc != .rwl) = true) (hh : s.hooked 0 a v false = none) :
    s.writeAt a v = { (s.putFields a v fs).noteWrite s a v fs with lastStatus := .ok } :=
  State.writeAt_codes s a v fs hv (s.route_word none true hp hd hq) (s.memWord_plain hp) hg (s.forBuddy_plain hp)
    (s.rwlRefused_free a v fs hl) hh (plainWord_scrub hp) (s.wordShut_plain hp)
    (((s.putFields a v fs).noteWrite s a v fs).mirrorWrite_plain v hp)

theorem State.inReset_none (s : State) {a : Nat} (h : blockOf a = none) : s.inReset a = false := by
  simp [State.inReset, h]

end Sys2Proof.Machine
end

