-- ==== Sys2Proof/Laws/Memory.lean ====
section
/-! SUPPORT. The memory's canonical form (addresses strictly rising, no data byte listed that reads as an unlisted one) is kept by every
operation on memory, and reset's memory has it; a byte reads back what was written there, and every other byte what it held. -/
namespace Sys2Proof.Machine

/-- An entry that the canonical form admits: of a code memory, or a data byte that is not 0. -/
def Memory.listed (e : Host.Cell) : Bool := isCode e.1 || e.2 != 0

/-- The canonical form by its two parts: rising addresses, entries that may be listed. -/
theorem Memory.wf_iff (m : List Host.Cell) :
    Memory.wf m = true ↔ m.Pairwise (fun x y => x.1 < y.1) ∧ ∀ e ∈ m, Memory.listed e = true := by
  induction m with
  | nil => simp [Memory.wf]
  | cons e r ih =>
    obtain ⟨a, b⟩ := e
    cases r with
    | nil => simp [Memory.wf, Memory.listed]
    | cons e' r' =>
      obtain ⟨a', b'⟩ := e'
      rw [Memory.wf, Bool.and_eq_true, Bool.and_eq_true, ih]
      constructor
      · rintro ⟨⟨h1, h2⟩, h3, h4⟩
        have h2 := of_decide_eq_true h2
        have h6 := (List.pairwise_cons.mp h3).1
        refine ⟨List.pairwise_cons.mpr ⟨fun x hx => ?_, h3⟩, fun x hx => ?_⟩
        · rcases List.mem_cons.mp hx with rfl | hx
          · exact h2
          · exact Nat.lt_trans h2 (h6 x hx)
        · rcases List.mem_cons.mp hx with rfl | hx
          · exact h1
          · exact h4 x hx
      · rintro ⟨h3, h4⟩
        have h5 := List.pairwise_cons.mp h3
        exact ⟨⟨h4 _ (List.mem_cons_self ..), decide_eq_true (h5.1 _ (List.mem_cons_self ..))⟩, h5.2,
          fun x hx => h4 x (List.mem_cons_of_mem _ hx)⟩

theorem Memory.wf_filter (m : List Host.Cell) (p : Host.Cell → Bool) (h : Memory.wf m = true) : Memory.wf (m.filter p) = true := by
  rw [Memory.wf_iff] at *
  exact ⟨h.1.filter _, fun e he => h.2 e (List.mem_of_mem_filter he)⟩

theorem SMap.erase_eq_filter {α : Type} (m : SMap α) (k : Nat) : SMap.erase m k = m.filter (fun e => e.1 != k) := by
  induction m with
  | nil => rfl
  | cons e r ih =>
    obtain ⟨k', v⟩ := e
    by_cases h : k = k'
    · subst h; simp [SMap.erase, ih]
    · have h' : k' ≠ k := fun c => h c.symm
      simp [SMap.erase, h, h', ih]

theorem SMap.mem_ins {α : Type} (m : SMap α) (k : Nat) (v : α) (e : Nat × α) (h : e ∈ SMap.ins m k v) : e = (k, v) ∨ e ∈ m := by
  induction m with
  | nil => simpa [SMap.ins] using h
  | cons e' r ih =>
    obtain ⟨k', v'⟩ := e'
    simp only [SMap.ins] at h
    split at h
    · simpa using h
    · split at h
      · simp only [List.mem_cons] at h ⊢; tauto
      · simp only [List.mem_cons] at h ⊢; tauto

theorem SMap.pairwise_ins {α : Type} (m : SMap α) (k : Nat) (v : α) (h : List.Pairwise (fun x y : Nat × α => x.1 < y.1) m) :
    List.Pairwise (fun x y : Nat × α => x.1 < y.1) (SMap.ins m k v) := by
  induction m with
  | nil => simp [SMap.ins]
  | cons e r ih =>
    obtain ⟨k', v'⟩ := e
    have hr := List.pairwise_cons.mp h
    simp only [SMap.ins]
    split
    · rename_i hk
      refine List.pairwise_cons.mpr ⟨?_, h⟩
      intro x hx
      rcases List.mem_cons.mp hx with rfl | hx
      · exact hk
      · exact Nat.lt_trans hk (hr.1 x hx)
    · split
      · subst k'; exact List.pairwise_cons.mpr hr
      · refine List.pairwise_cons.mpr ⟨?_, ih hr.2⟩
        intro x hx
        rcases SMap.mem_ins r k v x hx with rfl | hx
        · simp only; omega
        · exact hr.1 x hx

/-- A byte put keeps the canonical form. -/
theorem Memory.wf_put (m : List Host.Cell) (a : Nat) (b : Byte) (h : Memory.wf m = true) : Memory.wf (Memory.put m a b) = true := by
  unfold Memory.put SMap.set
  have ins (hl : Memory.listed (a, b) = true) : Memory.wf (SMap.ins m a b) = true := by
    rw [Memory.wf_iff] at *
    refine ⟨SMap.pairwise_ins m a b h.1, fun e he => ?_⟩
    rcases SMap.mem_ins m a b e he with rfl | he
    · exact hl
    · exact h.2 e he
  split
  · exact ins (by simp [Memory.listed, *])
  · split
    · rw [SMap.erase_eq_filter]; exact Memory.wf_filter m _ h
    · rename_i hb
      exact ins (by rw [Memory.listed, Bool.or_eq_true]; exact .inr (bne_iff_ne.mpr hb))

@[simp] theorem State.reset_memWf : State.reset.memWf = true := rfl
theorem State.writeByte_memWf (s : State) (a : Nat) (b : Byte) (h : s.memWf = true) : (s.writeByte a b).memWf = true :=
  Memory.wf_put s.mem a b h
theorem State.writeBytes_memWf (s : State) (a : Nat) (bs : List Byte) (h : s.memWf = true) : (s.writeBytes a bs).memWf = true := by
  induction bs generalizing s a with
  | nil => exact h
  | cons b r ih => exact ih _ _ (s.writeByte_memWf a b h)
theorem State.writeLe_memWf (s : State) (a n v : Nat) (h : s.memWf = true) : (s.writeLe a n v).memWf = true :=
  s.writeBytes_memWf a _ h
theorem State.dropMem_memWf (s : State) (lo hi : Nat) (h : s.memWf = true) : (s.dropMem lo hi).memWf = true :=
  Memory.wf_filter s.mem _ h
theorem State.putEcc_memWf (s : State) (a v : Nat) (h : s.memWf = true) : (s.putEcc a v).memWf = true := h
theorem State.put_memWf (s : State) (f : Field) (v : Nat) (h : s.memWf = true) : (s.put f v).memWf = true := h

/-! ### Bytes read after they are written -/

theorem SMap.find?_set_ne {α : Type} [DecidableEq α] (m : SMap α) {j k : Nat} (v d : α) (h : j ≠ k) :
    SMap.find? (SMap.set m k v d) j = SMap.find? m j := by
  unfold SMap.set
  split
  · exact SMap.find?_erase_ne m h
  · exact SMap.find?_ins_ne m v h

@[simp] theorem State.readByte_writeByte_same (s : State) (a : Nat) (b : Byte) : (s.writeByte a b).readByte a = b := by
  unfold State.readByte State.writeByte Memory.put
  by_cases hc : isCode a = true
  · simp [hc]
  · by_cases hb : b = 0
    · simp [hc, hb, SMap.set, unlisted]
    · rw [if_neg hc, SMap.set, if_neg hb, SMap.find?_ins_same]

theorem State.readByte_writeByte_ne (s : State) {a c : Nat} (b : Byte) (h : c ≠ a) : (s.writeByte a b).readByte c = s.readByte c := by
  have e : SMap.find? (Memory.put s.mem a b) c = SMap.find? s.mem c := by
    unfold Memory.put
    split
    · exact SMap.find?_ins_ne s.mem b h
    · exact SMap.find?_set_ne s.mem b 0 h
  simp only [State.readByte, State.writeByte, e]

/-- R5: bytes written are read back, and bytes outside them stay. -/
theorem State.readByte_writeBytes_out (s : State) (a c : Nat) (bs : List Byte) (h : c < a ∨ a + bs.length ≤ c) :
    (s.writeBytes a bs).readByte c = s.readByte c := by
  induction bs generalizing s a with
  | nil => rfl
  | cons b r ih =>
    simp only [List.length_cons] at h
    rw [State.writeBytes, ih _ _ (by omega), State.readByte_writeByte_ne s b (by omega)]

theorem State.readBytes_writeBytes (s : State) (a : Nat) (bs : List Byte) : (s.writeBytes a bs).readBytes a bs.length = bs := by
  induction bs generalizing s a with
  | nil => rfl
  | cons b r ih =>
    simp only [List.length_cons, State.readBytes, State.writeBytes, ih]
    rw [State.readByte_writeBytes_out _ _ _ _ (by omega), State.readByte_writeByte_same]

end Sys2Proof.Machine
end

