-- ==== Sys2Proof/Laws/Steps.lean ====
section
/-! SUPPORT. What a step, a passing of ticks and the fetch of an instruction row can do. -/
namespace Sys2Proof.Machine

/-- A step with a command waiting runs it on the rest of the queue. -/
theorem step_cons (c : Instr) (rest : List Instr) (s : State) (h : s.pending = c :: rest) :
    step s = exec c { s with pending := rest } := by
  unfold step; rw [h]

/-- A step with none waiting idles. -/
theorem step_nil (s : State) (h : s.pending = []) : step s = .next s.idle := by
  unfold step; rw [h]

/-- Ticks pass up to `t`, and never back. -/
theorem State.adv_tick (s : State) (t : Nat) : (s.adv t).time.tick = max s.time.tick t := by
  unfold State.adv
  simp only []
  split
  · omega
  · show t = _; omega

theorem State.adv_run (s : State) (t : Nat) : (s.adv t).time.run = s.time.run := by
  unfold State.adv
  simp only []
  split <;> rfl

/-- An advance changes the time base and nothing else. -/
theorem State.adv_only (s : State) (t : Nat) : s.adv t = { s with time := (s.adv t).time } := by
  unfold State.adv
  simp only []
  split <;> rfl

/-- R501: a read of a word without an error finds none and changes nothing. -/
theorem State.eccRead_clean (s : State) (a : Nat) (h : s.eccAt a = 0) : s.eccRead a = (s, false) := by
  unfold State.eccRead
  split
  · rfl
  · rename_i e; rw [h] at e; cases e
  · rename_i e _; exact absurd h e

/-- An option that holds nothing but `w` is `w` where `w` stands for nothing. -/
theorem Option.getD_of_all {o : Option Nat} {w : Nat} (h : o.all (· == w) = true) : o.getD w = w := by
  cases o <;> simp_all

/-- An instruction row whose word is ready executes, and does nothing but execute. -/
theorem State.issue_ready (s : State) (c w : Nat) (run : State → State) (h : s.readyFor c w = true) :
    s.issue c w run = run (s.fetched c) := by
  simp only [State.readyFor, State.fetches, Bool.or_eq_true, Bool.and_eq_true, beq_iff_eq, Bool.not_eq_true',
    Option.any_eq_true] at h
  obtain ⟨⟨⟨⟨h1, h2⟩, h3⟩, h4⟩, h5⟩ | ⟨v, hv, ⟨⟨⟨⟨h1, h2⟩, _⟩, h4⟩, h6⟩, h5⟩ := h
  · have r := State.eccRead_clean (s.setCore c { s.core c with brkPass := false }) (codeAddr c (s.core c).pc) h4
    have hv := Option.getD_of_all h3
    unfold State.issue State.fetch State.fetched
    simp only [hv, h1, h2, r, h5]; simp
  · have r := State.eccRead_clean (s.setCore c { s.core c with brkPass := false }) (codeAddr c (s.core c).pc) h4
    unfold State.issue State.fetch State.fetched
    simp only [hv, Option.getD_some, h1, h2, r, h5, h6]; simp

/-- A row of a core that cannot issue, or that meets another legal word, changes nothing. -/
theorem State.issue_not (s : State) (c w : Nat) (run : State → State)
    (h : s.canIssue c = false ∨ ∃ v, s.loadedWord c = some v ∧ v ≠ w ∧ wCanon v ≠ w ∧ legal c v = true) : s.issue c w run = s := by
  unfold State.issue
  obtain h | ⟨v, h1, h2, h3, h4⟩ := h
  · simp [h]
  · simp [h1, h2, h3, h4]

/-- An illegal word that is fetched takes ILLEGAL. -/
theorem State.issue_illegal (s : State) (c w : Nat) (run : State → State) (h : s.fetches c w = true) (hl : legal c w = false) :
    s.issue c w run = (s.fetched c).exceptFree c xILLEGAL := by
  simp only [State.fetches, Bool.and_eq_true, beq_iff_eq, Bool.not_eq_true'] at h
  obtain ⟨⟨⟨h1, h2⟩, h3⟩, h4⟩ := h
  have r := State.eccRead_clean (s.setCore c { s.core c with brkPass := false }) (codeAddr c (s.core c).pc) h4
  have hv := Option.getD_of_all h3
  unfold State.issue State.fetch State.fetched
  simp only [hv, h1, h2, r, hl]; simp

/-- R156, R157, R161: an instruction that ends touches its core alone. -/
theorem State.done_core (s : State) (c : Nat) (srcs : List Nat) (dst : Option (Nat × Nat)) (fl : Flags → Flags) (cost lat : Nat) :
    (s.done c srcs dst fl cost lat).core c = (s.core c).finish srcs dst fl cost lat (s.pcNext c) := by
  simp [State.done]

theorem State.done_core_ne (s : State) {c d : Nat} (srcs : List Nat) (dst : Option (Nat × Nat)) (fl : Flags → Flags) (cost lat : Nat)
    (h : d ≠ c) : (s.done c srcs dst fl cost lat).core d = s.core d := by
  simp [State.done, State.core_setCore_ne _ _ h]

end Sys2Proof.Machine
end

