-- ==== Sys2Proof/WellFormed.lean ====
section
/-! DEFINITION. What the types of Syntax do not say of a command's operands. -/
namespace Sys2Proof

/-- R375: a message: reserved bits of the TAG word 0, a payload of at most 256 bytes. -/
def Msg.wf (m : Msg) : Bool := decide (m.tagw.toNat < 0x4000) && decide (m.payload.length ≤ 256)

/-- The operands of a command are in their ranges: messages as R375 lays them out, an I2C transfer of at most 32 bytes each
way (R437), a token of 164 bytes (R485), a MAC of 32 (R388), bytes that fit SEC_STAGE (R500), a word address for the
scrubber (R503). -/
def Instr.wf (i : Instr) : Bool :=
  match i with
  | .registerWrite _ _ _ _ => true
  | .lowWordRead _ _ => true
  | .pixelEdge _ _ => true
  | .holdTake _ _ => true
  | .holdLineExpiry _ _ => true
  | .coincidence _ _ _ => true
  | .fineTimeCompute _ _ => true
  | .interpolatorRelease _ _ => true
  | .ringFault _ _ => true
  | .interpolatorReturn _ _ => true
  | .trailingEdge _ _ => true
  | .totSaturation _ => true
  | .hitWordWrite _ => true
  | .configWordWrite _ _ _ => true
  | .configTransfer _ _ _ => true
  | .configReadback _ _ => true
  | .cfgStatClr _ => true
  | .stripeThrWrite _ _ => true
  | .anaGlobalWrite _ => true
  | .fire _ => true
  | .testPulse _ => true
  | .testPulseReturn _ => true
  | .testPulseTrainEnd _ => true
  | .fsumCommitRequest => true
  | .fsumCommit => true
  | .biasApply _ => true
  | .biasSettled _ => true
  | .calibrationEdge _ _ _ => true
  | .calibrationAccept _ _ => true
  | .rebuildComplete _ _ => true
  | .fretCommit _ _ => true
  | .ageIncrement _ _ => true
  | .manualCommit _ _ => true
  | .calibrationModeWrite _ _ => true
  | .ageLimWrite _ _ => true
  | .bclr _ => true
  | .shadowTableWrite _ _ _ _ => true
  | .tinPinEdge _ _ => true
  | .prescaledEdge _ _ => true
  | .edgeStamp _ => true
  | .gateChange _ _ => true
  | .intervalAbandon _ => true
  | .tinCfgWrite _ _ => true
  | .tinStatClr => true
  | .go _ => true
  | .halt _ => true
  | .coreQuiesced _ => true
  | .coreIdle _ => true
  | .coreTimerExpiry _ _ => true
  | .markEvent _ => true
  | .coreWatchdog _ => true
  | .wdogKick _ => true
  | .codeMemoryWrite _ _ _ => true
  | .mboxPost _ _ _ _ => true
  | .bistStart _ => true
  | .bistDone _ _ => true
  | .adoptRequest _ => true
  | .returnRequest _ => true
  | .adoptionSwitch _ => true
  | .adoptTimeout _ => true
  | .interruptEntry _ => true
  | .add _ _ _ _ => true
  | .sub _ _ _ _ => true
  | .and _ _ _ _ => true
  | .or _ _ _ _ => true
  | .xor _ _ _ _ => true
  | .shl _ _ _ _ => true
  | .shr _ _ _ _ => true
  | .sar _ _ _ _ => true
  | .mul _ _ _ _ => true
  | .mulhu _ _ _ _ => true
  | .minu _ _ _ _ => true
  | .maxu _ _ _ _ => true
  | .slt _ _ _ _ => true
  | .sltu _ _ _ _ => true
  | .clz _ _ _ _ => true
  | .popc _ _ _ _ => true
  | .addi _ _ _ _ => true
  | .andi _ _ _ _ => true
  | .ori _ _ _ _ => true
  | .xori _ _ _ _ => true
  | .shli _ _ _ _ => true
  | .shri _ _ _ _ => true
  | .sari _ _ _ _ => true
  | .ldi _ _ _ _ => true
  | .ins _ _ _ _ => true
  | .ext _ _ _ _ _ _ => true
  | .exts _ _ _ _ _ _ => true
  | .dep _ _ _ _ _ _ => true
  | .ld _ _ _ _ => true
  | .lw _ _ _ _ => true
  | .lh _ _ _ _ => true
  | .lb _ _ _ _ => true
  | .st _ _ _ _ => true
  | .sw _ _ _ _ => true
  | .sh _ _ _ _ => true
  | .sb _ _ _ _ => true
  | .hincH _ _ _ _ => true
  | .hincW _ _ _ _ => true
  | .beq _ _ _ _ => true
  | .bne _ _ _ _ => true
  | .blt _ _ _ _ => true
  | .bge _ _ _ _ => true
  | .bltu _ _ _ _ => true
  | .bgeu _ _ _ _ => true
  | .bf _ _ _ _ => true
  | .dbnz _ _ _ => true
  | .jal _ _ _ _ => true
  | .jalr _ _ _ _ => true
  | .hpopS _ _ => true
  | .hpopA _ _ => true
  | .hcnt _ _ _ _ => true
  | .text _ _ _ _ => true
  | .walk _ _ _ _ => true
  | .tnow _ _ _ _ => true
  | .tsub _ _ _ _ => true
  | .bin _ _ _ _ => true
  | .send _ _ _ _ _ => true
  | .sendP _ _ _ _ _ => true
  | .wait _ _ _ _ => true
  | .waitComplete _ => true
  | .eclr _ _ _ _ => true
  | .mpop _ _ _ _ => true
  | .msg _ _ _ _ => true
  | .mrecv _ _ _ _ => true
  | .rsel _ _ _ _ => true
  | .csrr _ _ _ _ => true
  | .csrw _ _ _ _ => true
  | .nop _ _ _ => true
  | .eret _ => true
  | .clack _ => true
  | .rreq _ _ => true
  | .trap _ _ => true
  | .busr _ _ _ => true
  | .busrComplete _ => true
  | .busw _ _ _ _ => true
  | .buswComplete _ => true
  | .bfence _ _ _ _ => true
  | .bfenceComplete _ => true
  | .crecv _ _ => true
  | .hbeat _ _ _ _ => true
  | .crc32c _ _ _ _ => true
  | .epoch _ _ _ _ => true
  | .reload _ => true
  | .libraryHit _ => true
  | .libraryMark _ => true
  | .frameClose _ _ => true
  | .periodClose _ _ => true
  | .clusterClose _ _ => true
  | .markGroupClose _ _ => true
  | .libraryClose _ => true
  | .waveEnable _ => true
  | .initialCalibrationEnd _ _ _ => true
  | .sampleTick _ _ => true
  | .matchPhaseStart _ => true
  | .tuningHold _ _ _ _ => true
  | .rotationCommit => true
  | .scal => true
  | .selfCalibrationEnd _ _ _ => true
  | .samplingResume => true
  | .retry => true
  | .correctionSetWrite _ _ _ => true
  | .triggerFire => true
  | .regionRequest => true
  | .trgCmd _ => true
  | .triggerConfigWrite _ _ _ => true
  | .trigOutRise => true
  | .trigOutFall => true
  | .sampleRecord _ => true
  | .waveIntervalRecord _ => true
  | .windowEnd _ => true
  | .mergeWord => true
  | .ballastCountReport _ => true
  | .ballastIntervalEnd => true
  | .commit _ => true
  | .commitChecksDone => true
  | .commitInForce => true
  | .streamOpenRequest _ _ => true
  | .streamOpen _ => true
  | .streamCloseRequest _ _ => true
  | .streamClose _ => true
  | .streamSendCutoff _ => true
  | .streamClosed _ => true
  | .epochMark => true
  | .flush _ _ => true
  | .flushTick _ => true
  | .flushTimer _ => true
  | .blockRoute _ => true
  | .discardIntervalEnd => true
  | .srcPermitRise _ => true
  | .laneMuxPlace _ => true
  | .memoryInit => true
  | .memoryResetRelease => true
  | .modeRegisterWrite => true
  | .trainingComplete _ => true
  | .oscillatorReadout _ => true
  | .retrainComplete _ => true
  | .brickWrite => true
  | .brickWriteComplete _ _ => true
  | .operationTimeout _ _ => true
  | .drainRead _ => true
  | .drainReadComplete _ _ => true
  | .pageQuarantineEnd => true
  | .txFrame _ _ => true
  | .rxFrame _ _ _ _ _ _ _ _ _ _ => true
  | .rxLaneEnable _ => true
  | .rxLock _ => true
  | .rxLockTimeout _ => true
  | .rxMeasureDone _ _ _ => true
  | .rxLockLost _ => true
  | .rxDownRetry _ => true
  | .rxRetrain _ => true
  | .hostLaneReport _ => true
  | .hostReportTimeout _ => true
  | .txCandidateSelection _ => true
  | .txCandidateDwell _ => true
  | .spareSubstitution _ => true
  | .lmapWrite _ _ => true
  | .lmapApply _ => true
  | .laneGroupWrite _ _ => true
  | .slipWrite _ _ => true
  | .txCtrlWrite _ _ => true
  | .clockSet => true
  | .setTick => true
  | .clockSnap => true
  | .snapTick => true
  | .timeFrameRx _ _ _ _ _ _ _ _ => true
  | .servoStep => true
  | .servoTimeout => true
  | .referenceCheck _ _ _ _ => true
  | .referenceLoss => true
  | .refselWrite _ => true
  | .pllUnlock => true
  | .pllRelock => true
  | .tetherMessage _ mm _ _ _ => mm.wf
  | .hostControlMessage mm _ => mm.wf
  | .read _ mm => mm.wf
  | .write _ mm => mm.wf
  | .postedWriteExecute _ => true
  | .fence _ mm => mm.wf
  | .fenceComplete _ => true
  | .claim _ mm _ => mm.wf
  | .handover _ mm => mm.wf
  | .release _ mm => mm.wf
  | .tetherReset _ mm => mm.wf
  | .join _ => true
  | .leave _ mm => mm.wf
  | .number _ _ => true
  | .ping _ mm => mm.wf
  | .portInsert _ => true
  | .portRemove _ => true
  | .noticeRetry _ => true
  | .wake _ => true
  | .leaseExpiry => true
  | .handoverTimeout => true
  | .heartbeatTimeout _ => true
  | .lockstepMismatch _ => true
  | .selfcheck _ => true
  | .restartGrant => true
  | .mirrorFrozen => true
  | .grantRise => true
  | .failoverCommand => true
  | .standbyResetCommand => true
  | .mirrorFrame _ => true
  | .mirrorStale => true
  | .keelSelfTest _ => true
  | .keelSelfTestDone _ _ => true
  | .mirrorLoadDone _ => true
  | .keelTestStart _ => true
  | .conductorGo _ => true
  | .conductorHalt _ => true
  | .conductorCodeWrite _ _ _ => true
  | .conductorTimer _ => true
  | .conductorMessage => true
  | .regularSequenceStart => true
  | .slotResult _ _ _ => true
  | .overTemperature _ => true
  | .injectedSequenceStart => true
  | .monQueuePop _ => true
  | .monQueueClear => true
  | .sensorConfigWrite _ _ => true
  | .i2cCommand _ _ _ => true
  | .i2cCommandDone _ _ _ _ data => decide (data.length ≤ 32)
  | .i2cTimeout => true
  | .i2cEnable _ _ => true
  | .busRecoveryDone _ => true
  | .targetWrite _ => true
  | .armedEntry => true
  | .timeBaseStart => true
  | .acquireEntry => true
  | .acquireExit => true
  | .standbyDescent => true
  | .quiesceDone => true
  | .standbyEntry => true
  | .keepEntry => true
  | .domainEnableWrite _ => true
  | .domainPowerUp _ => true
  | .domainPowerGood _ => true
  | .domainPowerFail _ => true
  | .latchUp _ _ => true
  | .latchUpRepower _ => true
  | .domainFailClear _ => true
  | .droop _ => true
  | .brownOut => true
  | .powerOnReset => true
  | .resetNPin => true
  | .supplyRemoved => true
  | .deviceWatchdog => true
  | .deviceWatchdogKick => true
  | .lifecycleSense => true
  | .optionLoad => true
  | .clockPowerUp => true
  | .bootImage => true
  | .keelPowerUp => true
  | .digitalPowerUp => true
  | .laneTableLoad => true
  | .bootComplete => true
  | .prog => true
  | .optionProgramDone _ _ => true
  | .softwareReset _ => true
  | .quiesceAcknowledge _ => true
  | .quiesceTimeout _ => true
  | .accessTimeout _ _ => true
  | .program _ _ => true
  | .programComplete _ => true
  | .erase _ _ => true
  | .load _ _ => true
  | .loadComplete => true
  | .provision _ _ => true
  | .sealPart _ _ => true
  | .returnPart _ _ => true
  | .voidPart _ _ => true
  | .setkey _ _ => true
  | .raiseSvn _ _ => true
  | .unlock _ _ => true
  | .lock _ _ => true
  | .attest _ _ => true
  | .dchal _ mm => mm.wf
  | .dunlock _ mm => mm.wf
  | .dlock _ mm => mm.wf
  | .dhalt _ mm => mm.wf
  | .drun _ mm => mm.wf
  | .dstep _ mm => mm.wf
  | .dbrk _ mm => mm.wf
  | .drd _ mm => mm.wf
  | .dwr _ mm => mm.wf
  | .extest _ => true
  | .samplePreload _ => true
  | .idcode => true
  | .clamp => true
  | .highz => true
  | .extestPulse _ => true
  | .extestTrain _ => true
  | .engdbg _ _ _ _ => true
  | .bypass _ => true
  | .testLogicReset => true
  | .uartCharacter _ => true
  | .monitorLine => true
  | .helpPrint => true
  | .idPrint => true
  | .rdWords _ _ => true
  | .statPrint => true
  | .logPrint => true
  | .lifePrint => true
  | .chalPrint => true
  | .monitorUnlock token => token.length == 164
  | .levelSet _ => true
  | .monitorClaim mac _ => mac.isEmpty || mac.length == 32
  | .monitorRelease => true
  | .monitorHandover _ => true
  | .wrWord _ _ => true
  | .monitorFence => true
  | .stateWrite _ => true
  | .monitorReset => true
  | .stageBytes o bytes => decide (o.toNat + bytes.length ≤ 49152)
  | .secCommand _ _ => true
  | .dbgOp _ payload => decide (payload.length ≤ 256)
  | .scrub addr _ => match addr with
    | .word a => a % 4 == 0
    | _ => true
  | .tmrUpset _ _ => true
  | .errorLogClear => true
  | .errorEntryRead _ _ => true
  | .recoveryPeriodEnd _ => true
  | .lifeLogCommit => true
  | .commitRequest => true
  | .lifeLogCommitDone => true
  | .deferredCommitRetry => true
  | .holdupCheck _ _ _ => true
  | .histogramSample => true
  | .slotStart _ => true
  | .healthTestFail => true

end Sys2Proof
end

