-- ==== Sys2Proof/Tests/Slice0.lean ====
section
/-! SUPPORT. The model's own tests: for every clause of the obligations a state and operands that meet its hypotheses, with what the
command answers there; the well-formedness smoke; worked examples of the spec. -/
namespace Sys2Proof.Tests
set_option Elab.async false
open Sys2Proof Sys2Proof.Machine

/-- A state from reset with fields set. -/
def st (l : List (Machine.Field × Nat)) : State := l.foldl (fun s e => s.put e.1 e.2) State.reset

/-- Every domain on, in ARMED, the time base running at tick 1,000. -/
def base (l : List (Machine.Field × Nat)) : State :=
  { st ((Reg.PR_DOM_PG_PG, 2 ^ 36 - 1) :: (Reg.PR_STATE_STATE, 3) :: l) with time := ⟨1000, true, 0, 0, 0⟩ }

/-- What a command answers, as a state. -/
def after (i : Instr) (s : State) : State :=
  match exec i s with
  | .next t => t
  | _ => s


/-- The error log full of entries of high severity: another of low or medium severity is dropped. -/
def fullLog (s : State) : State :=
  { (List.range 32).foldl (fun a i => a.put (Reg.EL_ENTRY0_SEV i) 3) s with errOrder := List.range 32 }

/-! ### The queue and the registers -/

theorem test_step :
    let s := base []
    (match step { s with pending := [.commitRequest, .healthTestFail] } with
     | .next t => t.pending == [.healthTestFail] && t.checks == [0]
     | _ => false) = true ∧
    (match step s with
     | .next t => t.time.tick == 1001
     | _ => false) = true ∧
    (match step State.reset with
     | .next t => t == State.reset
     | _ => false) = true := by decide +kernel
theorem test_registerWrite :
    let s := base [(Reg.PR_IRQ_STAT_IRQ, 0xF0), (Reg.PR_DOM_FAIL_FAIL, 2 ^ 35 + 7)]
    let w := fun (a v : BitVec 32) => after (.registerWrite 0 0 a v) s
    s.plainAccess 0x20050 = true ∧ (s.hooked 0 0x20050 0x30 false).isNone = true ∧ s.rwlRefused 0x20050 0x30 [Reg.PR_IRQ_STAT_IRQ] = false ∧
    (w 0x20050 0x30).get Reg.PR_IRQ_STAT_IRQ = 0xC0 ∧ (w 0x20050 0x30).lastStatus = .ok ∧ (w 0x20051 0x30).lastStatus = .badAddress ∧
    (w 0xB0000 1).lastStatus = .badAddress ∧ s.plainAccess 0x80000 = true ∧ s.plainAccess 0x500C0 = true ∧ (regAt 0x500C0).isNone = true ∧
    (w 0x500C0 1).lastStatus = .badAddress ∧ (w 0x20018 1).get Reg.PR_DOM_FAIL_FAIL = 2 ^ 35 + 6 ∧
    (w 0x2001C 8).get Reg.PR_DOM_FAIL_FAIL = 7 ∧ (after (.registerWrite 0 0 0x40000 1) State.reset).lastStatus = .domainOff := by decide +kernel
theorem test_registerWrite_locked :
    let s := base [(Reg.SEC_STAT_LC, 2), (Reg.OPT_BUF_W 3, 5)]
    s.plainAccess 0x1010C = true ∧ s.locked = true ∧ (after (.registerWrite 4 0 0x1010C 6) s).lastStatus = .prot ∧
    (after (.registerWrite 4 0 0x1010C 5) s).lastStatus = .ok ∧ (after (.registerWrite 4 0 0x1010C 6) (s.put Reg.SEC_STAT_LC 3)).get (Reg.OPT_BUF_W 3) = 6 := by
  decide +kernel
theorem test_registerWrite_64 :
    let s := base []
    let t := after (.registerWrite 1 0 0x30010 0x11112222) s
    s.plainAccess 0x30010 = true ∧ (regAt 0x30010).map (fun x => (x.2, holdsLow x.1)) = some ((0x30010, 2), true) ∧
    SMap.find? t.heldLo 0x30010 = some 0x11112222 ∧ t.regs = s.regs ∧ t.plainAccess 0x30014 = true ∧
    (match regAt 0x30014 with
     | some (f :: _, _, _) => (after (.registerWrite 1 0 0x30014 0x3333) t).get f == 0x333311112222
     | _ => false) = true := by decide +kernel
theorem test_wideRegisters_keel :
    let s := base [(Reg.ARB_STAT_GRANT, 2), (Reg.KL_STAT_ROLE 1, 1)]
    let t := after (.registerWrite 4 0 0x1A0020 5) s
    let r := fun (w : Bool) (x : Nat) => s.route none w x == .word x
    r true 0x1A0020 = true ∧ r true 0x1A0024 = true ∧ s.memWord 0x1A0020 = none ∧ (regAt 0x1A0024).map (fun x => (x.2, holdsLow x.1)) = some ((0x1A0020, 2), true) ∧
    SMap.find? t.heldLo 0x1A0020 = some 5 ∧ (after (.registerWrite 4 0 0x1A0024 3) t).heldLo = [] ∧
    (match regAt 0x1A0024 with
     | some (f :: _, _, _) => (after (.registerWrite 4 0 0x1A0024 3) t).get f == 3 * 2 ^ 32 + 5
     | _ => false) = true := by decide +kernel
theorem test_unmapped :
    let s := base []
    (s.route (epochOf 4 0) true 0x40050000 == .word 0x40050000) = true ∧ (s.route none false 0x300004 == .word 0x300004) = true ∧
    (s.memWord 0x4005FFF0).isNone = true ∧ (regAt 0x4005FFF0).isNone = true ∧ (after (.registerWrite 4 0 0x4005FFF0 1) s).lastStatus = .badAddress ∧
    (after (.lowWordRead 4 0x4005FFF0) s).lastStatus = .badAddress ∧ (after (.lowWordRead 4 0x4005FFF0) s).lastData = [0] ∧
    (after (.lowWordRead 4 0xB0000) s).lastStatus = .badAddress := by decide +kernel
theorem test_registerWrite_windows :
    let s := base [(Reg.ARB_STAT_EPOCH, 3), (Reg.ARB_STAT_GRANT, 1), (Reg.ADOPT_STAT_EPOCH 5, 2)]
    (after (.registerWrite 0 2 0x200000 0) s).lastStatus = .roleStale ∧
    (after (.registerWrite 0 3 0x200000 0) (s.put Reg.ARB_STAT_PHASE 1)).pending = [] ∧ s.servedBy 5 = 5 ∧ s.dom (addrDom (reWindow 5 + 0x400)) = true ∧
    (after (.registerWrite 0 1 0x50050400 7) s).lastStatus = .adoptStale ∧ (after (.registerWrite 0 2 0x50050400 7) s).lastStatus = .ok := by
  decide +kernel
theorem test_lowWordRead :
    let s := base [(Reg.PR_DOM_FAIL_FAIL, 0x912345678)]
    let t := after (.lowWordRead 2 0x20018) s
    s.plainAccess 0x20018 = true ∧ scrubMem 0x20018 = none ∧ t.lastData = [0x12345678] ∧ SMap.find? t.latchHi (2 * 2 ^ 32 + 0x2001C) = some 9 ∧
    (after (.lowWordRead 2 0x2001C) (t.put Reg.PR_DOM_FAIL_FAIL 0)).lastData = [9] ∧ (after (.lowWordRead 2 0x2001C) s).lastData = [9] ∧
    (after (.lowWordRead 2 0x20019) s).lastStatus = .badAddress ∧ (after (.lowWordRead 2 0x30010) State.reset).lastStatus = .domainOff ∧
    s.plainAccess 0x60110 = true ∧ (after (.lowWordRead 2 0x60110) s).lastData = [0] := by decide +kernel
/-! ### The pixel matrix -/

theorem test_configWordWrite :
    let s := base []
    s.dom (addrDom (reWindow 802)) = true ∧ s.inReset (reWindow 802) = false ∧
    (after (.configWordWrite 802 2 0x84A380A0) s).cfgWord 802 5 = 0x84A0 := by decide +kernel

def sLoad : State := (base []).setRegion 802 { RegionSt.reset with shifting := some (5, 0x0420) }

theorem test_configTransfer :
    (sLoad.region 802).shifting = some (5, 0x0420) ∧ sLoad.dom (domDig (stripeOf 802)) = true ∧
    sLoad.dom (domAna (stripeOf 802)) = true ∧
    (after (.configTransfer 802 7 0x000F) sLoad).latchOf (802 * 128 + 5) = 0x0420 := by decide +kernel

/-- R63: an upset is repaired, but for a word that is pending again (notes/assumptions/85.md). -/
theorem test_configTransfer_upset :
    let again := sLoad.setRegion 802 { sLoad.region 802 with pend := [5] }
    (after (.configTransfer 802 7 0x0100) sLoad).latchOf (802 * 128 + 5) = 0x0520 ∧
    (after (.configTransfer 802 7 0x0100) sLoad).get (Reg.CFG_STAT_REPAIRS 6) = 1 ∧
    ((after (.configTransfer 802 7 0x0100) sLoad).region 802).shifting = some (5, 0x80A0) ∧
    (again.region 802).pend.contains 5 = true ∧ (after (.configTransfer 802 7 0x0100) again).latchOf (802 * 128 + 5) = 0x0420 ∧
    (after (.configTransfer 802 7 0x0100) again).get (Reg.CFG_STAT_REPAIRS 6) = 0 := by decide +kernel

theorem test_configReadback :
    let s := base []
    s.region 802 = RegionSt.reset ∧ s.latchOf 102661 = s.cfgWord 802 5 ∧
    (after (.configReadback 102661 0x0100) s).get (Reg.CFG_STAT_REPAIRS 6) = 1 ∧ after (.configReadback 102661 0x000F) s = s ∧
    after (.configReadback 102661 0x0100) sLoad = sLoad ∧
    (after (.configReadback 102662 0x0100) sLoad).get (Reg.CFG_STAT_REPAIRS 6) = 1 := by decide +kernel

theorem test_cfgStatClr :
    let s := base [(Reg.CFG_STAT_REPAIRS 7, 9)]
    s.dom 0 = true ∧ (after (.cfgStatClr 7) s).get (Reg.CFG_STAT_REPAIRS 7) = 0 := by decide +kernel

theorem test_stripeThrWrite : (after (.stripeThrWrite 7 30) (base [])).get (Reg.STRIPE_THR_THR 7) = 30 := by decide +kernel

theorem test_anaGlobalWrite :
    (∀ j : Fin 8, (base []).get (Reg.STRIPE_STATE_BIAS j.val) = 0) ∧
    (after (.anaGlobalWrite 0x31) (base [])).get Reg.ANA_GLOBAL_FSUM_ATT = 3 := by decide +kernel

theorem test_biasApply : (after (.biasApply 7) (base [(Reg.STRIPE_STATE_BIAS 7, 1)])).get (Reg.STRIPE_STATE_BIAS 7) = 2 := by
  decide +kernel
theorem test_biasSettled : (after (.biasSettled 7) (base [(Reg.STRIPE_STATE_BIAS 7, 2)])).get (Reg.STRIPE_STATE_BIAS 7) = 3 := by
  decide +kernel

theorem test_fsumCommitRequest : (after .fsumCommitRequest (base [])).fsumDue = some 1004 := by decide +kernel
theorem test_fsumCommit :
    let s := { base [(Reg.FSUM_SEL_SEL 3 1, 5)] with fsumDue := some 1004 }
    s.fsumDue = some 1004 ∧ s.time.run = true ∧ SMap.get s.cyc.wrote Reg.FSUM_CTRL_COMMIT.key 0 = 0 ∧ SMap.get (after .fsumCommit s).fsumSel 13 0 = 5 := by decide +kernel

theorem test_fire :
    let s := base []
    s.get (Reg.TP_CTRL_FIRE 6) = 0 ∧ s.get (Reg.TP_CTRL_COUNT 6) = 1 ∧ s.get (Reg.TP_CTRL_PERIOD 6) = 0x200 ∧
    SMap.find? (after (.fire 6) s).trains 6 = some ⟨1016, 0, false⟩ := by decide +kernel

def sTrain (next : Nat) (high : Bool) : State :=
  { base [(Reg.TP_CTRL_COUNT 6, 1000), (Reg.TP_CTRL_PERIOD 6, 625), (Reg.TP_CTRL_FIRE 6, 1)] with trains := [(6, ⟨1016, next, high⟩)] }

/-- R73's worked example: pulse n of the train with PERIOD 625 is launched on tick t + 5,000 n. -/
theorem test_testPulse :
    SMap.find? (sTrain 2 false).trains 6 = some ⟨1016, 2, false⟩ ∧
    (after (.testPulse 6) (sTrain 2 false)).time.tick = 1016 + 5000 * 2 := by decide +kernel
/-- R72: a pixel with TPEN = 1 is injected by it, one without is not. -/
theorem test_inject :
    let t := after (.testPulse 6) { sTrain 2 false with latches := [(102660, 0x8020), (102661, 0x8060)] }
    t.injs.map (fun e => (e.1, e.2.tick)) = [(102661, 11016)] := by decide +kernel
theorem test_testPulseReturn :
    (after (.testPulseReturn 6) (sTrain 3 true)).time.tick = 1016 + 5000 * 2 + 4 * 625 := by decide +kernel
theorem test_testPulseTrainEnd :
    (after (.testPulseTrainEnd 6) (sTrain 1000 true)).get (Reg.TP_CTRL_FIRE 6) = 0 := by decide +kernel

/-! ### Hits, interpolators, fret tables and the edge unit -/

/-- Region 802 live: stripe 6 biased, pixel 102,661 unmasked. -/
def sLive (l : List (Machine.Field × Nat)) : State :=
  { base ((Reg.STRIPE_STATE_BIAS 6, 3) :: (Reg.TU_STAT_PLLLOCK, 1) :: (Reg.CORE_STAT_STATE 802, 2) :: l) with latches := [(102661, 0x8020)] }

theorem test_pixelEdge :
    let s := sLive []
    s.canRise 102661 163840000 = true ∧ s.connected 102661 = true ∧ (s.region 802).hold = [] ∧
    (s.region 802).cyc.1 ≠ 163840000 / 81920 ∧
    (s.mayServe 802).filter (fun j => (s.interp 802 j).phase == .free) = [0, 1, 2, 3, 4, 5, 6, 7] ∧
    ((after (.pixelEdge 102661 163840000) s).interp 802 0).start = 163840000 := by decide +kernel

/-- R81: of two edges in one claim cycle the lower pixel takes the next interpolator, whichever comes first. -/
theorem test_claimCycle :
    let s := { sLive [] with latches := [(102660, 0x8020), (102661, 0x8020)] }
    let t := after (.pixelEdge 102660 163840001) (after (.pixelEdge 102661 163840000) s)
    (∀ x : Fin 8, (s.interp 802 x.val).phase = .free) ∧ s.mayServe 802 = [0, 1, 2, 3, 4, 5, 6, 7] ∧
    s.canRise 102660 163840001 = true ∧ s.connected 102660 = true ∧
    (t.interp 802 0).who = 102660 ∧ (t.interp 802 1).who = 102661 := by decide +kernel

def sHold : State :=
  (((sLive []).setRegion 802 { RegionSt.reset with hold := [(102661, 0)], rr := 6 }).setInterp 802 6
    { InterpSt.reset with freeAt := 716801 }).setInterp 802 7 { InterpSt.reset with freeAt := 716800 } |> fun s =>
    (List.range 6).foldl (fun a i => a.setInterp 802 i { InterpSt.reset with phase := .converting }) s

/-- The worked example of chapter 3: an interpolator free 3.5 ns after the edge arrived takes it at tap 9, 3.6 ns. -/
theorem test_holdTake :
    sHold.freedFirst 802 ((sHold.mayServe 802).filter (fun j => (sHold.interp 802 j).phase == .free)) = some 7 ∧
    holdTap 0 (sHold.interp 802 7).freeAt = 9 ∧
    ((after (.holdTake 802 0) sHold).interp 802 7).start = 9 * 81920 := by decide +kernel

def sHoldEdge : State := (base [(Reg.TU_STAT_PLLLOCK, 1)]).setTin 3 { TinSt.reset with hold := some (0, ⟨3, 1, 0, 0, 0, none, none, false⟩) }
theorem test_holdTakeEdge :
    sHoldEdge.freedFirst edgeUnit ((sHoldEdge.tinPair 3).filter (fun j => (sHoldEdge.interp edgeUnit j).phase == .free))
      = some 6 ∧ ((after (.holdTake 1024 3) sHoldEdge).interp edgeUnit 6).tap = 1 := by decide +kernel

/-- R85: of edges of one claim cycle the one that arrived first reaches tap 25 first. -/
theorem test_holdLineExpiry :
    let s := sHold.setRegion 802 { RegionSt.reset with hold := [(102660, 9), (102661, 0)] }
    (after (.holdLineExpiry 802 0) s).get (Reg.BUSY_CNT_COUNT 802 5) = 1 ∧
    ((after (.holdLineExpiry 802 0) s).region 802).hold = [(102660, 9)] := by decide +kernel
theorem test_holdLineExpiryEdge : (after (.holdLineExpiry 1024 3) sHoldEdge).get (Reg.TIN_STAT_BUSY 3) = 1 := by decide +kernel

def sConv : State :=
  ((sLive [(Reg.FT_OFS_ACTIVE 802 7, 0x10000 - 40)]).setInterp 802 7
    { InterpSt.reset with phase := .converting, who := 102661, start := 1000, tickS := 5000, tap := 9, act := [(71, 9104)] }).setHit
      102661 ⟨500, none, 0, false, none⟩
theorem test_coincidence :
    (sConv.interp 802 7).phase = .converting ∧
    ((after (.coincidence 802 7 71) sConv).interp 802 7).freeAt = 1000 + 71 * 53248 + 1024000 := by decide +kernel

/-- The worked example of chapter 3: raw code 71, E[71] = 9,104, offset −40, tap 9, S = 5,000 give tick 4,995, fine time 226. -/
theorem test_fineTimeCompute :
    let s := after (.coincidence 802 7 71) sConv
    (s.interp 802 7).phase = .releasing ∧ (s.interp 802 7).code = some 71 ∧ (s.interp 802 7).fine = none ∧
    s.eccAt (actAddr 802 7 35) = 0 ∧
    ((after (.fineTimeCompute 802 7) s).hit? 102661).map (·.conv) = some (some (4995 * 1024 + 226)) := by decide +kernel

def sConvEdge : State :=
  { base [] with edgeTags := [(6, ⟨3, 5, 2, 0x80000000, 0, none, none, false⟩)] }.setInterp 1024 6
    { InterpSt.reset with phase := .releasing, code := some 160, tickS := 5000 }
/-- R95: the nominal table gives code 160 the fine time 384 of the tick before S. -/
theorem test_fineTimeEdge :
    (sConvEdge.interp edgeUnit 6).fine = none ∧ sConvEdge.eccAt (actAddr 1024 6 80) = 0 ∧
    (SMap.get (after (.fineTimeCompute 1024 6) sConvEdge).edgeStamps 6 []).map (·.2) = [4999 * 1024 + 384] := by decide +kernel

theorem test_interpolatorRelease :
    let s := (base []).setInterp 802 7 { InterpSt.reset with phase := .releasing, code := some 1, fine := some 5 }
    (s.interp 802 7).fine.isSome = true ∧ ((after (.interpolatorRelease 802 7) s).interp 802 7).phase = .free := by decide +kernel

theorem test_ringFault :
    (sConv.hit? (sConv.interp 802 7).who).isSome = true ∧
    (after (.ringFault 802 7) sConv).get (fFault 802) = 0x80 := by decide +kernel

theorem test_ringFaultEdge :
    let s := sConvEdge.setInterp 1024 6 { InterpSt.reset with phase := .converting, tickS := 5000 }
    (SMap.get (after (.ringFault 1024 6) s).edgeStamps 6 []).map (·.1.poison) = [true] ∧
    (after (.ringFault 1024 6) s).get (fFault 1024) = 0x40 := by decide +kernel

theorem test_interpolatorReturn :
    let s := (base [(fFault 802, 0x81)]).setInterp 802 7 { InterpSt.reset with goodRun := 16 }
    s.fbit (fFault 802) 7 = true ∧ s.get (fMode 802) = 0 ∧ (after (.interpolatorReturn 802 7) s).get (fFault 802) = 1 := by
  decide +kernel

/-- R53, R54: the end of a hit, 100 units after its rise. -/
theorem test_trailingEdge :
    let s := ((sLive []).setPix 102661 ⟨true, none⟩).setHit 102661 ⟨500, none, 0, false, none⟩
    (s.pix 102661).high = true ∧ s.hit? 102661 = some ⟨500, none, 0, false, none⟩ ∧
    ((after (.trailingEdge 102661 (500 + 100 * 8 * 163840 + 8)) s).hit? 102661).map (·.ended)
      = some (some (100, 500 + 100 * 8 * 163840 + 8)) := by decide +kernel
theorem test_totSaturation :
    let s := ((sLive []).setPix 102661 ⟨true, none⟩).setHit 102661 ⟨500, none, 0, false, none⟩
    ((after (.totSaturation 102661) s).hit? 102661).map (·.ended) = some (some (511, 500 + 511 * 1310720)) := by decide +kernel

/-- The worked example of the scope chapter: pixel 102,661, 4,660 ticks, fine time 341, ToT 100. -/
theorem test_hitWordWrite :
    let s := (sLive []).setHit 102661 ⟨0, some (4660 * 1024 + 341), 0, false, some (100, 0)⟩
    s.time.run = true ∧ s.armed = true ∧ s.descent = none ∧ s.coreAlive (s.servedBy 802) = true ∧
    (((after (.hitWordWrite 102661) s).region 802).hq).map (·.word) = [0x1C88280091A2AA64] := by decide +kernel

theorem test_calibrationEdge :
    let s := (base [(Reg.TU_STAT_PLLLOCK, 1)]).setInterp 802 7 { InterpSt.reset with running := true }
    s.armed = true ∧ s.get (fMode 802) = 0 ∧ s.dom (unitDom 802) = true ∧ (s.interp 802 7).lastCal = none ∧
    (s.region 802).hold = [] ∧ (s.tin 3).hold = none ∧
    ((after (.calibrationEdge 802 7 99) s).interp 802 7).phase = .calibrating := by decide +kernel

theorem test_calibrationAccept :
    let s := (base []).setInterp 802 7 { InterpSt.reset with running := true, accepted := 4095, cal := some (0, some 287) }
    (s.interp 802 7).accepted < rebuildN (s.interp 802 7).quick ∧
    (after (.calibrationAccept 802 7) s).get (fProg 802 7) = 1 := by decide +kernel

/-- 256 codes of equal width: a good rebuild. -/
def evenHist (c : Nat) : SMap Nat := (List.range 256).map (fun n => (n, c))
def sBuilt (h : SMap Nat) : State := (base []).setInterp 802 7
  { InterpSt.reset with running := true, quick := true, accepted := 65536, hist := h }
theorem test_rebuildComplete :
    rebuildBad (evenHist 256) (rebuildN true) = false ∧
    (((after (.rebuildComplete 802 7) (sBuilt (evenHist 256))).interp 802 7).wantCommit = true) := by decide +kernel
/-- R99: 227 codes are too few. -/
theorem test_rebuildRejected :
    rebuildBad ((evenHist 256).take 227) (rebuildN true) = true ∧
    (after (.rebuildComplete 802 7) (sBuilt ((evenHist 256).take 227))).get (fRej 802) = 0x80 := by decide +kernel

theorem test_fretCommit :
    let s := (base [(fOfsS 1024 7, 0xFFD8)]).setInterp 1024 7 { InterpSt.reset with wantCommit := true, shd := [(3, 7)] }
    (s.interp 1024 7).nominalPending = false ∧ s.metWrote (fCommit 1024) = 0 ∧ tabGet ((after (.fretCommit 1024 7) s).interp 1024 7).act 3 = 7 ∧
    (after (.fretCommit 1024 7) s).get (fOfsA 1024 7) = 0xFFD8 := by decide +kernel

theorem test_ageIncrement :
    let s := base [(fAge 1024 7, 0x4A8)]
    s.dom (unitDom 1024) = true ∧ (after (.ageIncrement 1024 7) s).get (fAge 1024 7) = 0x4A9 := by decide +kernel

theorem test_manualCommit :
    let s := base [(fMode 1023, 1)]
    s.inReset (fcalAddr 1023) = false ∧ (after (.manualCommit 1023 7) s).get (fCommit 1023) = 0x80 := by decide +kernel
theorem test_calibrationModeWrite :
    let s := (base []).setInterp 1024 7 { InterpSt.reset with running := true }
    s.get (fMode 1024) = b2n (!true) ∧ s.dom (unitDom 1024) = true ∧
    ((after (.calibrationModeWrite 1024 true) s).interp 1024 7).running = false := by decide +kernel
theorem test_ageLimWrite : (after (.ageLimWrite 0 0xFFFF) (base [])).get (fAgeLim 0) = 0xFFFF := by decide +kernel
theorem test_bclr :
    (after (.bclr 1023) (base [(Reg.BUSY_CNT_COUNT 1023 127, 9)])).get (Reg.BUSY_CNT_COUNT 1023 127) = 0 := by decide +kernel
theorem test_shadowTableWrite :
    tabGet ((after (.shadowTableWrite 1023 7 143 0x00010002) (base [(fMode 1023, 1)])).interp 1023 7).shd 287 = 1 := by
  decide +kernel
theorem test_shadowTableWriteEdge :
    tabGet ((after (.shadowTableWrite 1024 7 0 0x00010002) (base [(fMode 1024, 1)])).interp 1024 7).shd 0 = 2 := by
  decide +kernel

def sTin (cfg : Nat) : State := (base []).setTin 3 { TinSt.reset with cfg := cfg, due := 1, presc := 62 }
theorem test_tinPinEdge :
    let s := sTin 0xE8000000
    s.edgeLive = true ∧ tinEn (s.tin 3).cfg = true ∧ tinEpol (s.tin 3).cfg = true ∧
    ((after (.tinPinEdge 3 true) s).tin 3).presc = 63 ∧
    ((after (.tinPinEdge 3 true) (after (.tinPinEdge 3 true) s)).tin 3).due = 2 := by decide +kernel
theorem test_prescaledEdge :
    let s := sTin 0x86000000
    (s.tin 3).due ≠ 0 ∧ (s.tin 3).cfgPending = false ∧ tinMode (s.tin 3).cfg = 3 ∧
    (after (.prescaledEdge 3 0) s).get (Reg.TIN_CNT_COUNT 3) = 1 := by decide +kernel
/-- R113: the claim of MODE 0, and the start and stop edges of MODE 2. -/
theorem test_prescaledClaims :
    let s := (sTin 0x80000000).put Reg.TU_STAT_PLLLOCK 1
    let f := ((sTin 0x84000000).put Reg.TU_STAT_PLLLOCK 1).setTin 3
      { TinSt.reset with cfg := 0x84000000, due := 1, armed := true, meas := 4 }
    let g := f.setTin 3 { TinSt.reset with cfg := 0x84000000, due := 1, freq := some 9, stopDue := true, meas := 4 }
    s.gateOpen 0x80000000 = true ∧ tinMode 0x84000000 = 2 ∧
    (SMap.find? (after (.prescaledEdge 3 99) s).edgeTags 6).map (·.count) = some 1 ∧
    ((after (.prescaledEdge 3 99) s).interp edgeUnit 6).start = 99 ∧
    (SMap.find? (after (.prescaledEdge 3 99) f).edgeTags 6).map (·.starts) = some (some 5) ∧
    (SMap.find? (after (.prescaledEdge 3 99) g).edgeTags 6).map (·.stops) = some (some (10, 4)) := by decide +kernel
/-- R112, R113: a prescaled edge outside the gate, or one that SDIV leaves out, is counted only. -/
theorem test_prescaledSkips :
    let s := (sTin 0x80000003).put Reg.TU_STAT_PLLLOCK 1
    s.gateOpen 0x80100000 = false ∧ (s.tin 3).sdiv < tinSdiv (s.tin 3).cfg ∧
    ((after (.prescaledEdge 3 99) s).tin 3).sdiv = 1 ∧ (after (.prescaledEdge 3 99) s).edgeTags = [] := by decide +kernel
/-- R84, R110: with both interpolators converting an edge enters the hold channel, and a second one is a busy loss; an edge inside a
measurement is counted. -/
theorem test_prescaledWaits :
    let c : InterpSt := { InterpSt.reset with phase := .converting }
    let s := (((sTin 0x80000000).put Reg.TU_STAT_PLLLOCK 1).setInterp edgeUnit 6 c).setInterp edgeUnit 7 c
    let tag : EdgeTag := ⟨3, 1, 0, 0x80000000, 0, none, none, false⟩
    let h := s.setTin 3 { s.tin 3 with hold := some (50, tag) }
    let m := s.setTin 3 { s.tin 3 with cfg := 0x84000000, freq := some 9 }
    s.tinPair 3 = [6, 7] ∧ ((after (.prescaledEdge 3 99) s).tin 3).hold = some (99, tag) ∧
    (after (.prescaledEdge 3 99) h).get (Reg.TIN_STAT_BUSY 3) = 1 ∧ ((after (.prescaledEdge 3 99) m).tin 3).freq = some 10 := by
  decide +kernel
def sStamp : State :=
  { sTin 0x80000000 with edgeStamps := [(6, [(⟨3, 5, 2, 0x80000000, 0, none, none, false⟩, 4995 * 1024 + 226)])] }
/-- R113, R114, R116: the records of kinds 1 and 2 follow the kind-0 record of their closing edge. -/
theorem test_stampKinds :
    let s := sStamp.setTin 2 { TinSt.reset with cfg := 0x83800000, opened := some 1000, seq := 6 }
    let f := ({ sStamp with edgeStamps := [(6, [(⟨3, 5, 2, 0x84000000, 0, none, some (10, 4), false⟩, 5000)])] }).setTin 3
      { TinSt.reset with cfg := 0x84000000, starts := [(0, 4000)] }
    tinMode 0x83800000 = 1 ∧ tinStop 0x83800000 = 3 ∧ tinEn (s.tin 3).cfg = true ∧
    ((SMap.get (after (.edgeStamp 6) s).merge 32 []).map (·.words)).drop 1 = [[edgeRec1 2 3 6 (4995 * 1024 + 226 - 1000)]] ∧
    ((SMap.get (after (.edgeStamp 6) f).merge 32 []).map (·.words)).drop 1 = [[edgeRec2 3 10 1000]] := by decide +kernel
theorem test_edgeStamp :
    tinMode 0x80000000 = 0 ∧ (∀ m : Fin 4, (sStamp.tin m.val).opened = none) ∧
    (SMap.get (after (.edgeStamp 6) sStamp).merge 32 []).map (·.words)
      = [[BitVec.ofNat 64 (9 * 2 ^ 60 + 3 * 2 ^ 55 + 5 * 2 ^ 43 + 4995 * 2 ^ 19 + 226 * 2 ^ 9 + 2 ^ 7)]] := by decide +kernel
theorem test_gateChange : (after (.gateChange 1 true) (base [])).get Reg.EDGE_STAT_GATE = 2 := by decide +kernel
theorem test_intervalAbandon :
    let s := (base []).setTin 3 { TinSt.reset with opened := some 7 }
    (after (.intervalAbandon 3) s).get (Reg.TIN_STAT_RESTART 3) = 1 := by decide +kernel
theorem test_tinCfgWrite :
    (base []).get (Reg.TIN_CFG_EN 3) = 0 ∧ (base []).inReset 0x40000 = false ∧
    (after (.tinCfgWrite 3 0xB2000007) (base [])).get (Reg.TIN_CFG_PRESC 3) = 3 := by decide +kernel
theorem test_tinStatClr :
    (after .tinStatClr (base [(Reg.TIN_STAT_RESTART 3, 4)])).get (Reg.TIN_STAT_RESTART 3) = 0 := by decide +kernel

/-! ### Region engines -/

def sCore (l : List (Machine.Field × Nat)) : State := base ((Reg.CORE_STAT_STATE 802, 2) :: (Reg.CORE_STAT_STATE 803, 2) :: l)

theorem test_go :
    let s := base [(Reg.CORE_CTRL_LEVEL 802, 1), (Reg.CORE_CTRL_VALID 802, 1), (Reg.ENTRY_IDX 802, 7)]
    s.dom (domDig (stripeOf 802)) = true ∧ s.inReset (reWindow 802) = false ∧ s.imageLoads 802 = false ∧ s.coreState 802 = 1 ∧
    s.mayStart 802 = true ∧ s.get (Reg.CORE_CTRL_VALID 802) = 1 ∧ s.get (Reg.CORE_CTRL_LEVEL 802) = 1 ∧
    ((after (.go 802) s).core 802).pc = 7 ∧ (after (.go 802) s).coreState 802 = 2 := by decide +kernel
theorem test_goLibrary : (after (.go 802) (base [])).coreState 802 = 2 := by decide +kernel
theorem test_halt : (sCore []).coreAlive 802 = true ∧ (after (.halt 802) (sCore [])).coreState 802 = 1 := by decide +kernel
def closedCore : CoreSt := { CoreSt.reset with closedOwn := true, closedBuddy := true }
theorem test_coreQuiesced :
    let s := { (sCore []).setCore 802 closedCore with descent := some 900 }
    s.hqEmpty 802 = true ∧ s.allClosed 802 = true ∧ (after (.coreQuiesced 802) s).coreState 802 = 1 := by decide +kernel
theorem test_coreIdle :
    let s := sCore []
    (s.core 802).dbgHalt = false ∧ s.hqEmpty 802 = true ∧ s.coreWaits 802 = true ∧
    (after (.coreIdle 802) s).coreState 802 = 3 ∧ ((after (.coreIdle 802) s).core 802).wdStart = 1000 := by decide +kernel
theorem test_wdogKick : ((after (.wdogKick 1023) (base [])).core 1023).wdStart = 1000 := by decide +kernel
theorem test_coreWatchdog :
    let s := sCore [(Reg.WDOG_EN 802, 1)]
    s.get (Reg.WDOG_EN 802) = 1 ∧ (s.escOf 802).busy = false ∧ (after (.coreWatchdog 802) s).get (Reg.CORE_STAT_WDG 802) = 1 ∧
    (after (.coreWatchdog 802) s).time.tick = 1024 * s.get (Reg.WDOG_PERIOD 802) ∧
    ((after (.coreWatchdog 802) s).escOf 802).step = 1 := by decide +kernel
theorem test_coreTimerExpiry :
    let s := (sCore [(Reg.TMR_CTRL_EN 802 1, 1), (Reg.TMR_PERIOD_PERIOD 802 1, 5000)]).setCore 802
      { CoreSt.reset with timers := [(1, 200)] }
    s.get (Reg.TMR_PERIOD_PERIOD 802 1) ≠ 0 ∧ (after (.coreTimerExpiry 802 1) s).time.tick = 5200 ∧
    ((after (.coreTimerExpiry 802 1) s).core 802).latched = 8 := by decide +kernel
theorem test_markEvent :
    let s := { sCore [(Reg.MARK_SUB_CH 802, 0x1000)] with marks := [⟨12, 0, 990, 3, []⟩] }
    s.marks.drop (s.region 802).markSeen = [⟨12, 0, 990, 3, []⟩] ∧ s.hearsMark 802 ⟨12, 0, 990, 3, []⟩ = true ∧
    ((after (.markEvent 802) s).core 802).evq = [BitVec.ofNat 64 (12 * 2 ^ 60 + 990 * 2 ^ 10 + 3)] := by decide +kernel
theorem test_mboxPost :
    let s := sCore [(Reg.ADOPT_STAT_STATE 802, 2), (Reg.ADOPT_STAT_EPOCH 802, 9)]
    s.servedBy 802 = 803 ∧ s.dom (domDig (stripeOf 803)) = true ∧ s.inReset (reWindow 803) = false ∧
    ((after (.mboxPost 802 true 9 0x0100000000000001) s).core 803).mbox = [(0x0100000000000001, true)] ∧
    ((after (.mboxPost 803 false 0 5) s).core 803).mbox = [(5, false)] := by decide +kernel
theorem test_codeMemoryWrite :
    let s := base [(Reg.CORE_CTRL_VALID 1023, 1)]
    s.coreState 1023 = 1 ∧ s.locked = false ∧ s.imageLoads 1023 = false ∧
    (after (.codeMemoryWrite 1023 4095 0x12345678) s).readLe (reWindow 1023 + 0xBFFC) 4 = 0x12345678 := by decide +kernel
theorem test_bistStart :
    let s := base [(Reg.ADOPT_STAT_STATE 802, 2)]
    s.served 802 = [] ∧ s.coreState 802 = 1 ∧ (after (.bistStart 802) s).coreState 802 = 4 := by decide +kernel
theorem test_bistDone :
    let s := (base [(Reg.CORE_STAT_STATE 802, 4)]).writeByte (reWindow 802) 7
    s.coreState 802 = 4 ∧ (after (.bistDone 802 0) s).get (Reg.BIST_PASS 802) = 1 ∧
    (after (.bistDone 802 0) s).readByte (reWindow 802) = 0 ∧ (after (.bistDone 802 6) s).get (Reg.BIST_FAIL 802) = 6 := by
  decide +kernel
def recEntry (w : Word64) : OutEntry := ⟨[w], 5, false, .record, false, 0⟩
theorem test_slotStart :
    let s := (sCore []).setCore 802 { CoreSt.reset with outq := [1, 2, 3, 4, 5].map recEntry }
    s.servesOwn 802 = true ∧ s.servesBuddy 802 = false ∧ (s.region 802).gapq = [] ∧
    ((after (.slotStart 802) s).core 802).outq = [recEntry 5] ∧
    (SMap.get (after (.slotStart 802) s).merge 2 []).map (·.words) = [[1], [2], [3], [4]] := by decide +kernel
theorem test_adoptRequest :
    let s := { sCore [(Reg.ARB_STAT_GRANT, 1)] with keels := [(0, { KeelSt.reset with force := some [] })] }
    s.adoptOk 802 = true ∧ s.get (Reg.ADOPT_CTRL_TMO 802) < 2 ^ 16 ∧
    (after (.adoptRequest 802) s).get (Reg.ADOPT_STAT_STATE 802) = 1 := by decide +kernel
theorem test_returnRequest :
    let s := base [(Reg.ADOPT_STAT_STATE 802, 2), (Reg.CORE_STAT_STATE 803, 2)]
    s.returnOk 802 = true ∧ (after (.returnRequest 802) s).get (Reg.ADOPT_STAT_STATE 802) = 3 ∧
    ((after (.returnRequest 802) s).core 803).closeBuddy = true := by decide +kernel
theorem test_adoptionSwitch :
    let s := (sCore [(Reg.ADOPT_STAT_STATE 802, 1), (Reg.CORE_CTRL_LEVEL 803, 1)]).setRegion 802
      { RegionSt.reset with switchDue := some (1001, false) }
    (s.escOf 802).busy = false ∧ (after (.adoptionSwitch 802) s).servedBy 802 = 803 ∧
    (after (.adoptionSwitch 802) s).get (Reg.ADOPT_STAT_EPOCH 802) = 1 := by decide +kernel
theorem test_adoptionReturns :
    let s := (base [(Reg.ADOPT_STAT_STATE 802, 3), (Reg.CORE_CTRL_LEVEL 802, 1), (Reg.CORE_CTRL_VALID 802, 1)]).setRegion 802
      { RegionSt.reset with switchDue := some (1001, false) }
    (after (.adoptionSwitch 802) s).servedBy 802 = 802 ∧ (after (.adoptionSwitch 802) s).coreState 802 = 2 := by decide +kernel
theorem test_adoptTimeout :
    let s := (sCore [(Reg.ADOPT_STAT_STATE 802, 1)]).setRegion 802 { RegionSt.reset with closeBy := some 2000 }
    (s.region 802).switchDue = none ∧ ((after (.adoptTimeout 802) s).region 802).switchDue = some (2001, true) := by decide +kernel

/-- R508: the entry of a failure that comes during a step stays open until the step after it completes. -/
theorem test_errOpen :
    let s := { (sCore []).setEsc 802 ⟨1, true, false, none⟩ with errOpen := [802] }
    let t := (s.err { sev := 2, src := 4, code := 4, unit := 802, openKey := some (s.escKey 802) }).escFail 802
    let u := t.escDone 802
    t.errOpen = [802, 4898] ∧ (t.escOf 802).again = true ∧ (u.escOf 802).step = 2 ∧ u.errOpen = [802, 802] := by decide +kernel

/-! ### The BZX instruction set -/

/-- Core 7 at LEVEL 1 at index 0 with r1 = 2^63, r2 = 3, r3 = 0x1234_5678, h0 = 5 poisoned, r4 = 0x40. -/
def s7 (f : CoreSt → CoreSt) (l : List (Machine.Field × Nat)) : State :=
  (base ([(Reg.CORE_STAT_STATE 7, 2), (Reg.CORE_CTRL_LEVEL 7, 1), (Reg.EXC_VEC_IDX 7, 0x99)] ++ l)).setCore 7
    (f { CoreSt.reset with g := [(1, 2 ^ 63), (2, 3), (3, 0x12345678), (4, 0x40), (16, 5)], tags := 1 })
def r7 : State := s7 id []
/-- The conductor of keel A, the same. -/
def sK (f : CoreSt → CoreSt) (l : List (Machine.Field × Nat)) : State :=
  (base ([(Reg.CD_CTRL_STATE 0, 2), (Reg.CD_VEC_IDX 0, 0x77), (Reg.ARB_STAT_GRANT, 1)] ++ l)).setCore 1024
    (f { CoreSt.reset with g := [(1, 0x30004), (2, 3), (3, 0x12345678)] })
/-- The core of an instruction is ready for it. -/
def ready (i : Instr) (s : State) : Bool := match insnWord i with | some (c, w) => s.readyFor c w | none => false
def fetchable (i : Instr) (s : State) : Bool := match insnWord i with | some (c, w) => s.fetches c w | none => false
/-- Ready, and the register afterwards. -/
def gives (i : Instr) (s : State) (c r v : Nat) : Bool := ready i s && ((after i s).core c).reg r == v

theorem test_arith :
    gives (.add 7 5 1 1) r7 7 5 0 ∧ ((after (.add 7 5 1 1) r7).core 7).flags.c = true ∧
    ((after (.add 7 5 1 1) r7).core 7).flags.v = true ∧ gives (.sub 7 5 2 3) r7 7 5 (2 ^ 64 + 3 - 0x12345678) ∧
    gives (.mul 7 5 1 2) r7 7 5 (2 ^ 63) ∧ gives (.mulhu 7 5 1 2) r7 7 5 1 ∧ gives (.minu 7 5 1 2) r7 7 5 3 ∧
    gives (.maxu 7 5 1 2) r7 7 5 (2 ^ 63) ∧ gives (.slt 7 5 1 2) r7 7 5 1 ∧ gives (.sltu 7 5 1 2) r7 7 5 0 ∧
    gives (.addi 7 5 2 0xFFFC) r7 7 5 (2 ^ 64 - 1) := by decide +kernel

theorem test_logic :
    gives (.and 7 5 2 3) r7 7 5 0 ∧ gives (.or 7 5 1 2) r7 7 5 (2 ^ 63 + 3) ∧ gives (.xor 7 5 3 2) r7 7 5 0x1234567B ∧
    gives (.shl 7 5 3 2) r7 7 5 0x91A2B3C0 ∧ gives (.shr 7 5 1 2) r7 7 5 (2 ^ 60) ∧ gives (.sar 7 5 1 4) r7 7 5 (2 ^ 63) ∧
    gives (.sar 7 5 1 2) r7 7 5 (2 ^ 64 - 2 ^ 60) ∧ gives (.andi 7 5 3 0xFF00) r7 7 5 0x5600 ∧
    gives (.ori 7 5 2 0x8000) r7 7 5 0x8003 ∧ gives (.xori 7 5 2 1) r7 7 5 2 ∧ gives (.shli 7 5 3 4) r7 7 5 0x123456780 ∧
    gives (.shri 7 5 3 4) r7 7 5 0x1234567 ∧ gives (.sari 7 5 1 63) r7 7 5 (2 ^ 64 - 1) := by decide +kernel

theorem test_fields :
    gives (.clz 7 5 2 0) r7 7 5 62 ∧ gives (.popc 7 5 3 0) r7 7 5 13 ∧ gives (.ldi 7 5 0 0x8000) r7 7 5 (2 ^ 64 - 0x8000) ∧
    gives (.ins 7 3 3 0xABCD) r7 7 3 0xABCD000012345678 ∧ gives (.ext 7 5 3 4 11 0) r7 7 5 0x567 ∧
    gives (.exts 7 5 2 0 1 0) r7 7 5 (2 ^ 64 - 1) ∧ gives (.dep 7 3 2 8 7 0) r7 7 3 0x12340378 := by decide +kernel

/-- R155, R156: a write to g0 is discarded; the tag of a source goes to the destination and sets P. -/
theorem test_poison :
    gives (.add 7 0 2 2) r7 7 0 0 ∧ ((after (.add 7 17 16 2) r7).core 7).tag 17 = true ∧
    ((after (.add 7 17 16 2) r7).core 7).flags.p = true ∧ ((after (.ldi 7 16 0 1) r7).core 7).tag 16 = false := by
  decide +kernel

/-- R159: words written out from the formats: ADD r5, r1, r2 is 000000 00101 00001 00010 00000000000; SHRI r5, r3, 4 is
000101 00101 00011 01 00000000 000100; TRAP 9 is 111110 00000 00000 00001001 00000100. -/
theorem test_words :
    insnWord (.add 7 5 1 2) = some (7, 0b00000000101000010001000000000000) ∧
    insnWord (.shri 7 5 3 4) = some (7, 0b00010100101000110100000000000100) ∧
    insnWord (.trap 7 9) = some (7, 0b11111000000000000000100100000100) ∧
    insnWord (.ext 7 5 3 4 11 0) = some (7, 0b00100000101000110001000010110000) ∧
    insnWord (.crc32c 1024 5 3 2) = some (1024, 0b11111100101000110001000000000101) ∧
    insnWord (.sendP 7 5 0 33 0) = some (7, 0b11010100101000000000000001100001) := by decide +kernel

/-- A loaded word executes its own row alone. -/
theorem test_loaded :
    let s := r7.writeLe (codeAddr 7 0) 4 0b00000000101000010001000000000000
    ready (.add 7 5 1 2) s = true ∧ ((s.loadedWord 7).all (· == 0)) = false ∧ after (.sub 7 5 1 2) s = s := by decide +kernel

theorem test_control :
    ready (.beq 7 1 2 0xFFFF) r7 ∧ ((after (.beq 7 1 1 0xFFFF) r7).core 7).pc = 0 ∧ ((after (.bne 7 1 2 5) r7).core 7).pc = 6 ∧
    ready (.blt 7 1 2 5) r7 ∧ ((after (.blt 7 1 2 5) r7).core 7).pc = 6 ∧ ready (.bge 7 1 2 5) r7 ∧ ((after (.bge 7 1 2 5) r7).core 7).pc = 1 ∧
    ready (.bltu 7 1 2 5) r7 ∧ ((after (.bltu 7 1 2 5) r7).core 7).pc = 1 ∧ ready (.bgeu 7 1 2 5) r7 ∧ ((after (.bgeu 7 1 2 5) r7).core 7).pc = 6 ∧
    ready (.bf 7 16 0 5) r7 ∧ ((after (.bf 7 16 0 5) r7).core 7).pc = 6 ∧ ready (.dbnz 7 2 0xFFFE) r7 ∧ ((after (.dbnz 7 2 0xFFFE) r7).core 7).pc = 4095 ∧
    gives (.jal 7 5 0 0xFFF) r7 7 5 1 ∧ ((after (.jal 7 5 0 0xFFF) r7).core 7).pc = 0xFFF ∧
    ready (.jalr 7 5 3 0) r7 ∧ ((after (.jalr 7 5 3 0) r7).core 7).pc = 0x678 ∧ ((after (.jalr 7 5 3 0) r7).core 7).cycle = 2 := by
  decide +kernel

/-- Data memory of core 7 with 0xFFFF at 0x40 and 0xFFFE at 0x42. -/
def m7 : State := r7.writeLe (reWindow 7 + 0x40) 4 0xFFFEFFFF
theorem test_memory :
    gives (.ld 7 5 4 0) m7 7 5 0xFFFEFFFF ∧ gives (.lw 7 5 4 0) m7 7 5 0xFFFEFFFF ∧ gives (.lh 7 5 4 2) m7 7 5 0xFFFE ∧
    gives (.lb 7 5 4 3) m7 7 5 0xFF ∧ m7.accAddr 7 4 0 = 0x40 ∧ m7.clean (dataBase 7 + 0x40) 8 = true ∧
    ready (.st 7 3 4 0) m7 ∧ ((after (.st 7 3 4 0) m7).readLe (reWindow 7 + 0x40) 8) = 0x12345678 ∧
    ready (.sw 7 3 4 4) m7 ∧ ((after (.sw 7 3 4 4) m7).readLe (reWindow 7 + 0x40) 8) = 0x12345678FFFEFFFF ∧
    ready (.sh 7 3 4 2) m7 ∧ ((after (.sh 7 3 4 2) m7).readLe (reWindow 7 + 0x40) 4) = 0x5678FFFF ∧
    ready (.sb 7 3 4 1) m7 ∧ ((after (.sb 7 3 4 1) m7).readLe (reWindow 7 + 0x40) 4) = 0xFFFE78FF ∧
    gives (.hincH 7 5 4 0) m7 7 5 0xFFFF ∧ ((after (.hincH 7 5 4 0) m7).core 7).flags.c = true ∧
    gives (.hincW 7 5 4 0) m7 7 5 0xFFFF0000 ∧ ((after (.hincW 7 5 4 0) m7).core 7).flags.c = false := by decide +kernel

/-- Core 7 with the window address 0xC000 + x in r6. -/
def w7 (x : Nat) : State := s7 (fun k => { k with g := SMap.ins k.g 6 (BitVec.ofNat 64 (0xC000 + x)) }) []
theorem test_window :
    gives (.lw 7 5 6 0) (w7 0xC) 7 5 0x99 ∧ (w7 0xC).reach 7 0xC00C 4 = true ∧
    (((w7 0xC).fetched 7).wordRead (coreMaster 7) ((w7 0xC).coreWord 7 0xC00C)).2.1 = .ok ∧
    ready (.sw 7 3 6 0) (w7 0xC) ∧ storeOk 0xC00C = false ∧ (after (.sw 7 3 6 0) (w7 0xC)).get (Reg.EXC_CAUSE_CODE 7) = 8 ∧
    (after (.lw 7 5 6 0) (w7 0xE)).get (Reg.EXC_CAUSE_CODE 7) = 4 ∧ (w7 0xE).reach 7 0xC00E 4 = true ∧
    (after (.lw 7 5 6 0) (w7 0xF000)).get (Reg.EXC_CAUSE_CODE 7) = 5 ∧ (w7 0xF000).reach 7 0x1B000 4 = false := by decide +kernel

/-- A state of core 7 with a window address in r6 and a number in r3. -/
def v7 (x : Nat) : State := (w7 x).setCore 7 { (w7 x).core 7 with g := SMap.ins ((w7 x).core 7).g 3 0x1234567890ABCDEF }
theorem test_windowForms :
    ready (.ld 7 5 6 0) (v7 0x610) ∧ (v7 0x610).reach 7 0xC610 8 = true ∧ ((v7 0x610).fetched 7).windowValue 7 0xC610 8 = 0 ∧
    gives (.ld 7 5 6 0) (v7 0x610) 7 5 0 ∧ gives (.lh 7 5 6 0) (v7 0x402) 7 5 0x80A0 ∧ (v7 0x402).reach 7 0xC402 2 = true ∧
    ((v7 0x402).fetched 7).windowValue 7 0xC402 2 = 0x80A0 ∧ (after (.lb 7 5 6 0) (v7 0x400)).get (Reg.EXC_CAUSE_CODE 7) = 5 ∧
    (after (.sb 7 3 6 0) (v7 0x400)).get (Reg.EXC_CAUSE_CODE 7) = 5 ∧ (after (.sh 7 3 6 0) (v7 0x401)).get (Reg.EXC_CAUSE_CODE 7) = 4 ∧
    (after (.st 7 3 6 0) (v7 0x670)).get (Reg.EXC_CAUSE_CODE 7) = 5 := by decide +kernel
theorem test_windowStores :
    ready (.sw 7 3 6 0) (v7 0x30) ∧ (after (.sw 7 3 6 0) (v7 0x30)).get (Reg.EVT_EN_EN 7) = 0xEF ∧ (v7 0x524).rselServed 7 = true ∧
    (after (.sw 7 3 6 0) (v7 0x524)).get (Reg.SLOT_P1_P 7 1) = 0x90ABCDEF ∧
    (after (.st 7 3 6 0) (v7 0x538)).get (Reg.SLOT_P2_P 7 2) = 0x90ABCDEF ∧
    (after (.st 7 3 6 0) (v7 0x538)).get (Reg.SLOT_P3_P 7 2) = 0x12345678 ∧
    (after (.sh 7 3 6 0) (v7 0x4FE)).get (Reg.PIXCFG_TRIM 7 127) = 0x33 ∧
    ((after (.sw 7 3 6 0) (v7 0x30)).core 7).cycle = ((v7 0x30).core 7).cycle + 4 ∧
    (let s := sK (fun k => { k with g := SMap.ins (SMap.ins k.g 6 0x50024) 3 0xFF }) []
     ready (.sw 1024 3 6 0) s ∧ (after (.sw 1024 3 6 0) s).get (Reg.CD_EVT_EN_EN 0) = 127) := by decide +kernel

theorem test_safeTick :
    let s := (w7 0x610).setCore 7 { (w7 0x610).core 7 with g := SMap.ins ((w7 0x610).core 7).g 2 900 }
    ready (.st 7 2 6 0) s ∧ s.accAddr 7 6 0 = 0xC610 ∧ s.servesOwn 7 = true ∧
    (after (.st 7 2 6 0) s).get (Reg.SAFE_TICK_TICK 7) = 900 ∧ (after (.st 7 3 6 0) s).get (Reg.SAFE_TICK_TICK 7) = 1000 := by
  decide +kernel

def q7 : State := r7.setRegion 7 { RegionSt.reset with hq := [⟨0x1234, true, parityOf 0x1234⟩, ⟨0x5678, false, parityOf 0x5678⟩] }
theorem test_hits :
    gives (.hpopS 7 17) q7 7 17 0x1234 ∧ ((after (.hpopS 7 17) q7).core 7).tag 17 = true ∧ q7.rselServed 7 = true ∧
    (after (.hpopS 7 17) q7).get (Reg.HQ_STAT_OCC 7) = 1 ∧ ready (.hpopS 7 17) r7 ∧ ((after (.hpopS 7 17) r7).core 7).flags.e = true ∧
    gives (.hpopA 7 17) q7 7 17 0x1234 ∧ q7.servesOwn 7 = true ∧ q7.servesBuddy 7 = false ∧ gives (.hcnt 7 5 0 0) q7 7 5 2 := by
  decide +kernel

/-- R172 from its pseudocode: a hit word of coarse tick 990 at tick 1,000; a walk entry of −2; bins of 16 units from 0x100. -/
def t7 : State :=
  (s7 (fun k => { k with g := SMap.ins (SMap.ins k.g 6 (BitVec.ofNat 64 (990 * 2 ^ 19 + 5 * 2 ^ 9 + 9))) 8 (BitVec.ofNat 64 (0x100 + 4 * 2 ^ 34 + 10 * 2 ^ 40)) })
    []).writeLe (reWindow 7 + 0x42) 2 0xFFFE
theorem test_times :
    gives (.text 7 5 6 0) t7 7 5 990 ∧ gives (.walk 7 5 6 4) t7 7 5 (990 * 1024 + 5 + 2) ∧ gives (.tnow 7 5 0 0) t7 7 5 1000 ∧
    gives (.tsub 7 5 2 4) t7 7 5 (2 ^ 64 - 61) ∧ gives (.bin 7 5 3 8) t7 7 5 10 ∧ ((after (.bin 7 5 3 8) t7).core 7).flags.v = true ∧
    ((after (.bin 7 5 4 8) t7).core 7).flags.v = true := by decide +kernel

def o7 : State := { s7 id [(Reg.STREAM_MASK_MASK 7, 2)] with sendMask := 2 }
theorem test_send :
    ready (.send 7 16 0 1 0) o7 ∧ ((after (.send 7 16 0 1 0) o7).core 7).outq = [⟨[5], 1, true, .record, false, 0⟩] ∧
    ready (.sendP 7 16 0 1 0) o7 ∧ ((after (.sendP 7 16 0 1 0) o7).core 7).flags.p = false ∧
    ((after (.send 7 2 0 2 0) o7).core 7).pc = 0x99 ∧
    (after (.send 7 2 0 1 0) (o7.setCore 7 { o7.core 7 with outq := List.replicate 32 ⟨[0], 1, false, .record, false, 0⟩ })).get
      (Reg.OUTQ_BALLAST_COUNT 7) = 1 := by decide +kernel

theorem test_events :
    ready (.wait 7 5 0 1) q7 ∧ gives (.wait 7 5 0 1) q7 7 5 1 ∧ q7.epend 7 &&& 1 ≠ 0 ∧
    ready (.wait 7 5 0 2) q7 ∧ ((after (.wait 7 5 0 2) q7).core 7).waiting = some (5, 2) ∧
    (let s := s7 (fun k => { k with waiting := some (5, 4), latched := 4 }) []
     ((after (.waitComplete 7) s).core 7).reg 5 = 4 ∧ ((after (.waitComplete 7) s).core 7).pc = 1) ∧
    (let s := s7 (fun k => { k with latched := 0xCE }) []
     ready (.eclr 7 0 0 0xFF) s ∧ ((after (.eclr 7 0 0 0xFF) s).core 7).latched = 0x80) := by decide +kernel

theorem test_messages :
    let s := s7 (fun k => { k with evq := [7, 8], mbox := [(9, true)] }) []
    gives (.mpop 7 5 0 0) s 7 5 7 ∧ (after (.mpop 7 5 0 0) s).get (Reg.MBOX_STAT_EVQ 7) = 1 ∧
    ((after (.mpop 7 5 0 0) r7).core 7).flags.e = true ∧ ready (.msg 7 2 0 0) s ∧
    ((after (.msg 7 2 0 0) s).core 7).outq = [⟨[3], 0, false, .message, false, 0⟩] ∧ gives (.mrecv 7 5 0 0) s 7 5 9 ∧
    ((after (.mrecv 7 5 0 0) s).core 7).flags.r = true ∧ ready (.rsel 7 0 0 2) s ∧ ((after (.rsel 7 0 0 2) s).core 7).rsel = 2 := by
  decide +kernel

theorem test_system :
    gives (.csrr 7 5 0 9) r7 7 5 7 ∧ gives (.csrr 7 5 0 8) r7 7 5 1 ∧ ready (.csrr 1024 5 0 9) (sK id []) ∧ ready (.csrw 7 2 0 0) r7 ∧
    ((after (.csrw 7 2 0 0) r7).core 7).flags.n = true ∧ ready (.csrw 7 2 0 4) r7 ∧
    ((after (.csrw 7 2 0 4) r7).core 7).pc = 0x99 ∧ ((after (.csrw 7 2 0 5) r7).core 7).pc = 0x99 ∧
    ready (.nop 7 0 0) r7 ∧ ((after (.nop 7 0 0) r7).core 7).pc = 1 ∧
    (let s := s7 (fun k => { k with inHandler := true, epc := 0x55, flags := { k.flags with p := true } }) []
     ready (.eret 7) s ∧ ((after (.eret 7) s).core 7).pc = 0x55 ∧ ((after (.eret 7) s).core 7).flags.p = true) ∧
    ((after (.eret 7) r7).core 7).pc = 0x99 ∧
    (let s := s7 (fun k => { k with closePend := true, latched := 0x80 }) []
     ready (.clack 7) s ∧ ((after (.clack 7) s).core 7).latched = 0) ∧
    ready (.rreq 7 3) r7 ∧ (after (.rreq 7 3) r7).rreqs = [(7, 3)] := by decide +kernel

theorem test_exceptions :
    ready (.trap 7 9) r7 ∧ ((after (.trap 7 9) r7).core 7).pc = 0x99 ∧ ((after (.trap 7 9) r7).core 7).epc = 1 ∧
    fetchable (.add 7 20 0 0) r7 ∧ legal 7 (wordR 0 20 0 0 0) = false ∧ ((after (.add 7 20 0 0) r7).core 7).inHandler = true ∧
    fetchable (.hpopS 1024 16) (sK id []) ∧ ((after (.hpopS 1024 16) (sK id [])).core 1024).pc = 0x77 ∧
    (let s := r7.writeLe (codeAddr 7 0) 4 0x7C000000
     s.fetches 7 0x7C000000 = true ∧ legal 7 0x7C000000 = false ∧ ((after (.nop 7 0 0) s).core 7).pc = 0x99) ∧
    (let s := r7.putEcc (codeAddr 7 0) 2
     s.canIssue 7 = true ∧ ((after (.nop 7 0 0) s).core 7).pc = 0x99) ∧
    (let s := r7.putEcc (codeAddr 7 0) 1
     (after (.nop 7 0 0) s).get (Reg.ECC_STAT_CORR 7) = 1) ∧
    (let s := (w7 0xC).setCore 7 { (w7 0xC).core 7 with inHandler := true }
     ready (.trap 7 9) s ∧ (after (.sw 7 3 6 0) s).get (Reg.CORE_STAT_NEST 7) = 1) ∧
    (let s := s7 (fun k => { k with ie := true, latched := 4 }) [(Reg.EVT_EN_EN 7, 4)]
     s.atBoundary 7 = true ∧ s.irqs 7 = 4 ∧ ((after (.interruptEntry 7) s).core 7).pc = 0x99 ∧
     ((after (.interruptEntry 7) s).core 7).epc = 0) := by decide +kernel

/-- R276's check value: the CRC-32C of "123456789" is 0xE306_9283. -/
theorem test_crc : crc32c (ascii "123456789") = 0xE3069283 := by decide +kernel

theorem test_conductor :
    ready (.busr 1024 5 1) (sK id []) ∧ ((after (.busr 1024 5 1) (sK id [])).core 1024).busr = some (5, 0x30004) ∧
    (let s := sK (fun k => { k with busr := some (5, 0x204) }) [(Reg.ARB_STAT_EPOCH, 9)]
     ((after (.busrComplete 0) s).core 1024).reg 5 % 2 ^ 16 = 9 ∧ ((after (.busrComplete 0) s).core 1024).pc = 1) ∧
    ready (.busw 1024 0 1 2) (sK id []) ∧ ((after (.busw 1024 0 1 2) (sK id [])).core 1024).busw = [(0x30004, 3)] ∧
    (let s := sK (fun k => { k with busw := [(3, 3)] }) []
     ((after (.buswComplete 0) s).core 1024).busw = [] ∧ ((after (.buswComplete 0) s).core 1024).buswFail = 1) ∧
    ready (.bfence 1024 0 0 0) (sK id []) ∧ ((after (.bfence 1024 0 0 0) (sK id [])).core 1024).pc = 1 ∧
    (let s := sK (fun k => { k with bfence := true, buswFail := 2 }) []
     s.busAlive 0 = true ∧ ((after (.bfenceComplete 0) s).core 1024).bstat = 2 ∧ ((after (.bfenceComplete 0) s).core 1024).flags.f = true) ∧
    gives (.crecv 1024 5) (sK (fun k => { k with inq := [(77, 9)] }) []) 1024 5 77 ∧
    ready (.hbeat 1024 0 0 0) (sK id []) ∧ ((after (.hbeat 1024 0 0 0) (sK id [])).core 1024).hbAt = 1000 ∧
    ready (.crc32c 1024 5 3 2) (sK id []) ∧ gives (.epoch 1024 5 0 0) (sK id []) 1024 5 65536 := by decide +kernel

/-! ### The reduction library -/

/-- Core 7 at LEVEL 0 with one slot running. -/
def l7 (v : LibSlot) (f : CoreSt → CoreSt) : State :=
  (({ base [(Reg.CORE_STAT_STATE 7, 2), (Reg.PB_STAT_RUN 7, 2), (Reg.MARK_SUB_CH 7, 0x8000), (Reg.STREAM_MASK_MASK 7, 8)] with
      sendMask := 8 } : State).setLib 7 1 { v with run := true, isOpen := true, stream := 3 }).setCore 7 (f CoreSt.reset)
def slot0 : LibSlot := LibSlot.reset

theorem test_frameClose :
    let s := l7 { slot0 with num := 1, p1 := 1250, p2 := 4500, counts := [(2 * 128 + 5, 9)], nextF := 2, zs := true } id
    s.libAlive (s.servedBy 7) = true ∧ (after (.frameClose 7 1) s).time.tick = 3750 + 4500 ∧
    ((after (.frameClose 7 1) s).outputs 7).map (·.words) = [[mkWord [(60, 4, 3), (48, 10, 7), (45, 2, 1), (41, 1, 1), (0, 32, 3750)]],
      [mkWord [(60, 4, 3), (58, 2, 1), (48, 10, 7), (41, 7, 5), (0, 8, 9)]]] := by decide +kernel
/-- Chapter 6: a SYNC mark leaves the frames that had ended to their LAG; frame 0 of 1,250 ticks ends at tick 1,250. -/
theorem test_frameCloseOld :
    let s := l7 { slot0 with num := 1, p1 := 1250, p2 := 4500, groups := [⟨[(5, 9)], 1250 + 4500, 2⟩], zs := true, base := 2000 } id
    (s.lib 7 1).isOpen = true ∧ s.libSends 7 3 = true ∧ (after (.frameClose 7 1) s).time.tick = 5750 ∧
    ((after (.frameClose 7 1) s).outputs 7).map (·.words) = [[mkWord [(60, 4, 3), (48, 10, 7), (45, 2, 1), (41, 1, 1), (40, 1, 1), (0, 32, 1250)]],
      [mkWord [(60, 4, 3), (58, 2, 1), (48, 10, 7), (41, 7, 5), (0, 8, 9)]]] := by decide +kernel
theorem test_periodClose :
    let s := l7 { slot0 with num := 4, p1 := 500, base := 900, occ := 77 } id
    (after (.periodClose 7 1) s).time.tick = 1400 ∧ (after (.periodClose 7 1) s).lib 7 1 = { (s.lib 7 1) with base := 1400, occ := 0, doneTo := 1400 } ∧
    ((after (.periodClose 7 1) s).outputs 7).map (·.words) = [[occRec 7 false 77 1400]] := by decide +kernel
theorem test_clusterClose :
    let s := l7 { slot0 with num := 3, p1 := 100, p2 := 50, clusters := [⟨[3, 4], 3, 900 * 1024, 901 * 1024 + 1, 30, 2, true⟩] } id
    (after (.clusterClose 7 1) s).time.tick = 1052 ∧ ((after (.clusterClose 7 1) s).lib 7 1).clusters = [] ∧
    ((after (.clusterClose 7 1) s).outputs 7).map (·.poison) = [true] := by decide +kernel
theorem test_markGroupClose :
    let s := l7 { slot0 with num := 6, groups := [⟨[], 1500, 0⟩], zs := true } id
    (after (.markGroupClose 7 1) s).time.tick = 1500 ∧ ((after (.markGroupClose 7 1) s).outputs 7).length = 1 := by decide +kernel

def hit7 : HqWord := ⟨BitVec.ofNat 64 (12 * 2 ^ 43 + 990 * 2 ^ 19 + 100), true, parityOf (BitVec.ofNat 64 (12 * 2 ^ 43 + 990 * 2 ^ 19 + 100))⟩
theorem test_libraryHit :
    let s := fun (v : LibSlot) => (l7 v id).setRegion 7 { RegionSt.reset with hq := [hit7] }
    (after (.libraryHit 7) (s slot0)).outputs 7 = [⟨[hit7.word], 3, true, .record, false, 0⟩] ∧
    SMap.get ((after (.libraryHit 7) (s { slot0 with num := 2, p2 := 0x10004 })).lib 7 1).counts (12 * 64 + 48) 0 = 1 ∧
    ((after (.libraryHit 7) (s { slot0 with num := 4, p1 := 500 })).lib 7 1).occ = 1 ∧
    ((s slot0).region 7).hq = [hit7] ∧ (s slot0).libAlive ((s slot0).servedBy 7) = true := by decide +kernel
theorem test_libraryMark :
    let s := l7 { slot0 with num := 5, ch := 8 } (fun k => { k with evq := [BitVec.ofNat 64 (8 * 2 ^ 60 + 990 * 1024 + 7)] })
    s.libAlive 7 = true ∧ s.servedBy 7 = 7 ∧ ((after (.libraryMark 7) s).lib 7 1).refAt = some (990 * 1024 + 7) := by decide +kernel
theorem test_reload :
    let s := l7 slot0 (fun k => { k with mbox := [(BitVec.ofNat 64 (2 ^ 56), false)] })
    (after (.reload 7) s).get (Reg.PB_STAT_SEQ 7) = 1 ∧ (after (.reload 7) s).get (Reg.PB_STAT_CODE 7) = 1 ∧
    (after (.reload 7) s).get (Reg.PB_STAT_RUN 7) = 0 := by decide +kernel
theorem test_libraryClose :
    let s := l7 slot0 (fun k => { k with closePend := true })
    s.libDrains 7 = false ∧
    (after (.libraryClose 7) s).lib 7 1 = LibSlot.reset ∧ ((after (.libraryClose 7) s).core 7).closeAck = true := by decide +kernel

/-- R197: the records of an emission leave at 20 + 8 cycles and then every 8: two in the 40 cycles of a trunk slot. -/
theorem test_emission :
    let s := after (.frameClose 7 1) (l7 { slot0 with num := 1, p1 := 1250, counts := [(2 * 128 + 5, 9)], nextF := 2 } id)
    (s.core 7).outq = [] ∧ ((after (.slotStart 7) s).core 7).outq = [] ∧
    ((SMap.get (after (.slotStart 7) s).merge 7 []).map (·.words)) =
      [[mkWord [(60, 4, 3), (48, 10, 7), (45, 2, 1), (0, 32, 3750)]], [mkWord [(60, 4, 3), (58, 2, 1), (48, 10, 7)]]] := by decide +kernel

/-! ### The waveform digitiser and the trigger unit -/

/-- The WAVE domain on, ARMED, EN = 1 and a digitiser state. -/
def wv (w : WaveSt) (l : List (Machine.Field × Nat)) : State := { base ([(Reg.WAVE_CTRL_EN, 1)] ++ l) with wave := w }
def wave0 : WaveSt := WaveSt.reset
def fitOk : Fit := ⟨3, 0x8000, 5, 0⟩

theorem test_waveEnable :
    let s := base []
    s.reachable 0x50000 = true ∧ s.waveLive = true ∧ (after (.waveEnable true) s).wave.phase = 1 ∧
    (after (.waveEnable false) (wv { wave0 with phase := 2 } [])).wave.phase = 0 ∧
    (after (.waveEnable false) (wv { wave0 with phase := 2 } [])).get Reg.WAVE_CTRL_EN = 0 := by decide +kernel
theorem test_scal :
    (after .scal (wv { wave0 with phase := 2 } [(Reg.WAVE_CTRL_CALMODE, 1)])).wave.phase = 3 ∧
    (after .scal (wv { wave0 with phase := 2 } [])).lastStatus = .prot ∧
    (after .retry (wv wave0 [(Reg.WAVE_STAT_FAIL, 4)])).wave.trial = 4 ∧
    (after (.correctionSetWrite 2 0 0x81230045) (wv wave0 [(Reg.WAVE_CTRL_CALMODE, 1)])).get (Reg.CORR_G_GAIN 2) = 0x8123 ∧
    (after (.correctionSetWrite 2 17 0x04030201) (wv wave0 [(Reg.WAVE_CTRL_CALMODE, 1)])).get (Reg.INL_E3 2 15) = 4 := by decide +kernel
theorem test_initialCalibrationEnd :
    let s := wv { wave0 with phase := 1, start := 100 } []
    fitBad fitOk = false ∧ (after (.initialCalibrationEnd fitOk fitOk fitOk) s).wave.next = 2 * (100 + 2 ^ 18) ∧
    (after (.initialCalibrationEnd fitOk fitOk fitOk) s).get (Reg.CORR_G_OFS 1) = 3 := by decide +kernel
theorem test_tuning :
    let a := after (.matchPhaseStart fitOk) (wv { wave0 with phase := 2, rot := some 500, next := 2 * (500 + 2 ^ 20) } [(Reg.WAVE_STAT_TPH, 0)])
    let b := after (.tuningHold true 7 0x8001 9) a
    let c := after .rotationCommit b
    a.get Reg.WAVE_STAT_TPH = 1 ∧ a.time.tick = 500 + 2 ^ 19 ∧ b.get Reg.WAVE_STAT_TPH = 2 ∧ b.wave.shadow.isSome = true ∧
    b.time.tick = 500 + 2 ^ 20 - 2 ^ 12 ∧ c.get Reg.WAVE_STAT_ROLE_P0 = 2 ∧ c.get Reg.WAVE_STAT_ROLE_T = 0 ∧
    c.get (Reg.CORR_G_OFS 2) = 7 ∧ c.get Reg.WAVE_ROT_COUNT = 1 ∧ (after (.sampleTick 0 0) b).wave.next = b.wave.next := by decide +kernel
theorem test_selfCalibrationEnd :
    let s := wv { wave0 with phase := 3 } [(Reg.WAVE_CTRL_CALMODE, 1), (Reg.WAVE_CTRL_SCAL, 1)]
    let a := after (.selfCalibrationEnd fitOk fitOk fitOk) s
    a.get Reg.WAVE_CTRL_SCAL = 0 ∧ a.get (Reg.CORR_S_SKEW 2) = 5 ∧ (after .samplingResume a).wave.next = 32000000 := by decide +kernel

/-- R206 by hand: with the reset set a raw 0x123 is 0x123; OFS of 16 units of 1/16 LSB takes one off. -/
theorem test_sample :
    let s := wv { wave0 with phase := 2, next := 2100 } []
    (after (.sampleTick 0x123 0) s).wave.hist0 = [(2100, 0x123)] ∧ (after (.sampleTick 0x123 0) s).time.tick = 1050 ∧
    (after (.sampleTick 0x123 0) (s.put (Reg.CORR_G_OFS 0) 16)).wave.hist0 = [(2100, 0x122)] ∧
    (after (.sampleTick 0 0) (s.put (Reg.CORR_G_OFS 0) 16)).get Reg.WAVE_OVR_COUNT = 1 := by decide +kernel

def trgs (l : List (Machine.Field × Nat)) : State := base ([(Reg.TRG_CFG_EN 3, 1), (Reg.TRG_T2_T 3, 1), (Reg.TRG_CFG_SRC 3, 2), (Reg.TRG_CFG_SEL 3, 1)] ++ l)
theorem test_triggers :
    (after (.trgCmd 0x18) (trgs [])).firings = [⟨2004, 3, 3, 0⟩] ∧ (trgs []).reachable 0x50200 = true ∧
    (trgs []).reachable (0x50100 + 0x60 + 16) = true ∧ (after (.triggerConfigWrite 3 1 0x05000400) (trgs [])).get (Reg.TRG_LVL_B 3) = 0x500 ∧
    (let s := { trgs [] with firings := [⟨2100, 3, 0, 7⟩] }
     (after .triggerFire s).marks = [⟨3, 3, 1050, 7, []⟩] ∧ (after .triggerFire s).get (Reg.TRG_CNT_FIRED 3) = 1 ∧
     (after .triggerFire (s.setTrg 3 { TrgSt.reset with last := some 2090 })).get (Reg.TRG_CNT_SUP 3) = 1) ∧
    (let s := { trgs [] with rreqs := [(9, 1)] }
     (after .regionRequest s).firings = [⟨2000, 3, 2, 0⟩]) := by decide +kernel
theorem test_trigOut :
    let s := wv { wave0 with rises := [2101] } [(Reg.TOUT_CFG_EN, 1)]
    (after .trigOutRise s).time.tick = 1051 ∧ (after .trigOutRise s).wave.out = true ∧
    (after .trigOutFall (after .trigOutRise s)).time.tick = 1059 ∧ (after .trigOutFall (after .trigOutRise s)).wave.out = false := by
  decide +kernel
/-- Reduction unit `u` live: enabled, in force in keel A, its stream 9 open. -/
def wvOn (u : Nat) (l : List (Machine.Field × Nat)) : State :=
  let s := wv { wave0 with phase := 2 } ([(Reg.WR_CFG_EN u, 1), (Reg.WR_CFG_STREAM u, 9), (Reg.ARB_STAT_GRANT, 1),
    (Reg.KL_STAT_ROLE 0, 1), (Reg.ST_CTRL_STATE 0 9, 1)] ++ l)
  s.setKeel 0 { s.keel 0 with force := some (SMap.ins [] (Reg.WR_CFG_EN u).key 1) }
theorem test_waveRecords :
    let s := (wvOn 2 [(Reg.WR_CFG_STREAM 2, 9)]).setWr 2 { WrSt.reset with buf := [(10, 1), (11, 2), (12, 3), (13, 4), (14, 5), (15, 6)] }
    ((SMap.get (after (.sampleRecord 2) s).merge 33 []).map (·.stream)) = [9, 9] ∧ ((after (.sampleRecord 2) s).wr 2).buf = [(15, 6)] ∧
    (let s := (wvOn 2 [(Reg.WR_CFG_KIND 2, 1), (Reg.WR_CFG_STREAM 2, 9)]).setWr 2 { WrSt.reset with done := [(64, 3, 9, 100)] }
     (SMap.get (after (.waveIntervalRecord 2) s).merge 33 []).map (·.words) = [[envWord 0 64 3 9]]) ∧
    (let s := (wv wave0 []).setWr 2 { WrSt.reset with win := some (50, 50) }
     ((after (.windowEnd 2) s).wr 2).win = none) ∧
    (let s := (wv { wave0 with next := 60 } []).setWr 2 { WrSt.reset with win := some (50, 50), wait := [(70, 90, 3)] }
     ((after (.windowEnd 2) s).wr 2).win = some (70, 90) ∧ ((after (.windowEnd 2) s).wr 2).trig = 3) ∧
    (let s := (wv wave0 []).setWr 2 { WrSt.reset with buf := [(10, 1), (11, 2), (12, 3), (13, 4), (14, 5)] }
     (after (.sampleRecord 2) s).merge = [] ∧ ((after (.sampleRecord 2) s).wr 2).buf = []) := by decide +kernel
/-- R231: a firing whose window begins after the end of the one being sent waits; one that overlaps extends it. -/
theorem test_windows :
    let s := { (wvOn 2 [(Reg.WR_CFG_KIND 2, 3), (Reg.WR_CFG_CH 2, 3), (Reg.WR_WIN_PRE 2, 5), (Reg.WR_WIN_POST 2, 5)]) with
      wave := { wave0 with phase := 2, next := 2020 } }
    let a := s.setWr 2 { WrSt.reset with win := some (2020, 2030), winS := 2010 }
    ((a.windowFire 3 2100).wr 2).wait = [(2095, 2105, 3)] ∧ ((a.windowFire 3 2100).wr 2).win = some (2020, 2030) ∧
    ((a.windowFire 3 2031).wr 2).win = some (2020, 2040) ∧ ((a.windowFire 3 2031).wr 2).wait = [] := by decide +kernel
/-- R214: SCAL survives the way out of ARMED; R213: no detector lives on over EN = 0. -/
theorem test_waveStops :
    let s := wv { wave0 with phase := 3, start := 9 } [(Reg.WAVE_CTRL_CALMODE, 1), (Reg.WAVE_CTRL_SCAL, 1)]
    s.waveLeave.wave.phase = 3 ∧ (after (.waveEnable false) s).wave.phase = 0 ∧
    ((after (.waveEnable false) (s.setTrg 1 { TrgSt.reset with ready := true, last := some 4 })).trg 1) =
      { TrgSt.reset with last := some 4 } := by decide +kernel
/-- R210, R221: after RETRY the first slice takes the vacant P0 at the rotation tick's index. -/
theorem test_rotateVacant :
    let s := wv { wave0 with phase := 2, rot := some 500, next := 1200, trial := 4, shadow := some ⟨0, 0x8000, 0, []⟩ }
      [(Reg.WAVE_STAT_ROLE_P0, 3), (Reg.WAVE_STAT_ROLE_P1, 3), (Reg.WAVE_STAT_ROLE_T, 2), (Reg.WAVE_STAT_DEG, 1), (Reg.WAVE_STAT_FAIL, 3)]
    (after .rotationCommit s).get Reg.WAVE_STAT_ROLE_P0 = 2 ∧ (after .rotationCommit s).wave.next = 2 * (500 + 2 ^ 20) := by
  decide +kernel
/-- R541: firings and TRIG_OUT wait while the time base is stopped. -/
theorem test_firingsWait :
    let s := { trgs [] with firings := [⟨2100, 3, 0, 7⟩], time := ⟨1000, false, 0, 0, 0⟩ }
    (after .triggerFire s).firings = s.firings ∧ (after .triggerFire s).marks = [] := by decide +kernel

/-! ### The bridle and the streams -/

/-- Keel A active in ACQUIRE, its values in force giving stream 5 a budget, and a state of stream 5. -/
def dec5 : SMap Nat := SMap.ins (SMap.ins (SMap.ins [] (Reg.BR_SUS_SUS 0 5).key 100) (Reg.BR_BUR_BUR 0 5).key 200) (Reg.BR_TOL_TOL 0 5).key 20
def kl (v : StreamSt) (l : List (Machine.Field × Nat)) : State :=
  let s := base ([(Reg.PR_STATE_STATE, 4), (Reg.ARB_STAT_GRANT, 1), (Reg.KL_STAT_ROLE 0, 1)] ++ l)
  let s1 := s.setKeel 0 { s.keel 0 with force := some dec5 }
  s1.setStream 0 5 v
def opened (ws : List Word64) : StreamSt :=
  { StreamSt.reset with block := some ⟨5, ws, false, false, false, false, 900, 0, 512, 2, 0, 0, 0, 0⟩, sus := 5000, peak := 5000, lvlAt := 1000 }

theorem test_commit :
    let s := kl StreamSt.reset []
    s.keelOpen 0 0x20000 = true ∧ s.active? = some 0 ∧ (after (.commit 0) s).get (Reg.BR_STAT_BUSY 0) = 1 ∧
    (after (.commit 0) s).lastStatus = .ok ∧ ((after (.commit 0) s).keel 0).snapAt = 1000 := by decide +kernel
theorem test_commitChecksDone :
    let s := after (.commit 0) (kl StreamSt.reset [(Reg.BR_SUS_SUS 0 3, 9)])
    (s.bridleCheck 0 (s.keel 0).snap).1 = 1 ∧ (after .commitChecksDone s).get (Reg.BR_STAT_CODE 0) = 1 ∧
    (after .commitChecksDone s).get (Reg.BR_FAIL_IDX 0) = 3 := by decide +kernel
theorem test_commitChecksDone_ok :
    let s := after (.commit 0) (kl StreamSt.reset [])
    (after .commitChecksDone s).get (Reg.BR_STAT_BUSY 0) = 1 ∧ ((after .commitChecksDone s).keel 0).commitT = some 16384 := by
  decide +kernel
theorem test_commitInForce :
    let s := kl StreamSt.reset [(Reg.BR_STAT_BUSY 0, 1), (Reg.ST_CTRL_STATE 0 5, 1)]
    let s1 := s.setKeel 0 { s.keel 0 with commitT := some 16384 }
    let t := after .commitInForce s1
    t.get (Reg.BR_STAT_SEQ 0) = 1 ∧ t.get (Reg.BR_STAT_BUSY 0) = 0 ∧ t.get (Reg.BR_COMMIT_TICK_T 0) = 16384 ∧
    t.stState 0 5 = 2 ∧ t.time.tick = 16384 := by decide +kernel

/-- R244: while BUSY = 1 a low word of BR_LANES is rejected and not held. -/
theorem test_declarationsShut :
    let s := kl StreamSt.reset [(Reg.BR_STAT_BUSY 0, 1), (Reg.KL_STAT_ROLE 1, 0)]
    (s.writeAt 0x120020 7).lastStatus = .prot ∧ (s.writeAt 0x120020 7).heldLo = [] ∧ (s.writeAt 0x124000 7).lastStatus = .prot ∧
    (s.writeAt 0x1A0020 7).lastStatus = .ok := by decide +kernel
/-- R248: words that are still in the shaping buffer at T leave at the new rate. -/
theorem test_reshape :
    let two : SMap Nat := SMap.ins (SMap.ins (SMap.ins [] (Reg.BR_SUS_SUS 0 5).key 200) (Reg.BR_BUR_BUR 0 5).key 400) (Reg.BR_TOL_TOL 0 5).key 20
    let b : Block := ⟨5, [], false, false, false, false, 900, 0, 512, 2, 0, 0, 3000, 0⟩
    let r := (reRelease dec5 two 5 1000 b).relAt
    1000 < r ∧ r < 2999 ∧ (reRelease dec5 two 5 3000 b).relAt = 3000 := by decide +kernel
/-- R12, R272: a write of 1 to FLUSH in the cycle of F asks for the next flush. -/
theorem test_flushAgain :
    let v := { opened [1] with flushAt := some 1000 }
    let s := kl v [(Reg.ST_CTRL_STATE 0 5, 1), (Reg.ST_CTRL_FLUSH 0 5, 1)]
    ((after (.flushTick 5) s).stream 0 5).flushAt = none ∧
    ((after (.flushTick 5) (after (.flush 0 5) s)).stream 0 5).flushAt = some 1004 ∧
    (after (.flushTick 5) (after (.flush 0 5) s)).get (Reg.ST_CTRL_FLUSH 0 5) = 1 := by decide +kernel
theorem test_streamRequests :
    let s := kl StreamSt.reset []
    s.openOk 0 5 = true ∧ s.openOk 0 6 = false ∧ s.keelOpen 0 (0x30000 + 0x20 * 5) = true ∧
    ((after (.streamOpenRequest 0 5) s).stream 0 5).reqO = some 1004 ∧ (after (.streamOpenRequest 0 6) s).lastStatus = .prot ∧
    ((after (.streamCloseRequest 0 5) (kl StreamSt.reset [(Reg.ST_CTRL_STATE 0 5, 1)])).stream 0 5).reqC = some 1004 ∧
    ((after (.flush 0 5) s).stream 0 5).flushAt = some 1004 := by decide +kernel
theorem test_streamOpen :
    let s := kl { StreamSt.reset with reqO := some 1004 } []
    (after (.streamOpen 5) s).stState 0 5 = 1 ∧ (after (.streamOpen 5) s).time.tick = 1004 ∧
    ((after (.streamOpen 5) s).stream 0 5).block.map (fun b => (b.words, b.first)) =
      some (epochWords 0 0 ++ [extWord 1 0 1004], true) := by decide +kernel
theorem test_streamClose :
    let s := kl { StreamSt.reset with reqC := some 1004 } [(Reg.ST_CTRL_STATE 0 5, 1)]
    let t := after (.streamClose 5) s
    let u := after (.streamSendCutoff 5) { t with sendMask := 32 }
    t.stState 0 5 = 2 ∧ (t.marks.map (·.detail)) = [133] ∧ u.sendMask = 0 ∧ u.time.tick = 1004 + 65536 - 64 ∧
    (after (.streamClosed 5) u).stState 0 5 = 0 ∧
    ((after (.streamClosed 5) u).stream 0 5).wait.map (fun b => (b.words, b.last)) = [([extWord 2 0 1004], true)] := by decide +kernel
/-- R267, R274: the close extension fills the block: that block is the last and has CLOSE = 1. -/
theorem test_streamClosed_full :
    let v := { StreamSt.reset with reqC := some 1004, block := some ⟨5, [0x1000000000000001], false, false, false, false, 900, 0, 2, 2, 0, 0, 0, 0⟩ }
    ((after (.streamClosed 5) (kl v [(Reg.ST_CTRL_STATE 0 5, 2)])).stream 0 5).wait.map (fun b => (b.words.length, b.last, b.flush)) =
      [(2, true, false)] := by decide +kernel

theorem test_mergeWord :
    let m : MergeItem := ⟨[0x1000000000000007], 5, true, .record, 9, 0⟩
    let s := { kl (opened [1]) [(Reg.ST_CTRL_STATE 0 5, 1)] with merge := [(9, [m])] }
    let z := { kl { opened [1] with sus := 63 } [(Reg.ST_CTRL_STATE 0 5, 1)] with merge := [(9, [m])] }
    s.routeOf 0 9 m = some 5 ∧ s.stLive 0 5 = true ∧ (after .mergeWord s).merge = [] ∧
    ((after .mergeWord s).stream 0 5).block.map (fun b => (b.words, b.poison)) = some ([1, 0x1000000000000007], true) ∧
    ((after .mergeWord s).stream 0 5).sus = 4936 ∧ ((after .mergeWord z).stream 0 5).bal = [(0, 1)] ∧
    (after .mergeWord z).get (Reg.BR_BAL_COUNT 0 5) = 1 := by decide +kernel
theorem test_keelMarks :
    let s := kl { opened [1] with bal := [(1, 7)], disc := some ⟨3, 9, 2, false⟩ } [(Reg.ST_CTRL_STATE 0 5, 1)]
    let words := fun (t : State) => (t.stream 0 5).block.map (·.words)
    words (after .epochMark s) = some ([1] ++ epochWords (2 ^ 23) ((2 ^ 23 - 1000) * 3435973837)) ∧ (after .epochMark s).epochDone = 2 ^ 23 ∧
    words (after .ballastIntervalEnd s) = some [1, ballastMark 5 1 7 16384] ∧
    words (after .discardIntervalEnd s) = some ([1] ++ gapAllWords 1 3 9 2) := by decide +kernel
theorem test_ballastCountReport :
    let s := (kl (opened []) [(Reg.ST_CTRL_STATE 0 5, 1), (Reg.STREAM_MASK_MASK 9, 32)]).setRegion 9
      { RegionSt.reset with balHq := 3, balOut := 4 }
    ((after (.ballastCountReport 9) s).stream 0 5).bal = [(1, 3), (2, 4)] ∧ ((after (.ballastCountReport 9) s).region 9).balHq = 0 := by
  decide +kernel
theorem test_flushes :
    let s := kl { opened [1] with flushAt := some 1004 } [(Reg.ST_CTRL_STATE 0 5, 1), (Reg.ST_CFG_FLT 0 5, 3)]
    ((after (.flushTick 5) s).stream 0 5).wait.map (fun b => (b.flush, b.closeAt)) = [(true, 1004)] ∧
    ((after (.flushTimer 5) s).stream 0 5).wait.map (·.closeAt) = [900 + 1024] := by decide +kernel
theorem test_blockRoute :
    let b : Block := ⟨5, [0x1000000000000001], false, true, true, false, 900, 950, 512, 2, 1, 0, 0, 0⟩
    let f := fun (l : List (Machine.Field × Nat)) => kl { StreamSt.reset with wait := [b] } ([(Reg.ST_BSEQ_NEXT 0 5, 7)] ++ l)
    (SMap.get ((after (.blockRoute 5) (f [])).keel 0).queues 2 []).map (·.bseq) = [7] ∧
    (after (.blockRoute 5) (f [])).get (Reg.OQ_STAT_LEVEL 0 2) = blockLen b ∧
    (after (.blockRoute 5) (f [(Reg.OQ_STAT_LEVEL 0 2, 16384)])).get (Reg.ST_DISC_COUNT 0 5) = 1 ∧
    (let u := f [(Reg.OQ_STAT_LEVEL 0 2, 16384), (Reg.MC_STAT_READY, 1), (Reg.BR_SPILL_CAP_CAP 0, 100)]
     u.spillOk 0 (blockLen b) = true ∧ ((after (.blockRoute 5) u).spillStr 0 5).held.map (·.bseq) = [7]) := by decide +kernel
theorem test_srcPermitRise :
    let s := (kl (opened [1]) [(Reg.ST_CTRL_STATE 0 5, 1), (Reg.SP_CTRL_EN 0 0, 1), (Reg.SP_CTRL_MINLOW 0 0, 2),
      (Reg.SP_STREAMS_MASK 0 0, 32)])
    s.permitOk 0 0 = true ∧ ((after (.srcPermitRise 0) s).pin 0).high = true ∧ (after (.srcPermitRise 0) s).time.tick = 65536 ∧
    ((after (.srcPermitRise 0) s).stream 0 5).block.map (·.words) = some [1, extWord 3 0 (2 ^ 46 + 65536)] ∧
    s.scanDrives = false ∧ s.permitPin 0 = .low ∧ (after (.srcPermitRise 0) s).permitPin 0 = .high := by decide +kernel

/-! ### The memory controller and the spill store -/

/-- R296: a write of 1 to EN of a store that is READY starts the sequence again. -/
theorem test_memoryInitAgain :
    let s := { (base [(Reg.MC_CFG_EN, 1), (Reg.MC_CFG_CHMASK, 1), (Reg.MC_STAT_READY, 1), (Reg.MC_STAT_CHUP, 1)]) with mc := ⟨4, 5, 0⟩ }
    (after .memoryInit s).mc = ⟨1, 1000, 0⟩ ∧ (after .memoryInit s).get Reg.MC_STAT_READY = 0 ∧ (after .memoryInit s).lastStatus = .ok := by
  decide +kernel
/-- R299: a cut directory goes on in the brick of the last block left, under that brick's header. -/
theorem test_cutHeader :
    let v : SpillStr := ⟨[⟨7, 150, 0, 0, 0, false, 0⟩, ⟨8, 150, 0, 0, 0, false, 0⟩], [], (8, 82), 3, 0,
      [(0, (0, brickHeader 5 7 0 0)), (1, (1, brickHeader 5 7 116 1))], [], 0, [], 0⟩
    let c := v.cut 2 (fun _ => List.replicate 128 0)
    (c.held.map (·.bseq), c.bricks, c.tail.length, c.tailHdr) = ([7], 1, 34, (7, 116)) := by decide +kernel
theorem test_memoryInit :
    let s := base [(Reg.MC_CFG_CHMASK, 3)]
    s.reachable 0x380000 = true ∧ s.memDomsOn = true ∧ s.allowed 31 = true ∧ s.allowed 32 = true ∧ (after .memoryInit s).mc = ⟨1, 1000, 0⟩ ∧
    (after .memoryInit s).get Reg.MC_CFG_EN = 1 ∧ (after .memoryInit s).lastStatus = .ok := by decide +kernel
/-- R297 by hand: two channels of 6,400 MT/s give floor(2 × 6400 × 32 × 29/32 × 15/16) = 348,000 Mbit/s. -/
theorem test_training :
    let f := fun (n : Nat) => { base [(Reg.MC_CFG_CHMASK, 3), (Reg.MC_CFG_CAPC, 1)] with mc := ⟨n, 1000, 0⟩ }
    (after .memoryResetRelease (f 1)).time.tick = 251000 ∧ (after .modeRegisterWrite (f 2)).mc.step = 3 ∧
    (after (.trainingComplete 7) (f 3)).get (Reg.BR_SPILL_W_RATE 1) = 348000 ∧
    (after (.trainingComplete 7) (f 3)).get (Reg.BR_SPILL_CAP_CAP 0) = 7168 ∧
    (after (.trainingComplete 1) (f 3)).get Reg.MC_STAT_FAULT = 1 ∧ (after (.trainingComplete 1) (f 3)).get (Reg.BR_SPILL_W_RATE 0) = 0 := by
  decide +kernel
theorem test_retraining :
    let s := base [(Reg.MC_STAT_READY, 1), (Reg.MC_STAT_CHUP, 3)]
    (after (.oscillatorReadout 6) s).mc.busy = 2 ∧ (after (.oscillatorReadout 6) s).get Reg.MC_STAT_RETRAIN = 1 ∧
    (after (.retrainComplete 1) (after (.oscillatorReadout 6) s)).mc.busy = 0 := by decide +kernel

/-- Keel A active with one channel up and a state of its spill store. -/
def sp (v : SpillSt) (l : List (Machine.Field × Nat)) : State :=
  (kl StreamSt.reset ([(Reg.MC_CFG_CHMASK, 1), (Reg.MC_STAT_READY, 1)] ++ l)).setSpill 0 v
def sp0 : SpillSt := SpillSt.reset
def brick0 : Staged := ⟨5, 0, brickHeader 5 7 0 0, brickBytes (brickHeader 5 7 0 0) (List.replicate 116 0x21), 0, none, 0⟩
theorem test_brickWrite :
    let s := sp { sp0 with staged := [brick0] } []
    firstIdle (s.spill 0).staged = some brick0 ∧ s.mcUp = true ∧ (s.brickPlace 0 5).map (·.1) = some 0 ∧ s.mc.busy.testBit (s.channelOf 0) = false ∧
    ((after .brickWrite s).spill 0).ops = [⟨false, 5, 0, 0, 1000⟩] ∧ (after .brickWrite s).get Reg.MC_TAGS_NOW = 1 ∧
    (after .brickWrite (sp { sp0 with staged := [brick0], paceAt := 3001 / 2 } [])).time.tick = 1501 := by
  decide +kernel
theorem test_brickWriteComplete :
    let s := after .brickWrite (sp { sp0 with staged := [brick0] } [])
    let t := after (.brickWriteComplete 5 0) s
    t.dram.map (·.2) = [brick0.bytes] ∧ (t.spill 0).ops = [] ∧ SMap.find? (t.spillStr 0 5).slots 0 = some (0, brick0.header) ∧
    (after (.brickWriteComplete 5 2) s).get Reg.MC_LOST_COUNT = 1 ∧ (after (.brickWriteComplete 5 3) s).get Reg.MC_LOST_COUNT = 2 ∧
    (after (.operationTimeout 5 false) s).get Reg.MC_TMO_COUNT = 1 := by
  decide +kernel
/-- A brick that was written is read again: R310 issues it, R312 finds it good, or poisons the block where a bit is wrong. -/
theorem test_drain :
    let v := { SpillStr.reset with slots := [(0, 0, brick0.header)], held := [⟨7, 200, 0, 0, 900, false, 2⟩], bricks := 1 }
    let s := { sp { sp0 with order := [(2, [5])], strs := [(5, v)] } [] with dram := [(0, brick0.bytes)] }
    let r := after (.drainRead 2) s
    s.drainOk 0 2 = true ∧ (r.spill 0).ops = [⟨true, 5, 0, 0, 1000⟩] ∧
    ((after (.drainReadComplete 5 0) r).spillStr 0 5).readNext = 1 ∧ ((after (.drainReadComplete 5 0) r).spillStr 0 5).got.length = 116 ∧
    (after (.drainReadComplete 5 0) r).get Reg.MC_POIS_COUNT = 0 ∧ (after (.drainReadComplete 5 (2 ^ 100)) r).get Reg.MC_POIS_COUNT = 1 ∧
    (after (.drainReadComplete 5 4) r).get Reg.MC_POIS_COUNT = 2 := by
  decide +kernel
/-- R311: the blocks that lie whole on chip leave before another brick is read. -/
theorem test_drain_whole :
    let v := { SpillStr.reset with got := List.replicate 24 0x21, held := [⟨7, 24, 0, 0, 900, false, 2⟩] }
    let s := sp { sp0 with order := [(2, [5])], strs := [(5, v)] } []
    let r := after (.drainRead 2) s
    s.orderLog 0 2 = [5] ∧ s.drainOk 0 2 = true ∧ s.headWhole 0 2 5 = true ∧ (r.spill 0).ops = [] ∧
    (SMap.get (r.spill 0).drained 2 []).map (fun d => (d.stream, d.blk.bseq)) = [(5, 7)] := by decide +kernel
theorem test_drain_timeout :
    let v := { SpillStr.reset with slots := [(0, 0, brick0.header)], held := [⟨7, 200, 0, 0, 900, false, 2⟩], bricks := 1 }
    let s := sp { sp0 with order := [(2, [5])], strs := [(5, v)], ops := [⟨true, 5, 0, 0, 1000⟩] } []
    (after (.operationTimeout 5 true) s).time.tick = 26000 ∧ (after (.operationTimeout 5 true) s).get Reg.MC_TMO_COUNT = 1 := by decide +kernel
theorem test_pageQuarantineEnd :
    let s := sp { sp0 with quar := [(3, 900)], free := [1] } []
    ((after .pageQuarantineEnd s).spill 0).free = [1, 3] ∧ (after .pageQuarantineEnd s).time.tick = 80900 := by decide +kernel
/-- R300. -/
theorem test_crc16 : crc16 [0x31, 0x32, 0x33, 0x34, 0x35, 0x36, 0x37, 0x38, 0x39] = 0x29B1 := by decide +kernel

/-! ### The lanes -/

def tx (v : TxSt) (l : List (Machine.Field × Nat)) : State :=
  (kl StreamSt.reset ([(Reg.LN_TXCTRL_EN 2, 1), (Reg.LN_RXSTAT_STATE 0, 5)] ++ l)).setTx 2 v
def tx0 : TxSt := TxSt.reset
theorem test_laneMuxPlace :
    let b : Block := ⟨5, [0x1000000000000001], false, true, true, false, 900, 950, 512, 0, 1, 0, 0, 0⟩
    let s := { tx tx0 [(Reg.OQ_STAT_LEVEL 0 0, 24)] with
      laneCfg := SMap.ins (SMap.ins [] (Reg.LG_CFG_FIRST 0).key 2) (Reg.LG_CFG_EN 0).key 1 }
    let s1 := s.setKeel 0 { s.keel 0 with queues := [(0, [b])] }
    s1.leastLoaded (s1.muxSlots 0) = some 2 ∧ ((after (.laneMuxPlace 0) s1).tx 2).payload.length = 3 ∧
    ((after (.laneMuxPlace 0) s1).keel 0).queues = [] ∧ (after (.laneMuxPlace 0) s1).get (Reg.OQ_STAT_LEVEL 0 0) = 0 := by decide +kernel
/-- R311: a drained block waits for a lane that is idle. -/
theorem test_laneMuxPlace_drained :
    let f := fun (v : TxSt) =>
      let s := { tx v [] with laneCfg := SMap.ins (SMap.ins [] (Reg.LG_CFG_FIRST 0).key 2) (Reg.LG_CFG_EN 0).key 1 }
      s.setSpill 0 { SpillSt.reset with drained := [(0, [⟨5, ⟨7, 24, 0, 0, 900, false, 0⟩, List.replicate 24 0x21, false, 0⟩])] }
    (f tx0).muxSlots 0 = [2] ∧ ((after (.laneMuxPlace 0) (f tx0)).tx 2).payload.length = 3 ∧
    ((after (.laneMuxPlace 0) (f tx0)).spill 0).drained = [] ∧
    ((after (.laneMuxPlace 0) (f { tx0 with payload := [(true, 1)] })).spill 0).drained.length = 1 := by decide +kernel
theorem test_txFrame :
    let s := tx { tx0 with payload := [(true, 0x77)] } []
    (after (.txFrame 2 0) s).time.tick = 1280 ∧ ((after (.txFrame 2 0) s).tx 2).sentAt = some 1280 ∧
    ((after (.txFrame 2 0) s).tx 2).frame.length = 400 ∧ ((after (.txFrame 2 0) s).tx 2).frame.getD 8 (true, 0) = (false, 0x77) := by decide +kernel
/-- R331: the idle bits of a slip stand before the frame's start, among idle blocks. -/
theorem test_txFrame_slip :
    let t := after (.txFrame 2 0) (tx tx0 [(Reg.LN_TXCTRL_SLIP 2, 70)])
    (t.tx 2).lead = 70 ∧ (t.tx 2).slip = 70 ∧ (t.tx 2).frame.length = 400 ∧ ((after (.txFrame 2 0) t).tx 2).lead = 0 ∧
    (t.tx 2).wire.length = 400 + (leadBlocks 70).length := by decide +kernel
theorem test_hostLaneReport :
    let s := tx { tx0 with run := 1, lock := true } []
    let d := tx { tx0 with run := 1, lock := false } [(Reg.LN_TXSTAT_HSTATE 2, 1)]
    (after (.hostLaneReport 0x0A00000000000366) s).hostState 2 = 1 ∧ (after (.hostLaneReport 0x0A00000000000366) s).get (Reg.LN_HERR_SUM 2) = 3 ∧
    (after (.hostLaneReport 0x0800000000000066) d).hostState 2 = 2 := by decide +kernel
theorem test_hostReportTimeout :
    let s := tx { tx0 with repAt := 1000 } [(Reg.LN_TXSTAT_HSTATE 2, 1)]
    (after (.hostReportTimeout 2) s).hostState 2 = 0 ∧ (after (.hostReportTimeout 2) s).time.tick = 126000 := by decide +kernel
/-- A board table of three candidates for slot 2. -/
def tabled (s : State) : State :=
  (((s.writeLe (laneTable + 4) 4 3).writeLe (laneTable + 4 * 18) 4 0x80000000).writeLe (laneTable + 4 * 19) 4 0x80000001).writeLe (laneTable + 4 * 20) 4 0xC0000002
theorem test_txCandidates :
    let s := tabled (tx tx0 [(Reg.LN_TXCTRL_AUTO 2, 1)])
    let a := after (.txCandidateSelection 2) s
    let z := a.setTx 2 { a.tx 2 with sel := some (2, 5000) }
    s.txCands 2 = [0, 1, 2] ∧ (a.tx 2).sel = some (0, 1000) ∧ (after (.txCandidateDwell 2) a).get (Reg.LN_TXSTAT_CSEL 2) = 1 ∧
    (after (.txCandidateDwell 2) a).time.tick = 2501000 ∧ ((after (.txCandidateDwell 2) z).tx 2).sel = none ∧
    (after (.txCandidateDwell 2) z).get (Reg.LN_TXSTAT_CSEL 2) = 2 := by decide +kernel
theorem test_spareSubstitution :
    let s0 := tx tx0 [(Reg.LN_TXCTRL_EN 33, 1), (Reg.LN_TXSTAT_HSTATE 33, 1)]
    let s := { s0.setKeel 0 { s0.keel 0 with force := some (SMap.ins dec5 (Reg.BR_LANES_UP 0).key (2 ^ 33)) } with subDue := [(2, 2)] }
    s.sparesFree = [33] ∧ (after (.spareSubstitution 1) s).logl 33 = 2 ∧ (after (.spareSubstitution 1) s).logl 2 = 63 ∧
    (after (.spareSubstitution 1) s).get (Reg.LMAP_SLOT 2) = 33 := by decide +kernel
theorem test_laneMap :
    let s := tx tx0 []
    s.reachable 0x303108 = true ∧ s.lmapOk 2 34 = true ∧ (after (.lmapWrite 2 34) s).lmapDue = [(2, 34)] ∧ s.lmapOk 2 5 = false ∧
    (after (.lmapWrite 2 5) s).lastStatus = .prot ∧ (after (.lmapApply 2) (after (.lmapWrite 2 34) s)).logl 34 = 2 ∧
    (after (.lmapApply 2) (after (.lmapWrite 2 34) s)).logl 2 = 63 := by decide +kernel
theorem test_laneGroupWrite :
    let s := tx tx0 []
    s.laneGroupOk 3 2 4 = true ∧ (after (.laneGroupWrite 3 0x80000204) s).get (Reg.LG_CFG_FIRST 3) = 4 ∧
    (after (.laneGroupWrite 3 0x80000201) s).lastStatus = .prot := by decide +kernel
theorem test_txWrites :
    let s := tx tx0 []
    s.reachable 0x301040 = true ∧ (after (.slipWrite 2 9) s).get (Reg.LN_TXCTRL_SLIP 2) = 9 ∧ (after (.slipWrite 2 9) s).get (Reg.LN_TXCTRL_EN 2) = 1 ∧
    (after (.txCtrlWrite 2 0x98000003) s).get (Reg.LN_TXCTRL_CAND 2) = 3 := by decide +kernel
/-- R335: 64 valid headers in a row are block lock, two frame starts 400 blocks apart frame lock; 16 invalid ones of 64 lose it. -/
def rxGood : List RxBlk := List.replicate 64 ⟨true, false⟩ ++ [⟨true, true⟩] ++ List.replicate 399 ⟨true, false⟩ ++ [⟨true, true⟩]
def rxBad : List RxBlk := List.replicate 16 ⟨false, false⟩
theorem test_rxTraining :
    let s := tx tx0 [(Reg.LN_RXCTRL_EN 1, 1)]
    let f := fun (n : Nat) (v : RxSt) => (tx tx0 [(Reg.LN_RXCTRL_EN 1, 1), (Reg.LN_RXSTAT_STATE 1, n)]).setRx 1 v
    let r := RxSt.reset
    (after (.rxLaneEnable 1) s).rxState 1 = 2 ∧ ((f 2 r).met 1 rxGood).locked = true ∧ ((f 2 r).met 1 (rxGood.take 464)).locked = false ∧
    (after (.rxLock ⟨1, rxGood⟩) (f 2 r)).rxState 1 = 3 ∧ (after (.rxLock ⟨1, rxGood.take 464⟩) (f 2 r)).rxState 1 = 2 ∧
    (after (.rxLock ⟨1, rxGood⟩) (f 4 r)).rxState 1 = 5 ∧ (after (.rxLock ⟨1, rxGood⟩) (f 6 r)).rxState 1 = 5 ∧
    (after (.rxLockTimeout 1) (f 2 r)).rxState 1 = 7 ∧ (after (.rxLockTimeout 1) (f 4 r)).rxState 1 = 7 ∧
    (after (.rxLockTimeout 1) (f 6 r)).rxState 1 = 2 ∧ (after (.rxMeasureDone 1 3 5) (f 3 r)).rxState 1 = 4 ∧
    ((after (.rxMeasureDone 1 3 5) (f 3 r)).rx 1).foms = [(0, 23)] ∧ (after (.rxDownRetry 1) (f 7 r)).rxState 1 = 2 := by decide +kernel
theorem test_rxUp :
    let f := fun (n : Nat) => tx tx0 [(Reg.LN_RXCTRL_EN 1, 1), (Reg.LN_RXSTAT_STATE 1, n)]
    let u := (f 5).setRx 1 { RxSt.reset with lk := (f 2).met 1 rxGood }
    (f 7).reachable 0x302020 = true ∧ (after (.rxRetrain 1) (f 7)).rxState 1 = 2 ∧ (u.met 1 rxBad).locked = false ∧
    (after (.rxLockLost ⟨1, rxBad⟩) u).rxState 1 = 6 ∧ (after (.rxLockLost ⟨1, rxBad⟩) u).get (Reg.LN_RXLL_COUNT 1) = 1 ∧
    (u.met 1 (rxBad.take 15)).locked = true ∧ (after (.rxLockLost ⟨1, rxBad.take 15⟩) u).rxState 1 = 5 ∧
    ((after (.rxFrame 1 (2000 * tickU) 4 false 0x1E 2 0x1E 0x4B 0x2D 0x33) (f 5)).rx 1).frame = some (4, [0x1E, 2, 0x1E, 0x4B, 0x2D, 0x33]) ∧
    ((after (.rxFrame 1 (2000 * tickU) 4 false 0x1E 2 0x1E 0x4B 0x2D 0x33) (f 5)).rx 1).ferr = 1 := by decide +kernel
/-- R336: with two lanes bonded the reports of lane 1 wait for lane 0's frame of the same count. -/
theorem test_deskew :
    let s := tx { tx0 with run := 1, lock := true } [(Reg.LN_RXCTRL_EN 1, 1), (Reg.LN_RXSTAT_STATE 1, 5), (Reg.RX_CFG_RXW, 1)]
    let a := after (.rxFrame 1 (2000 * tickU) 4 false 0x0A00000000000366 0x1E 0x1E 0x1E 0x1E 0x1E) s
    let b := after (.rxFrame 0 (2001 * tickU) 4 false 0x1E 0x1E 0x1E 0x1E 0x1E 0x1E) a
    s.bonded 1 = [0, 1] ∧ (a.rx 1).held = some (4, 2000 * tickU, [0x0A00000000000366]) ∧ a.hostState 2 = 0 ∧
    b.get (Reg.LN_HREP_REP 2) = 0x0A00000000000366 ∧ b.hostState 2 = 1 ∧ (b.rx 1).held = none := by decide +kernel

/-! ### Shared time -/

def tu (v : ServoSt → ServoSt) (l : List (Machine.Field × Nat)) : State :=
  let s := base ([(Reg.TT_CFG_EN, 1), (Reg.LN_RXSTAT_STATE 0, 5)] ++ l)
  { s with servo := v s.servo }
theorem test_clockSet :
    let s := tu (fun v => v) [(Reg.TU_SETV_SEC_SEC, 3), (Reg.TU_SETV_NS_NS, 7), (Reg.TU_STAT_PRESENT, 1)]
    s.reachable 0x30000 = true ∧ s.refselOk (s.get Reg.TU_CTRL_REFSEL) = true ∧ (after .clockSet s).servo.setAt = some 1004 ∧ (after .clockSet s).get Reg.TU_CTRL_SET = 1 ∧
    (after .setTick (after .clockSet s)).time.acc = 3000000007 * 2 ^ 32 ∧ (after .setTick (after .clockSet s)).servoState = 1 ∧
    (after .clockSet (s.put Reg.TU_SETV_NS_NS 1000000000)).lastStatus = .prot := by decide +kernel
theorem test_clockSnap :
    let s := tu (fun v => v) [(Reg.TU_STAT_PRESENT, 1)]
    let t := after .snapTick (after .clockSnap s)
    (after .clockSnap s).servo.snapAt = some 1004 ∧ t.get Reg.TU_SNAP_TICK_TICK = 1004 ∧ t.get Reg.TU_SNAP_NS_NS = 3 ∧
    t.get Reg.TU_CTRL_SNAP = 0 := by decide +kernel
/-- The time words of a frame whose t2 and t3 are kept. -/
def tw (n : Nat) (p : Nat) : Word64 := timeWord n p
theorem test_timeFrameRx :
    let s := tu (fun v => { v with t2s := [(4, 100 * 65536)], t3s := [(8, 300 * 65536)] }) []
    let t := after (.timeFrameRx (2000 * tickU) 9 (tw 1 0) (tw 2 (90 * 2 ^ 18)) (tw 3 0) (tw 4 (330 * 2 ^ 18)) (tw 5 (4 * 2 ^ 16)) (tw 6 (8 * 2 ^ 16 + 3))) s
    s.timeLaneUp = true ∧ t.get Reg.TT_CNT_GOOD = 1 ∧ t.get Reg.TT_DELAY_V = 20 * 65536 ∧ t.get Reg.TT_OFFSET_V = 2 ^ 64 - 10 * 65536 ∧
    (after (.timeFrameRx (2000 * tickU) 9 0 0 0 0 0 0) s).get Reg.TT_CNT_MISS = 1 := by decide +kernel
theorem test_servo :
    let s := tu (fun v => { v with step := some (1004, -5) }) [(Reg.TU_STAT_SERVO, 2)]
    (after .servoStep s).servo.step = none ∧ (after .servoStep s).time.tick = 1004 ∧
    (after .servoStep { s with servo := { s.servo with setAt := some 1004 } }).time.acc = ((s.adv 1004).time.acc) ∧
    (after .servoTimeout s).servoState = 4 ∧ (after .servoTimeout s).time.tick = 1000 + 100 * 1250000 := by decide +kernel
theorem test_reference :
    let s := tu (fun v => v) [(Reg.TU_STAT_PRESENT, 3), (Reg.TU_STAT_PLLLOCK, 1)]
    (after (.referenceCheck 3 0 9 0) s).get (Reg.RM_DF_DF 1) = 9 ∧ (after (.referenceCheck 3 0 9 0) s).get (Reg.RM_DF_DF 2) = 0x8000 ∧
    (after .referenceLoss s).get Reg.TU_STAT_HOLD = 1 ∧ (after .referenceLoss s).get Reg.TU_STAT_PRESENT = 2 ∧
    s.refselOk 1 = true ∧ (after (.refselWrite 1) s).srcActive = 1 ∧ s.refselOk 2 = false ∧ (after (.refselWrite 2) s).lastStatus = .prot ∧ (after .pllUnlock s).get Reg.RM_CNT_UNLOCKS = 1 ∧
    (after .pllRelock (after .pllUnlock s)).get Reg.TU_STAT_PLLLOCK = 1 := by decide +kernel
theorem test_referenceStopped :
    let s := { tu (fun v => v) [] with time := ⟨1000, false, 0, 0, 0⟩ }
    s.dom 2 = true ∧ (after (.referenceCheck 3 0 9 0) s).get Reg.TU_STAT_PRESENT = 3 ∧
    (after (.referenceCheck 3 0 9 0) s).get (Reg.RM_DF_DF 2) = 0x8000 ∧
    (after .referenceLoss (after (.referenceCheck 3 0 9 0) s)).get Reg.TU_STAT_PRESENT = 2 := by decide +kernel

/-! ### The tether and the control ports -/

/-- Port 0 inserted at position 7 with a state of its own. -/
def th (v : PortSt) (l : List (Machine.Field × Nat)) : State :=
  (base ([(Reg.TH_CTRL_POS 0, 7)] ++ l)).setPort 0 { v with inserted := true }
def port0 : PortSt := PortSt.reset
def msg (op : BitVec 8) (pay : List Byte) : Msg := ⟨7, 0, 0x2005, op, 0, 3, 0, pay⟩
theorem test_tetherMessage :
    let s := th port0 []
    let m := msg 12 [1, 2]
    (after (.tetherMessage 0 m 0 3 []) s).sent = [⟨0, m, 0xA5, 4⟩] ∧ ((after (.tetherMessage 0 m 0 3 []) s).port 0).inq = [m] ∧
    (received m [95]).2 = false ∧ (after (.tetherMessage 0 m 0 3 [95]) s).sent.map (·.ackb) = [0x3C] ∧ (after (.tetherMessage 0 m 0 3 [95]) s).get (Reg.TH_CNT_BAD 0) = 1 ∧
    received m [] = (m, true) ∧
    (after (.tetherMessage 0 m 0 127 []) s).get (Reg.TH_CNT_ORPH 0) = 1 ∧ (after (.tetherMessage 0 m 0 127 []) s).sent = [] ∧
    (after (.tetherMessage 0 { m with src := 5 } 0x96 3 []) s).sent = [⟨0, { m with src := 5 }, 0x96, 4⟩] ∧
    (let r := { m with src := 7 }
     ((after (.tetherMessage 0 r 0xA5 3 []) (th { port0 with flight := [(r, 0)] } [])).port 0).flight = []) := by decide +kernel
theorem test_hostControlMessage :
    let s := base [(Reg.CC_CFG_EN, 1), (Reg.LN_RXSTAT_STATE 2, 5)]
    ((after (.hostControlMessage (msg 12 []) true) s).port 2).inq = [msg 12 []] ∧
    (after (.hostControlMessage (msg 12 []) false) s).get Reg.CC_STAT_BAD = 1 := by decide +kernel
theorem test_ring :
    let s := th { port0 with removeDue := true } []
    let o := th port0 [(Reg.OWN_STAT_STATE, 1), (Reg.OWN_STAT_OWNER, 0)]
    ((after (.join 1) s).port 1).insertDue = true ∧ ((after (.portInsert 1) (after (.join 1) s)).port 1).inserted = true ∧
    ((after (.portRemove 0) s).port 0).inserted = false ∧ ((after (.leave 0 (msg 10 [])) o).port 0).removeDue = true ∧
    (after (.leave 0 (msg 10 [])) o).get (Reg.TH_CTRL_EN 0) = 0 ∧
    (after (.number 0 8) s).get (Reg.TH_CTRL_POS 0) = 9 ∧ s.ringPos = 0 := by decide +kernel
theorem test_ping :
    ((after (.ping 0 (msg 12 [1, 2])) (th port0 [])).sent.map (·.msg.payload)) = [[1, 2]] ∧
    (let s := th { port0 with flight := [(msg 8 [], 1)] } []
     ((after (.noticeRetry 0) s).port 0).flight = [({ msg 8 [] with src := 7 }, 2)] ∧
     (after (.noticeRetry 0) (th { port0 with flight := [(msg 8 [], 3)] } [])).get (Reg.TH_STAT_LONE 0) = 1 ∧
     (after (.noticeRetry 0) (th { port0 with flight := [(msg 1 [], 3)] } [])).get (Reg.TH_CNT_RLOST 0) = 1) := by decide +kernel

/-- R379 by hand: two words of the scratch of the wake registers: WAKE_EN reads 3 at 0x100; 0x104 is no register. -/
theorem test_read :
    let s := th port0 []
    let m := msg 1 (leBytes 4 0x100 ++ leBytes 2 1)
    readShape m = true ∧ (after (.read 0 m) s).lastData = [3] ∧ (after (.read 0 m) s).lastStatus = .ok ∧
    (after (.read 0 (msg 1 (leBytes 4 0x100 ++ leBytes 2 2))) s).lastStatus = .badAddress ∧
    (after (.read 0 (msg 1 [1])) s).lastStatus = .badMsg := by decide +kernel
/-- A state in which a block that is being reset holds its accesses (R461). -/
def held0 : State := { th port0 [(Reg.OWN_STAT_STATE, 1), (Reg.OWN_STAT_OWNER, 0)] with quiesce := [⟨0x461, 0, 0, false, none⟩] }
theorem test_held :
    let m := msg 1 (leBytes 4 0x50000 ++ leBytes 2 1)
    let w := msg 2 (leBytes 4 0x50000 ++ leBytes 4 0)
    ((held0.renew 0).runRead 0 m).ended = none ∧ ((after (.read 0 m) held0).port 0).inq = [m] ∧
    (after (.accessTimeout 0 false) (after (.read 0 m) held0)).lastStatus = .timeout ∧
    ((after (.write 0 w) held0).port 0).inq = [w] ∧
    (let p := held0.setPort 0 { held0.port 0 with posted := [⟨5, 0, 3, 0, 0x50000, [0]⟩] }
     after (.postedWriteExecute 0) p = p ∧ (after (.accessTimeout 0 true) p).lastStatus = .timeout) := by decide +kernel
theorem test_write :
    let s := th port0 [(Reg.OWN_STAT_STATE, 1), (Reg.OWN_STAT_OWNER, 0)]
    let m := msg 2 (leBytes 4 0x100 ++ leBytes 4 1)
    let p := { m with tagw := 5 }
    (after (.write 0 m) s).get Reg.AON_WAKE_WAKE_EN = 1 ∧ (after (.write 0 m) s).lastStatus = .ok ∧
    (s.renewNew 0 m).plainAccess 0x100 = true ∧ spans 0x100 1 = false ∧ (s.renewNew 0 m).rwlRefused 0x100 1 ((regAt 0x100).get!.1) = false ∧
    (after (.write 0 m) (th port0 [(Reg.OWN_STAT_STATE, 1), (Reg.OWN_STAT_OWNER, 2)])).lastStatus = .notOwner ∧
    ((after (.write 0 p) s).port 0).posted = [⟨5, 0, 3, 0, 0x100, [1]⟩] ∧
    (after (.postedWriteExecute 0) (after (.write 0 p) s)).get Reg.AON_WAKE_WAKE_EN = 1 ∧
    ((after (.postedWriteExecute 0) (after (.write 0 p) s)).port 0).posted = [] := by decide +kernel
/-- R540: of messages with a misaligned address no word is executed. -/
theorem test_misaligned :
    let s := th port0 [(Reg.OWN_STAT_STATE, 1), (Reg.OWN_STAT_OWNER, 0)]
    let r := msg 1 (leBytes 4 0x102 ++ leBytes 2 2)
    let m := msg 2 (leBytes 4 0x102 ++ leBytes 4 1 ++ leBytes 4 1)
    let p := s.setPort 0 { s.port 0 with posted := [⟨5, 0, 3, 0, 0x102, [1, 1]⟩] }
    readShape r = true ∧ (after (.read 0 r) s).lastStatus = .badAddress ∧ (after (.read 0 r) s).lastData = [] ∧
    writeShape m = true ∧ msgNp m = true ∧ (after (.write 0 m) s).lastStatus = .badAddress ∧
    (after (.write 0 m) s).get Reg.AON_WAKE_WAKE_EN = s.get Reg.AON_WAKE_WAKE_EN ∧
    (after (.postedWriteExecute 0) p).lastStatus = .badAddress ∧ (after (.postedWriteExecute 0) p).get (Reg.PW_LOG2_STATUS 0) = 1 := by
  decide +kernel
theorem test_plainRegister : ∀ s : State, s.hooked 0 0x100 1 false = none := by intro s; rfl
theorem test_postedFail :
    let s := (th port0 [(Reg.OWN_STAT_STATE, 1), (Reg.OWN_STAT_OWNER, 0)]).setPort 0
      { port0 with inserted := true, posted := [⟨5, 0, 3, 0, 0x104, [1]⟩], fence := [(msg 3 [], 1)] }
    let t := after (.postedWriteExecute 0) s
    t.lastStatus = .badAddress ∧ t.get (Reg.PW_LOG1_ADDR 0) = 0x104 ∧ t.get Reg.PW_STAT_NEXT = 1 ∧ (t.port 0).fails = 1 ∧
    (after (.fenceComplete 0) t).lastStatus = .ok ∧ ((after (.fenceComplete 0) t).port 0).fails = 0 ∧
    ((after (.fence 0 (msg 3 [])) t).port 0).fence.length = 2 := by decide +kernel

/-- IEEE 802.3 Clause 36: D0.0 at either disparity, D21.5, D11.7 at positive disparity (the alternate half), and a code error. -/
theorem test_lineCode :
    (encodeData false 0x00).1 = 0b1001110100 ∧ (encodeData true 0x00).1 = 0b0110001011 ∧ (encodeData false 0xB5).1 = 0b1010101010 ∧
    (encodeData true 0xEB).1 = 0b1101001000 ∧ decodeLine false (encodeLine false [0x00, 0xB5, 0xEB, 0xFF]) = some [0x00, 0xB5, 0xEB, 0xFF] ∧
    decodeData false 0b0011111010 = none := by decide +kernel

def own (l : List (Machine.Field × Nat)) : State := th port0 l
theorem test_claim :
    let s := own []
    let o := own [(Reg.OWN_STAT_STATE, 1), (Reg.OWN_STAT_OWNER, 2)]
    let c := own [(Reg.SEC_STAT_LC, 2)]
    s.eligible 0 = true ∧ (after (.claim 0 (msg 4 []) false) s).ownState = 1 ∧ (after (.claim 0 (msg 4 []) false) s).lastStatus = .ok ∧
    (after (.claim 0 (msg 4 []) false) o).lastStatus = .owned ∧ (after (.claim 0 (msg 4 []) false) c).lastStatus = .challenge ∧
    (let n := c.setPort 0 { c.port 0 with nonce := some 7 }
     (after (.claim 0 (msg 4 (List.replicate 32 0)) true) n).lastStatus = .authFail ∧
     ((after (.claim 0 (msg 4 (List.replicate 32 0)) true) n).port 0).nonce = none) := by decide +kernel
theorem test_ownership :
    let o := own [(Reg.OWN_STAT_STATE, 1), (Reg.OWN_STAT_OWNER, 0)]
    let n := own [(Reg.OWN_STAT_STATE, 1), (Reg.OWN_STAT_OWNER, 2)]
    (after (.handover 0 (msg 5 [2])) o).ownState = 2 ∧ (after (.handover 0 (msg 5 [2])) o).get Reg.OWN_STAT_TARGET = 2 ∧
    (after .handoverTimeout (after (.handover 0 (msg 5 [2])) o)).ownState = 1 ∧ (after (.handover 0 (msg 5 [2])) n).lastStatus = .notOwner ∧
    (after (.release 0 (msg 6 [])) o).ownState = 0 ∧ (after (.tetherReset 0 (msg 7 [])) n).lastStatus = .notOwner ∧
    (after (.tetherReset 0 (msg 7 [])) o).time.run = false ∧ (after (.tetherReset 0 (msg 7 [])) o).lastStatus = .ok ∧
    (after (.tetherReset 0 (msg 7 [])) o).pw.boot = 3 ∧ (after .leaseExpiry (fullLog o)).ownState = 0 := by decide +kernel

/-! ### Keels and fail-over -/

/-- Keel A active with keel B its standby. -/
def kp (l : List (Machine.Field × Nat)) : State :=
  base ([(Reg.ARB_STAT_GRANT, 1), (Reg.KL_STAT_ROLE 0, 1), (Reg.KL_STAT_ROLE 1, 0), (Reg.CD_CTRL_STATE 0, 2)] ++ l)
theorem test_failOver :
    let s := kp [(Reg.KL_STAT_READY 1, 1)]
    let t := after (.heartbeatTimeout 0) s
    let u := after .grantRise (after .mirrorFrozen { t with time := { t.time with run := false } })
    s.standby? = some 1 ∧ t.get Reg.ARB_STAT_PHASE = 1 ∧ t.failover = some (10000, 1, false) ∧ t.get Reg.ARB_STAT_CAUSE = 1 ∧
    t.get Reg.ARB_CNT_FAILOVERS = 1 ∧ u.get Reg.ARB_STAT_GRANT = 2 ∧ u.failover = none ∧ u.role 1 = 1 := by decide +kernel
theorem test_restart :
    let t := after (.lockstepMismatch 0) (kp [(Reg.KL_STAT_READY 1, 1)])
    let u := after .restartGrant { kp [(Reg.ARB_STAT_GRANT, 0), (Reg.ARB_STAT_PHASE, 2)] with failover := some (1000, 0, false) }
    t.failover = some (1000, 1, false) ∧ t.get Reg.ARB_CNT_LOCKSTEP = 1 ∧ u.get Reg.ARB_STAT_GRANT = 1 ∧ u.time.tick = 63500 := by decide +kernel
/-- R407: a fault of the other keel at the same tick: no fail-over has been, and the stream that was open is INTERRUPTED. -/
theorem test_bothFault :
    let s := (kp [(Reg.KL_STAT_READY 1, 1), (Reg.ST_CTRL_STATE 0 5, 1)]).setKeel 1
      { KeelSt.reset with mirror := some ((kp []).capture 0 0) }
    let t := after (.selfcheck 0) s
    let u := t.failUndone
    t.get Reg.ARB_CNT_FAILOVERS = 1 ∧ t.get Reg.ARB_LAST_D_T = 1000 ∧ (t.retained 5).intr = none ∧ t.life ≠ s.life ∧
    u.get Reg.ARB_CNT_FAILOVERS = 0 ∧ u.get Reg.ARB_LAST_D_T = 0 ∧ (u.retained 5).intr = some (0, 1000) ∧ u.life = s.life := by
  decide +kernel
/-- R406, R449: a cut of the standby's domain is its cause 3. -/
theorem test_standbyCut :
    let t := (kp []).cutDomain 20 true
    t.get Reg.ARB_STAT_CAUSE = 3 ∧ t.get Reg.ARB_CNT_STBYRST = 1 ∧ (t.escOf 1026).step = 1 := by decide +kernel
/-- R417: RST_STBY reaches a keel in reset after a failed test; R409: the old keel's test waits for G + 1. -/
theorem test_otherKeel :
    let s := kp [(Reg.KL_STAT_ROLE 1, 2)]
    s.otherKeel? = some 1 ∧ ((after .standbyResetCommand s).keel 1).held = true ∧
    (let v := s.setKeel 1 { KeelSt.reset with held := true, testAt := 5000 }
     (after (.keelSelfTest 1) v).time.tick = 5000 ∧ ((after (.keelSelfTest 1) v).keel 1).testing = some 5000) := by decide +kernel
/-- R415: START on the keel that is taking the grant is rejected. -/
theorem test_startInFailover :
    let s := { kp [(Reg.ARB_STAT_GRANT, 0), (Reg.KL_STAT_ROLE 0, 2), (Reg.ARB_STAT_PHASE, 1)] with failover := some (900, 1, true) }
    s.testable 1 = false ∧ (after (.keelTestStart 1) s).lastStatus = .prot := by decide +kernel
/-- R402: a write after frame M stands on the new keel. -/
theorem test_writesAfterFrame :
    let m := (kp []).capture 0 0
    let s := (kp [(Reg.SP_CTRL_MINLOW 0 0, 9), (Reg.SP_CTRL_MINLOW 1 0, 9)]).takeFrame 1 1000 m
    s.get (Reg.SP_CTRL_MINLOW 1 0) = 9 := by decide +kernel
theorem test_selfcheck :
    (after (.selfcheck 1) (kp [])).get Reg.ARB_CNT_STBYRST = 1 ∧ ((after (.selfcheck 1) (kp [])).keel 1).held = true ∧
    (after (.selfcheck 0) (kp [(Reg.KL_STAT_READY 1, 1)])).get Reg.ARB_STAT_CAUSE = 3 := by decide +kernel
theorem test_arbCommands :
    let s := kp [(Reg.KL_STAT_READY 1, 1)]
    s.reachable 0x200 = true ∧ (after .failoverCommand s).get Reg.ARB_STAT_CAUSE = 5 ∧ (after .failoverCommand s).lastStatus = .ok ∧
    (after .failoverCommand (kp [])).lastStatus = .prot ∧ ((after .standbyResetCommand s).keel 1).held = true := by decide +kernel
def standbyOk (s : State) : State := s.setKeel 1 { s.keel 1 with passed := true, loaded := true }
theorem test_mirrorFrame :
    let s := standbyOk (kp [])
    let t := after (.mirrorFrame true) s
    t.time.tick = 1250 ∧ t.get (Reg.KL_STAT_READY 1) = 1 ∧ ((t.keel 1).mirror.map (·.tick)) = some 1250 ∧
    (after .mirrorStale t).get (Reg.KL_STAT_READY 1) = 0 ∧ (after .mirrorStale t).time.tick = 6250 ∧
    (after (.mirrorFrame false) s).get (Reg.KL_STAT_MIRBAD 1) = 1 := by decide +kernel
theorem test_selfTest :
    let s := (kp []).setKeel 1 { KeelSt.reset with held := true }
    let t := after (.keelSelfTest 1) s
    t.role 1 = 3 ∧ (t.keel 1).testing = some 1000 ∧ (after (.keelSelfTestDone 1 0) t).get (Reg.KL_TEST_PASS 1) = 1 ∧
    (after (.keelSelfTestDone 1 0) t).time.tick = 1626000 ∧ (after (.keelSelfTestDone 1 4) t).role 1 = 2 := by decide +kernel
theorem test_keelLoad :
    let s := (kp []).setKeel 1 { KeelSt.reset with passed := true }
    ((after (.mirrorLoadDone 1) s).keel 1).loaded = true ∧ (after (.mirrorLoadDone 1) s).get (Reg.KL_STAT_READY 1) = 1 ∧
    s.keelOpen 1 0x50004 = true ∧ (after (.keelTestStart 1) s).role 1 = 3 ∧ (after (.keelTestStart 0) s).lastStatus = .prot := by decide +kernel
theorem test_conductorControl :
    let s := kp [(Reg.CD_CTRL_STATE 0, 1), (Reg.CD_CTRL_VALID 0, 1), (Reg.CD_ENTRY_IDX 0, 5)]
    s.keelOpen 0 0x50010 = true ∧ (after (.conductorGo 0) s).condState 0 = 2 ∧ ((after (.conductorGo 0) s).core 1024).pc = 5 ∧
    (after (.conductorHalt 0) (kp [])).lastStatus = .prot ∧ (after (.conductorHalt 0) (kp [(Reg.CD_CTRL_HBEN 0, 0)])).condState 0 = 1 := by
  decide +kernel
theorem test_conductorCodeWrite :
    let s := kp [(Reg.CD_CTRL_STATE 0, 1), (Reg.CD_CTRL_VALID 0, 1), (Reg.CD_CTRL_CPAGE 0, 2)]
    s.keelOpen 0 0x60008 = true ∧ (after (.conductorCodeWrite 0 2 0x12345678) s).readLe (condCode 0 + 0x20008) 4 = 0x12345678 ∧
    (after (.conductorCodeWrite 0 2 0x12345678) s).get (Reg.CD_CTRL_VALID 0) = 0 ∧ (after (.conductorCodeWrite 0 2 1) (kp [])).lastStatus = .prot := by
  decide +kernel
theorem test_conductorQueue :
    let s := { kp [(Reg.CD_TMR_PERIOD 0, 500)] with remsgs := [(9, 4)] }
    ((after .conductorMessage s).core 1024).inq = [(9, 4)] ∧ (after (.conductorTimer 0) s).get (Reg.CD_EVT_EVT 0) = 2 ∧
    (after .conductorMessage ({ kp [] with remsgs := [(9, 4)] }.setCore 1024 { CoreSt.reset with inq := List.replicate 256 (0, 0) })).get
      (Reg.KL_MSGLOST_COUNT 0) = 1 := by decide +kernel

/-! ### Monitor converter and I2C -/

/-- The converter on, its regular sequence of two slots (the channels 2 and 3) enabled, and what it holds. -/
def mo (v : MonSt) (l : List (Machine.Field × Nat)) : State :=
  { base ([(Reg.MON_RCTRL_EN, 1), (Reg.MON_RCTRL_LEN, 1), (Reg.MON_RSLOT_TAG 0, 2), (Reg.MON_RSLOT_TAG 1, 3), (Reg.MON_QCTRL_EN, 1),
    (Reg.MON_ICTRL_EN, 1), (Reg.MON_ICTRL_OTEN, 1), (Reg.MON_ISLOT_TAG 0, 36)] ++ l) with mon := v }
theorem test_regularSequence :
    let s := after .regularSequenceStart (mo MonSt.reset [])
    let t := after (.slotResult (.convs [25000]) false false) s
    let u := after (.slotResult (.convs [-60000]) false false) t
    (mo MonSt.reset []).regularDue = 1000 ∧ s.mon.rslot = some 0 ∧ s.mon.taken.1 = 2 ∧ t.mon.rslot = some 1 ∧
    t.get (Reg.MON_LAST_VALUE 2) = 25000 ∧ t.time.tick = 7250 ∧
    t.mon.queue.map (·.word) = [0x0200_0061_A800_001C] ∧ u.mon.rslot = some 0 ∧ u.get (Reg.MON_LAST_OOR 3) = 1 ∧
    u.get (Reg.MON_LAST_VALUE 3) = 0x800000 ∧ u.get Reg.MON_QSTAT_LEVEL = 2 ∧
    (after .regularSequenceStart { t with regs := (t.put Reg.MON_RCTRL_PER 5).regs }).get Reg.MON_STAT_RLATE = 1 := by decide +kernel
/-- R421: the mean of four conversions; the result is taken at the end of the last. -/
theorem test_average :
    let s := after .regularSequenceStart (mo MonSt.reset [(Reg.MON_RSLOT_AVG 0, 2), (Reg.MON_RSLOT_SETTLE 0, 1)])
    let t := after (.slotResult (.convs [10, 20, 30, 44]) false false) s
    s.mon.shape = (1, 2) ∧ t.get (Reg.MON_LAST_VALUE 2) = 26 ∧ t.time.tick = 1000 + 5 * 6250 := by decide +kernel
def hot : DieTemp := ⟨1, 109999, 110000⟩
/-- R430: an injected start abandons the regular slot, which runs again with REP = 1. -/
theorem test_injected :
    let s := after .regularSequenceStart (mo MonSt.reset [])
    let o := after (.overTemperature hot) s
    let a := after .injectedSequenceStart o
    let b := after (.slotResult (.convs [7]) false false) a
    let c := after (.slotResult (.convs [7]) false false) b
    s.get Reg.MON_ICTRL_OT = 110 ∧ o.mon.ireq = true ∧ after (.overTemperature ⟨1, 110000, 120000⟩) s = s ∧
    a.mon.islot = some 0 ∧ a.get Reg.MON_STAT_IBUSY = 1 ∧ (after (.overTemperature hot) a).get Reg.MON_STAT_IPEND = 1 ∧
    (after (.overTemperature hot) (after (.overTemperature hot) a)).get Reg.MON_STAT_IMISS = 0 ∧
    (after (.overTemperature hot) ((after (.overTemperature hot) a).adv 60000)).get Reg.MON_STAT_IMISS = 1 ∧
    b.mon.islot = none ∧ b.mon.rslot = some 0 ∧ (b.mon.queue.map (fun e => bits e.word.toNat 48 4)) = [3] ∧
    (c.mon.queue.map (fun e => bits e.word.toNat 48 4)) = [3, 8] := by decide +kernel
theorem test_monQueue :
    let e : MonEntry := ⟨0x0200_0061_A800_0007, false, parityOf 0x0200_0061_A800_0007, 2 ^ 23⟩
    let s := mo { MonSt.reset with queue := [e] } [(Reg.MON_QSTAT_LEVEL, 1)]
    let t := after (.monQueuePop 3) s
    let p := after (.monQueuePop 3) (fullLog (mo { MonSt.reset with queue := [{ e with poison := true }] } []))
    s.inReset 0x60108 = false ∧ t.lastData = [0xA800_0007] ∧ t.mon.queue = [] ∧ SMap.get t.mon.latches 3 (0, 0) = (0x0200_0061, 1) ∧
    SMap.get (after (.monQueuePop 3) t).mon.latches 3 (0, 0) = (0xFF00_0000, 0) ∧ p.get Reg.MON_QSTAT_PERR = 1 ∧
    SMap.get p.mon.latches 3 (0, 0) = (0x0280_0061, 1) ∧ s.reachable 0x60100 = true ∧ (after .monQueueClear s).mon.queue = [] ∧
    (after .monQueueClear s).get Reg.MON_QCTRL_EN = 1 := by decide +kernel
/-- IEC 60751: 100 Ω at 0 °C, 18.52 Ω at −200 °C, 390.48 Ω at 850 °C; and the chapter's example, 138.4555 Ω at 99.868 °C. -/
theorem test_pt100 :
    curveTemp 1 2 100000 = 0 ∧ curveTemp 1 2 18520 = -200001 ∧ curveTemp 1 2 390481 = 849999 ∧ curveTemp 1 2 138455 = 99866 ∧
    curveTemp 1 2 138456 = 99869 ∧ curveTemp 3 2 1000000 = 0 := by decide +kernel
/-- IEC 60584-1's tables: type K 4.096 mV at 100 °C, 41.276 mV at 1,000 °C, −5.891 mV at −200 °C; type T 20.872 mV at 400 °C, −3.379 mV
at −100 °C; and a short reads the cold junction (R427). -/
theorem test_thermocouple :
    (thermoEmf 5 100000 / 10 ^ 87, thermoEmf 5 1000000 / 10 ^ 87, thermoEmf 5 (-200000) / 10 ^ 87) = (4096, 41275, -5892) ∧
    (thermoEmf 6 400000 / 10 ^ 87, thermoEmf 6 (-100000) / 10 ^ 87) = (20871, -3379) ∧ thermoTemp 5 0 25000 = (25000, true) ∧
    thermoTemp 6 0 (-3000) = (-3000, true) ∧ thermoTemp 5 (41276 - 1000) 25000 = (1000016, false) := by decide +kernel
theorem test_monQueue_full :
    let e : MonEntry := ⟨0x0200_0061_A800_0007, false, parityOf 0x0200_0061_A800_0007, 2 ^ 23⟩
    let t := after (.slotResult (.convs [1]) false false) (mo { MonSt.reset with queue := List.replicate 64 e, rslot := some 0, taken := (2, 0, 0) } [])
    t.get Reg.MON_QSTAT_OVF = 1 ∧ t.mon.queue.length = 64 ∧ t.mon.ovrNext = true := by decide +kernel
/-- R427: an open sensor on a channel with its source (WIRE = 2), an open thermocouple with BIAS, and a shorted Pt100. -/
theorem test_sensorFault :
    let s := fun (cfg : Nat) => mo { MonSt.reset with rslot := some 0, taken := (42, cfg, 0), shape := (0, 1) } []
    let t := fun (cfg : Nat) (x : SlotInput) => after (.slotResult x false false) (s cfg)
    (t 0x30000000 .opened).get (Reg.MON_LAST_OOR 42) = 1 ∧ (t 0xA0008000 .opened).get (Reg.MON_LAST_VALUE 42) = 0x7FFFFF ∧
    (s 0xA0008000).biased = some 2 ∧ (s 0xA0000000).biased = none := by decide +kernel
theorem test_sensorConfig :
    let s := mo MonSt.reset []
    s.reachable 0x60410 = true ∧ (after (.sensorConfigWrite 2 0x35000000) s).get (Reg.SNS_CFG_CURVE 2) = 1 ∧
    (after (.sensorConfigWrite 2 0x35000000) s).get (Reg.SNS_CFG_WIRE 2) = 2 ∧
    (after (.sensorConfigWrite 2 0x18280000) s).lastStatus = .prot ∧ (after (.sensorConfigWrite 2 0xA8000000) s).lastStatus = .prot ∧
    (after (.sensorConfigWrite 2 0x20000000) s).lastStatus = .prot := by decide +kernel
/-- The PEC bytes were worked out apart from the model: 0x0E after B4 07, and 0x1C over B4 07 0E B5 D2 3A. -/
theorem test_i2c :
    let s := base [(Reg.I2C_CTRL_EN, 1), (Reg.I2C_CTRL_PEC, 1), (Reg.I2C_DATA_B0 0, 7)]
    let go := after (.i2cCommand 0xC05A0201 true true) s
    let d := after (.i2cCommandDone false false 0x1C 0 [0xD2, 0x3A]) go
    s.reachable 0x70004 = true ∧ go.i2c.phase = 1 ∧ go.get Reg.I2C_STAT_BUSY = 1 ∧ go.get Reg.I2C_CMD_ADDR = 0x5A ∧
    (after (.i2cCommand 0xC05A0201 true true) go).lastStatus = .prot ∧ d.get Reg.I2C_STAT_BYTES = 5 ∧ d.get Reg.I2C_STAT_PECERR = 0 ∧
    (after (.i2cCommandDone false false 0x31 0 [0xD2, 0x3A]) go).get Reg.I2C_STAT_PECERR = 1 ∧
    d.i2c.sent = [.start, .byte 0xB4, .byte 7, .byte 0x0E, .start, .byte 0xB5, .stop] ∧
    (after (.i2cCommandDone true false 0 0 []) go).i2c.sent = [.start, .byte 0xB4, .stop] ∧ d.get (Reg.I2C_DATA_B0 0) = 0xD2 ∧ d.get (Reg.I2C_DATA_B1 0) = 0x3A ∧
    (after (.i2cCommandDone true false 0 1 []) go).get Reg.I2C_STAT_BYTES = 1 ∧ (after .i2cTimeout go).i2c.phase = 0 := by
  decide +kernel
theorem test_i2cRecovery :
    let s := fullLog (base [])
    let e := after (.i2cEnable true false) s
    s.reachable 0x70000 = true ∧ e.i2c.phase = 2 ∧ e.get Reg.I2C_STAT_BUSY = 1 ∧ (after (.busRecoveryDone 4) e).get Reg.I2C_STAT_PULSES = 4 ∧
    (after (.busRecoveryDone 4) e).i2c.phase = 0 ∧ (after (.busRecoveryDone 0) e).get Reg.I2C_STAT_STUCK = 1 ∧
    (after (.i2cEnable false true) s).i2c.phase = 3 ∧ (after .i2cTimeout (after (.i2cEnable false true) s)).get Reg.I2C_STAT_STUCK = 1 ∧
    (after (.busRecoveryDone 4) e).i2c.sent = [.pulse, .pulse, .pulse, .pulse, .stop] := by
  decide +kernel

/-! ### Power, reset and boot -/

/-- In a power state with a stage, a boot step and fields. -/
def pz (stage boot : Nat) (l : List (Machine.Field × Nat)) : State :=
  let s := base l
  { s with pw := { s.pw with stage := stage, boot := boot } }
theorem test_targetWrite :
    let s := pz 0 0 [(Reg.PR_STATE_STATE, 2), (Reg.PR_STATE_BUSY, 0), (Reg.ARB_STAT_GRANT, 1), (Reg.TU_STAT_PRESENT, 15)]
    let n := pz 0 0 [(Reg.PR_STATE_STATE, 2), (Reg.PR_STATE_BUSY, 0)]
    s.reachable 0x20000 = true ∧ s.refselOk (s.get Reg.TU_CTRL_REFSEL) = true ∧ (after (.targetWrite 4) s).pw.stage = 1 ∧
    (after (.targetWrite 4) s).get Reg.PR_STATE_BUSY = 1 ∧ (after (.targetWrite 2) s).get Reg.PR_STATE_BUSY = 0 ∧
    (after (.targetWrite 1) s).pw.stage = 5 ∧ (after (.targetWrite 7) s).lastStatus = .prot ∧
    (after (.targetWrite 3) n).get Reg.PR_STATE_REFUSE = 1 ∧
    (after (.targetWrite 3) (n.put Reg.ARB_STAT_GRANT 1)).get Reg.PR_STATE_REFUSE = 2 := by decide +kernel
theorem test_arming :
    let s := { pz 1 0 [(Reg.PR_STATE_STATE, 2)] with time := ⟨1000, false, 0, 0, 0⟩ }
    s.settled (fun d => domArm d || domMem d) = true ∧ (after .timeBaseStart s).time.run = true ∧
    (after .timeBaseStart s).pw.stage = 2 := by decide +kernel
set_option maxRecDepth 100000 in
theorem test_armed :
    let s := { st ([(Reg.PR_DOM_PG_PG, 7), (Reg.PR_STATE_STATE, 2), (Reg.PR_STATE_TARGET, 3), (Reg.TU_STAT_PLLLOCK, 1)]) with
      time := ⟨1000, true, 0, 0, 0⟩ }
    let s1 := { s with pw := { s.pw with stage := 2, boot := 0 } }
    s1.allBiased = true ∧ (after .armedEntry s1).pwr = 3 ∧ (after .armedEntry s1).get Reg.PR_STATE_BUSY = 0 := by decide +kernel
set_option maxRecDepth 100000 in
theorem test_acquire :
    let s := pz 0 0 [(Reg.PR_STATE_TARGET, 4), (Reg.PR_STATE_BUSY, 1), (Reg.ARB_STAT_GRANT, 1), (Reg.ST_CTRL_STATE 0 5, 1)]
    let t := after .acquireEntry s
    let v := (((t.put Reg.PR_DOM_PG_PG 7).put Reg.PR_STATE_TARGET 3).put (Reg.SP_CTRL_EN 0 0) 1).put (Reg.SP_CTRL_ACQ 0 0) 1
    let u := after .acquireExit (v.setPin 0 ⟨true, 5⟩)
    t.pwr = 4 ∧ t.time.tick = 1001 ∧ t.get Reg.PR_IRQ_STAT_IRQ = 128 ∧ u.pwr = 3 ∧ u.time.tick = 1002 ∧ u.stState 0 5 = 2 ∧
    u.pin 0 = ⟨false, 1002⟩ := by
  decide +kernel
/-- R132: what the entry into ARMED does to a HALTED core with AUTO = 1. -/
theorem test_autoStart :
    let s := pz 0 0 [(Reg.CORE_CTRL_AUTO 7, 1), (Reg.CORE_CTRL_LEVEL 7, 1), (Reg.CORE_CTRL_VALID 7, 1)]
    s.mayStart 7 = true ∧ (s.autoStart [7]).coreState 7 = cRUNNING := by decide +kernel
set_option maxRecDepth 100000 in
theorem test_descent :
    let s := pz 0 0 [(Reg.PR_STATE_TARGET, 2), (Reg.PR_STATE_BUSY, 1), (Reg.STRIPE_STATE_BIAS 3, 3)]
    let t := after .standbyDescent s
    t.descent = some 1000 ∧ t.pw.stage = 3 := by decide +kernel
set_option maxRecDepth 100000 in
theorem test_quiesceDone :
    let s := { st [(Reg.PR_DOM_PG_PG, 0x200F), (Reg.PR_STATE_STATE, 3), (Reg.PR_STATE_TARGET, 2), (Reg.STRIPE_STATE_BIAS 0, 3),
      (Reg.TU_STAT_PLLLOCK, 1)] with time := ⟨1000, true, 0, 0, 0⟩ }
    let t := after .quiesceDone { s with pw := { s.pw with stage := 3, boot := 0 } }
    let u := after .standbyEntry t
    s.spillEmpty = true ∧ t.pw.stage = 4 ∧ t.time.tick = 1001 ∧ t.time.run = false ∧ t.dom 3 = false ∧ t.dom 13 = true ∧
    t.get (Reg.STRIPE_STATE_BIAS 0) = 0 ∧ u.pwr = 2 ∧ u.get Reg.PR_STATE_BUSY = 0 := by decide +kernel
theorem test_keep :
    let s := pz 5 0 [(Reg.PR_STATE_STATE, 2), (Reg.PR_STATE_TARGET, 1), (Reg.PR_DOM_EN_EN, 77)]
    let t := after .keepEntry s
    let u := after (.wake ⟨1, 320⟩) t
    t.pwr = 1 ∧ t.get Reg.PR_DOM_PG_PG = 1 ∧ t.get Reg.PR_DOM_EN_EN = 77 ∧ t.time.tick = 1000 ∧ t.time.run = false ∧
    u.pwr = 5 ∧ u.get Reg.AON_WAKE_SRC = 2 ∧ u.pw.boot = 4 ∧ (after (.wake ⟨1, 319⟩) t).pwr = 1 := by decide +kernel
theorem test_domainEnable :
    let s := pz 0 0 [(Reg.PR_STATE_STATE, 2), (Reg.ARB_STAT_GRANT, 1), (Reg.STRIPE_STATE_BIAS 2, 3)]
    let all : BitVec 36 := BitVec.allOnes 36
    s.reachable 0x20008 = true ∧ s.reachable 0x2000C = true ∧ (after (.domainEnableWrite (all - 2 ^ 19)) s).lastStatus = .prot ∧
    (after (.domainEnableWrite (all - 2 ^ 5)) s).dom 5 = false ∧ (after (.domainEnableWrite (all - 2 ^ 5)) s).dom 6 = true ∧
    (after (.domainEnableWrite (all - 7)) s).get Reg.PR_DOM_EN_EN = 2 ^ 33 - 1 := by decide +kernel
set_option maxRecDepth 100000 in
theorem test_domainPower :
    let s := pz 1 0 [(Reg.PR_STATE_STATE, 2), (Reg.PR_DOM_PG_PG, 2 ^ 36 - 1 - 16)]
    let t := after (.domainPowerUp 4) s
    s.wanting 4 = true ∧ t.pw.starting = [4] ∧ (after (.domainPowerGood 4) t).dom 4 = true ∧
    (after (.domainPowerGood 4) t).get (Reg.STRIPE_STATE_BIAS 1) = 1 ∧
    s.reachable 0x20018 = true ∧ s.reachable 0x2001C = true ∧
    (after (.domainFailClear 4) (s.put Reg.PR_DOM_FAIL_FAIL 48)).get Reg.PR_DOM_FAIL_FAIL = 32 ∧
    (after (.domainFailClear 35) (s.put Reg.PR_DOM_FAIL_FAIL (2 ^ 35 + 1))).get Reg.PR_DOM_FAIL_FAIL = 1 := by decide +kernel
/-- The worked example of the chapter on power: DIG3 is cut at tick 50,010,000. -/
theorem test_latchUp :
    let s := fullLog { pz 0 0 [(Reg.PR_STATE_STATE, 4)] with time := ⟨50010000, true, 0, 0, 0⟩ }
    let t := after (.latchUp 14 false) (s.safeTo 384 49995000)
    let u := after (.latchUpRepower 14) t
    SMap.get u.pw.safe 384 0 = 49995000 ∧ t.pw.dark = [3] ∧ t.get (Reg.SAFE_TICK_TICK 384) = 0 ∧
    t.get Reg.PR_LU_LAST_DOMAIN = 0x0E ∧ t.get Reg.PR_LU_LAST_TICK = 0x2FB1790 ∧ SMap.find? t.pw.safe 384 = some 0x2FADCF8 ∧
    t.pw.off = [14] ∧ t.dom 14 = false ∧ u.pw.starting = [14] ∧ u.pw.off = [] := by decide +kernel
/-- A second latch-up of one domain within 1 s of its repower fails it; one after 1 s, 1,250,000,000 ticks, repowers it again. -/
theorem test_latchUp_again :
    let s := fullLog (pz 0 0 [])
    let u := after (.latchUpRepower 33) (after (.latchUp 33 false) s)
    let g := after (.domainPowerGood 33) u
    let near := { g with time := ⟨1250000999, true, 0, 0, 0⟩ }
    let far := { g with time := ⟨1250001000, true, 0, 0, 0⟩ }
    SMap.find? s.pw.again 33 = none ∧ SMap.find? g.pw.again 33 = some (.since 1000) ∧ g.dom 33 = true ∧
    near.cutSoon 33 false = true ∧ far.cutSoon 33 true = false ∧
    (after (.latchUp 33 true) far).get Reg.PR_DOM_FAIL_FAIL = 0 ∧ (after (.latchUp 33 true) far).pw.off = [33] := by decide +kernel
theorem test_latchUp_clock :
    (after (.latchUp 0 false) (fullLog (pz 0 0 []))).pwr = 0 ∧ (after (.latchUp 0 false) (fullLog (pz 0 0 []))).pw.off = [0] ∧
    (after (.latchUp 0 false) (fullLog (pz 0 0 []))).permitPin 1 = .released ∧
    (after (.latchUpRepower 0) (after (.latchUp 0 false) (fullLog (pz 0 0 [])))).pw.boot = 2 ∧
    (after (.latchUpRepower 2) (after (.latchUp 2 false) (fullLog (pz 0 0 [])))).pw.boot = 3 := by decide +kernel
theorem test_droop :
    (after (.droop ⟨3, 51, 2000⟩) (fullLog (pz 0 0 []))).get Reg.PR_IRQ_STAT_IRQ = 64 ∧
    (after (.droop ⟨3, 50, 2000⟩) (fullLog (pz 0 0 []))).get Reg.PR_IRQ_STAT_IRQ = 0 ∧
    (after (.droop ⟨3, 51, 1999⟩) (fullLog (pz 0 0 []))).get Reg.PR_IRQ_STAT_IRQ = 0 ∧
    (after (.droop ⟨3, 51, 2000⟩) (fullLog (pz 0 0 [(Reg.MON_ICTRL_DREN, 1), (Reg.MON_ICTRL_EN, 1)]))).mon.ireq = true := by decide +kernel
theorem test_softwareReset :
    let s := pz 0 0 [(Reg.WAVE_CTRL_CALMODE, 1), (Reg.LN_TXCTRL_CAND 3, 9)]
    let z := s.setTx 3 { s.tx 3 with payload := [7] }
    let t := after (.softwareReset 0x413) z
    s.reachable 0x20030 = true ∧ (after (.softwareReset 0x461) s).get Reg.PR_SRST_STAT_DONE = 1 ∧
    (after (.softwareReset 0x461) s).get Reg.WAVE_CTRL_CALMODE = 0 ∧ (after (.softwareReset 0x434) s).lastStatus = .prot ∧
    (after (.softwareReset 0x400) (s.put Reg.ARB_STAT_GRANT 1)).lastStatus = .prot ∧ t.get Reg.PR_SRST_STAT_BUSY = 1 ∧
    t.quiesce.map (·.block) = [0x413] ∧ (after (.softwareReset 0x461) t).lastStatus = .prot ∧
    (after (.softwareReset 0x413) s).get Reg.PR_SRST_STAT_DONE = 1 ∧ (after (.softwareReset 0x463) s).get Reg.PR_SRST_STAT_DONE = 1 ∧
    (after (.softwareReset 0x463) { s with mon := { s.mon with rslot := some 3 } }).get Reg.PR_SRST_STAT_BUSY = 1 ∧
    (after (.quiesceAcknowledge 0x413) t).get Reg.PR_SRST_STAT_DONE = 0 ∧
    (after (.quiesceAcknowledge 0x413) (t.setTx 3 { t.tx 3 with payload := [] })).get Reg.PR_SRST_STAT_DONE = 1 ∧ (after (.quiesceTimeout 0x413) t).get Reg.PR_SRST_STAT_TMO = 1 ∧
    s.coreAlive 7 = false ∧ (after (.softwareReset 7) s).get Reg.PR_SRST_STAT_DONE = 1 := by decide +kernel
theorem test_quiesceCut :
    let s0 := pz 0 0 [(Reg.PR_STATE_STATE, 2)]
    let s := { s0 with mon := { s0.mon with rslot := some 3 } }
    let t := after (.domainEnableWrite (BitVec.allOnes 36 - 2 ^ 34)) s
    (after (.domainEnableWrite (BitVec.allOnes 36 - 2 ^ 34)) s0).dom 34 = false ∧ t.quiesce.map (·.why) = [2] ∧ t.dom 34 = true ∧ (after (.quiesceAcknowledge 0x463) t).dom 34 = false ∧
    (after (.quiesceTimeout 0x463) t).dom 34 = false := by decide +kernel
theorem test_resets :
    let s := pz 0 0 [(Reg.PR_DWDOG_EN, 1), (Reg.PR_RST_CAUSE_POR, 0), (Reg.PR_RST_CAUSE_CUT, 1), (Reg.PR_STATE_STATE, 3)]
    (after .powerOnReset s).pw.boot = 2 ∧ (after .brownOut s).pw.boot = 3 ∧ (after .resetNPin s).time.tick = 1000 ∧
    (after .resetNPin (s.put Reg.PR_STATE_STATE 1)).pw.boot = 4 ∧ (after .deviceWatchdog s).pw.boot = 3 ∧
    (after .supplyRemoved s).pwr = 0 ∧ s.reachable 0x20044 = true ∧ (after .deviceWatchdogKick s).lastStatus = .ok ∧
    (after .deviceWatchdogKick s).pw.dwAt = some 1000 ∧
    (after .deviceWatchdog (after .deviceWatchdogKick s)).time.tick = 1000 + 12500000 * max 1 (s.get Reg.PR_DWDOG_PERIOD) := by decide +kernel
/-- R11: a bit of PR_DOM_FAIL set at this tick stays over a write of 1 at it. -/
theorem test_failClearMeets :
    let s := (base [(Reg.PR_DOM_FAIL_FAIL, 48)]).hwSetBit Reg.PR_DOM_FAIL_FAIL 7
    (s.metSets Reg.PR_DOM_FAIL_FAIL).testBit 7 = true ∧ (after (.domainFailClear 7) s).get Reg.PR_DOM_FAIL_FAIL = 176 ∧
    (after (.domainFailClear 7) (s.adv 2000)).get Reg.PR_DOM_FAIL_FAIL = 48 := by decide +kernel
/-- R520: the supply returns before a POR: the error log is there still; a POR clears it. -/
theorem test_resetN_off :
    let s := after .supplyRemoved ((base []).err { sev := 1, src := 12, code := 0x0B, unit := 3, info := 9 })
    let t := after .resetNPin s
    s.pwr = 0 ∧ s.spillKeel? = none ∧ s.errOrder = [0] ∧ s.get (Reg.EL_ENTRY1_INFO 0) = 9 ∧ t.pw.boot = 2 ∧ t.errOrder = [0] ∧
    (after .powerOnReset s).errOrder = [] := by decide +kernel
theorem test_bootSteps :
    let s := pz 0 2 [(Reg.PR_STATE_STATE, 5)]
    let s1 := { s with sec := { s.sec with flags := 3 } }
    (after .lifecycleSense s1).get Reg.SEC_STAT_LC = 2 ∧ (after .clockPowerUp (pz 0 4 [(Reg.PR_DOM_PG_PG, 1)])).dom 2 = true ∧
    (after .keelPowerUp (pz 0 6 [])).pw.boot = 7 ∧ (after .digitalPowerUp (pz 0 7 [])).pw.boot = 8 ∧
    (after .bootComplete (pz 0 9 [(Reg.PR_STATE_STATE, 5), (Reg.PR_STATE_BUSY, 1)])).pwr = 2 := by decide +kernel
/-- The safe defaults, with no good copy; then copy 1, which is good and asks for KEEP. -/
theorem test_optionLoad :
    let t := after .optionLoad (fullLog (pz 0 3 [(Reg.PR_STATE_STATE, 5)]))
    t.optByte 5 = 40 ∧ t.pw.boot = 4 ∧ t.target = 2 ∧ t.get Reg.PR_DWDOG_EN = 0 := by decide +kernel
theorem test_optionCopy :
    let bs : List Byte := 1 :: List.replicate 11 0 ++ [1, 5] ++ List.replicate 50 0
    let s := pz 0 3 [(Reg.PR_STATE_STATE, 5), (Reg.PR_STATE_BUSY, 1)]
    let t := after .optionLoad ((s.writeBytes (optCopy 1) bs).writeLe (optCopy 1 + 64) 4 (crc32c bs))
    t.pwr = 1 ∧ t.get Reg.PR_DWDOG_PERIOD = 5 ∧ t.get Reg.PR_DWDOG_EN = 1 ∧ t.get Reg.PR_STATE_BUSY = 0 := by decide +kernel
theorem test_bootImage :
    let t := after .bootImage (pz 0 5 [(Reg.PR_STATE_STATE, 5), (Reg.SEC_STAT_LC, 4)])
    t.pw.boot = 6 := by decide +kernel
theorem test_laneTableLoad :
    (after .laneTableLoad (pz 0 8 [])).pw.boot = 9 ∧ (after .laneTableLoad (pz 0 8 [])).get Reg.LN_GSTAT_TBLBAD = 1 := by decide +kernel
theorem test_prog :
    let s := pz 0 0 [(Reg.OPT_BUF_W 0, 0x01)]
    let t := { after .prog s with checks := [] }
    s.reachable 0x10180 = true ∧ (after .prog s).checks = [1] ∧ (after .prog s).get Reg.OPT_CTRL_PROG = 1 ∧
    (after (.optionProgramDone true true) t).optGood 0 = true ∧ (after (.optionProgramDone true true) t).optGood 1 = true ∧
    (after (.optionProgramDone true false) t).get Reg.OPT_STAT_PERR = 1 := by decide +kernel

/-! ### Security, debug and the monitor -/

/-- In STANDBY, with SEC_STAGE holding bytes, in a lifecycle. -/
def se (lc : Nat) (stage : List Byte) (l : List (Machine.Field × Nat)) : State :=
  (base ([(Reg.PR_STATE_STATE, 2), (Reg.SEC_STAT_LC, lc), (Reg.SEC_LEN_LEN, stage.length)] ++ l)).writeBytes secStage stage
/-- A container of KIND 1 for core 5, with no code and no data, ENTRY 7 and VEC 9. -/
def emptyImage : List Byte :=
  leBytes 4 0x4E435847 ++ [1, 1] ++ leBytes 2 0 ++ leBytes 8 0 ++ leBytes 8 (3 * 2 ^ 62 + 5) ++ leBytes 2 7 ++ leBytes 2 9 ++
    List.replicate 140 0
theorem test_program :
    let s := se 0 emptyImage []
    let t := after (.program 0 3) s
    let u := after (.programComplete true) t
    s.secReady 0 = true ∧ (s.checkContainer (s.stage 0 168) 168 0).1 = 0 ∧ t.get Reg.SEC_STAT_BUSY = 1 ∧
    u.readBytes (imageSlot 3) 168 = emptyImage ∧ u.get Reg.SEC_STAT_BUSY = 0 ∧ u.get Reg.SEC_RES_CODE = 0 ∧
    (after (.programComplete false) t).sec.op = none ∧ (after (.programComplete false) t).readLe (imageSlot 3) 4 = 0 ∧
    (after (.program 0 3) (se 0 [1, 2, 3] [])).lastStatus = .ok ∧ (se 0 [1, 2, 3] []).checkContainer [1, 2, 3] 3 0 = (1, none) ∧
    (after (.program 0 3) (se 4 emptyImage [])).lastStatus = .ok := by decide +kernel
theorem test_load :
    let s := (se 0 [] []).writeBytes (imageSlot 3) emptyImage
    let t := after (.load 0 3) s
    let u := after .loadComplete t
    t.get Reg.SEC_STAT_BUSY = 1 ∧ t.sec.op = some (2, 3, [5], none, 0) ∧ u.get (Reg.CORE_CTRL_VALID 5) = 1 ∧
    u.get (Reg.ENTRY_IDX 5) = 7 ∧ u.get (Reg.EXC_VEC_IDX 5) = 9 ∧ u.get Reg.SEC_STAT_BUSY = 0 ∧
    (after (.load 0 3) (s.put (Reg.CORE_STAT_STATE 5) cRUNNING)).get Reg.SEC_RES_DETAIL = 5 ∧
    (after (.load 0 2) s).lastStatus = .ok ∧ s.checkSlot 2 0 = (1, none) ∧ (after (.erase 0 3) s).readByte (imageSlot 3) = 0 := by decide +kernel
theorem test_transitions :
    (after (.provision 0 0) (se 0 [] [])).checks = [2] ∧ (after (.provision 0 0) (se 0 [] [(Reg.SEC_STAT_RNGFAIL, 1)])).lastStatus = .ok ∧
    (after (.sealPart 0 0) (se 1 [] [])).lastStatus = .ok ∧ (se 1 [] []).checkSlot 0 2 = (1, none) ∧ (after (.voidPart 0 0) (se 2 [] [])).checks = [2] ∧
    (after (.returnPart 0 0) (se 2 [1] [])).lastStatus = .ok ∧ (se 2 [1] []).tokenOk 1 [1] = false ∧
    (after (.setkey 0 0) (se 1 [5, 6] [])).claimKey = 0x605 ∧ (after (.lock 0 0) (se 4 [] [(Reg.SEC_STAT_GRANT, 9)])).get Reg.SEC_STAT_GRANT = 0 := by
  decide +kernel
theorem test_secCommand_refused :
    (after (.lock 5 0) (se 0 [] [])).lastStatus = .prot ∧ (after (.lock 0 0) (se 0 [] [(Reg.SEC_STAT_BUSY, 1)])).lastStatus = .prot ∧
    (after (.unlock 0 0) (se 2 [1] [])).lastStatus = .ok ∧ (se 2 [1] []).tokenOk 0 [1] = false ∧ (after (.unlock 0 0) (se 1 [1] [])).lastStatus = .ok ∧
    (after .healthTestFail (se 0 [] [])).get Reg.SEC_STAT_RNGFAIL = 1 ∧
    (let b := after .healthTestFail (after (.provision 0 0) (se 0 [] []))
     b.sec.op = some (3, 0, [], none, 0) ∧ (after (.holdupCheck 0xFFFFFF 3 true) b).sec.flags = 0) := by decide +kernel
theorem test_raiseSvn :
    let s := se 1 [] []
    let t := { s with sec := { s.sec with svn := 9 } }
    (after (.raiseSvn 0 12) t).get Reg.SEC_MINSVN_N = 9 ∧ (after (.raiseSvn 0 4) t).get Reg.SEC_MINSVN_N = 4 ∧
    (after (.raiseSvn 0 4) (t.put Reg.SEC_MINSVN_N 6)).get Reg.SEC_MINSVN_N = 6 := by decide +kernel
theorem test_attest : (after (.attest 0 0) (se 1 [1] [])).get Reg.SEC_RES_CODE = 0 := by decide +kernel

/-- Port 0 owns the device in a lifecycle that permits debug, core 9 runs expert code. -/
def db (k : CoreSt) (l : List (Machine.Field × Nat)) : State :=
  (base ([(Reg.OWN_STAT_STATE, 1), (Reg.OWN_STAT_OWNER, 0), (Reg.CORE_STAT_STATE 9, cRUNNING), (Reg.CORE_CTRL_LEVEL 9, 1)] ++ l)).setCore 9 k
theorem test_dbg :
    let s := db { CoreSt.reset with pc := 6 } []
    let h := after (.dhalt 0 (msg 0x13 (leBytes 2 9))) s
    s.dbgReady 0 9 = true ∧ s.romCore 9 = false ∧ (h.core 9).dbgHalt = true ∧ h.lastStatus = .ok ∧
    (after (.drun 0 (msg 0x14 (leBytes 2 9))) h).lastStatus = .ok ∧ ((after (.drun 0 (msg 0x14 (leBytes 2 9))) h).core 9).brkPass = true ∧
    ((after (.dbrk 0 (msg 0x16 (leBytes 2 9 ++ [2, 1] ++ leBytes 2 77))) s).core 9).brks = [2 * 65536 + 77] ∧
    ((after (.dwr 0 (msg 0x18 (leBytes 2 9 ++ leBytes 2 4 ++ leBytes 8 0x1234))) h).core 9).reg 4 = 0x1234 ∧
    (after (.drd 0 (msg 0x17 (leBytes 2 9 ++ leBytes 2 4))) h).lastStatus = .ok ∧
    (after (.drd 0 (msg 0x17 (leBytes 2 9 ++ leBytes 2 4))) s).lastStatus = .dbg 0x12 ∧
    (after (.dhalt 0 (msg 0x13 (leBytes 2 8))) s).lastStatus = .dbg 0x14 ∧ (after (.dhalt 1 (msg 0x13 (leBytes 2 9))) s).lastStatus = .notOwner ∧
    (after (.dhalt 0 (msg 0x13 (leBytes 2 9))) (s.put Reg.SEC_STAT_LC 2)).lastStatus = .dbg 0x10 := by decide +kernel
theorem test_dstep :
    let s := (db { CoreSt.reset with pc := 6, dbgHalt := true } []).writeLe (reWindow 9 + 0x8000 + 24) 4 (wordI 0x3E 0 0 0)
    let t := after (.dstep 0 (msg 0x15 (leBytes 2 9 ++ leBytes 2 1))) s
    s.atBoundary 9 = true ∧ s.irqDue 9 = false ∧ legal 9 (wordI 0x3E 0 0 0) = true ∧ t.lastStatus = .ok ∧ (t.core 9).pc = 7 ∧
    (t.core 9).dbgHalt = true := by decide +kernel
/-- A DSTEP that meets a WAIT in progress is answered when its instruction has been executed. -/
theorem test_dstep_waits :
    let s := (db { CoreSt.reset with pc := 6, dbgHalt := true, waiting := some (1, 1) } []).writeLe (reWindow 9 + 0x8000 + 24) 4 (wordI 0x3E 0 0 0)
    let m := msg 0x15 (leBytes 2 9 ++ leBytes 2 1)
    let t := after (.dstep 0 m) s
    let u := after (.dstep 0 m) (t.setCore 9 { t.core 9 with waiting := none })
    (t.core 9).stepping = some (0, 1) ∧ (t.core 9).pc = 6 ∧ (t.port 0).inq = [m] ∧ t.sent = [] ∧ (u.core 9).pc = 7 ∧
    (u.core 9).stepping = none ∧ (u.port 0).inq = [] ∧ u.lastStatus = .ok := by decide +kernel
theorem test_dbgConductor :
    let s := db CoreSt.reset [(Reg.CD_CTRL_STATE 0, 2), (Reg.KL_STAT_ROLE 0, 1), (Reg.CD_CTRL_HBEN 0, 1)]
    s.dbgReady 0 1024 = true ∧ (after (.dhalt 0 (msg 0x13 (leBytes 2 1024))) s).lastStatus = .dbg 0x13 := by decide +kernel
theorem test_dchal :
    let s := db CoreSt.reset []
    (after (.dchal 2 (msg 0x10 [])) s).lastStatus = .ok ∧ (after (.dlock 0 (msg 0x12 [])) (s.put Reg.SEC_STAT_GRANT 4)).get Reg.SEC_STAT_GRANT = 0 ∧
    s.dbgPermitted = true ∧ (s.put Reg.SEC_STAT_LC 2).tokenOk 0 (List.replicate 164 0) = false ∧
    (after (.dunlock 0 (msg 0x11 [])) s).lastStatus = .badMsg := by
  decide +kernel
theorem test_jtag :
    let s := se 0 [] []
    let a := base []
    let v : BoundScan := ⟨[.irqN, .trigOut, .tx 3, .permit 0], [.rxd, .irqN, .tx 5]⟩
    let e := after (.extest v) s
    e.jtag.bound = v.cells ∧ e.jtag.irOut = 1 ∧ e.jtag.drOut = .cells v.pins ∧ e.irqPin = .released ∧ e.scanPin .sda = some .low ∧
    e.permitPin 0 = .low ∧ (after .highz e).scanPin .txd = some .released ∧ (after (.extestTrain v) (e.put Reg.PR_DOM_PG_PG 0xFFFFFFFFF)).scanPin (.tx 3) = some (.train true) ∧
    (after .idcode e).jtag.drOut = .word 0x1D13156B ∧
    e.get Reg.JTAG_STAT_IR = 0 ∧ (after (.extest v) a).get Reg.JTAG_STAT_IR = 0xFF ∧
    (after (.extest v) a).get Reg.JTAG_STAT_DENY = 1 ∧ (after (.samplePreload v) a).jtag.bound = v.cells ∧ (after .clamp s).get Reg.JTAG_STAT_IR = 3 ∧
    (after .highz s).get Reg.JTAG_STAT_IR = 4 ∧ (after (.extestPulse v) s).get Reg.JTAG_STAT_IR = 5 ∧
    (after (.extestTrain v) s).get Reg.JTAG_STAT_IR = 6 ∧ (after (.bypass 0x33) s).get Reg.JTAG_STAT_IR = 0xFF ∧
    (after .testLogicReset (after .clamp s)).get Reg.JTAG_STAT_IR = 2 ∧ (after .idcode (after .clamp s)).get Reg.JTAG_STAT_IR = 2 ∧
    s.scanDrives = false ∧ (after .clamp s).scanDrives = true ∧ (after .clamp s).permitPin 0 = .low ∧
    (after .testLogicReset (after .clamp s)).scanDrives = false := by
  decide +kernel
theorem test_engdbg :
    let s := db { CoreSt.reset with dbgHalt := true, g := [(4, 0x55)] } []
    (after (.engdbg 0x17 9 4 0) s).jtag.result = 0x55 ∧ ((after (.engdbg 0x18 9 3 7) s).core 9).reg 3 = 7 ∧
    (after (.engdbg 0x13 8 0 0) s).jtag.status = 0x14 ∧ (after (.engdbg 0x13 0x402 0 0) s).sec.halted = true ∧
    (after (.engdbg 0x13 9 0 0) (s.put Reg.SEC_STAT_LC 4)).get Reg.JTAG_STAT_DENY = 1 := by decide +kernel

/-- The monitor's state: its level and port 3 as the owner. -/
def mn (n : Nat) (l : List (Machine.Field × Nat)) : State :=
  base ([(Reg.SEC_STAT_MLVL, n), (Reg.OWN_STAT_STATE, 1), (Reg.OWN_STAT_OWNER, 3)] ++ l)
/-- The samples of a character, sent at the DX131's own rate, with its stop bit. -/
def char (b : Nat) (stop : Bool) : BitVec 153 :=
  BitVec.ofNat 153 (sumOf ((List.range 8).map (fun k => (b / 2 ^ k % 2) * (0xFFFF * 2 ^ (16 * (k + 1))))) + if stop then 511 * 2 ^ 144 else 0)
theorem test_uart :
    let s := base []
    let t := after (.uartCharacter (char 13 true)) (after (.uartCharacter (char 0x41 true)) s)
    (after (.uartCharacter (char 0x41 true)) s).uart.line = [0x41] ∧ t.uart.lines = [(0, [0x41])] ∧
    (after (.uartCharacter (char 10 true)) t).uart.lines = [(0, [0x41])] ∧ (after (.uartCharacter (char 0 false)) s).get Reg.UART_STAT_BRK = 1 ∧
    (after (.uartCharacter (char 7 false)) s).get Reg.UART_STAT_FECNT = 1 ∧ (after (.uartCharacter (char 7 false)) s).get Reg.UART_STAT_BRK = 0 ∧
    (after (.uartCharacter 256) s).uart = s.uart ∧
    (let f := { s with uart := { s.uart with line := List.replicate 600 0x41 } }
     (after (.uartCharacter (char 0x41 true)) f).uart.spoilt = 2) ∧
    (let o := { s with uart := { s.uart with lines := [(0, List.replicate 500 0x41), (0, List.replicate 530 0x41)] } }
     (after (.uartCharacter (char 0x41 true)) o).get Reg.UART_STAT_ROVR = 1 ∧
     let c := { o with uart := { o.uart with cr := 1 } }
     (after (.uartCharacter (char 10 true)) c).get Reg.UART_STAT_ROVR = 1 ∧
     (after (.uartCharacter (char 10 true)) c).uart.lines = [(0, List.replicate 500 0x41)] ∧
     (after (.uartCharacter (char 10 true)) c).uart.spoilt = 0) := by decide +kernel
theorem test_monitorLine :
    let f := fun (l : List Byte) => { mn 0 [] with uart := { (mn 0 []).uart with lines := [(0, l)] } }
    (after .monitorLine (f (ascii "LEVEL 1"))).get Reg.SEC_STAT_MLVL = 1 ∧
    (after .monitorLine (f (ascii "LEVEL 1"))).uart.printed = [ascii "OK"] ∧
    (after .monitorLine (f (ascii "JUMP"))).uart.printed = [ascii "ERR 0A"] ∧ (monParse (ascii "JUMP")).isNone = true := by decide +kernel
theorem test_observe :
    let s := mn 0 [(Reg.SEC_MINSVN_N, 18)]
    s.monReady 0 = true ∧ (after .helpPrint s).uart.printed = [ascii "OK HELP ID RD STAT LOG LIFE CHAL UNLOCK LEVEL"] ∧
    (after .idPrint s).uart.printed = [ascii "OK 0000000000000000 00 1D13156B 12 00"] ∧
    (after .statPrint (s.put Reg.PR_STATE_BUSY 0)).uart.printed = [ascii "OK 00000203 700003E8 00000000 00000000"] ∧
    (after .chalPrint s).uart.printed = [ascii "OK 00000000000000000000000000000000"] ∧
    (after (.levelSet 2) s).get Reg.SEC_STAT_MLVL = 2 ∧ (after (.levelSet 3) s).uart.printed = [ascii "ERR 10"] ∧
    (after .monitorRelease s).uart.printed = [ascii "ERR 10"] ∧ (after (.monitorUnlock []) s).uart.printed = [ascii "ERR 0A"] := by decide +kernel
theorem test_rdWords :
    let s := base [(Reg.SEC_MINSVN_N, 18)]
    let t := after (.rdWords 0x90018 1) s
    s.monReady 0 = true ∧ s.isOwner 3 = false ∧ t.lastStatus = .ok ∧ t.lastData = [18] ∧
    t.uart.printed = [ascii "OK 00000012"] := by decide +kernel
theorem test_logPrint :
    let s := (mn 0 []).err { sev := 1, src := 12, code := 0x0B, unit := 3, info := 0 }
    s.errOrder.length = 1 ∧ (after .logPrint s).uart.printed.length = s.uart.printed.length + 2 := by decide +kernel
set_option maxRecDepth 100000 in
theorem test_lifePrint : (after .lifePrint (mn 0 [])).uart.printed.length = 1025 := by decide +kernel
theorem test_monitorControl :
    let s := mn 1 [(Reg.OWN_CFG_ELIG, 15)]
    let f := mn 1 [(Reg.OWN_STAT_STATE, 0), (Reg.OWN_CFG_ELIG, 15)]
    s.monReady 1 = true ∧ s.isOwner 3 = true ∧ (after (.monitorClaim [] false) f).get Reg.OWN_STAT_OWNER = 3 ∧
    (after (.monitorClaim [] false) f).ownState = 1 ∧ (after .monitorRelease s).ownState = 0 ∧ (after (.monitorHandover 1) s).ownState = 2 ∧
    (after (.wrWord 0x20038 250) s).get Reg.PR_QTMO_US = 250 ∧ (after (.wrWord 0x20038 250) f).uart.printed = [ascii "ERR 05"] ∧
    ((after .monitorFence s).port 3).fence = [(monMsg 3 [], 0)] ∧ (after (.stateWrite 2) s).target = 2 ∧
    (after (.stateWrite 7) s).lastStatus = .prot ∧ (after .monitorReset s).pw.boot = 3 := by decide +kernel
theorem test_expert :
    let s := mn 2 []
    let t := after (.stageBytes 5 [1, 2, 3]) s
    s.monReady 2 = true ∧ t.readBytes (secStage + 4) 5 = [0, 1, 2, 3, 0] ∧ t.uart.printed = [ascii "OK"] ∧
    (after (.secCommand 10 0) s).uart.printed = [ascii "OK 00000000"] ∧ (after (.secCommand 6 0) s).uart.secWait = true ∧
    (after (.dbgOp 0x14 (leBytes 2 9)) ((s.put (Reg.CORE_STAT_STATE 9) cRUNNING).setCore 9 { CoreSt.reset with dbgHalt := true })).uart.printed =
      [ascii "OK"] := by decide +kernel

/-! ### Scrubbing, the error log and the life log -/

theorem test_scrub :
    let s := base []
    scrubMem 0x40008000 = some ⟨0, 4, 0, .keep⟩ ∧ s.dom (addrDom 0x40008000) = true ∧ (after (.scrub (.word 0x40008002) 0) s).ecc = [] ∧
    (after (.scrub (.word 0x40008002) 1) s).get (Reg.EL_SEU_COUNT 0) = 1 ∧ (after (.scrub (.word 0x40008002) 2) s).ecc = [(0x40008000, 2)] ∧
    (after (.scrub (.word 0x40008002) 0) (s.putEcc 0x40008000 1)).ecc = [] ∧ scrubMem 0x50400 = some ⟨6, 5, 0, .reload⟩ ∧
    (after (.scrub (.word 0x50400) 2) (s.putEcc 0x50400 2)).ecc = [] ∧ scrubMem 0x40000000 = none ∧
    (after (.scrub (.word 0x40008000) 2) State.reset).ecc = [] := by decide +kernel
theorem test_scrub_fret :
    let s := base []
    let t := after (.scrub (.word 0x4000D400) 2) s
    scrubMem 0x4000D400 = some ⟨1, 3, unitOf 0, .fret 0 0 true⟩ ∧ scrubMem 0x4000E800 = some ⟨1, 3, unitOf 0, .fret 0 0 false⟩ ∧
    (t.interp 0 0).nominalPending = true ∧ t.get (fAge 0 0) = 0xFFFFFF ∧ ((after (.scrub (.word 0x4000E800) 2) s).interp 0 0).nominalPending = false ∧
    (after (.scrub (.word 0x4000E800) 2) s).get Reg.EL_STAT_NEXTSEQ = 1 := by decide +kernel
theorem test_tmrUpset :
    let f := Reg.ENTRY_IDX 5
    let s := base [(f, 77), (Reg.OWN_CFG_LEASE, 3)]
    fieldOfKey f.key = some f ∧ f.triple = true ∧ tripleKeel? (.field f.key) = none ∧ tripleHeld (.field (Reg.ECC_STAT_CORR 5).key) = false ∧
    (after (.tmrUpset (.field f.key) false) s).get f = 77 ∧ (s.tripleReset (.field f.key)).get f = 0 ∧
    (s.tripleReset (.field Reg.OWN_CFG_LEASE.key)).get Reg.OWN_CFG_LEASE = 1000 := by decide +kernel
theorem test_tmrUpset_control :
    let s := base [(Reg.ARB_STAT_GRANT, 1)]
    s.dom (addrDom (controlAddr .arbiter)) = true ∧ tripleKeel? (.control .arbiter) = none ∧
    (s.tripleReset (.control .arbiter)).get Reg.ARB_STAT_GRANT = 0 := by decide +kernel
theorem test_upsets :
    let s := base []
    let h : HqWord := ⟨7, false, parityOf 7⟩
    let q := (s.setRegion 7 { s.region 7 with hq := [h] }).setCore 7 { s.core 7 with outq := [⟨[9], 1, false, .record, false, 0⟩] }
    scrubMem 0x40000000 = none ∧ unscrubbed 0x40000000 = true ∧ (after (.scrub (.word 0x40000000) 2) s).ecc = [(0x40000000, 2)] ∧
    ((after (.scrub (.hit 7 0 64) 1) q).region 7).hq.map (·.bad) = [true] ∧
    (((after (.scrub (.output 7 0 0) 1) q).core 7).outq.map (·.ecc)) = [1] ∧
    (after (.slotStart 7) (after (.scrub (.output 7 0 0) 1) q)).get (Reg.EL_SEU_COUNT 0) = 1 := by decide +kernel
theorem test_errorLog :
    let s := (base []).err { sev := 1, src := 12, code := 0x0B, unit := 3, info := 9 }
    let t := after (.errorEntryRead 6 0) s
    let u := s.adv 2000
    s.reachable 0xA0004 = true ∧ u.reachable 0xA0004 = true ∧ u.cycNow.errs = [] ∧ s.cycNow.errs.length = 1 ∧ (after .errorLogClear s).errOrder = [0] ∧
    (after .errorLogClear s).get (Reg.EL_ENTRY1_INFO 0) = 9 ∧ s.reachable 0xA0100 = true ∧ s.reachable 0xA02F0 = true ∧ t.lastData = [0x4C0B] ∧
    SMap.find? t.latchHi (6 * 2 ^ 32 + 0xA0104) = some (3 * 2 ^ 22 + 9) ∧
    (after .errorLogClear u).get (Reg.EL_ENTRY0_SEV 0) = 0 ∧ (after .errorLogClear u).get Reg.EL_STAT_NEXTSEQ = 1 ∧
    (after (.errorEntryRead 0 31) s).lastData = [0] ∧ (after (.lowWordRead 6 0xA0104) t).lastData = [3 * 2 ^ 22 + 9] ∧
    ((after .errorLogClear u).err { sev := 2, src := 1, code := 2, unit := 3, info := 4 }).get (Reg.EL_ENTRY0_SEQ 0) = 1 := by decide +kernel
theorem test_recoveryPeriodEnd :
    let s := (base [(Reg.EL_ESC_WIN, 1)]).setEsc 1026 ⟨2, false, false, some 900⟩
    let b := s.setEsc 7 ⟨1, true, false, none⟩
    (s.escOf 1026).busy = false ∧ (after (.recoveryPeriodEnd 1026) s).escOf 1026 = EscSt.reset ∧
    (after (.recoveryPeriodEnd 1026) s).time.tick = 1250900 ∧ (after (.recoveryPeriodEnd 7) b).escOf 7 = ⟨1, true, false, none⟩ := by decide +kernel
theorem test_histogramSample :
    let s := base [(Reg.MON_LAST_VALID 0, 1), (Reg.MON_LAST_VALUE 0, 25000)]
    (after .histogramSample s).life.delta = [(0x10, 1), (0x200 + 4 * 13, 1)] ∧
    (after .histogramSample (base [(Reg.PR_STATE_STATE, 1)])).life.delta = [(8, 1)] := by decide +kernel
theorem test_lifeLogCommit :
    let s := base []
    s.dom 1 = true ∧ s.reachable 0xA0400 = true ∧ (after .lifeLogCommit s).checks = [0] ∧ (after .commitRequest s).get Reg.LL_CTRL_COMMIT = 1 ∧
    (after .deferredCommitRetry s).checks = [] ∧ (after .deferredCommitRetry (base [(Reg.LL_STAT_PEND, 1)])).checks = [0] := by decide +kernel

/-- Checks that wait, with a hold-up capacitor of 20,000 µF, a delta in the life log and a lifecycle transition. -/
def lk (checks : List Nat) (op : Nat) : State :=
  let s := base [(Reg.OPT_CTRL_PROG, 1), (Reg.SEC_STAT_BUSY, 1), (Reg.SEC_STAT_GRANT, 5)]
  { s with checks := checks, opts := [(8, 0x20), (9, 0x4E)], claimKey := 9, sec := { s.sec with op := some (op, 0, [], none, 0) },
           life := { s.life with delta := [(0x18, 2)] } }
theorem test_holdupCheck :
    (lk [0, 1] 4).holdupOk 2400 3000000 = true ∧ (lk [0] 4).holdupOk 2400 2500000 = false ∧
    (after (.holdupCheck 3000000 0 false) (lk [0, 1] 4)).checks = [1] ∧
    (after (.holdupCheck 3000000 0 false) (lk [0, 1] 4)).life.taken = some ([(0x18, 2)], [], none) ∧
    (after (.holdupCheck 2500000 0 false) (lk [0] 4)).get Reg.LL_STAT_PEND = 1 ∧
    (after (.holdupCheck 3000000 0 false) (lk [1] 4)).get Reg.OPT_CTRL_PROG = 1 ∧
    (after (.holdupCheck 2500000 0 false) (lk [1] 4)).get Reg.OPT_STAT_PERR = 1 ∧
    (after (.holdupCheck 3000000 0 false) (lk [1] 4)).get Reg.LL_STAT_VHOLD = 3000 := by decide +kernel
theorem test_holdupCheck_lifecycle :
    (after (.holdupCheck 3000000 3 false) (lk [2] 4)).get Reg.SEC_STAT_LC = lcOfFlags (setBit 0 1) ∧
    (after (.holdupCheck 3000000 2 true) (lk [2] 6)).claimKey = 0 ∧ (after (.holdupCheck 3000000 2 false) (lk [2] 6)).sec.zpend = true ∧
    (after (.holdupCheck 3000000 2 true) (lk [2] 6)).get Reg.SEC_STAT_LC = 4 ∧
    (after (.holdupCheck 3000000 1 true) (lk [2] 6)).sec.flags = 0 ∧ (after (.holdupCheck 2500000 3 true) (lk [2] 6)).sec.op = none := by
  decide +kernel
set_option maxRecDepth 100000 in
theorem test_lifeLogCommitDone :
    let s := { base [(Reg.LL_STAT_BUSY, 1)] with life := { (base []).life with taken := some ([(0x18, 2)], [[1, 2, 3, 4]], none) } }
    let s := s.writeLe (lifeHalf 0 + 0x18) 4 5
    let t := s.imageCopy 0 1
    s.memWf = true ∧ s.get Reg.LL_STAT_HALF = 0 ∧ (after .lifeLogCommitDone s).get Reg.LL_STAT_HALF = 1 ∧
    (after .lifeLogCommitDone s).life.taken = none ∧ (t.imageAdd (lifeHalf 1) (0x18, 2)).readLe (lifeHalf 1 + 0x18) 4 = 7 ∧ t.readLe (lifeHalf 0 + 0x18) 4 = 5 := by
  decide +kernel

/-- A block of two words; a state with a word in every buffer of the data path. -/
def blk0 : Block := ⟨5, [1, 2], false, false, true, false, 0, 0, 12, 3, 0, 7, 0, 0⟩
def paths : State :=
  let s := { (base []).setCore 7 { (base []).core 7 with outq := [⟨[9], 1, false, .record, false, 0⟩] } with merge := [(4, [⟨[9], 1, false, .record, 7, 0⟩])] }
  let s := s.setKeel 0 { s.keel 0 with queues := [(3, [blk0])] }
  let s := s.setStream 0 5 { s.stream 0 5 with block := some blk0, wait := [blk0] }
  let s := s.setSpill 0 { s.spill 0 with staged := [brick0], drained := [(3, [⟨5, ⟨7, 16, 0, 0, 0, false, 3⟩, List.replicate 16 1, false, 0⟩])] }
  s.setTx 4 { s.tx 4 with payload := [(true, 9), (false, 8)] }
theorem test_paths :
    (SMap.get (after (.scrub (.trunk 4 0 0) 2) paths).merge 4 []).map (·.ecc) = [2] ∧
    ((after (.scrub (.staging 0 5 0 1) 1) paths).stream 0 5).block.map (·.ecc) = some 1 ∧
    (((after (.scrub (.staging 0 5 1 1) 2) paths).stream 0 5).wait.map (·.ecc)) = [2] ∧
    (SMap.get ((after (.scrub (.queue 0 3 0 1) 2) paths).keel 0).queues 3 []).map (·.ecc) = [2] ∧
    (((after (.scrub (.brick 0 0 3) 1) paths).spill 0).staged.map (·.ecc)) = [1] ∧
    (SMap.get ((after (.scrub (.drain 0 3 0 1) 2) paths).spill 0).drained 3 []).map (·.ecc) = [2] ∧
    ((after (.scrub (.lane 4 1) 1) paths).tx 4).ecc = 2 ∧ ((after (.scrub (.lane 4 1) 2) paths).tx 4).payload.map (·.1) = [true, false] := by
  decide +kernel
/-- R12: a write of COMMIT in the cycle in which the hardware clears it asks anew. -/
theorem test_commitMeets :
    let met (s : State) : State := { s with cyc := ⟨1000, [], [(Reg.LL_CTRL_COMMIT.key, 1)], []⟩ }
    let s := met { base [] with checks := [0] }
    let u := after (.holdupCheck 2500000 0 false) s
    s.metWrote Reg.LL_CTRL_COMMIT = 1 ∧ s.get Reg.LL_STAT_BUSY ≠ 1 ∧ s.dom 1 = true ∧ u.get Reg.LL_CTRL_COMMIT = 1 ∧ u.get Reg.LL_STAT_PEND = 1 ∧
    u.checks = [0] ∧ u.get Reg.LL_STAT_HPASS = 0 := by decide +kernel
set_option maxRecDepth 100000 in
theorem test_commitDoneMeets :
    let s := { base [(Reg.LL_STAT_BUSY, 1)] with cyc := ⟨1000, [], [(Reg.LL_CTRL_COMMIT.key, 1)], []⟩ }
    let s := { s with life := { s.life with taken := some ([], [], none) } }
    let u := after .lifeLogCommitDone s
    s.memWf = true ∧ u.get Reg.LL_STAT_HALF = 1 ∧ u.get Reg.LL_CTRL_COMMIT = 1 ∧ u.get Reg.LL_STAT_PEND = 1 ∧ u.checks = [0] := by decide +kernel

/-! ### The whole block -/

theorem test_reset_wf : State.reset.memWf = true ∧ State.reset.grantWf = true ∧ State.reset.readByte 0x40000000 = 0 := by decide +kernel
theorem test_invariants_step :
    let s := { (base [(Reg.ARB_STAT_GRANT, 1)]).writeLe 0x40000010 4 0x00770055 with pending := [.memoryInit] }
    s.memWf = true ∧ s.grantWf = true ∧ s.mem.length = 2 ∧
    (match step s with
     | .next t => t.memWf && t.grantWf
     | _ => false) = true := by decide +kernel
theorem test_rowsRunTheirWords :
    let s := r7
    s.readyFor 7 (wordR 0 6 4 5 0) = true ∧ insnWord (.add 7 6 4 5) = some (7, wordR 0 6 4 5 0) := by decide +kernel

/-- R284's worked example: a flushed block of three hits of stream 5, role epoch 3, BSEQ 1,000. -/
def threeHits : Block :=
  { stream := 5, words := [0x1C88280091A2AA64, 0x1C88300091A82260, 0x1C88A80091AD7867], poison := false, flush := true, first := false,
    last := false, openAt := 0, closeAt := 0, size := 512, group := 0, epoch := 3, bseq := 1000, relAt := 0, ecc := 0 }
theorem test_packer_example :
    ((blockBytes threeHits false).take 28).map (·.toNat) =
      [0x00, 0x0C, 0x80, 0x14, 0x10, 0x00, 0x03, 0x00, 0xE8, 0x03, 0x00, 0x00, 0xBE, 0x20, 0xF2, 0xD1, 0x48, 0x54, 0x35, 0x32, 0x45, 0x11,
       0x41, 0x6C, 0x0F, 0x78, 0xED, 0x00] ∧
    (blockBytes threeHits false).length = 32 ∧ wholeRecords 3 threeHits.words = true ∧ unpackBlock (blockBytes threeHits true) = some threeHits.words ∧
    wholeRecords 1 [0xC000000000000000] = false := by decide +kernel
end Sys2Proof.Tests
end

section
/-! The statements of the scope: accesses that the map does not execute (R14, R44, R540). -/
namespace Sys2Proof.Machine

/-! ### Accesses that the map turns away -/

/-- R43, R44, R540: a misaligned address, and one outside every range, leads nowhere. -/
theorem State.route_badAddress (s : State) (e : Option Nat) (w : Bool) {a : Nat} (h : a % 4 ≠ 0 ∨ (rangeOf a).isNone = true) :
    s.route e w a = .fail .badAddress := if_pos h

theorem State.busRead_fail {s : State} {e : Option Nat} {a : Nat} {st : Status} (m : Nat) (h : s.route e false a = .fail st) :
    s.busRead m e a = some (s, st, 0) := by simp [State.busRead, h]

theorem State.busWrite_fail {s : State} {e : Option Nat} {a : Nat} {st : Status} (m v : Nat) (h : s.route e true a = .fail st) :
    s.busWrite m e a v = some (s, st) := by simp [State.busWrite, h]

/-- R436: every word of the monitor's result queue lies in a register. -/
theorem monQueue_regAt : ∀ i < 16, (regAt (0x60108 + i)).isSome = true := by decide +kernel

/-- R14: a read of a word without memory and register gives 0. -/
theorem State.wordRead_unmapped {s : State} {x : Nat} (m : Nat) (hm : s.memWord x = none) (hr : regAt x = none)
    (he : s.eccAt x = 0) : s.wordRead m x = (s, .badAddress, 0) := by
  have hq : ¬ (0x60108 ≤ x ∧ x < 0x60118) := fun c => by
    have := monQueue_regAt (x - 0x60108) (by omega)
    rw [show 0x60108 + (x - 0x60108) = x by omega, hr] at this
    cases this
  have hg : s.regRead m x = (s, .badAddress, 0) := by simp [State.regRead, hr]
  simp [State.wordRead, hm, hq, State.eccRead_clean s x he, hg]

/-- R14: a write of a word without memory and register has no effect. -/
theorem State.wordWrite_unmapped {s : State} {x : Nat} (m v : Nat) (b : Bool) (hm : s.memWord x = none) (hr : regAt x = none) :
    s.wordWrite m x v b = (s, .badAddress) := by
  simp [State.wordWrite, hm, State.regWrite, hr]

/-! ### The two rows of an access -/

theorem completes_registerWrite {m : Fin 7} {e : BitVec 16} {addr v : BitVec 32} {s s' : State} {st : Status}
    (h : s.busWrite m.val (epochOf m.val e.toNat) addr.toNat v.toNat = some (s', st)) :
    Completes (.registerWrite m e addr v) s fun t => t = { s' with lastStatus := st } :=
  ⟨_, rfl, by rw [h]; rfl⟩

theorem completes_lowWordRead {m : Fin 7} {addr : BitVec 32} {s s' : State} {st : Status} {v : Nat}
    (h : s.busRead m.val none addr.toNat = some (s', st, v)) :
    Completes (.lowWordRead m addr) s fun t => t = { s' with lastStatus := st, lastData := [v] } :=
  ⟨_, rfl, by rw [h]; rfl⟩

/-- R44, R540: both rows at an address that leads nowhere. -/
theorem completes_badAddress (m : Fin 7) (e : BitVec 16) (addr v : BitVec 32) (s : State)
    (h : addr.toNat % 4 ≠ 0 ∨ (rangeOf addr.toNat).isNone = true) :
    (Completes (.registerWrite m e addr v) s fun t => t = { s with lastStatus := .badAddress }) ∧
    (Completes (.lowWordRead m addr) s fun t => t = { s with lastStatus := .badAddress, lastData := [0] }) :=
  ⟨completes_registerWrite (s.busWrite_fail _ _ (s.route_badAddress _ _ h)),
    completes_lowWordRead (s.busRead_fail _ (s.route_badAddress _ _ h))⟩

/-- Settles O3: outside every range the route fails; on a word without memory and register the access itself does. -/
theorem unmappedAccessesAreBadAddresses : Obligations.UnmappedAccessesAreBadAddresses := by
  intro m e addr v s
  refine ⟨fun hr => completes_badAddress m e addr v s (.inr hr), fun x hx hm hr => ?_, fun x hx hm hr he => ?_⟩
  · refine completes_registerWrite ?_
    simp only [State.busWrite, hx, State.wordWrite_unmapped _ _ _ hm hr]
  · refine completes_lowWordRead ?_
    simp only [State.busRead, hx, State.wordRead_unmapped _ hm hr he]

/-! ### The words of a message with a misaligned address -/

theorem readWords_misaligned (m : Nat) (e : Option Nat) (n : Nat) {a : Nat} (s : State) (h : a % 4 ≠ 0) :
    readWords m e (n + 1) a s = ⟨s, 0, [], some .badAddress⟩ := by
  simp only [readWords, s.busRead_fail m (s.route_badAddress e false (.inl h))]

theorem writeWords_misaligned (m : Nat) (e : Option Nat) (v : Nat) (vs : List Nat) {a : Nat} (s : State) (h : a % 4 ≠ 0) :
    writeWords m e (v :: vs) a s = ⟨s, 0, [], some .badAddress⟩ := by
  simp only [writeWords, s.busWrite_fail m v (s.route_badAddress e true (.inl h))]

/-- R540: no word of a READ with a misaligned address is read. -/
theorem State.runRead_misaligned (s : State) (p : Nat) {m : Msg} (ha : msgAddr m % 4 ≠ 0) (hs : readShape m = true) :
    s.runRead p m = ⟨s, 0, [], some .badAddress⟩ := by
  simp only [readShape, Bool.and_eq_true, decide_eq_true_eq] at hs
  obtain ⟨n, hn⟩ : ∃ n, msgCount m = n + 1 := ⟨msgCount m - 1, by omega⟩
  unfold State.runRead
  split
  · rfl
  · rw [hn]; exact readWords_misaligned p _ n s ha

theorem msgWords_ne_nil {m : Msg} (hs : writeShape m = true) : msgWords m ≠ [] := by
  simp only [writeShape, Bool.and_eq_true, decide_eq_true_eq] at hs
  simp only [msgWords, ne_eq, List.map_eq_nil_iff, List.range_eq_nil]
  omega

/-- R540: no word of a WRITE with a misaligned address is written. -/
theorem State.runWrite_misaligned (s : State) (p : Nat) {m : Msg} (ha : msgAddr m % 4 ≠ 0) (hs : writeShape m = true) :
    s.runWrite p m = ⟨s, 0, [], some .badAddress⟩ := by
  obtain ⟨v, vs, hv⟩ := List.exists_cons_of_ne_nil (msgWords_ne_nil hs)
  unfold State.runWrite
  split
  · rfl
  · rw [hv]; exact writeWords_misaligned p _ v vs s ha

/-- R540: no word of a posted write with a misaligned address is written. -/
theorem State.runPosted_misaligned (s : State) (p : Nat) {w : Posted} (ha : w.addr % 4 ≠ 0) (hw : w.words ≠ []) :
    s.runPosted p w = ⟨s, 0, [], some .badAddress⟩ := by
  obtain ⟨v, vs, hv⟩ := List.exists_cons_of_ne_nil hw
  unfold State.runPosted
  split
  · rfl
  · rw [hv]; exact writeWords_misaligned p _ v vs s ha

/-! ### What the answers of a port leave alone -/

/-- From `s` to `t` the memories stay as they were, and every register field but those named. -/
def State.KeepsBut (fs : List Field) (s t : State) : Prop := t.mem = s.mem ∧ t.memGen = s.memGen ∧ s.sameRegsBut t fs

namespace State.KeepsBut
variable {fs : List Field} {s t : State}

theorem self (fs : List Field) (s : State) : KeepsBut fs s s := ⟨rfl, rfl, fun _ _ => rfl⟩

/-- Reading the definition back into the statements' terms. -/
theorem same (h : KeepsBut fs s t) : t.sameMemory s ∧ t.sameRegsBut s fs := by
  obtain ⟨hm, hg, hr⟩ := h
  exact ⟨fun a => by simp only [State.readByte, hm, hg], fun g hgf => (hr g hgf).symm⟩

theorem trans {gs : List Field} {u : State} (h : KeepsBut fs s t) (k : KeepsBut gs t u) : KeepsBut (fs ++ gs) s u := by
  obtain ⟨hm, hg, hr⟩ := h
  obtain ⟨km, kg, kr⟩ := k
  refine ⟨km.trans hm, kg.trans hg, fun g h => ?_⟩
  rw [List.forall_mem_append] at h
  exact (kr g h.2).trans (hr g h.1)

theorem put (h : KeepsBut fs s t) {f : Field} (v : Nat) (hf : f ∈ fs) : KeepsBut fs s (t.put f v) := by
  obtain ⟨hm, hg, hr⟩ := h
  exact ⟨hm, hg, fun g hgf => (t.get_put_ne v (hgf f hf)).trans (hr g hgf)⟩

theorem bump (h : KeepsBut fs s t) {f : Field} (n : Nat) (hf : f ∈ fs) : KeepsBut fs s (t.bump f n) := h.put _ hf

theorem setPort (h : KeepsBut fs s t) (p : Nat) (v : PortSt) : KeepsBut fs s (t.setPort p v) := h

theorem printLine (h : KeepsBut fs s t) (l : List Byte) : KeepsBut fs s (t.printLine l) := h

theorem emit (h : KeepsBut fs s t) (p : Nat) (m : Msg) : KeepsBut fs s (t.emit p m) := by
  unfold State.emit
  simp only []
  split <;> exact h

/-- R378: a command that leaves the input queue changes the queue and its count. -/
theorem dequeue (h : KeepsBut fs s t) (p : Nat) (m : Msg) (hf : Reg.TH_STAT_INQ p ∈ fs) : KeepsBut fs s (t.dequeue p m) := by
  unfold State.dequeue
  simp only []
  split
  · split
    · split
      · exact (h.setPort p _).put _ hf
      · exact h.setPort p _
    · exact h
  · exact h

/-- R384: a response is sent, printed, or counted as dropped on the host channel. -/
theorem respond (h : KeepsBut fs s t) (p : Nat) (m : Msg) (st : Status) (pl : List Byte) (hf : Reg.CC_STAT_DROP ∈ fs) :
    KeepsBut fs s (t.respond p m st pl) := by
  have h1 : KeepsBut fs s { t with lastStatus := st } := h
  unfold State.respond
  simp only []
  split
  · exact h1
  · split
    · split
      · exact (h1.setPort p _).emit p _
      · exact h1
    · split
      · split
        · exact h1.emit 2 _
        · exact h1.bump 1 hf
      · split
        · exact h1.printLine _
        · exact h1

theorem pump (h : KeepsBut fs s t) (p : Nat) : KeepsBut fs s (t.pump p) := by
  unfold State.pump
  simp only []
  split
  · exact h
  · split
    · exact h
    · exact (h.setPort p _).emit p _

/-- R385, R386: a notice changes the port's notice queue, its count, and a count of those dropped. -/
theorem notice (h : KeepsBut fs s t) (p k : Nat) (d : List Byte) (hn : Reg.TH_CNT_NDROP p ∈ fs) (hq : Reg.TH_STAT_NQ p ∈ fs)
    (hc : Reg.CC_STAT_DROP ∈ fs) : KeepsBut fs s (t.notice p k d) := by
  unfold State.notice
  simp only []
  split
  · refine KeepsBut.pump (KeepsBut.put ?_ _ hq) p
    split
    · exact h.setPort p _
    · exact (h.setPort p _).bump 1 hn
  · split
    · split
      · exact h.emit 2 _
      · exact h.bump 1 hc
    · split
      · exact h.printLine _
      · exact h

end State.KeepsBut

/-! ### A READ and a WRITE that execute no word -/

@[simp] theorem State.respond_lastStatus (s : State) (p : Nat) (m : Msg) (st : Status) (pl : List Byte) :
    (s.respond p m st pl).lastStatus = st := by
  unfold State.respond
  simp only []
  split
  · rfl
  · split
    · split
      · exact State.emit_lastStatus _ p _
      · rfl
    · split
      · split
        · exact State.emit_lastStatus _ 2 _
        · rfl
      · split <;> rfl

/-- R387: the renewal of a lease moves its end, not the owner. -/
theorem State.isOwner_leaseStart (s : State) (q : Nat) : s.leaseStart.isOwner q = s.isOwner q := by
  have hg (f : Field) (h : f.key ≠ Reg.OWN_STAT_LEFT.key) : s.leaseStart.get f = s.get f := s.get_put_ne _ h
  simp only [State.isOwner, State.owner?, hg Reg.OWN_STAT_STATE (by decide), hg Reg.OWN_STAT_OWNER (by decide)]

@[simp] theorem State.isOwner_renewNew (s : State) (p : Nat) (m : Msg) (q : Nat) : (s.renewNew p m).isOwner q = s.isOwner q := by
  unfold State.renewNew State.renew
  split
  · split <;> rfl
  · split
    · exact s.isOwner_leaseStart q
    · rfl

@[simp] theorem State.port_renewNew (s : State) (p : Nat) (m : Msg) (q : Nat) : (s.renewNew p m).port q = s.port q := by
  unfold State.renewNew State.renew
  split <;> split <;> rfl

theorem State.memory_renewNew (s : State) (p : Nat) (m : Msg) : (s.renewNew p m).sameMemory s := by
  unfold State.renewNew State.renew
  split <;> split <;> exact fun _ => rfl

/-- R379: the answer of a command takes it from its queue and changes no other register than the counts of queue and drops. -/
theorem State.answer_keepsBut (s : State) (p : Nat) (m : Msg) (st : Status) (pl : List Byte) :
    State.KeepsBut [Reg.TH_STAT_INQ p, Reg.CC_STAT_DROP] s ((s.dequeue p m).respond p m st pl) :=
  ((State.KeepsBut.self _ s).dequeue p m (by simp)).respond p m st pl (by simp)

/-- R379, R540: a READ with a misaligned address is answered without data. -/
theorem State.readCmd_misaligned (s : State) (p : Nat) {m : Msg} (ha : msgAddr m % 4 ≠ 0) (hs : readShape m = true) :
    s.readCmd p m = { ((s.renewNew p { m with opcode := 1 }).dequeue p { m with opcode := 1 }).respond p { m with opcode := 1 }
      .badAddress [] with lastData := [] } := by
  have hs1 : readShape { m with opcode := 1 } = true := hs
  have hw := (s.renewNew p { m with opcode := 1 }).runRead_misaligned p (m := { m with opcode := 1 }) ha hs
  simp only [State.readCmd, hs1, hw]
  rfl

/-- R379, R540: a non-posted WRITE with a misaligned address is answered with no word done. -/
theorem State.writeCmd_misaligned (s : State) (p : Nat) {m : Msg} (ha : msgAddr m % 4 ≠ 0) (hs : writeShape m = true)
    (hn : msgNp m = true) (ho : s.isOwner p = true) (hq : (s.port p).posted = []) :
    s.writeCmd p m = ((s.renewNew p { m with opcode := 2 }).dequeue p { m with opcode := 2 }).respond p { m with opcode := 2 }
      .badAddress (leBytes 2 0) := by
  have hs1 : writeShape { m with opcode := 2 } = true := hs
  have hn1 : msgNp { m with opcode := 2 } = true := hn
  have hw := (s.renewNew p { m with opcode := 2 }).runWrite_misaligned p (m := { m with opcode := 2 }) ha hs
  simp only [State.writeCmd, hs1, hn1, State.mayWrite, State.isOwner_renewNew, ho, State.port_renewNew, hq, hw]
  rfl

/-! ### A posted write that executes no word -/

/-- R383: the entry of a failed posted write in the log. -/
def State.logEntry (s : State) (p : Nat) (w : Posted) (st : Status) : State :=
  let i := s.get Reg.PW_STAT_NEXT % 16
  (((((((s.put (Reg.PW_LOG0_SEQ i) w.seq).put (Reg.PW_LOG0_TAG i) w.tag).put (Reg.PW_LOG1_ADDR i) w.addr).put
    (Reg.PW_LOG2_STATUS i) st.code).put (Reg.PW_LOG2_PORT i) p).put (Reg.PW_LOG2_SRC i) w.src).put
    (Reg.PW_LOG2_EPOCH i) w.epoch).put (Reg.PW_LOG3_TICK i) s.now

/-- The registers of an entry of the log. -/
def logEntryRegs (i : Nat) : List Field :=
  [Reg.PW_LOG0_SEQ i, Reg.PW_LOG0_TAG i, Reg.PW_LOG1_ADDR i, Reg.PW_LOG2_STATUS i, Reg.PW_LOG2_PORT i, Reg.PW_LOG2_SRC i,
    Reg.PW_LOG2_EPOCH i, Reg.PW_LOG3_TICK i]

/-- The counts of the log, and those that the notice to port `p` may change. -/
def failCountRegs (p : Nat) : List Field :=
  [Reg.PW_STAT_NEXT, Reg.PW_STAT_COUNT, Reg.PW_STAT_OVF, Reg.TH_CNT_NDROP p, Reg.TH_STAT_NQ p, Reg.CC_STAT_DROP]

theorem State.logEntry_keepsBut (s : State) (p : Nat) (w : Posted) (st : Status) :
    State.KeepsBut (logEntryRegs (s.get Reg.PW_STAT_NEXT % 16)) s (s.logEntry p w st) := by
  unfold State.logEntry
  repeat' refine State.KeepsBut.put ?_ _ (by simp [logEntryRegs])
  exact State.KeepsBut.self _ s

/-- R383: beside its entry in the log, a failure changes the counts alone. -/
theorem State.postedFail_keepsEntry (s : State) (p : Nat) (w : Posted) (st : Status) :
    State.KeepsBut (failCountRegs p) (s.logEntry p w st) (s.postedFail p w st) := by
  have h := (State.KeepsBut.self (failCountRegs p) (s.logEntry p w st)).put
    ((s.get Reg.PW_STAT_NEXT % 16 + 1) % 16) (f := Reg.PW_STAT_NEXT) (by simp [failCountRegs])
  refine State.KeepsBut.notice (State.KeepsBut.setPort ?_ p _) p 0 _ (by simp [failCountRegs]) (by simp [failCountRegs])
    (by simp [failCountRegs])
  split
  · exact h.bump 1 (by simp [failCountRegs])
  · exact h.put _ (by simp [failCountRegs])

/-- R383: the counts lie outside the 16 entries of the log. -/
theorem failCountRegs_outside {p : Nat} (hp : p < 4) : ∀ f ∈ failCountRegs p, f.key < 8 * 0x80100 ∨ 8 * 0x80200 ≤ f.key := by
  simp only [failCountRegs, List.forall_mem_cons, Reg.PW_STAT_NEXT, Reg.PW_STAT_COUNT, Reg.PW_STAT_OVF, Reg.TH_CNT_NDROP,
    Reg.TH_STAT_NQ, Reg.CC_STAT_DROP]
  refine ⟨by omega, by omega, by omega, by omega, by omega, by omega, by simp⟩

/-- R383: a register of the log's entries holds after a failure what the entry put there. -/
theorem State.get_postedFail (s : State) {p : Nat} (w : Posted) (st : Status) {g : Field} (hp : p < 4)
    (hg : 8 * 0x80100 ≤ g.key ∧ g.key < 8 * 0x80200) : (s.postedFail p w st).get g = (s.logEntry p w st).get g := by
  obtain ⟨-, -, hr⟩ := s.postedFail_keepsEntry p w st
  refine (hr g fun f hf => ?_)
  have := failCountRegs_outside hp f hf
  omega

theorem State.get_logEntry_status (s : State) (p : Nat) (w : Posted) (st : Status) :
    (s.logEntry p w st).get (Reg.PW_LOG2_STATUS (s.get Reg.PW_STAT_NEXT % 16)) = st.code % 2 ^ 8 := by
  simp (disch := (simp only [Reg.PW_LOG2_STATUS, Reg.PW_LOG2_PORT, Reg.PW_LOG2_SRC, Reg.PW_LOG2_EPOCH, Reg.PW_LOG3_TICK]; omega))
    only [State.logEntry, State.get_put_ne, State.get_put_same]
  rfl

theorem State.get_logEntry_addr (s : State) (p : Nat) (w : Posted) (st : Status) :
    (s.logEntry p w st).get (Reg.PW_LOG1_ADDR (s.get Reg.PW_STAT_NEXT % 16)) = w.addr % 2 ^ 32 := by
  simp (disch := (simp only [Reg.PW_LOG1_ADDR, Reg.PW_LOG2_STATUS, Reg.PW_LOG2_PORT, Reg.PW_LOG2_SRC, Reg.PW_LOG2_EPOCH,
    Reg.PW_LOG3_TICK]; omega)) only [State.logEntry, State.get_put_ne, State.get_put_same]
  rfl

/-- R383, R540: a posted write with a misaligned address fails at its first word. -/
theorem State.postedRun_misaligned (s : State) (p : Nat) {w : Posted} {rest : List Posted} (hq : (s.port p).posted = w :: rest)
    (hw : w.words ≠ []) (ha : w.addr % 4 ≠ 0) : s.postedRun p = (s.postedEnd p).postedFail p w .badAddress := by
  simp only [State.postedRun, hq, s.runPosted_misaligned p ha hw]
  rfl

/-- R383: what a failed posted write leaves: its status, its entry in the log, the counts, and everything else as it was. -/
theorem State.postedEnd_postedFail (s : State) {p : Nat} (w : Posted) (st : Status) (hp : p < 4) :
    let t := (s.postedEnd p).postedFail p w st
    let i := s.get Reg.PW_STAT_NEXT % 16
    t.lastStatus = st ∧ t.get (Reg.PW_LOG2_STATUS i) = st.code % 2 ^ 8 ∧ t.get (Reg.PW_LOG1_ADDR i) = w.addr % 2 ^ 32 ∧
    t.sameMemory s ∧ t.sameRegsBut s (logEntryRegs i ++ failCountRegs p) := by
  intro t i
  have hi : i < 16 := Nat.mod_lt _ (by decide)
  have hk : State.KeepsBut _ s t := ((s.postedEnd p).logEntry_keepsBut p w st).trans ((s.postedEnd p).postedFail_keepsEntry p w st)
  refine ⟨rfl, ?_, ?_, hk.same⟩
  · refine (State.get_postedFail _ w st hp ?_).trans ((s.postedEnd p).get_logEntry_status p w st)
    simp only [Reg.PW_LOG2_STATUS]; omega
  · refine (State.get_postedFail _ w st hp ?_).trans ((s.postedEnd p).get_logEntry_addr p w st)
    simp only [Reg.PW_LOG1_ADDR]; omega

/-! ### The statement -/

/-- Settles O4: the route of a misaligned address fails, so a message answers, and a posted write fails, at its first word. -/
theorem misalignedAccessesAreNotExecuted : Obligations.MisalignedAccessesAreNotExecuted := by
  refine ⟨fun m e addr v s ha => completes_badAddress m e addr v s (.inl ha), ?_, ?_⟩
  · intro p m s hp ha after
    have answer (op : BitVec 8) (pl : List Byte) : after op (((s.renewNew p.val { m with opcode := op }).dequeue p.val
        { m with opcode := op }).respond p.val { m with opcode := op } .badAddress pl) := by
      obtain ⟨hm, hr⟩ := (State.answer_keepsBut (s.renewNew p.val { m with opcode := op }) p.val { m with opcode := op }
        .badAddress pl).same
      exact ⟨State.respond_lastStatus .., fun a => (s.memory_renewNew p.val _ a).symm ▸ hm a, hr⟩
    refine ⟨fun hs => ?_, fun hs hn ho hq => ?_⟩
    · refine ⟨s.readCmd p.val m, congrArg _ (if_pos hp), ?_⟩
      rw [s.readCmd_misaligned p.val ha hs]
      exact ⟨rfl, answer 1 []⟩
    · refine ⟨s.writeCmd p.val m, congrArg _ (if_pos hp), ?_⟩
      rw [s.writeCmd_misaligned p.val ha hs hn ho hq]
      exact answer 2 _
  · intro p w rest s hd hq hw ha
    refine ⟨s.postedRun p.val, congrArg _ (if_pos hd), ?_⟩
    rw [s.postedRun_misaligned p.val hq hw ha]
    exact s.postedEnd_postedFail w .badAddress p.isLt

end Sys2Proof.Machine
end
